-- ==== Sys2Proof/Machine/Field.lean ====
section
/-!
DEFINITION. Register fields as data, and the sparse register file.

A field is named by the address of its register, its stride per instance, its bit position and its width.
The register file is a list of (key, value) pairs with strictly rising keys. The key of a field is the bit
address of its least significant bit; a field that the list does not hold reads its reset value.
-/

namespace Sys2Proof.Machine

/-- The access kinds of the register tables (R14). -/
inductive Acc where
  | rw | ro | wo | w1c
  deriving DecidableEq, Repr

/-- One field of a register table. Instance `n` of the register lies at
`base + stride * (n / sub) + substride * (n % sub)`. -/
structure Fld where
  base : Nat
  stride : Nat
  sub : Nat
  substride : Nat
  pos : Nat
  width : Nat
  acc : Acc
  reset : Nat
  deriving DecidableEq, Repr

/-- One register of a register table: `count` instances of `words` 32-bit words each. -/
structure RegDef where
  name : String
  base : Nat
  stride : Nat
  count : Nat
  sub : Nat
  substride : Nat
  words : Nat
  flds : List Fld
  deriving DecidableEq, Repr

/-- The address of instance `n` of a register. -/
def RegDef.addr (r : RegDef) (n : Nat) : Nat :=
  r.base + r.stride * (n / r.sub) + r.substride * (n % r.sub)

/-- The key of instance `n` of a field: the address of its lowest bit, counted in bits. -/
def Fld.key (f : Fld) (n : Nat) : Nat :=
  (f.base + f.stride * (n / f.sub) + f.substride * (n % f.sub)) * 8 + f.pos

/-- A sparse table: (key, value) pairs with strictly rising keys. -/
abbrev Tab (α : Type) := List (Nat × α)

/-- The value held under a key, or `d` where the table lists none. -/
def tabGet {α : Type} (d : α) (k : Nat) : Tab α → α
  | [] => d
  | (k', v) :: t => if k' = k then v else if k < k' then d else tabGet d k t

/-- The table with `v` under key `k`. -/
def tabSet {α : Type} (k : Nat) (v : α) : Tab α → Tab α
  | [] => [(k, v)]
  | (k', v') :: t =>
    if k < k' then (k, v) :: (k', v') :: t
    else if k' = k then (k, v) :: t
    else (k', v') :: tabSet k v t

/-- The keys rise strictly, and all lie at or above `lo`. -/
def tabWfFrom {α : Type} (lo : Nat) : Tab α → Bool
  | [] => true
  | (k, _) :: t => decide (lo ≤ k) && tabWfFrom (k + 1) t

/-- The canonical form of a table. -/
def tabWf {α : Type} (l : Tab α) : Bool := tabWfFrom 0 l

/-- The table without the entries whose key satisfies `p`: those keys read their default again. -/
def tabClear {α : Type} (p : Nat → Bool) (l : Tab α) : Tab α := l.filter (fun e => !p e.1)

/-- The register file: field keys and field values. -/
abbrev RegFile := Tab Nat

end Sys2Proof.Machine
end

