-- ==== Sys2Proof/Word.lean ====
section
/-!
DEFINITION. Words, times and frequency words: the number formats of R6 to R12 and R88 to R90.

Time inside the model is an integer count of 2⁻¹⁶ ns ("units"); the 96-bit layout of R6 is made where a register,
a time register of a Frond or a memory image holds it.
-/

namespace Sys2Proof

/-- A general register of a Frond (R87). -/
abbrev Word := BitVec 64

/-- A time register of a Frond, laid out as in R6 (R88). -/
abbrev TimeReg := BitVec 96

abbrev Byte := BitVec 8

/-- 2⁻¹⁶ ns units in one nanosecond, one 2 ns spine tick, one microsecond, one millisecond and one second (R90). -/
def uNs : Int := 65536
def uTick : Int := 131072
def uUs : Int := 65536000
def uMs : Int := 65536000000
def uSec : Int := 65536000000000

/-- The residual scale of the spine DCO (R70). -/
def dcoOne : Int := 1000000000000

/-- Two's complement reading of the low `w` bits. -/
def toSigned (w n : Nat) : Int :=
  let m := n % 2 ^ w
  if m < 2 ^ (w - 1) then (m : Int) else (m : Int) - (2 ^ w : Nat)

/-- The low `w` bits of an integer in two's complement. -/
def ofSigned (w : Nat) (z : Int) : Nat := (z % ((2 ^ w : Nat) : Int)).toNat

/-- Saturation to signed `w` bits. -/
def satSigned (w : Nat) (z : Int) : Int :=
  max (-((2 ^ (w - 1) : Nat) : Int)) (min z (((2 ^ (w - 1) : Nat) : Int) - 1))

/-- Saturation of a count to `w` bits. -/
def satNat (w n : Nat) : Nat := min n (2 ^ w - 1)

/-- Bits [hi:lo] of a number. -/
def bitsOf (n lo width : Nat) : Nat := n / 2 ^ lo % 2 ^ width

/-- Bit `i` of a number. -/
def bitOf (n i : Nat) : Bool := n / 2 ^ i % 2 = 1

/-- `n` with bit `i` set to `b`. -/
def setBitOf (n i : Nat) (b : Bool) : Nat :=
  if bitOf n i = b then n else if b then n + 2 ^ i else n - 2 ^ i

/-- The 96-bit layout of R6 of a count of units (R90, norm). -/
def packTime (z : Int) : Nat :=
  ofSigned 48 (z / uSec) * 2 ^ 48 + ((z % uSec) / uNs).toNat * 2 ^ 16 + (z % uNs).toNat

/-- The fields of a 96-bit time (R6). -/
def timeSec (t : Nat) : Nat := bitsOf t 48 48
def timeNs (t : Nat) : Nat := bitsOf t 16 32
def timeFrac (t : Nat) : Nat := bitsOf t 0 16

/-- units(x) of R90 with the seconds read as unsigned: a time. -/
def unpackTime (t : Nat) : Int := (timeSec t : Int) * uSec + (timeNs t : Int) * uNs + (timeFrac t : Int)

/-- units(x) of R90 with the seconds read as signed: a duration. -/
def unpackDur (t : Nat) : Int := toSigned 48 (timeSec t) * uSec + (timeNs t : Int) * uNs + (timeFrac t : Int)

/-- The check of R7: the nanoseconds field is below 1,000,000,000. -/
def timeOk (t : Nat) : Bool := decide (timeNs t < 1000000000)

/-- Whole spine seconds of a time in units. -/
def secsOf (z : Int) : Int := z / uSec

/-- A time rounded down to the 2 ns resolution of a coarse stamp (R27). -/
def coarse (z : Int) : Int := z / uTick * uTick

/-- Picoseconds to units and back: 1 ps is 65.536 units, that is 8192/125. -/
def psToUnits (ps : Int) : Int := ps * 8192 / 125

/-- Units to whole picoseconds, toward minus infinity. -/
def unitsToPs (u : Int) : Int := u * 125 / 8192

/-- The nearest integer to a/b, ties toward the lower value (R63). -/
def roundHalfDown (a b : Int) : Int := -((b - 2 * a) / (2 * b))

/-- |z| as a natural number. -/
def absNat (z : Int) : Nat := z.natAbs

/-- `k` little-endian bytes of a number (R8). -/
def leBytes : Nat → Nat → List Byte
  | 0, _ => []
  | k + 1, n => BitVec.ofNat 8 n :: leBytes k (n / 256)

/-- The number whose little-endian bytes these are. -/
def ofLeBytes : List Byte → Nat
  | [] => 0
  | b :: t => b.toNat + 256 * ofLeBytes t

/-- `k` big-endian bytes of a number. -/
def beBytes (k n : Nat) : List Byte := (leBytes k n).reverse

/-- The number whose big-endian bytes these are. -/
def ofBeBytes (l : List Byte) : Nat := ofLeBytes l.reverse

/-- Integer square root, rounded down, by bisection over `fuel` bits. -/
def isqrtBits : Nat → Nat → Nat → Nat
  | 0, _, acc => acc
  | k + 1, n, acc =>
    let t := acc + 2 ^ k
    if t * t ≤ n then isqrtBits k n t else isqrtBits k n acc

/-- Integer square root, rounded down. -/
def isqrt (n : Nat) : Nat := isqrtBits (Nat.log2 n / 2 + 1) n 0

/-- Integer square root, rounded up. -/
def isqrtUp (n : Nat) : Nat := let r := isqrt n; if r * r = n then r else r + 1

/-- Ceiling of a/b for a natural divisor. -/
def ceilDiv (a b : Nat) : Nat := (a + b - 1) / b

end Sys2Proof
end

