-- ==== Sys2Proof/Machine/Types.lean ====
section
/-!
DEFINITION. The parts of State that carry time, the journal, the queues, the Fronds and the servo: plain data.
Register fields that a table of the spec defines are not repeated here: they live in the register file.
-/

namespace Sys2Proof.Machine

/-- A Gradebook entry (R76). The CRC of bytes 30 and 31 is a function of the rest. -/
structure JEntry where
  stamp : Int
  code : Nat
  source : Nat
  domain : Nat
  flags : Nat
  payload : Nat
  seq : Nat
  deriving DecidableEq, Repr

/-- An entry held in the Gradebook, with the spine time at which the merger wrote it (R83). -/
structure BookEntry where
  entry : JEntry
  since : Int
  deriving DecidableEq, Repr

/-- The Gradebook (R76 to R84). -/
structure JnlState where
  /-- Next sequence number of each source (R78). -/
  seqs : Tab Nat
  /-- Entries held on chip, oldest first. -/
  book : List BookEntry
  /-- Domains whose next pushed entry carries flags.overflow (R82). -/
  strOvf : List Nat
  /-- Domains whose next written entry carries flags.overflow (R82). -/
  bookOvf : List Nat
  /-- Entries dropped since the Gradebook became full (R82). -/
  dropped : Nat
  /-- Stamp of the last entry merged, and the domains of the entries merged with that stamp (R81). -/
  last : Option (Int × List Nat)
  /-- Entries that the merger took from the streams of a domain that went OFF, oldest first (R37). -/
  taken : List JEntry
  deriving DecidableEq, Repr

/-- A Tally entry (R67). -/
structure TEntry where
  stamp : Int
  amount : Int
  param : Nat
  kind : Nat
  source : Nat
  flags : Nat
  seq : Nat
  deriving DecidableEq, Repr

/-- A slew in progress, with its open SLEW entry (R66, R71). -/
structure Slew where
  /-- Stamp, accrued amount and length in ticks of the open entry. -/
  stamp : Int
  amount : Int
  ticks : Nat
  /-- Units still to be applied, signed. -/
  remaining : Int
  /-- Sub-unit accumulator, in 10⁻¹² units. -/
  acc : Nat
  /-- Rate in units of 1/65,536 ps/s (R165), and the rate that the budget of R244 leaves until the next spine second. -/
  rate : Nat
  rateCap : Nat
  /-- Source of R67: 0 servo, 1 Frond, 2 roll call; and the issuing Frond. -/
  source : Nat
  frond : Nat
  deriving DecidableEq, Repr

/-- A commanded step on its way to the spine (R120). -/
structure StepCmd where
  frond : Nat
  dreg : Nat
  amount : Int
  deriving DecidableEq, Repr

/-- An ageing model in force, with its residuals (R162). -/
structure AgeModel where
  c0 : Int
  c1 : Int
  c2 : Int
  tau : Nat
  epoch : Nat
  /-- Residual of the per-tick application, in 10⁻¹² units. -/
  tickRes : Nat
  /-- Residual of the evaluation, in 2⁻⁶⁴ of a word. -/
  evalRes : Nat
  /-- A commit waits for the next strobe. -/
  commit : Bool
  deriving DecidableEq, Repr

/-- One raw timebase (R155 to R162). -/
structure Chain where
  /-- Its raw time count, and whether that count has started (R65). -/
  raw : Int
  rawOn : Bool
  age : AgeModel
  /-- Spine time of its last lock, for the revert wait (R161). -/
  lockedAt : Int
  deriving DecidableEq, Repr

/-- Spine time, the raw timebases and the Tally (R54 to R75, R155 to R162). -/
structure TimeState where
  /-- Spine time runs. -/
  run : Bool
  time : Int
  chains : Vector Chain 2
  /-- Sum of the closed entries since the last EPOCH entry, that entry included (R66). -/
  closed : Int
  /-- The open FREQ entry: stamp and accrued amount; the DCO residual (R70). -/
  freqStamp : Int
  freqAmt : Int
  dcoRes : Nat
  slew : Option Slew
  /-- Running sums of what steering moved spine time: FREQ and source 0 slews, and STEP entries with source 1 and 2 slews (R218, R233). -/
  steer : Int
  foreign : Int
  /-- Running sum of every unit that slews applied (R244). -/
  slewSum : Int
  /-- A roll-call slew that waits for a running TSLEW (R219): its total. -/
  slewWait : Option Int
  /-- Steps that reach the spine at the next tick, in issue order (R120). -/
  steps : List StepCmd
  /-- The on-chip Tally ring, oldest first (R73). -/
  ring : List TEntry
  /-- Cross-measurement: B − A and A at the last strobe, in units, while both chains are locked since; the last 1,000 values of SYN_XFREQ,
  newest first (R158, R240). -/
  relPrev : Option (Int × Int)
  xHist : List Int
  /-- Spine time of the last timebase switch (R161), and of the last departure of the relation (R159). -/
  lastSwitch : Option Int
  xOutAt : Int
  /-- A and B − A at the strobes at which both chains were locked, newest first, over the dispute window (R223). -/
  xTrack : List (Int × Int)
  /-- Raw time of the last step of OSC_TUNE (R163). -/
  tuneAt : Option Int
  /-- Under the fatal cause clock a chain has locked again: the move to it comes at the next spine tick, with its relation to raw time and the
  measured hit (R52). -/
  relock : Option (Nat × Int × Int)
  /-- The hit of the last switch, in bins (R160). -/
  hit : Int
  /-- Spine time of the last fired strobe; -1 before the first. -/
  lastStrobe : Int
  /-- Spine time above which the next millisecond boundary fires a strobe: of the last strobe, of the start, or after a backward step. -/
  strobeFrom : Int
  deriving DecidableEq, Repr

/-- The copy of coarse spine time in one clock domain (R27 to R30). -/
structure DomCopy where
  /-- The local clock runs. -/
  running : Bool
  /-- The copy was loaded since the clock started. -/
  loaded : Bool
  /-- The copy minus spine time. -/
  dev : Int
  deriving DecidableEq, Repr

/-- An item of the servo's feed queue (R118, R233 to R236). -/
structure Feed where
  /-- Roll-call slot, 255 for none. -/
  slot : Nat
  /-- Engine minus reference, in units, and the stamp of the measurement. -/
  ofs : Int
  stamp : Int
  /-- Uncertainty in ps. -/
  unc : Nat
  deriving DecidableEq, Repr

/-- What a queue entry holds. -/
inductive QData where
  /-- A 64-bit message, result or block item. -/
  | word (n : Nat)
  | entry (e : JEntry)
  | tally (e : TEntry)
  | feed (f : Feed)
  /-- A scheduled edge: time and level. -/
  | edge (t : Int) (level : Bool)
  /-- Bytes of a record or a frame. -/
  | bytes (l : List (BitVec 8))
  /-- A received frame without FCS; it came as an express frame, its stamp is coarse (R301, R302). -/
  | frame (l : List (BitVec 8)) (express coarse : Bool)
  deriving DecidableEq, Repr

structure QItem where
  stamp : Int
  data : QData
  deriving DecidableEq, Repr

/-- One dual-clock queue with its credit counts (R33 to R36). -/
structure Queue where
  /-- Entries pushed and not popped, oldest first; the first `vis` are visible to the receiver. -/
  items : List QItem
  vis : Nat
  /-- P, Q and A of R36, modulo 2³², and the sender's credit register C. -/
  p : Nat
  q : Nat
  a : Nat
  c : Nat
  /-- The producer's output register (R35). -/
  out : Option QItem
  /-- Stamp of the credit return that last made C nonzero (R113). -/
  cstamp : Int
  /-- Items that the producer has dropped (R35). -/
  drops : Nat
  deriving DecidableEq, Repr

/-- What a Frond waits for (R108 to R113). -/
inductive FWait where
  | none
  | ati (target : Int) (d : Nat)
  | wtu (addr : Nat) (d : Nat) (mode : Nat) (deadline : Int)
  | wfe (mask : BitVec 64) (d : Nat) (mode : Nat) (deadline : Int)
  | qpush (queue : Nat) (value : Nat) (mode : Nat) (deadline : Int)
  | qpop (queue : Nat) (d : Nat) (mode : Nat) (deadline : Int)
  deriving DecidableEq, Repr

/-- One Frond: registers and control words (R87 to R92, R149). Its run state is `FRD_STATUSn.state`. -/
structure Frond where
  g : Vector (BitVec 64) 32
  t : Vector (BitVec 96) 8
  pc : BitVec 64
  mode : Bool
  ie : Bool
  inh : Bool
  tf : Bool
  tio : Bool
  retpc : BitVec 64
  code : BitVec 8
  line : BitVec 6
  trap : BitVec 16
  faultAddr : BitVec 64
  htable : BitVec 5
  retMode : Bool
  retIe : Bool
  t7saved : Bool
  t7save : BitVec 96
  evtPend : BitVec 64
  evtEn : BitVec 64
  scratch : BitVec 64
  /-- PRGk_BASE and PRGk_LIMIT, reserved bits zero. -/
  prgBase : Vector (BitVec 32) 8
  prgLimit : Vector (BitVec 32) 8
  pcnt : Vector (BitVec 48) 8
  psel : Vector (BitVec 22) 8
  povf : BitVec 8
  xctl : BitVec 2
  /-- Latched stamp of each event line, in units, 0 before its first assertion (R135). -/
  lineStamp : Vector Int 64
  /-- Bit n: line n was observed since its last assertion (R135, R136). -/
  lineObs : BitVec 64
  wait : FWait
  /-- The Frond is frozen: its cluster is in IDLE (R423). -/
  frozen : Bool
  /-- Entry offset of the loaded image (R143). -/
  entry : Nat
  /-- A journal header that waits for its payload: code and stamp (R139). -/
  jhdr : Option (Nat × Int)
  /-- The branch predictor (R129): the two-bit counters that are not 1, by index, and the return stack, newest first. -/
  bp : Tab Nat
  ras : List Word
  /-- Items that FENCE waits for (R122): the queue of each, and its number among those pushed there. -/
  sent : List (Nat × Nat)
  deriving DecidableEq, Repr

/-- A number m × 2ᵉ with a 64-bit mantissa (R238). -/
structure Flt where
  m : Int
  e : Int
  deriving DecidableEq, Repr

/-- The covariance of the filter, symmetric (R237). -/
structure Cov where
  p11 : Flt
  p12 : Flt
  p13 : Flt
  p22 : Flt
  p23 : Flt
  p33 : Flt
  deriving DecidableEq, Repr

/-- The anchor of the bound (R252). Phases in 2⁻⁴⁸ ps. -/
structure Anchor where
  stamp : Int
  /-- Stamp of its time feed or restore (R252, R259). -/
  feedAt : Int
  /-- The anchor part: b_r + u_k + n_k, or after a frequency observation the bound at it. -/
  base : Int
  p22 : Flt
  p33 : Flt
  /-- Times of the timebase switches since the anchor. -/
  hits : List Int
  /-- Values at a re-anchoring frequency observation or at a restore, from which |p|, |B| and W are counted: p in
  2⁻⁴⁸ ps, B in units, W in 2⁻⁴⁸ ps; `rel` is false for an anchor set by a time feed. -/
  rel : Bool
  p0 : Int
  b0 : Int
  w0 : Int
  deriving DecidableEq, Repr

/-- A run of refused feeds (R246). Innovations in 2⁻⁴⁸ ps. -/
structure RefRun where
  count : Nat
  lo : Int
  hi : Int
  sum : Int
  maxU : Nat
  deriving DecidableEq, Repr

/-- What a checkpoint keeps of the servo (R256, R440). -/
structure SrvSave where
  y : Int
  a : Int
  cov : Cov
  p : Int
  b : Int
  anchor : Option Anchor
  bound : Nat
  deriving DecidableEq, Repr

/-- Steering and foreign sums of the Tally at a tick, by its spine time and its raw time, with the residual of the DCO and of the slew below a unit,
in parts of `dcoOne` (R63, R233). -/
structure SumMark where
  at_ : Int
  raw : Int
  steer : Int
  foreign : Int
  frac : Int
  deriving DecidableEq, Repr

/-- The servo (R232 to R258). States are in ps, ps/s and ps/s², with 48 fraction bits. -/
structure SrvState where
  r : Int
  y : Int
  a : Int
  cov : Cov
  /-- Stamp of the state, in units. -/
  sk : Int
  /-- The filter has been initialised (R239), and P is to be re-initialised at the next feed (R247). -/
  inited : Bool
  resetPend : Bool
  /-- A time feed has been used since the initialisation, so a prediction exists (R245). -/
  timeFed : Bool
  /-- The steering sum at the last initialisation (R233). -/
  sigBase : Int
  /-- History of spine time, steering sum and foreign sum, newest first (R233). -/
  sigHist : List SumMark
  /-- Stamp of the last accepted time feed (R235). -/
  lastFeed : Option Int
  anchor : Option Anchor
  /-- Times of the timebase switches since the last accepted time feed, newest first (R253). -/
  switches : List Int
  run : Option RefRun
  /-- The budget of R244: w₀, the sum of slews at s₀, and the sum of w − w₀ over the milliseconds since. -/
  budW0 : Int
  budSlew : Int
  budWord : Int
  /-- The change of y that R240 made since the last strobe. -/
  ruler : Int
  /-- SRV_SLEW_MAX at the last strobe: the limit in force (R244). -/
  slewLim : Nat
  /-- A run clamped at ±2⁴⁷ is under way (R241). -/
  clampRun : Bool
  /-- The bound saturated in holdover and stays so until the next anchor (R255). -/
  sat : Bool
  /-- The bound last published lies above SRV_BOUND_ALARM (R254). -/
  above : Bool
  /-- A restored estimate waits for the first strobe: what the checkpoint held, and the outage in ps (R256). -/
  restore : Option (SrvSave × Nat)
  deriving DecidableEq, Repr

/-- A dispute between two slots (R223, R224). -/
structure Dispute where
  a : Nat
  b : Nat
  /-- Disagreement in 2⁻¹⁶ ppt, and the raw time of its declaration. -/
  d : Nat
  since : Int
  /-- The loser, and the third source: a slot, or 31 for the timebase. -/
  loser : Option Nat
  third : Option Nat
  /-- Raw time since which the remaining slots have agreed. -/
  agree : Option Int
  deriving DecidableEq, Repr

/-- The settle of a SUSPECT slot (R226): raw time of its first measurement, extremes of the offset against the holdover prediction in
2⁻⁴⁸ ps, and the bound at its start. -/
structure Settle where
  start : Int
  lo : Int
  hi : Int
  bound : Nat
  deriving DecidableEq, Repr

/-- One roll-call slot beside its registers (R206 to R229). -/
structure Slot where
  /-- Raw time and raw offset of its measurements, newest first. -/
  track : List (Int × Int)
  /-- Consecutive misses, or consecutive window failures (R210). -/
  bad : Nat
  badMiss : Bool
  /-- Raw time at which the qualify timer ends, and at which a wait-to-restore ends. -/
  timer : Int
  wtrEnd : Int
  /-- Raw time from which the present miss window counts (R211). -/
  gapFrom : Int
  settle : Option Settle
  /-- The winner of a dispute that this slot lost, and the raw time since which they agree (R223). -/
  beaten : Option (Nat × Option Int)
  /-- Measurements of the claimed unit or the lane that roll call has yet to take: stamp and value (R207, R313). -/
  due : List (Int × Int)
  /-- Kinds 2 and 5: raw time of the last frequency sample, and the phase accumulated from samples in 2⁻¹⁶ ppt × units (R210). -/
  lastAt : Option Int
  elapsed : Int
  /-- Raw stamps of the missing pulses that roll call has yet to count, oldest first (R207, R211). -/
  missed : List Int
  deriving DecidableEq, Repr

/-- Roll call (R206 to R231). -/
structure RclState where
  slots : Vector Slot 24
  disputes : List Dispute
  /-- The limit on |B| under which need_step clears, in units, and whether the old slot of the last commit calls for a slew (R219). -/
  needLimit : Int
  policy : Bool
  /-- The strobe at which a slew of −B became due: it starts at the next one (R219). -/
  slewDue : Option Int
  /-- Feeds of the target stamped at T_c or later, which roll call and the servo take after the commit (R215, R231). -/
  held : List Feed
  /-- Q that each upstream session delivered (R213). -/
  ptpQ : Vector Nat 8
  deriving DecidableEq, Repr

end Sys2Proof.Machine
end

