-- ==== Sys2Proof/Machine/Types2.lean ====
section
/-!
DEFINITION. The parts of State of the output channels, the ports, the memories, power, flash, PCIe and the
access paths: plain data beside the register file.
-/

namespace Sys2Proof

/-- The requesters of R457. -/
inductive Req where
  | frond (f : Fin 16)
  | host
  | spi
  deriving DecidableEq, Repr

namespace Machine

/-- The DCO of one output channel (R165 to R171). -/
structure OutCh where
  /-- Accumulator in 2⁻⁶² output cycles since the last boundary. -/
  acc : Int
  /-- Residual of the application of W (R165). -/
  wres : Int
  /-- Frequency in force and old target of a glide: INC × (65,536 × 10¹² + w_n). -/
  cur : Int
  old : Int
  /-- Next sync boundary, in spine units; none before the first is computed. -/
  nextB : Option Int
  /-- Origin of the sync grid: 0, or a SYNC edge plus its delay (R167, R172). -/
  origin : Int
  /-- Spine time of the last falling edge before the output was held low. -/
  lastFall : Int
  /-- Target frequency at the last band search of the output MDLL; 0 before one. -/
  mdll : Int
  /-- The dither LFSR (R166). -/
  lfsr : Nat
  /-- Stamp of the last SYNC edge taken (R172). -/
  lastSync : Option Int
  /-- The next first edge journals 0x0802 (R169). -/
  resumed : Bool
  /-- What is left of the lengthening of a low phase, in 2⁻⁶² cycles (R171). -/
  hold : Int
  /-- The first rising edge is still to come (R169). -/
  idle : Bool
  /-- The ΔΣ modulator, and the rotator code that it gives (R166). -/
  dsm : Nat
  code : Nat
  deriving DecidableEq, Repr

/-- One TIO port (R173 to R179). -/
structure TioPort where
  /-- Level the port's function drives, before `invert`. -/
  drive : Bool
  /-- Level that the board drives on a pad without a driver (R488). -/
  ext : Bool
  /-- The edge taken from the queue, and the time of the last placed edge (R176). -/
  taken : Option (Int × Bool)
  lastPlaced : Option Int
  /-- Raw time of the start of the previous Bell pulse; spine time at which the high pulse ends (R175). -/
  bellRaw : Option Int
  bellHigh : Option Int
  /-- Start of that pulse in spine time. -/
  bellAt : Option Int
  /-- Starts of the pulses that a ToD output may still be timed by, newest first (R177). -/
  bells : List Int
  /-- Refined rising edges that the port's unit has handed to its SYNC input, and those of the alignment input that a Bell follows, oldest first
  (R172, R174, R183). -/
  syncEdges : List Int
  alignEdges : List Int
  /-- Last accepted or predicted input edge, and the pulse starts that follow from accepted edges (R174). -/
  alignAt : Option Int
  bellSched : List Int
  /-- Spine time from which the Bell runs on its present grid (R173). -/
  bellFrom : Int
  /-- Start of the Bell pulse that timed the last ToD message, and whether that edge has been used (R177). -/
  todUsed : Option Int
  /-- Bytes of the ToD message begun last, and the time of its first start bit. -/
  tod : List (BitVec 8)
  todAt : Option Int
  /-- Loop-back calibration holds the port's unit (R179). -/
  calBusy : Bool
  /-- Spine time of the last loop-back burst. -/
  calAt : Option Int
  /-- The pad delay that placement subtracts, in units, and the spine time of the last rotator command (R179). -/
  calNow : Int
  cmdAt : Option Int
  deriving DecidableEq, Repr

/-- One measurement unit (R181 to R201) beside its registers. Positions are raw times of the active timebase. -/
structure TdcUnit where
  /-- Arm instant, of the run or of the next re-arm; spine time of a scheduled arm; an arm waits for SYS_READY.tdc. -/
  armAt : Int
  sched : Option Int
  held : Bool
  /-- Captured start, and captured stop with its refined stamp. -/
  start : Option Int
  stop : Option (Int × Int)
  /-- Stops counted after the start (R188). -/
  skipped : Nat
  /-- Stops were ignored since the last result; the measurement spanned a timebase switch (R191). -/
  early : Bool
  switched : Bool
  /-- Items dropped in the present run of drops (R192), and results of the run (R186). -/
  dropped : Nat
  results : Nat
  /-- A run of claim `under` is suspended for a loop-back burst, and stops have been ignored in that burst (R184, R188). -/
  susp : Bool
  under : Nat
  suspEarly : Bool
  /-- Spine time at which the round of a suspended Moss watch arms. -/
  suspSched : Option Int
  /-- Measurements of the present burst, and their sum in bins (R179). -/
  burst : Nat × Int
  /-- A Moss round was abandoned to a claim: its owner finds the unit IDLE (R184). -/
  gone : Bool
  /-- Predicted edge of a claimed PPS unit, and its consecutive missing pulses (R207). -/
  pred : Option Int
  misses : Nat
  /-- Consecutive table failures, and spine time and temperature of the table in force (R196, R198). -/
  fails : Nat
  /-- The calibrated position of each code in 1/64 bin, empty before the first table; a table that waits for the next result boundary, with
  the temperature of its hits (R195, R196). -/
  tab : List Nat
  newTab : Option (List Nat × Nat)
  tabAt : Int
  tabTemp : Nat
  /-- Results of the present Moss round, newest first; one was degraded; one had `limit`; its arm instant; and the
  spine time from which rounds count (R199, R200). -/
  samples : List Int
  sampleDegr : Bool
  sampleLimit : Bool
  roundAt : Int
  mossFrom : Int
  /-- Results for a claimant: stamp and value in units (R183). -/
  due : List (Int × Int)
  deriving DecidableEq, Repr

/-- A commit handed to a channel (R274). -/
structure GCommit where
  boundary : Nat
  carRate : Int
  carStep : Int
  codeRate : Nat
  codeStep : Int
  deriving DecidableEq, Repr

/-- A correlator channel beside its record (R267 to R277): its NCO at a port sample. -/
structure GChan where
  /-- Port sample of the phases; of the start while PENDING. -/
  at_ : Nat
  /-- Code phase in 2⁻⁴⁸ chip, within the code; dump boundaries since the start; secondary chip in force. -/
  code : Nat
  bounds : Nat
  sec : Nat
  /-- Carrier phase in 2⁻³² cycle. -/
  car : Int
  commit : Option GCommit
  deriving DecidableEq, Repr

/-- A sample port beside its registers (R263 to R278, R202, R203). -/
structure GPort where
  /-- Epochs since the port started. -/
  epochs : Nat
  /-- Raw times of the last 1,000 epochs, newest first. -/
  hist : List Int
  /-- Stamp of the last epoch. -/
  stamp : Int
  /-- GNS_DUMPp is due for the last epoch (R278). -/
  dumpDue : Bool
  /-- Dumps dropped in the present run, and late commits in the present second. -/
  dropped : Nat
  late : Nat
  /-- Moss watch: spine time from which rounds count, rounds toward `wake_every`, and the figures of the round in progress: the
  clock offset, and the clipped samples of each band with the samples. -/
  mossFrom : Int
  mossRounds : Nat
  mossFreq : Option Int
  mossClip1 : Nat × Nat
  mossClip5 : Nat × Nat
  deriving DecidableEq, Repr

/-- The GNSS block (R262 to R294). -/
structure GnsState where
  ports : Vector GPort 4
  chans : Tab GChan
  /-- Raw time of the last write of each bound (R286). -/
  solAt : Vector Int 5
  /-- Acquisition slots waiting, the running request's reference sample, and the milliseconds that it has still to capture (R289, R290). -/
  acqQ : List Nat
  acqRef : Nat
  acqLeft : Nat
  /-- The samples of the blocks captured so far for the running request (R290). -/
  acqData : List (BitVec 8)
  /-- Ports that have yet to latch, with the time and the tag of the arm (R280). -/
  xPorts : Nat
  xTime : Int
  xId : Nat
  /-- The snapshot in progress: ports, bands, length, start time and bases as they stood at `go`; ports that have yet to start, milliseconds that each
  port has still to capture, and epochs of each port at `go` (R292). -/
  snapPorts : Nat
  snapL1 : Bool
  snapL5 : Bool
  snapLen : Nat
  snapAt : Int
  snapBase : Vector Nat 4
  snapLeft : Nat
  snapMs : Vector Nat 4
  snapFrom : Vector Nat 4
  deriving DecidableEq, Repr

/-- An access to a bank that wakes: it waits until the bank is ON (R417, R419). Addresses are those of BAR0, and the port is that of R406. -/
inductive Held where
  | store (port a : Nat) (bs : List (BitVec 8))
  | load (q : Req) (port a n : Nat)
  | alias_ (port : Nat) (clear : Bool) (a : Nat) (vs : List (BitVec 8))
  deriving DecidableEq, Repr

/-- Memory state beside the bytes: ECC marks, write stamps and spares (R111, R409, R415, R416). -/
structure MemState where
  /-- Core-domain stamp of the last write that changed a 64-bit word. -/
  wst : Tab Int
  /-- Word addresses that hold a single-bit error, and those that hold an uncorrectable one. -/
  ecc1 : List Nat
  ecc2 : List Nat
  /-- Spare regions used, by bank (R416). -/
  spares : Tab Nat
  /-- Corrected errors of the present second (R409). -/
  corr : Nat
  /-- Spine time of the last test of a region (R415). -/
  testAt : Int
  /-- An uncorrectable error stands in PD_TIME state: Tally head, servo state or DCO words (R47). -/
  timeEcc : Bool
  /-- Accesses that wait for a bank, oldest first (R417). -/
  held : List Held
  deriving DecidableEq, Repr

/-- A power transition in progress (R424). -/
structure PwrTrans where
  domain : Nat
  old : Nat
  target : Nat
  /-- The commit point has passed. -/
  committed : Bool
  /-- A wake is held (R425). -/
  held : Bool
  deriving DecidableEq, Repr

/-- A checkpoint image (R440). -/
structure Ckpt where
  seq : Nat
  final : Bool
  time : Int
  /-- RTC value of the freeze tick in 1/32,768 s. -/
  rtc : Nat
  /-- Counters and save lists: register fields by key. -/
  regs : RegFile
  total : Int
  srv : Option SrvSave
  fatal : Nat
  rxIn : List Nat
  txIn : List Nat
  tsvIn : Nat
  jnlFill : Nat
  tlyFill : Nat
  /-- Items dropped by the producers of queues, by index (R35). -/
  drops : Tab Nat
  /-- Save areas of domains that are OFF. -/
  saves : Tab RegFile
  /-- Its CRC-32C holds. -/
  valid : Bool
  deriving DecidableEq, Repr

/-- The states of the chip (R430, R443, R444). -/
inductive ChipState where
  | run
  /-- Frozen by PFAIL_N or RESET_N: the final checkpoint is being written. -/
  | frozen
  /-- Held in reset, or without VDD_CORE, with VDD_AON present. -/
  | lichen
  /-- VDD_AON absent. -/
  | dark
  deriving DecidableEq, Repr

/-- Power, the Lichen store and the chip's supply state (R422 to R448). -/
structure PwrState where
  trans : Option PwrTrans
  /-- Save areas of domains that are OFF, and the domains whose area fails its CRC (R427). -/
  saves : Tab RegFile
  badSave : List Nat
  copy0 : Option Ckpt
  copy1 : Option Ckpt
  /-- The copy that holds the newest complete image. -/
  newest : Nat
  /-- The checkpoint that is being written. -/
  writing : Option Ckpt
  nextSeq : Nat
  chip : ChipState
  /-- PFAIL_N low. -/
  pfail : Bool
  /-- A reset release is due: the cause of R432. -/
  resetCause : Nat
  /-- Causes kept in the Lichen store for SYS_FATAL.prev (R47). -/
  prevFatal : Nat
  rtcValid : Bool
  /-- VDD_AON and VDD_CORE are present (R430, R471). -/
  aon : Bool
  core : Bool
  /-- The RTC in 1/32,768 s as it last loaded or ran: while spine time runs it follows spine time (R431). -/
  rtc : Nat
  /-- Sequence number of the first checkpoint that can hold the save area of a domain's present time in OFF (R427). -/
  offSeq : Tab Nat
  /-- The CRC-32C that a bank, a cluster's local memories or a port's records took with them into RETAIN, by index of R422 (R418). -/
  sigs : Tab Nat
  deriving DecidableEq, Repr

/-- A flash command in progress (R439). -/
structure FlashCmd where
  op : Nat
  addr : Nat
  buf : Nat
  len : Nat
  deriving DecidableEq, Repr

/-- Flash and boot (R434 to R439). -/
structure CfgState where
  /-- Flash bytes that differ from the erased value. -/
  flash : List Host.Cell
  cmd : Option FlashCmd
  /-- Directory releases (R435); offsets and lengths are in CFG_DIRf. -/
  rel : Tab Nat
  deriving DecidableEq, Repr

/-- The PCIe endpoint (R452, R453, R462). -/
structure PcieState where
  /-- The writable bits of the configuration words that have no home below, by offset. -/
  cfg : Tab Nat
  bme : Bool
  msixEn : Bool
  fmask : Bool
  d3 : Bool
  /-- The last memory write that the engine posted: host address and bytes. -/
  posted : Option (Nat × List (BitVec 8))
  deriving DecidableEq, Repr

/-- A read latch (R457): register address, and its words above the lowest. -/
structure Latch where
  reg : Nat
  words : List Nat
  deriving DecidableEq, Repr

/-- A write stage (R458): register address, and the held (word index, value) pairs. -/
structure Stage where
  reg : Nat
  held : List (Nat × Nat)
  deriving DecidableEq, Repr

/-- The access paths: one latch and one stage per requester, the last read value, and the SPI status flags (R457, R458, R464). -/
structure AccState where
  latch : Vector (Option Latch) 18
  stage : Vector (Option Stage) 18
  /-- The value that the last read command returned to its requester. -/
  read : Vector Nat 18
  spiRange : Bool
  spiProtocol : Bool
  deriving DecidableEq, Repr

end Machine

end Sys2Proof
end

