-- ==== Sys2Proof/Machine/Types3.lean ====
section
/-!
DEFINITION. The parts of State of the lanes, the time service, the KEY block, the twin block and Frond control: plain data
beside the register file.
-/

namespace Sys2Proof.Machine

abbrev Bytes := List (BitVec 8)

/-! ## KEY (R352 to R382) -/

/-- A locker (R361) with its content: 32 bytes, or 48 for a P-384 key. -/
structure Locker where
  attr : Nat
  noexport : Bool
  p384 : Bool
  /-- 0 IMPORTED, 1 GENERATED, 2 DERIVED, 3 PAIR. -/
  origin : Nat
  owner : Nat
  /-- Master and label of a derived locker (R360). -/
  master : Option Nat
  label : Bytes
  key : Bytes
  deriving DecidableEq, Repr

/-- A locker slot in flash (R370). -/
structure KeySlot where
  seq : Nat
  ctrs : List Nat
  mrun : Bytes
  mnext : Bytes
  pin : Bytes
  owners : Tab Bytes
  lockers : Tab Locker
  /-- The recovery state: the hash of owner 0's first key. -/
  recovery : Option Bytes
  /-- Each locker record sealed to the running and to the prepared manifest, with the header as associated data, and the check word of all. -/
  sealRun : Tab Bytes
  sealNext : Tab Bytes
  crc : Nat
  /-- Its CRC-32C holds. -/
  valid : Bool
  deriving DecidableEq, Repr

/-- An update message that passed R366 and is being committed (R367). -/
structure Commit where
  kind : Nat
  owner : Nat
  target : Nat
  counter : Nat
  slot : KeySlot
  /-- The locker change that step 5 installs, and an owner key. -/
  locker : Option (Option Locker)
  ownerKey : Option Bytes
  /-- An OWNER message of R364 that starts a fresh slot pair, and the first enrolment of owner 0. -/
  fresh : Bool
  enrol : Bool
  deriving DecidableEq, Repr

/-- A slot write without a counter change: PREPARE, or PIN (R373, R378). -/
structure SlotWrite where
  pin : Bool
  slot : KeySlot
  deriving DecidableEq, Repr

/-- A partner's pairing message: its identity public key and its PAIR statement (R377). -/
structure PairMsg where
  pub : Bytes
  stmt : Bytes
  deriving DecidableEq, Repr

/-- The KEY block (R352 to R382). -/
structure KeyState where
  /-- The last unwrap of the root secret passed its integrity check (R353). -/
  wrapOk : Bool
  lockers : Tab Locker
  owners : Tab Bytes
  /-- Antifuse: counters and recovery hash. -/
  ctrs : Vector Nat 16
  recovery : Option Bytes
  slot0 : Option KeySlot
  slot1 : Option KeySlot
  /-- The commit bit of the Lichen store: the slot it names. -/
  commitBit : Option Nat
  chain : Bytes
  manifest : Vector Bytes 16
  /-- UNSEAL has been accepted since reset. -/
  unsealed : Bool
  /-- SYS_READY.key has set since reset (R147). -/
  readied : Bool
  mnext : Option Bytes
  pin : Bytes
  pend : Bytes
  /-- Authorisations by Frond: measurement and expiry (R374). -/
  auth : Tab (Bytes × Int)
  commit : Option Commit
  write : Option SlotWrite
  /-- Reseeds and bytes drawn so far, and requests and the time since the last reseed (R354). -/
  seeds : Nat
  draws : Nat
  reqs : Nat
  seedAt : Int
  /-- Uses of lockers since the last re-mask, and its time (R369). -/
  uses : Tab Nat
  maskAt : Int
  /-- One of the two shares of each locker's content; the other is its sum with the content (R369). -/
  masks : Tab Bytes
  /-- The ephemeral key drawn at the link-up, and the pairing message sent (R377). -/
  eph : Bytes
  sent : Option PairMsg
  /-- The partner's pairing message, while the twin link is up (R377). -/
  partner : Option PairMsg
  deriving DecidableEq, Repr

/-! ## The test access port (R486, R487) -/

/-- The public instructions of R486. -/
inductive TapIr where
  | bypass | idcode | sample | extest | clamp | highz
  deriving DecidableEq, Repr

/-- What the boundary register does to the pins while RESET_N is low. -/
inductive TapPins where
  | none
  /-- EXTEST or CLAMP: the outputs hold the register's levels. -/
  | driven (l : List Bool)
  | released
  deriving DecidableEq, Repr

/-- The TAP: the instruction in force, the boundary register, the bits shifted out last, its hold on the pins, the place of
the debug nonce in the DRBG's output, whether debug is unlocked, and whether RESET_N is low. -/
structure JtagState where
  ir : TapIr
  boundary : List Bool
  tdo : List Bool
  pins : TapPins
  nonceSeed : Nat
  noncePos : Nat
  unlocked : Bool
  resetLow : Bool
  deriving DecidableEq, Repr

/-! ## Frond control (R142 to R147) -/

/-- A staged image (R145). -/
structure Staged where
  frond : Nat
  code : Bytes
  dataSec : Bytes
  entry : Nat
  release : Nat
  owner : Nat
  measure : Bytes
  deriving DecidableEq, Repr

/-- A STAGE or a SWAP that runs, and the staging buffer (R143). -/
structure FrdCtl where
  staged : Option Staged
  /-- STAGE in progress: the target and the image bytes copied. -/
  staging : Option (Nat × Bytes)
  swapping : Option Nat
  deriving DecidableEq, Repr

end Sys2Proof.Machine
end

