-- ==== Sys2Proof/Machine/Types4.lean ====
section
/-!
DEFINITION. The parts of State of the lanes, the time service and the twin block.
-/

namespace Sys2Proof.Machine

/-! ## Frames that leave at a slot (R305 to R309, R324) -/

/-- What the departure time does to a PTP message (R329). -/
inductive PtpIns where
  /-- Nothing. -/
  | none
  /-- originTimestamp = D, correctionField + frac of D. -/
  | origin
  /-- correctionField + (D − t_rx). -/
  | turnaround (trx : Int)
  deriving DecidableEq, Repr

/-- How a message is authenticated (R332, R333). -/
inductive SealBy where
  | none
  /-- The lowest valid send entry of a profile. -/
  | profile (p : Nat)
  /-- A named entry of the key table. -/
  | entry (k : Nat)
  deriving DecidableEq, Repr

/-- The parts of a message that the pipeline or a Frond hands to a lane. -/
inductive TMsg where
  /-- A Frond's frame: bytes of the whole frame, insertion (mode 2) with offset and format, and R310. -/
  | raw (data : Bytes) (insert : Bool) (ofs fmt : Nat) (csum : Bool)
  /-- A PTP message without TLVs of the pipeline: profile, insertion, bound TLV, coarse receive stamp, seal. -/
  | ptp (data : Bytes) (prof : Nat) (ins : PtpIns) (bound coarse : Bool) (by_ : SealBy)
  /-- An Announce of a profile with its sequenceId. -/
  | announce (prof seq : Nat) (unicast : Bool) (by_ : SealBy)
  /-- Firmware's sealed message (R333): the headers before it, the message, and the seal. -/
  | wrapped (pre data : Bytes) (ins : PtpIns) (bound : Bool) (by_ : SealBy)
  /-- An NTP answer: first byte and poll of the request, its transmit timestamp, t_rx, coarse. -/
  | ntp (vn poll : Nat) (org : Nat) (trx : Int) (coarse : Bool)
  /-- An NTS answer: the same, with the Unique Identifier field, the S2C key, the nonce and the plain cookies. -/
  | nts (vn poll : Nat) (org : Nat) (trx : Int) (coarse : Bool) (uid s2c nonce plain : Bytes)
  /-- An NTP kiss code, with the extension fields that it echoes (R342, R346). -/
  | kiss (vn poll : Nat) (org : Nat) (code uid : Bytes)
  deriving DecidableEq, Repr

/-- The addressing of a frame: transport 0 L2, 1 UDPv4, 2 UDPv6; tag; addresses and ports as bytes. -/
structure Addr where
  transport : Nat
  dst : Bytes
  src : Bytes
  tag : Option Nat
  ipDst : Bytes
  ipSrc : Bytes
  dport : Nat
  sport : Nat
  /-- The two-byte checksum trailer of R310. -/
  trailer : Bool
  deriving DecidableEq, Repr

structure Build where
  addr : Addr
  msg : TMsg
  deriving DecidableEq, Repr

/-- Who hears of the frame's fate. -/
inductive TOwner where
  /-- A Frond descriptor: completion on 0x1A0 + n. -/
  | frond
  /-- A sealed message of R333: completion on 0x202. -/
  | sealed
  /-- An answer or a generated message. -/
  | plain
  /-- A two-step message: its follow-up takes D (R329). -/
  | twoStep (follow : Build)
  /-- An upstream Delay_Req: D is t3 (R338). -/
  | upDelay (u seq : Nat)
  /-- Another message of upstream session u. -/
  | up (u : Nat)
  /-- A peer context's Pdelay_Req with its sequenceId: D is t1 (R331). -/
  | peer (seq : Nat)
  deriving DecidableEq, Repr

/-- A timed request that waits for its slot. -/
structure TReq where
  build : Build
  owner : TOwner
  deriving DecidableEq, Repr

/-- A timed frame with its slot. Grid times are in 1/25 of a unit, since a block of 2,560 ps is 4,194,304 of them. -/
structure TFrame where
  sigma : Int
  d : Int
  misses : Nat
  build : Build
  owner : TOwner
  /-- The frame as it lies in the launch buffer, with its push stamp. -/
  held : Option (Bytes × Int)
  started : Bool
  deriving DecidableEq, Repr

/-- A general frame that waits for the medium (R312): its bytes without FCS, whether it is express, and whether a Frond's descriptor awaits
its completion. -/
structure GFrame where
  bytes : Bytes
  express : Bool
  frond : Bool
  deriving DecidableEq, Repr

/-- One lane (R295 to R321) beside its registers. -/
structure Lane where
  reqs : List TReq
  /-- Reserved slots, earliest first. -/
  sched : List TFrame
  /-- The offset of the block grid from the spine second (R304), in 1/25 unit. -/
  phase : Int
  /-- General frames that wait, oldest first, and the time from which they look for room, in 1/25 unit. -/
  gens : List GFrame
  genFrom : Int
  /-- The last general frame that started, or its rest after a preemption: start, end with its gap, and whether it can be preempted, in
  1/25 unit. -/
  busyFrom : Int
  busyEnd : Int
  busyPre : Bool
  /-- The last frame that left: its D, and its bytes without FCS. -/
  sent : Option (Int × Bytes)
  /-- Stamp of the last ESMC information PDU, and time and code of the last PDU sent (R313, R314). -/
  esmcAt : Int
  esmcSentAt : Int
  esmcSent : Nat
  /-- Spine time at which a lane that left listening is ready for traffic (R315). -/
  wakeAt : Int
  /-- Second of the last reslot, reslots in it, and reslots in the second before it. -/
  reslotSec : Int
  reslots : Nat
  /-- Latched counters and in-flight counts (R300). -/
  snap : Option (List Nat)
  deriving DecidableEq, Repr

/-! ## Time service (R322 to R351) -/

/-- The kinds of work that the pipeline has taken (R331, R341). -/
inductive Route where
  | ntp | nts | delayReq | pdelayReq | pdelayResp | signaling | foreign | forward
  | upstream (u : Nat)
  deriving DecidableEq, Repr

structure Work where
  route : Route
  lane : Nat
  stamp : Int
  express : Bool
  coarse : Bool
  data : Bytes
  deriving DecidableEq, Repr

/-- An entry of the session table (R334). -/
structure Sess where
  kind : Nat
  state : Nat
  lane : Nat
  prof : Nat
  flags : Nat
  mac : Bytes
  port : Nat
  ip : Bytes
  pid : Bytes
  key : Nat
  pcp : Nat
  /-- Sync, Announce, Delay_Resp. -/
  logs : Vector Int 3
  expiry : Vector Nat 3
  /-- Sync, Announce, Signaling. -/
  seqs : Vector Nat 3
  next : Int
  last : Int
  /-- Upstream: the session. Peer: mean link delay, neighborRateRatio, run of good exchanges. Downstream, for which R334 names none: byte 0
  is 1 where the third grant is one of Pdelay_Resp (DESIGN CHOICE, log 50). -/
  data : Bytes
  gen : Nat
  deriving DecidableEq, Repr

/-- An upstream session beside its registers (R338 to R340). -/
structure UpSess where
  /-- Recorded source portIdentity; stamp and log interval of the last Announce. -/
  srcPid : Bytes
  annAt : Int
  annLog : Int
  /-- The last two-step Sync that waits for its Follow_Up: sequenceId, t2, correction. -/
  pend : Option (Nat × Int × Int)
  /-- t2 − t1 − c_s of the last Sync. -/
  sync : Option Int
  /-- Delay_Req sent: sequenceId and t3. -/
  t3 : Option (Nat × Int)
  /-- Values of the delay of the last exchanges, newest first, in half units; exchanges since the path delay restarted. -/
  delays : List Int
  /-- Last offset f, and extremes and start of an agreeing run in HOLDJ. -/
  holdLo : Int
  holdHi : Int
  holdFrom : Option Int
  /-- Grant expiries of Sync, Announce, Delay_Resp in spine units, and their durations; 0 for none. -/
  grants : Vector Int 3
  durs : Vector Nat 3
  /-- Spine time at which the next Delay_Req is due, and the next request of each grant. -/
  reqAt : Int
  negoAt : Vector Int 3
  /-- sequenceId of the next Delay_Req. -/
  seq : Nat
  /-- Q of the master's Announce. -/
  cls : Nat
  acc : Nat
  /-- The bound field of the last verified bound TLV. -/
  bm : Option Nat
  deriving DecidableEq, Repr

/-- A family 5 peer context's exchange in progress (R331). -/
structure PeerX where
  seq : Nat
  t1 : Option Int
  t2 : Option Int
  t4 : Option Int
  /-- Correction of the response. -/
  corr : Int
  /-- t3 and t4 of the previous exchange, for the rate ratio. -/
  last : Option (Int × Int)
  due : Int
  deriving DecidableEq, Repr

structure TsvState where
  /-- Frames popped from a lane's queue and not yet begun: the lane, and the frame (R37). -/
  inbox : List (Nat × QItem)
  work : List Work
  sess : Tab Sess
  /-- Generation counts of the indices. -/
  gens : Tab Nat
  /-- Spine time of the last unicast Announce of an entry. -/
  annAt : Tab Int
  /-- Second of the last RATE answer of a slot. -/
  kodSec : Tab Int
  /-- The seed of the DRBG at the reset: the policing hash key is the first 32 bytes that it gives (R346). -/
  polKey : Nat
  ups : Vector UpSess 8
  peers : Vector PeerX 32
  /-- Identifier of the generation held in each locker pair (R344). -/
  cookies : Vector (Option Nat) 3
  /-- Spine time at which the next rotation, or a retry, is due. -/
  cookieAt : Int
  /-- sequenceIds of the multicast Sync and Announce of a lane; spine time after which the next of each is due. -/
  mcSeq : Vector (Nat × Nat) 32
  mcAt : Vector (Int × Int) 32
  /-- gmTimeBaseIndicator and lastGmPhaseChange of family 5 (R330). -/
  tbInd : Nat
  tbChange : Int
  /-- Seconds of the last 0x1002 by profile, of the last 0x1005 by lane. -/
  noKeySec : Vector Int 8
  foreignSec : Vector Int 32
  /-- Refusals: second of the last entry, count since (table full; budget) (R336). -/
  fullSec : Int
  fullCnt : Nat
  budSec : Int
  budCnt : Nat
  snap : Option (List Nat)
  deriving DecidableEq, Repr

/-! ## Twin (R383 to R405) -/

/-- A heartbeat message of the twin link (R388). -/
structure Beat where
  state : Nat
  bound : Nat
  cls : Nat
  fatal : Nat
  /-- Count of kind 2 and kind 3 session entries. -/
  others : Nat
  /-- H_id order and the role are known from pairing; the sender's `primary` bit (R385). -/
  primary : Bool
  deriving DecidableEq, Repr

/-- A slot in the RCL part of a satchel (R391). -/
structure SatSlot where
  kind : Nat
  src : Nat
  state : Nat
  disputed : Bool
  q : Nat
  /-- Remaining settle time of a SUSPECT slot, in units. -/
  settle : Int
  deriving DecidableEq, Repr

/-- One cookie generation in the KEY part: identifier, and the wrapped ENC and DEC contents. -/
structure SatKey where
  id : Nat
  enc : Bytes
  dec : Bytes
  deriving DecidableEq, Repr

/-- A satchel (R391): its sequence number, strobe and flags, the 128 bytes of the SRV part and the 32 bytes of the TLY part, RCL_STATUS and the
slots, the KEY part, and the delta. -/
structure Satchel where
  seq : Nat
  stamp : Int
  resync : Bool
  fatal : Bool
  srv : Bytes
  tly : Bytes
  rclStatus : Nat
  slots : List SatSlot
  cookieId : Nat
  keys : Option (List (Option SatKey))
  delta : List (Nat × Option Sess)
  deriving DecidableEq, Repr

/-- What a unit sends over the twin link beside satchels. -/
inductive TwnMsg where
  | beat (b : Beat)
  | fault
  | yieldReq
  | yield_
  /-- The handover is to take place at that time, as a revert or not; it is not (R398). -/
  | swapReq (at_ : Int) (revert : Bool)
  | swapAbort
  | resyncReq
  deriving DecidableEq, Repr

structure TwnState where
  /-- The partner drives TWN_ACTIVE_N low, and the time since which the line has been high. -/
  partnerLow : Bool
  highSince : Int
  /-- Entry into the present state; the last heartbeat that reported ACTIVE. -/
  since : Int
  activeBeat : Option Int
  /-- Stamps of the last heartbeat on the link and on the pin, none before the first since `en`; the time of `en`; the partner is lost. -/
  lastLink : Option Int
  lastPin : Option Int
  enAt : Int
  lost : Bool
  /-- The last heartbeat message, and whether one has come since the link rose. -/
  partner : Beat
  heard : Bool
  /-- Heartbeats run (R388), time of the last kick, and of the last heartbeat sent. -/
  beating : Bool
  kickAt : Int
  beatAt : Int
  /-- Last message sent. -/
  sent : Option TwnMsg
  /-- The frames of the last satchel sent, and the last sequence number of the pair. -/
  satOut : List Bytes
  rxSeq : Option Nat
  /-- Indices whose entries wait for a satchel, oldest change first; indices that a resync still owes; entries it sent; a resync runs. -/
  changed : List Nat
  resyncLeft : List Nat
  resyncSent : Nat
  resyncing : Bool
  /-- The KEY part goes with the next satchel. -/
  keyDue : Bool
  /-- Map from the active unit's indices to this unit's (R392). -/
  map : Tab Nat
  /-- Partner's roll-call part and TLY_SEQ of the last satchel. -/
  tlySeq : Nat
  /-- Run of deviating seconds: of phase or frequency, and of missing pulses; run of good seconds; arbitration due, with its kind. -/
  devRun : Nat
  missRun : Nat
  goodRun : Nat
  arb : Option Nat
  /-- A YIELD request is out since; a swap is pending at, with its cause (3 swap, 4 revert). -/
  yieldAt : Option Int
  swapAt : Option Int
  swapCause : Nat
  /-- End of the check of R399, and whether this unit is the one that took the token. -/
  checkEnd : Option Int
  checkNew : Bool
  /-- Ports whose cal_valid was set, and lanes with link, when the check began. -/
  checkPorts : List Nat
  checkLanes : List Nat
  /-- Start of the uninterrupted time of R401. -/
  revertFrom : Option Int
  deriving DecidableEq, Repr

end Sys2Proof.Machine
end

