-- ==== Sys2Proof/Machine/Operands.lean ====
section
/-!
DEFINITION. The operand forms of the commands: who sends a write, which register of a group it names, and what arrives at a pin or
over a link. The table gives its rows no operands; these are the model's (log 1).
-/

namespace Sys2Proof
open Machine

/-- A write that changes the plan of an output channel (R169). -/
inductive OutPlan where
  | inc (v : BitVec 64)
  | freq (v : BitVec 48)
  | mult (v : BitVec 3)
  deriving DecidableEq, Repr

/-- A Bell register (R173, R174). -/
inductive BellReg where
  | period | width | ofs | align
  deriving DecidableEq, Repr

/-- A configuration register of a measurement unit (R186, R194). -/
inductive TdcReg where
  | ctl | src | skip | limit
  deriving DecidableEq, Repr

/-- A frame as a lane receives it (R299, R302). -/
structure Rx where
  /-- Destination address to the last byte before the FCS. -/
  data : List (BitVec 8)
  /-- Place in the present spine tick of the recovered word-clock edge that latched the start of the frame; none where the
  phase detector has no valid edge. -/
  edge : Option (Fin 131072)
  /-- k of R302: position of the stamp bit in the word. -/
  bit : Fin 66
  fcsOk : Bool
  codeOk : Bool
  fragOk : Bool
  express : Bool
  deriving DecidableEq, Repr

/-- A heartbeat that arrives: a message, or a rising edge of TWN_HB_IN with the role that its width gives (R388). -/
inductive HbIn where
  | link (b : Beat)
  | pin (active : Bool)
  deriving DecidableEq, Repr

/-- Who asks for a twin command: a write on this unit, or the partner over the link with the time of the swap. -/
inductive TwnBy where
  | own (r : Req)
  | partner (revert : Bool) (at_ : Int)
  deriving DecidableEq, Repr

end Sys2Proof
end

