-- ==== Sys2Proof/Syntax.lean ====
section
/-!
DEFINITION. The commands of the block: one constructor per row of spec/opcode_table.json, in its order, with the rule that the row names.
The table gives its rows no operand fields; the operands here are the model's (log 1).
-/

namespace Sys2Proof
open Machine

/-- A command: a write or read of a register, an instruction of a Frond, an edge at a pin, a message of a link, or an instant that the
spec gives an effect. -/
inductive Instr where
  /-- `SPINE_TICK`, R65: Each 2 ns spine tick advances raw time and spine time, accrues the spine DCO and any slew into the open Tally
  entries, and keeps the identity of R16. -/
  | spineTick (drift : Int)
  /-- `MILLISECOND_STROBE`, R28: At each millisecond boundary the spine sends the full 96-bit time to every domain, and each domain
  compares it with its copy. -/
  | millisecondStrobe (sy : List (Fin 24 × BitVec 48))
  /-- `TALLY_DRAIN_COPY`, R73: With drain enabled, the engine copies the next Tally entry into the commons drain ring when room exists and
  advances TLY_DRAIN_HEAD. -/
  | tallyDrainCopy
  /-- `TLY_DRAIN_TAIL_WRITE`, R73: A write to TLY_DRAIN_TAIL that lies between TAIL and HEAD advances the tail; any other value is ignored
  and journalled as 0x0506. -/
  | tlyDrainTailWrite (r : Req) (v : BitVec 16)
  /-- `TLY_DRAIN_RING_WRITE`, R73: A write to TLY_DRAIN_BASE or TLY_DRAIN_SIZE that would put the ring past the commons is ignored and
  journalled as 0x0507. -/
  | tlyDrainRingWrite (r : Req) (size : Bool) (v : BitVec 32)
  /-- `QUEUE_ENTRY_VISIBLE`, R33: An entry pushed into a dual-clock queue becomes visible to the receiver after the crossing latency. -/
  | queueEntryVisible (q : Fin 1792)
  /-- `CREDIT_RETURN`, R34: A credit returned by a pop reaches the sender, and a hardware producer holding an item in its output register
  pushes it. -/
  | creditReturn (q : Fin 1792)
  /-- `INTERRUPT_SOURCE_ASSERT`, R462: A source asserts: it sets its CAUSE bit, sets PEND when routed to the host, and raises its routed
  Frond event lines with its stamp. -/
  | interruptSourceAssert (n : Fin 512) (stamp : Int)
  /-- `MSIX_MESSAGE_SEND`, R462: Once a vector has a pending source and MSI-X, its masks and Bus Master Enable allow it, the engine sends
  one message and clears the PEND bits of the vector. -/
  | msixMessageSend (v : Fin 64)
  /-- `IRQ_ROUTE_WRITE`, R463: A write to SYS_IRQ_ROUTEn takes effect at once, moving or clearing a set PEND bit and keeping the CAUSE
  bit. -/
  | irqRouteWrite (r : Req) (n : Fin 512) (v : BitVec 32)
  /-- `READY_BIT_CHANGE`, R42: A function's readiness rises or falls: SYS_READY changes, SYS_READY_EVT records the edge and a fall is
  journalled. -/
  | readyBitChange (b : Fin 16) (rise : Bool)
  /-- `SNAPSHOT_REQUEST`, R62: A write of 1 to SPN_SNAP_CTL.snap requests a snapshot, or merges into the one that is pending. -/
  | snapshotRequest (r : Req)
  /-- `SNAPSHOT_LATCH`, R62: At one spine tick the engine latches spine time, raw time and the Tally sum into the snapshot registers and
  clears snap. -/
  | snapshotLatch
  /-- `LEAP_ADD`, R58: SPN_LEAP_CMD op ADD checks the staged entry, stores or refuses it, applies a first entry at once and journals the
  outcome. -/
  | leapAdd (r : Req)
  /-- `LEAP_CANCEL`, R59: SPN_LEAP_CMD op CANCEL frees a slot, or refuses with APPLIED or PAST, and journals the outcome. -/
  | leapCancel (r : Req) (slot : Fin 16)
  /-- `LEAP_WARNING_START`, R61: A day before a pending leap's E, leap61 or leap59 sets in SPN_UTC_STATUS. -/
  | leapWarningStart
  /-- `LEAP_SECOND_START`, R56: At TAI second E − 1 of a positive leap, in_leap sets and the UTC count repeats. -/
  | leapSecondStart
  /-- `LEAP_APPLY`, R61: At second E the entry is applied, the offset in force changes, the leap flags clear and 0x0403 is journalled. -/
  | leapApply
  /-- `JOURNAL_STREAM_PUSH`, R79: A domain pushes a stamped entry into its journal stream, or drops it and counts JNL_OVFn when the stream
  is full. -/
  | journalStreamPush (d : Fin 44) (src : BitVec 16) (code : BitVec 16) (payload : BitVec 64) (refined : Option Int)
  /-- `GRADEBOOK_MERGE_WRITE`, R80: The merger writes an entry into the Gradebook once its stamp is at or below the lowest watermark,
  marking concurrency and overflow. -/
  | gradebookMergeWrite
  /-- `GRADEBOOK_DMA_COPY`, R83: With DMA enabled, the engine copies the next Gradebook entry into the host ring when room exists and
  advances JNL_DMA_HEAD. -/
  | gradebookDmaCopy
  /-- `JNL_DMA_TAIL_WRITE`, R83: A write to JNL_DMA_TAIL within TAIL to HEAD advances the tail; any other value is ignored. -/
  | jnlDmaTailWrite (r : Req) (v : BitVec 20)
  /-- `JNL_DRAIN_WAIT_EXPIRE`, R83: An entry that has waited longer than JNL_THRESH.wait µs asserts JNL_DRAIN. -/
  | jnlDrainWaitExpire
  /-- `JNL_HOST_PUSH`, R84: A host write of 1 to JNL_HOST_PUSH.push stamps and queues a host Gradebook entry; a Frond write is ignored and
  counted. -/
  | jnlHostPush (r : Req)
  /-- `TIMEOUT_DECLARE`, R86: A deadline is declared passed only once the awaited domain's watermark has passed it, and the waiting
  instruction or hardware timer takes the timeout. -/
  | timeoutDeclare (f : Fin 16)
  /-- `ADD`, R98: g[d] = g[a] + g[b] modulo 2^64. -/
  | add (f : Fin 16) (d : BitVec 5) (a : BitVec 5) (b : BitVec 5)
  /-- `SUB`, R98: g[d] = g[a] − g[b] modulo 2^64. -/
  | sub (f : Fin 16) (d : BitVec 5) (a : BitVec 5) (b : BitVec 5)
  /-- `AND`, R98: g[d] = g[a] & g[b]. -/
  | and (f : Fin 16) (d : BitVec 5) (a : BitVec 5) (b : BitVec 5)
  /-- `OR`, R98: g[d] = g[a] | g[b]. -/
  | or (f : Fin 16) (d : BitVec 5) (a : BitVec 5) (b : BitVec 5)
  /-- `XOR`, R98: g[d] = g[a] ^ g[b]. -/
  | xor (f : Fin 16) (d : BitVec 5) (a : BitVec 5) (b : BitVec 5)
  /-- `NOR`, R98: g[d] = ~(g[a] | g[b]). -/
  | nor (f : Fin 16) (d : BitVec 5) (a : BitVec 5) (b : BitVec 5)
  /-- `SLT`, R98: g[d] = 1 if g[a] is less than g[b] signed, else 0. -/
  | slt (f : Fin 16) (d : BitVec 5) (a : BitVec 5) (b : BitVec 5)
  /-- `SLTU`, R98: g[d] = 1 if g[a] is less than g[b] unsigned, else 0. -/
  | sltu (f : Fin 16) (d : BitVec 5) (a : BitVec 5) (b : BitVec 5)
  /-- `SLL`, R98: g[d] = g[a] shifted left by g[b][5:0]. -/
  | sll (f : Fin 16) (d : BitVec 5) (a : BitVec 5) (b : BitVec 5)
  /-- `SRL`, R98: g[d] = g[a] shifted right by g[b][5:0] with zero fill. -/
  | srl (f : Fin 16) (d : BitVec 5) (a : BitVec 5) (b : BitVec 5)
  /-- `SRA`, R98: g[d] = g[a] shifted right by g[b][5:0] with sign fill. -/
  | sra (f : Fin 16) (d : BitVec 5) (a : BitVec 5) (b : BitVec 5)
  /-- `MIN`, R98: g[d] = signed minimum of g[a] and g[b]. -/
  | min (f : Fin 16) (d : BitVec 5) (a : BitVec 5) (b : BitVec 5)
  /-- `MAX`, R98: g[d] = signed maximum of g[a] and g[b]. -/
  | max (f : Fin 16) (d : BitVec 5) (a : BitVec 5) (b : BitVec 5)
  /-- `MINU`, R98: g[d] = unsigned minimum of g[a] and g[b]. -/
  | minu (f : Fin 16) (d : BitVec 5) (a : BitVec 5) (b : BitVec 5)
  /-- `MAXU`, R98: g[d] = unsigned maximum of g[a] and g[b]. -/
  | maxu (f : Fin 16) (d : BitVec 5) (a : BitVec 5) (b : BitVec 5)
  /-- `CLZ`, R98: g[d] = count of leading zeros of g[a]. -/
  | clz (f : Fin 16) (d : BitVec 5) (a : BitVec 5)
  /-- `POPC`, R98: g[d] = count of ones in g[a]. -/
  | popc (f : Fin 16) (d : BitVec 5) (a : BitVec 5)
  /-- `ADDI`, R98: g[d] = g[a] + sign-extended immediate. -/
  | addi (f : Fin 16) (d : BitVec 5) (a : BitVec 5) (i : BitVec 16)
  /-- `ANDI`, R98: g[d] = g[a] & zero-extended immediate. -/
  | andi (f : Fin 16) (d : BitVec 5) (a : BitVec 5) (i : BitVec 16)
  /-- `ORI`, R98: g[d] = g[a] | zero-extended immediate. -/
  | ori (f : Fin 16) (d : BitVec 5) (a : BitVec 5) (i : BitVec 16)
  /-- `XORI`, R98: g[d] = g[a] ^ zero-extended immediate. -/
  | xori (f : Fin 16) (d : BitVec 5) (a : BitVec 5) (i : BitVec 16)
  /-- `SLTI`, R98: g[d] = 1 if g[a] is less than the sign-extended immediate, signed. -/
  | slti (f : Fin 16) (d : BitVec 5) (a : BitVec 5) (i : BitVec 16)
  /-- `SLTIU`, R98: g[d] = 1 if g[a] is less than the sign-extended immediate, unsigned. -/
  | sltiu (f : Fin 16) (d : BitVec 5) (a : BitVec 5) (i : BitVec 16)
  /-- `LUI`, R98: g[d] = sign-extended immediate shifted left by 16. -/
  | lui (f : Fin 16) (d : BitVec 5) (i : BitVec 16)
  /-- `SLLI`, R98: g[d] = g[a] shifted left by imm[5:0]. -/
  | slli (f : Fin 16) (d : BitVec 5) (a : BitVec 5) (i : BitVec 6)
  /-- `SRLI`, R98: g[d] = g[a] shifted right by imm[5:0] with zero fill. -/
  | srli (f : Fin 16) (d : BitVec 5) (a : BitVec 5) (i : BitVec 6)
  /-- `SRAI`, R98: g[d] = g[a] shifted right by imm[5:0] with sign fill. -/
  | srai (f : Fin 16) (d : BitVec 5) (a : BitVec 5) (i : BitVec 6)
  /-- `MULLO`, R99: g[d] = low 64 bits of g[a] × g[b]. -/
  | mullo (f : Fin 16) (d : BitVec 5) (a : BitVec 5) (b : BitVec 5)
  /-- `MULSS`, R99: g[d], g[d+1] = 128-bit signed product, with d even and nonzero. -/
  | mulss (f : Fin 16) (d : BitVec 5) (a : BitVec 5) (b : BitVec 5)
  /-- `MULUU`, R99: g[d], g[d+1] = 128-bit unsigned product. -/
  | muluu (f : Fin 16) (d : BitVec 5) (a : BitVec 5) (b : BitVec 5)
  /-- `MULSU`, R99: g[d], g[d+1] = 128-bit product of signed g[a] and unsigned g[b]. -/
  | mulsu (f : Fin 16) (d : BitVec 5) (a : BitVec 5) (b : BitVec 5)
  /-- `DIVS`, R99: Signed floor division: quotient to g[d] and remainder to g[d+1], or ARITH on a zero divisor or overflow. -/
  | divs (f : Fin 16) (d : BitVec 5) (a : BitVec 5) (b : BitVec 5)
  /-- `DIVU`, R99: Unsigned division: quotient to g[d] and remainder to g[d+1], or ARITH on a zero divisor. -/
  | divu (f : Fin 16) (d : BitVec 5) (a : BitVec 5) (b : BitVec 5)
  /-- `TADD`, R100: t[d] = time t[a] plus duration t[b], with TIME_RANGE outside the seconds range. -/
  | tadd (f : Fin 16) (d : BitVec 5) (a : BitVec 5) (b : BitVec 5)
  /-- `TSUB`, R100: t[d] = duration t[a] − t[b] of two times. -/
  | tsub (f : Fin 16) (d : BitVec 5) (a : BitVec 5) (b : BitVec 5)
  /-- `TADDD`, R100: t[d] = sum of two durations. -/
  | taddd (f : Fin 16) (d : BitVec 5) (a : BitVec 5) (b : BitVec 5)
  /-- `TSUBD`, R100: t[d] = difference of two durations. -/
  | tsubd (f : Fin 16) (d : BitVec 5) (a : BitVec 5) (b : BitVec 5)
  /-- `TNEG`, R100: t[d] = negated duration. -/
  | tneg (f : Fin 16) (d : BitVec 5) (a : BitVec 5)
  /-- `TMOV`, R100: t[d] = t[a] bit for bit. -/
  | tmov (f : Fin 16) (d : BitVec 5) (a : BitVec 5)
  /-- `TCMP`, R100: g[d] = −1, 0 or +1 comparing two times. -/
  | tcmp (f : Fin 16) (d : BitVec 5) (a : BitVec 5) (b : BitVec 5)
  /-- `TCMPD`, R100: g[d] = −1, 0 or +1 comparing two durations. -/
  | tcmpd (f : Fin 16) (d : BitVec 5) (a : BitVec 5) (b : BitVec 5)
  /-- `TSCL`, R101: t[d] = duration t[a] scaled by the frequency word g[b], floored. -/
  | tscl (f : Fin 16) (d : BitVec 5) (a : BitVec 5) (b : BitVec 5)
  /-- `TJOIN`, R102: t[d] built from seconds in g[a] and sub-second units in g[b], with range and format checks. -/
  | tjoin (f : Fin 16) (d : BitVec 5) (a : BitVec 5) (b : BitVec 5)
  /-- `TSECS`, R100: g[d] = seconds field of t[a]. -/
  | tsecs (f : Fin 16) (d : BitVec 5) (a : BitVec 5)
  /-- `TFRAC`, R100: g[d] = ns × 65,536 + frac of t[a]. -/
  | tfrac (f : Fin 16) (d : BitVec 5) (a : BitVec 5)
  /-- `TFRG`, R100: t[d] = normalised duration of the signed unit count g[a]. -/
  | tfrg (f : Fin 16) (d : BitVec 5) (a : BitVec 5)
  /-- `TTOG`, R100: g[d] = unit count of duration t[a], with TIME_RANGE outside 64 bits. -/
  | ttog (f : Fin 16) (d : BitVec 5) (a : BitVec 5)
  /-- `LB`, R103: Load a byte, sign-extended. -/
  | lb (f : Fin 16) (d : BitVec 5) (a : BitVec 5) (i : BitVec 16)
  /-- `LBU`, R103: Load a byte, zero-extended. -/
  | lbu (f : Fin 16) (d : BitVec 5) (a : BitVec 5) (i : BitVec 16)
  /-- `LH`, R103: Load a halfword, sign-extended. -/
  | lh (f : Fin 16) (d : BitVec 5) (a : BitVec 5) (i : BitVec 16)
  /-- `LHU`, R103: Load a halfword, zero-extended. -/
  | lhu (f : Fin 16) (d : BitVec 5) (a : BitVec 5) (i : BitVec 16)
  /-- `LW`, R103: Load a word, sign-extended. -/
  | lw (f : Fin 16) (d : BitVec 5) (a : BitVec 5) (i : BitVec 16)
  /-- `LWU`, R103: Load a word, zero-extended. -/
  | lwu (f : Fin 16) (d : BitVec 5) (a : BitVec 5) (i : BitVec 16)
  /-- `LD`, R103: Load a doubleword. -/
  | ld (f : Fin 16) (d : BitVec 5) (a : BitVec 5) (i : BitVec 16)
  /-- `LDT`, R104: Load 12 bytes into a time register, with TIME_FORMAT on a bad nanoseconds field. -/
  | ldt (f : Fin 16) (d : BitVec 5) (a : BitVec 5) (i : BitVec 16)
  /-- `SB`, R103: Store a byte. -/
  | sb (f : Fin 16) (d : BitVec 5) (a : BitVec 5) (i : BitVec 16)
  /-- `SH`, R103: Store a halfword. -/
  | sh (f : Fin 16) (d : BitVec 5) (a : BitVec 5) (i : BitVec 16)
  /-- `SW`, R103: Store a word. -/
  | sw (f : Fin 16) (d : BitVec 5) (a : BitVec 5) (i : BitVec 16)
  /-- `SD`, R103: Store a doubleword. -/
  | sd (f : Fin 16) (d : BitVec 5) (a : BitVec 5) (i : BitVec 16)
  /-- `STT`, R104: Store the 12 bytes of a time register, single-copy atomic in the commons. -/
  | stt (f : Fin 16) (d : BitVec 5) (a : BitVec 5) (i : BitVec 16)
  /-- `AADD`, R106: Atomic add at a commons word, returning the old value. -/
  | aadd (f : Fin 16) (d : BitVec 5) (a : BitVec 5) (b : BitVec 5)
  /-- `ASWP`, R106: Atomic swap at a commons word, returning the old value. -/
  | aswp (f : Fin 16) (d : BitVec 5) (a : BitVec 5) (b : BitVec 5)
  /-- `ASET`, R106: Atomic bit set at a commons word, returning the old value. -/
  | aset (f : Fin 16) (d : BitVec 5) (a : BitVec 5) (b : BitVec 5)
  /-- `ACLR`, R106: Atomic bit clear at a commons word, returning the old value. -/
  | aclr (f : Fin 16) (d : BitVec 5) (a : BitVec 5) (b : BitVec 5)
  /-- `AMIN`, R106: Atomic signed minimum at a commons word, returning the old value. -/
  | amin (f : Fin 16) (d : BitVec 5) (a : BitVec 5) (b : BitVec 5)
  /-- `AMAX`, R106: Atomic signed maximum at a commons word, returning the old value. -/
  | amax (f : Fin 16) (d : BitVec 5) (a : BitVec 5) (b : BitVec 5)
  /-- `ACAS`, R106: Atomic compare-and-swap at a commons word, returning the old value. -/
  | acas (f : Fin 16) (d : BitVec 5) (a : BitVec 5) (b : BitVec 5)
  /-- `BR`, R107: Branch always. -/
  | br (f : Fin 16) (o : BitVec 21)
  /-- `BL`, R107: Branch always and write the return address to g31. -/
  | bl (f : Fin 16) (o : BitVec 21)
  /-- `BEQZ`, R107: Branch if g[c] is zero. -/
  | beqz (f : Fin 16) (c : BitVec 5) (o : BitVec 21)
  /-- `BNEZ`, R107: Branch if g[c] is nonzero. -/
  | bnez (f : Fin 16) (c : BitVec 5) (o : BitVec 21)
  /-- `BLTZ`, R107: Branch if g[c] is negative. -/
  | bltz (f : Fin 16) (c : BitVec 5) (o : BitVec 21)
  /-- `BGEZ`, R107: Branch if g[c] is zero or positive. -/
  | bgez (f : Fin 16) (c : BitVec 5) (o : BitVec 21)
  /-- `BTO`, R107: Branch if STATUS.tf is 1. -/
  | bto (f : Fin 16) (o : BitVec 21)
  /-- `BNTO`, R107: Branch if STATUS.tf is 0. -/
  | bnto (f : Fin 16) (o : BitVec 21)
  /-- `JR`, R107: Jump to g[a]. -/
  | jr (f : Fin 16) (a : BitVec 5)
  /-- `JLR`, R107: Write the return address to g[d] and jump to the old g[a]. -/
  | jlr (f : Fin 16) (d : BitVec 5) (a : BitVec 5)
  /-- `ATI`, R108: Hold the next instruction until spine time reaches t[a]. -/
  | ati (f : Fin 16) (d : BitVec 5) (a : BitVec 5)
  /-- `ATI_RELEASE`, R130: In the first core cycle at or after t[a] the held instruction issues alone and g[d] receives 0 or the lateness.
  -/
  | atiRelease (f : Fin 16)
  /-- `WTU`, R111: Wait until a watched 64-bit word differs from g[d], with the mode and deadline of R110. -/
  | wtu (f : Fin 16) (d : BitVec 5) (a : BitVec 5) (b : BitVec 5) (mode : BitVec 2)
  /-- `WFE`, R112: Wait until a selected event line is pending, with the mode and deadline of R110. -/
  | wfe (f : Fin 16) (d : BitVec 5) (a : BitVec 5) (b : BitVec 5) (mode : BitVec 2)
  /-- `QPUSH`, R113: Push g[d] into a queue, waiting for a credit under the mode of R110. -/
  | qpush (f : Fin 16) (d : BitVec 5) (a : BitVec 5) (mode : BitVec 2) (q : BitVec 11)
  /-- `QPOP`, R113: Pop the oldest item of a queue into g[d], waiting under the mode of R110. -/
  | qpop (f : Fin 16) (d : BitVec 5) (a : BitVec 5) (mode : BitVec 2) (q : BitVec 11)
  /-- `WAIT_COMPLETE`, R132: A waiting WTU, WFE, QPOP or QPUSH finds its condition met, completes and clears STATUS.tf. -/
  | waitComplete (f : Fin 16)
  /-- `STAMP`, R115: Write spine time, raw time or a line's latched stamp into t[d]. -/
  | stamp (f : Fin 16) (d : BitVec 5) (i : BitVec 16)
  /-- `EDGE`, R116: Send a scheduled edge to a TIO port's edge queue and return a result code. -/
  | edge (f : Fin 16) (d : BitVec 5) (a : BitVec 5) (b : BitVec 5)
  /-- `TARM`, R117: Arm a measurement unit at once or at t[b] and return a result code. -/
  | tarm (f : Fin 16) (d : BitVec 5) (a : BitVec 5) (b : BitVec 5)
  /-- `SFEED`, R118: Push an offset, its stamp, slot and uncertainty into the servo feed queue and return a result code. -/
  | sfeed (f : Fin 16) (d : BitVec 5) (a : BitVec 5) (b : BitVec 5)
  /-- `TSLEW`, R121: Start a slew of spine time by t[a] at a rate, or refuse it with a code and journal 0x1503. -/
  | tslew (f : Fin 16) (d : BitVec 5) (a : BitVec 5) (b : BitVec 5)
  /-- `TSTEP`, R120: Command a step of spine time by t[a], taking effect at the first spine tick after it reaches the spine. -/
  | tstep (f : Fin 16) (d : BitVec 5) (a : BitVec 5)
  /-- `TSTEP_APPLY`, R120: At the spine tick the step is judged, then applied with a STEP Tally entry or refused with a code and
  journalled. -/
  | tstepApply
  /-- `SLEW_END`, R71: A slew's final interval absorbs the residual and its entry closes with flags.final. -/
  | slewEnd
  /-- `ERET`, R122: Return from a handler: restore PC, mode, ie and optionally t7, and clear inh. -/
  | eret (f : Fin 16)
  /-- `FENCE`, R122: Complete when all earlier memory operations and block commands have been performed. -/
  | fence (f : Fin 16)
  /-- `HALT`, R122: Stop fetching until an interrupt is taken or the Frond is restarted. -/
  | halt (f : Fin 16)
  /-- `MFC`, R122: Read a control word into g[d], subject to the privilege rules of R92. -/
  | mfc (f : Fin 16) (d : BitVec 5) (i : BitVec 12)
  /-- `MTC`, R122: Write g[a] to a control word, subject to R92 and the EVT_CLR rule of R136. -/
  | mtc (f : Fin 16) (a : BitVec 5) (i : BitVec 12)
  /-- `TRAP`, R122: Raise the TRAP exception with the immediate in REASON.trap. -/
  | trap (f : Fin 16) (i : BitVec 16)
  /-- `INTERRUPT_ENTRY`, R137: At an allowed boundary the lowest pending enabled line is taken, t7 is saved and loaded with the line's
  stamp, and the handler starts. -/
  | interruptEntry (f : Fin 16)
  /-- `PERF_COUNTER_OVERFLOW`, R153: A Frond counter carries out of bit span − 1, sets its POVF bit and with irq raises line 63. -/
  | perfCounterOverflow (f : Fin 16) (k : Fin 8)
  /-- `SHARED_COUNTER_OVERFLOW`, R154: A shared counter overflows, sets its PRF_OVF bit and with irq asserts PRF_OVF. -/
  | sharedCounterOverflow (k : Fin 16)
  /-- `FRD_HALT`, R143: FRD_CMD HALT stops the target Frond at the next boundary and makes it STOPPED. -/
  | frdHalt (r : Req) (f : Fin 16)
  /-- `FRD_RESTART`, R143: FRD_CMD RESTART resets and restarts a stopped or faulted loaded Frond from its image entry. -/
  | frdRestart (r : Req) (f : Fin 16)
  /-- `FRD_STAGE`, R145: FRD_CMD STAGE copies an image into the staging buffer and starts its checks. -/
  | frdStage (r : Req) (f : Fin 16)
  /-- `STAGE_COMPLETE`, R145: Staging finishes its header, hash and signature checks and reports OK, BADHDR, MASK or BADSIG. -/
  | stageComplete
  /-- `FRD_SWAP`, R146: FRD_CMD SWAP checks authorisation and starts installing the staged image on a stopped target. -/
  | frdSwap (r : Req) (f : Fin 16)
  /-- `SWAP_COMPLETE`, R146: The installed image starts at its entry in supervisor mode, FRD_IMGn is written and 0x1505 is journalled. -/
  | swapComplete
  /-- `FRD_UNSTAGE`, R143: FRD_CMD UNSTAGE discards the staged image. -/
  | frdUnstage (r : Req) (f : Fin 16)
  /-- `OSC_FREQ_DETECT`, R155: Every 10 µs an unlocked chain measures its input against XTAL_SYS and selects or confirms a frequency code.
  -/
  | oscFreqDetect (c : Fin 2) (hz : Nat)
  /-- `CHAIN_LOCK`, R161: A chain completes its band search and settling, locks, raises its ready bit and journals 0x0703. -/
  | chainLock (c : Fin 2) (ofs : Int) (hit : Int)
  /-- `CHAIN_LOST`, R159: An activity or lock monitor trips; the chain is lost, its ready bit falls and 0x0702 is journalled. -/
  | chainLost (c : Fin 2) (lockMon : Bool) (hit : Int)
  /-- `CROSS_MONITOR_TRIP`, R159: The cross monitor trips and, if no chain is blamed within 1 µs, sets xdispute and journals 0x0704. -/
  | crossMonitorTrip (dep : Int)
  /-- `XDISPUTE_CLEAR`, R159: The relation stays within the window for 1 s and xdispute clears. -/
  | xdisputeClear
  /-- `SYN_OSC_CONFIG_WRITE`, R159: A write changing freq or en of a locked chain takes it out of lock as a lock-monitor trip. -/
  | synOscConfigWrite (r : Req) (c : Fin 2) (v : BitVec 32) (hit : Int)
  /-- `SYN_SWITCH`, R161: SYN_CMD.switch switches to the other timebase with a hit of at most 5 ps, or refuses NOTLOCKED or BUSY. -/
  | synSwitch (r : Req) (hit : Int)
  /-- `TIMEBASE_REVERT`, R161: After the preferred chain has been locked for SYN_RESTORE_WAIT, the engine switches back to it. -/
  | timebaseRevert (hit : Int)
  /-- `SYN_AGEING_COMMIT`, R162: A write of 1 to SYN_AGEx_CMD.commit arms the staged ageing model for the next strobe. -/
  | synAgeingCommit (r : Req) (c : Fin 2)
  /-- `TUNE_CODE_STEP`, R163: Each second in ΔΣ mode the output code moves toward SYN_TUNE_CODE at the slew rate and 0x0706 is journalled.
  -/
  | tuneCodeStep
  /-- `OUT_ENABLE_WRITE`, R169: A write of OUTn_CTL.en moves the channel from OFF to WAIT_SYNC or ends it to OFF. -/
  | outEnableWrite (r : Req) (n : Fin 36) (v : BitVec 32)
  /-- `OUT_FREQ_CHANGE`, R169: A write to OUTn_INC, OUTn_FREQ or mult glides within the band or parks the channel. -/
  | outFreqChange (r : Req) (n : Fin 36) (p : OutPlan)
  /-- `GLIDE_TARGET_REACHED`, R169: A gliding channel reaches its target and returns to RUN. -/
  | glideTargetReached (n : Fin 36)
  /-- `OUT_MDLL_SEARCH_DONE`, R169: The output MDLL locks after its band search and the channel goes to WAIT_SYNC. -/
  | outMdllSearchDone (n : Fin 36)
  /-- `OUT_SYNC_BOUNDARY`, R167: At a sync boundary a waiting channel starts, and a running one removes any residue or flags plan_err. -/
  | outSyncBoundary (n : Fin 36)
  /-- `SYNC_EDGE`, R172: A SYNC input edge sets a new origin and realigns each channel that follows it. -/
  | syncEdge (port : Fin 32)
  /-- `BELL_PULSE`, R173: At a Bell boundary the port places a pulse of the set width, or skips it under R175. -/
  | bellPulse (n : Fin 32)
  /-- `BELL_CONFIG_WRITE`, R173: A write to TIOn_BELL_PERIOD, _OFS, _WIDTH or _ALIGN realigns the Bell, changes its width or restarts
  acquisition. -/
  | bellConfigWrite (q : Req) (n : Fin 32) (r : BellReg) (v : BitVec 32)
  /-- `BELL_ALIGN_INPUT_EDGE`, R174: An input edge is accepted as the Bell's new reference when within its window, or ignored and counted.
  -/
  | bellAlignInputEdge (n : Fin 32)
  /-- `TIO_CFG_WRITE`, R176: A write to TIOn_CFG sets the port function; leaving EDGE discards the taken and queued edges. -/
  | tioCfgWrite (r : Req) (n : Fin 32) (v : BitVec 32)
  /-- `EDGE_TAKE`, R176: The port takes the next queued edge, dropping it if late or too close. -/
  | edgeTake (n : Fin 32)
  /-- `EDGE_PLACE`, R176: At the edge time the port drives the new level. -/
  | edgePlace (n : Fin 32)
  /-- `TOD_OUT_START`, R177: start_ms after the Bell edge a complete queued message starts sending, else it waits and is counted. -/
  | todOutStart (n : Fin 32)
  /-- `TOD_IN_CHARACTER`, R177: A received character is delivered on block queue 0x120 + n with its stamp. -/
  | todInCharacter (n : Fin 32) (byte : BitVec 8) (ferr : Bool) (stamp : Int)
  /-- `LOOPBACK_CAL_BURST`, R179: Every OUT_CAL_PERIOD ms the port's unit is claimed for a burst of 1,024 loop-back measurements. -/
  | loopbackCalBurst (n : Fin 32)
  /-- `LOOPBACK_CAL_COMPLETE`, R179: The burst ends, TIOn_CAL_DELAY is updated or cal_valid cleared with 0x0903, and the claim ends. -/
  | loopbackCalComplete (n : Fin 32)
  /-- `TDC_ARM`, R187: A write of 1 to TDCn_CTL.arm arms the unit at once, or holds the arm until calibration. -/
  | tdcArm (r : Req) (n : Fin 40)
  /-- `TDC_DISARM`, R187: A write of 1 to TDCn_CTL.disarm abandons the run with no item. -/
  | tdcDisarm (r : Req) (n : Fin 40)
  /-- `TDC_SCHEDULED_ARM`, R187: A scheduled arm takes effect at the bin of its raw time. -/
  | tdcScheduledArm (n : Fin 40)
  /-- `TDC_CONFIG_WRITE`, R186: A write to mode, SRC, SKIP or LIMIT applies only while IDLE with an allowed code; otherwise it is ignored
  and journalled 0x0A04. -/
  | tdcConfigWrite (q : Req) (n : Fin 40) (r : TdcReg) (v : BitVec 32)
  /-- `TDC_EDGE_CAPTURE`, R188: A unit captures a start or stop edge and, with both, forms a result item. -/
  | tdcEdgeCapture (n : Fin 40) (src : BitVec 8) (falling : Bool) (cyc : Fin 8) (code : Fin 256)
  /-- `TDC_LIMIT_EXPIRE`, R189: The limit passes without both edges and the unit produces a limit result of 0. -/
  | tdcLimitExpire (n : Fin 40)
  /-- `TDC_REARM`, R186: A CONTINUOUS or STAMP unit re-arms 40 ns after its result. -/
  | tdcRearm (n : Fin 40)
  /-- `TDC_CLAIM_CHANGE`, R184: A claim takes or releases a unit, suspending or abandoning the run in progress. -/
  | tdcClaimChange (n : Fin 40)
  /-- `TDC_STARTUP_CAL_DONE`, R195: After 2 ms of code-density hits every unit holds a valid table and SYS_READY.tdc sets. -/
  | tdcStartupCalDone (temp : BitVec 16) (hits : List (List Nat))
  /-- `TDC_BG_TABLE_READY`, R196: After 2^hist hits a new table is checked and installed, or rejected and counted. -/
  | tdcBgTableReady (n : Fin 40) (temp : BitVec 16) (hits : List Nat)
  /-- `MOSS_ROUND_WAKE`, R199: A MOSS unit wakes before B_k and arms, or skips the round if the last is still running. -/
  | mossRoundWake (n : Fin 40)
  /-- `MOSS_ROUND_END`, R200: A round ends and its mean and spread are judged, with a report or deviation. -/
  | mossRoundEnd (n : Fin 40)
  /-- `MOSS_G_ROUND`, R202: A sleeping GNSS port wakes, captures len_ms ms into the commons and computes its statistics. -/
  | mossGRound (p : Fin 4) (data : List (BitVec 8)) (freq : Option (BitVec 32))
  /-- `MOSS_G_ROUND_END`, R203: The port judges its round, raises a deviation or snapshot wake, and may enter HELD. -/
  | mossGRoundEnd (p : Fin 4)
  /-- `MOSS_G_RELEASE`, R203: A write of 1 to MOSS_Gp_CTL.release leaves HELD. -/
  | mossGRelease (r : Req) (p : Fin 4)
  /-- `RCL_SLOT_CONFIG_WRITE`, R229: A write to RCLn_CFG enables, disables, locks out or configures a slot, or is refused and journalled
  0x0C0C. -/
  | rclSlotConfigWrite (r : Req) (n : Fin 24) (v : BitVec 32)
  /-- `RCL_MEASUREMENT`, R209: A slot measurement updates its raw track and is checked against its frequency and phase windows. -/
  | rclMeasurement (n : Fin 24)
  /-- `RCL_QUAL_TIMER_EXPIRE`, R210: A qualifying slot's timer expires and it becomes QUALIFIED. -/
  | rclQualTimerExpire (n : Fin 24)
  /-- `RCL_MISS`, R211: A miss window passes without a measurement and counts toward a fault. -/
  | rclMiss (n : Fin 24)
  /-- `RCL_COMMIT`, R216: At T_c the switch commits with a build-out and SWITCH entry, or is deferred or refused by the jump check. -/
  | rclCommit
  /-- `RCL_SLEW_START`, R219: A roll-call slew of −B starts, including one that waited for a TSLEW's final entry. -/
  | rclSlewStart
  /-- `RCL_WTR_EXPIRE`, R222: A priority-only better slot's wait-to-restore expires and the switch begins. -/
  | rclWtrExpire (n : Fin 24)
  /-- `RCL_SETTLE_COMPLETE`, R226: A SUSPECT slot settles, returns to QUALIFIED with readmit set and journals 0x0C0A. -/
  | rclSettleComplete (n : Fin 24)
  /-- `RCL_FORCE`, R227: RCL_CMD FORCE makes a slot rank best whenever eligible. -/
  | rclForce (r : Req) (n : Fin 32)
  /-- `RCL_UNFORCE`, R227: RCL_CMD UNFORCE ends a force and resumes normal ranking. -/
  | rclUnforce (r : Req) (n : Fin 32)
  /-- `RCL_READMIT`, R227: RCL_CMD READMIT returns a SUSPECT slot to QUALIFIED as at the end of settle. -/
  | rclReadmit (r : Req) (n : Fin 32)
  /-- `RCL_SKIP_WTR`, R227: RCL_CMD SKIP_WTR ends a wait-to-restore and begins the switch. -/
  | rclSkipWtr (r : Req) (n : Fin 32)
  /-- `RCL_REEVAL`, R227: RCL_CMD REEVAL evaluates selection now. -/
  | rclReeval (r : Req) (n : Fin 32)
  /-- `SERVO_FEED_TAKE`, R234: The servo takes an item from the feed queue, passes it to roll call and uses, refuses or discards it. -/
  | servoFeedTake (q : Fin 3)
  /-- `SPINE_SECOND`, R431: At each spine second the RTC loads spine time and once-per-second duties run. -/
  | spineSecond
  /-- `SERVO_ACCEPT`, R247: SRV_CMD ACCEPT adds J to the build-out and clears the candidate. -/
  | servoAccept (r : Req)
  /-- `SERVO_DISMISS`, R247: SRV_CMD DISMISS clears the candidate and the run. -/
  | servoDismiss (r : Req)
  /-- `SERVO_RESET`, R247: SRV_CMD RESET re-initialises the covariance at the next feed. -/
  | servoReset (r : Req)
  /-- `SERVO_RESTORE`, R256: At the first strobe after a checkpoint restart the servo restores its state, enters HOLD and sets b0. -/
  | servoRestore
  /-- `GNSS_PORT_START`, R263: A port with its clock, enable and domain starts counting samples from 0 and journals 0x0E02. -/
  | gnssPortStart (p : Fin 4)
  /-- `GNSS_PORT_STOP`, R266: A port whose clock has been absent for 1 µs stops its channels and makes its bounds untraceable. -/
  | gnssPortStop (p : Fin 4)
  /-- `GNSS_PORT_CONFIG_WRITE`, R266: A change to l1, l5 or tdc while the port runs stops its channels and restarts the port. -/
  | gnssPortConfigWrite (r : Req) (p : Fin 4) (v : BitVec 32)
  /-- `GNSS_EPOCH`, R272: At each port epoch the engine stamps it and latches every running channel's NCO state. -/
  | gnssEpoch (p : Fin 4) (ofs : Fin 131072) (d1 : List (BitVec 8)) (d5 : List (BitVec 8))
  /-- `GNSS_DUMP_READY`, R278: Once an epoch's latches and dumps are visible, GNS_DUMPp asserts with the epoch stamp. -/
  | gnssDumpReady (p : Fin 4)
  /-- `GNSS_CHANNEL_START`, R273: A channel start is refused, made PENDING, or propagated and entered into RUN. -/
  | gnssChannelStart (r : Req) (c : Fin 512) (dt : Fin 81840)
  /-- `GNSS_CHANNEL_STOP`, R273: A channel stop takes effect at the next sample and stops a paired channel. -/
  | gnssChannelStop (r : Req) (c : Fin 512)
  /-- `GNSS_CHANNEL_COMMIT`, R274: A channel commit hands the staged rates and steps to a later dump boundary. -/
  | gnssChannelCommit (r : Req) (c : Fin 512)
  /-- `GNSS_PENDING_START`, R273: At start_sample a PENDING channel loads its phases and rates and enters RUN. -/
  | gnssPendingStart (c : Fin 512)
  /-- `GNSS_DUMP_BOUNDARY`, R277: At a dump boundary the channel applies any due commit and pushes its accumulations to the dump queue. -/
  | gnssDumpBoundary (c : Fin 512) (data : List (BitVec 8))
  /-- `GNSS_DUMP_RING_WRITE`, R277: The writer appends a dump to the port's ring, or drops it and counts it when full. -/
  | gnssDumpRingWrite (p : Fin 4)
  /-- `GNSS_XLATCH_ARM`, R280: A write of GNS_XLATCH_CTL.arm arms a cross-port latch at T, or refuses it. -/
  | gnssXlatchArm (r : Req)
  /-- `GNSS_XLATCH_CAPTURE`, R280: Each named port latches its channels at its first sample at or after T, and GNS_XLATCH asserts when all
  have. -/
  | gnssXlatchCapture (p : Fin 4)
  /-- `GNSS_SOL_BOUND_WRITE`, R286: A write of GNS_SOLa_BOUND sets a solution bound and journals any change of traceability. -/
  | gnssSolBoundWrite (r : Req) (a : Fin 5) (v : BitVec 32)
  /-- `GNSS_SOL_BOUND_EXPIRE`, R286: A bound not rewritten within GNS_SOL_TIMEOUT becomes untraceable and 0x0E07 is journalled. -/
  | gnssSolBoundExpire (a : Fin 5)
  /-- `GNSS_ACQ_SUBMIT`, R289: A slot number is submitted for acquisition, or dropped when 64 requests wait. -/
  | gnssAcqSubmit (r : Req) (slot : Fin 64)
  /-- `GNSS_ACQ_REQUEST_START`, R290: The next request starts, capturing its blocks or refusing as BADREQ, NOPORT or SCRATCH. -/
  | gnssAcqRequestStart
  /-- `GNSS_ACQ_REQUEST_COMPLETE`, R289: A request finishes, writes its result, asserts GNS_ACQ and optionally pushes an item. -/
  | gnssAcqRequestComplete
  /-- `GNSS_SNAP_GO`, R292: GNS_SNAP_CTL.go starts a snapshot or refuses it with RANGE, NOPORT or BUSY. -/
  | gnssSnapGo (r : Req)
  /-- `GNSS_SNAP_ABORT`, R292: GNS_SNAP_CTL.abort ends a capture in progress. -/
  | gnssSnapAbort (r : Req)
  /-- `GNSS_SNAP_CAPTURE_START`, R292: Each named port starts capturing at its first epoch at or after the start time. -/
  | gnssSnapCaptureStart (p : Fin 4)
  /-- `GNSS_SNAP_COMPLETE`, R292: When every port has finished, GNS_SNAP asserts and 0x0E06 is journalled. -/
  | gnssSnapComplete
  /-- `MAC_MODE_WRITE`, R296: A write of MACn_CTL.mode sets or bonds the lane and resets it, or is refused and journalled 0x0F0A. -/
  | macModeWrite (r : Req) (n : Fin 32) (v : BitVec 32)
  /-- `LINK_UP`, R320: A lane's link comes up, is journalled 0x0F01 and starts self-calibration. -/
  | linkUp (n : Fin 32) (rxLat : BitVec 32) (txLat : BitVec 32)
  /-- `LINK_DOWN`, R321: A lane's link drops and its pending timed frames are dropped with status 2. -/
  | linkDown (n : Fin 32)
  /-- `FRAME_RECEIVE`, R299: A received frame is stamped, filtered and sent to the pipeline, general ring or ESMC handler, or dropped
  under one cause. -/
  | frameReceive (n : Fin 32) (x : Rx)
  /-- `MAC_CNT_SNAP`, R300: A write of MACn_CNT_SNAP.snap latches every lane counter and the in-flight counts at one block boundary. -/
  | macCntSnap (r : Req) (n : Fin 32) (on : Bool)
  /-- `TIMED_REQUEST`, R305: A lane reserves the first eligible slot for a timed frame and returns its departure time D. -/
  | timedRequest (n : Fin 32)
  /-- `LAUNCH_READY_LINE`, R307: At σ − 300 ns a frame not in the launch buffer is reslotted, or dropped after too many reslots. -/
  | launchReadyLine (n : Fin 32)
  /-- `FRAME_LAUNCH`, R306: At σ the lane starts the timed frame's start block and later completes it. -/
  | frameLaunch (n : Fin 32)
  /-- `TX_DESCRIPTOR_SUBMIT`, R309: A Frond descriptor on queue 0x180 + n is refused, sent as a general frame, or scheduled as a timed
  frame. -/
  | txDescriptorSubmit (n : Fin 32)
  /-- `PREEMPT_STATE_CHANGE`, R311: The 802.3br verify process changes the preemption state and 0x0F06 is journalled. -/
  | preemptStateChange (n : Fin 32) (st : BitVec 2)
  /-- `ESMC_TIMEOUT`, R313: No information PDU for 5 s sets timeout and code 15, counting as a miss at once. -/
  | esmcTimeout (n : Fin 32)
  /-- `ESMC_INFO_TX`, R314: Each second the lane sends an ESMC information PDU, and an event PDU at once on a code change. -/
  | esmcInfoTx (n : Fin 32)
  /-- `MAC_SELF_CAL`, R318: A write of MACn_CAL_CTL.run starts self-calibration, or is refused while listening. -/
  | macSelfCal (r : Req) (n : Fin 32)
  /-- `MAC_SELF_CAL_COMPLETE`, R318: Self-calibration ends, trims the constants and sets cal_valid, or journals 0x0F09. -/
  | macSelfCalComplete (n : Fin 32) (res : Int)
  /-- `TSV_PACKET_TAKE`, R347: The pipeline takes a time-class item, counts it and polices it, and routes it by message kind or drops it.
  -/
  | tsvPacketTake (n : Fin 32)
  /-- `NTP_REQUEST`, R341: An unauthenticated NTP mode 3 request is answered with a timed response, or dropped. -/
  | ntpRequest
  /-- `NTS_REQUEST`, R342: An NTS request is checked, its cookie opened and verified, and answered, NAKed or dropped. -/
  | ntsRequest
  /-- `PTP_DELAY_REQ`, R331: A Delay_Req is answered with a Delay_Resp, or dropped under NO_SESSION. -/
  | ptpDelayReq
  /-- `PTP_PDELAY_REQ`, R331: A Pdelay_Req is answered with a Pdelay_Resp and, in family 5, a follow-up. -/
  | ptpPdelayReq
  /-- `PTP_PDELAY_RESP`, R331: A Pdelay_Resp or follow-up for a peer context updates its link delay and asCapable. -/
  | ptpPdelayResp
  /-- `PTP_UNICAST_SIGNALING`, R336: A unicast negotiation request is granted, refused, renewed or cancelled. -/
  | ptpUnicastSignaling
  /-- `PTP_FOREIGN_MESSAGE`, R331: An Announce, Sync or Follow_Up from another clock is forwarded and counted. -/
  | ptpForeignMessage
  /-- `PTP_FORWARD_MESSAGE`, R333: A Management or other Signaling message is written to the forward ring. -/
  | ptpForwardMessage
  /-- `UPSTREAM_MESSAGE`, R340: A message from an upstream master is verified and advances its session and offset computation. -/
  | upstreamMessage
  /-- `PTP_MULTICAST_TX`, R331: At each interval multiple the pipeline sends multicast Sync or Announce per enabled transport. -/
  | ptpMulticastTx (n : Fin 32)
  /-- `PTP_PDELAY_REQ_TX`, R331: The pipeline initiates a Pdelay_Req on a family 5 lane at its interval. -/
  | ptpPdelayReqTx (n : Fin 32)
  /-- `PTP_UNICAST_SYNC_TX`, R336: A session's Sync falls due and is sent while its grant is live. -/
  | ptpUnicastSyncTx (i : Fin 16384)
  /-- `UNICAST_GRANT_EXPIRE`, R335: A grant expires and the entry is freed when no grant remains. -/
  | unicastGrantExpire (i : Fin 16384)
  /-- `UPSTREAM_SESSION_ENABLE`, R340: A write of TSV_UPu_CTL.en allocates or frees the session entry and starts or stops the session. -/
  | upstreamSessionEnable (r : Req) (u : Fin 8) (v : BitVec 32)
  /-- `UPSTREAM_DELAY_REQ_TX`, R338: An upstream session sends a sealed timed Delay_Req at its interval. -/
  | upstreamDelayReqTx (u : Fin 8)
  /-- `UPSTREAM_GRANT_RENEW`, R338: An upstream session requests or renews its grants at half their duration. -/
  | upstreamGrantRenew (u : Fin 8)
  /-- `UPSTREAM_ANNOUNCE_TIMEOUT`, R340: No Announce for announceReceiptTimeout intervals returns the session to LISTEN. -/
  | upstreamAnnounceTimeout (u : Fin 8)
  /-- `UPSTREAM_SETTLE_COMPLETE`, R340: A HOLDJ session's offsets agree for SETTLE s and it returns to FEED. -/
  | upstreamSettleComplete (u : Fin 8)
  /-- `UPSTREAM_RESUME`, R340: TSV_UPu_CMD.resume returns a HOLDJ session to FEED. -/
  | upstreamResume (r : Req) (u : Fin 8)
  /-- `SEALED_MESSAGE_SUBMIT`, R333: Firmware submits a PTP message on queue 0x201 to be sealed and sent, with a completion on 0x202. -/
  | sealedMessageSubmit
  /-- `COOKIE_ROTATION`, R344: At each rotation period the KEY block derives the next cookie generation, or the rotation fails and retries
  each minute. -/
  | cookieRotation
  /-- `KE_SIGN`, R345: An NTS-KE SIGN descriptor signs a TLS 1.3 server CertificateVerify with the signing locker. -/
  | keSign
  /-- `KE_MINT`, R345: An NTS-KE MINT descriptor writes count cookies for the given keys. -/
  | keMint
  /-- `TSV_CNT_SNAP`, R347: A write of TSV_CNT_SNAP.snap latches every TSV counter and the in-flight count. -/
  | tsvCntSnap (r : Req) (on : Bool)
  /-- `TRNG_RESEED`, R354: The TRNG reseeds the DRBG every second and after 2^20 requests. -/
  | trngReseed
  /-- `TRNG_HEALTH_FAIL`, R354: A health test fails, trng_fail sets, reseeding stops and 0x110C is journalled. -/
  | trngHealthFail (test : Bool)
  /-- `KEY_UNSEAL`, R371: KEY_CMD UNSEAL sets KEY_MCHAIN, selects a slot and unseals the lockers, or ends NOMATCH or FAILED. -/
  | keyUnseal (r : Req)
  /-- `KEY_UPDATE_IMPORT`, R365: An IMPORT update message unwraps an owner's key into a locker after the checks of R366. -/
  | keyUpdateImport (r : Req)
  /-- `KEY_UPDATE_GENERATE`, R365: A GENERATE update message draws a locker key from the TRNG. -/
  | keyUpdateGenerate (r : Req)
  /-- `KEY_UPDATE_DERIVE`, R365: A DERIVE update message defines a derived locker under a master. -/
  | keyUpdateDerive (r : Req)
  /-- `KEY_UPDATE_ERASE`, R365: An ERASE update message clears and frees a locker. -/
  | keyUpdateErase (r : Req)
  /-- `KEY_UPDATE_OWNER`, R364: An OWNER update message enrols or replaces an owner key. -/
  | keyUpdateOwner (r : Req)
  /-- `KEY_UPDATE_RESEAL`, R372: A RESEAL update message reseals the lockers to a manifest. -/
  | keyUpdateReseal (r : Req)
  /-- `KEY_UPDATE_PAIR`, R365: A PAIR update message defines a pair locker. -/
  | keyUpdatePair (r : Req)
  /-- `KEY_COMMIT_COMPLETE`, R367: After the slot write, the counter is incremented, the commit bit written and the locker installed with
  0x1104. -/
  | keyCommitComplete (ok : Bool)
  /-- `KEY_AUTHORISE`, R374: KEY_CMD AUTHORISE from F0 holds a migration authorisation for one SWAP for 10 s. -/
  | keyAuthorise (r : Req) (f : Fin 16)
  /-- `KEY_AUTHORISE_EXPIRE`, R374: An authorisation not used within 10 s lapses. -/
  | keyAuthoriseExpire (f : Fin 16)
  /-- `KEY_PREPARE`, R373: KEY_CMD PREPARE writes the inactive slot with a prepared manifest. -/
  | keyPrepare (r : Req)
  /-- `KEY_ATTEST`, R356: KEY_CMD ATTEST writes a signed LOCKER statement. -/
  | keyAttest (r : Req) (k : Fin 1024)
  /-- `KEY_QUOTE`, R356: KEY_CMD QUOTE writes a signed QUOTE statement. -/
  | keyQuote (r : Req)
  /-- `KEY_CSR`, R357: KEY_CMD CSR signs a CertificationRequestInfo for the identity key, or refuses with ATTR. -/
  | keyCsr (r : Req)
  /-- `KEY_TRANSPORT`, R357: KEY_CMD TRANSPORT writes the TRANSPORT statement with the transport public key. -/
  | keyTransport (r : Req)
  /-- `KEY_PIN`, R378: KEY_CMD PIN pins the presented partner identity and pairs again. -/
  | keyPin (r : Req)
  /-- `KEY_USE_SEAL`, R362: A SEAL use descriptor performs AES-SIV sealing with an ENC_ONLY locker. -/
  | keyUseSeal
  /-- `KEY_USE_OPEN`, R362: An OPEN use descriptor performs AES-SIV opening with a DEC_ONLY locker. -/
  | keyUseOpen
  /-- `KEY_USE_WRAP`, R362: A WRAP use descriptor wraps an exportable locker under a WRAP_ONLY locker. -/
  | keyUseWrap
  /-- `KEY_USE_MAC`, R362: A MAC use descriptor computes an authentication code with a SIGN_ONLY locker. -/
  | keyUseMac
  /-- `KEY_USE_VERIFY`, R362: A VERIFY use descriptor checks an authentication code and reports pass or fail. -/
  | keyUseVerify
  /-- `KEY_USE_SIGN`, R362: A SIGN use descriptor makes an ECDSA signature over a hash with a P-384 locker. -/
  | keyUseSign
  /-- `KEY_USE_PUBKEY`, R362: A PUBKEY use descriptor writes the public key of a P-384 locker. -/
  | keyUsePubkey
  /-- `KEY_REMASK`, R369: Every 10 s or 2^20 uses the engine re-masks the locker shares. -/
  | keyRemask
  /-- `TWIN_CONFIG_WRITE`, R383: A write of TWN_CTL.en enters or leaves twin operation. -/
  | twinConfigWrite (r : Req) (v : BitVec 32)
  /-- `TWIN_LINK_UP`, R377: The twin link comes up and the engines pair, or refuse on a pin mismatch. -/
  | twinLinkUp (p : PairMsg)
  /-- `TWIN_CLAIM`, R385: After the claim wait with no active partner, a LISTEN unit drives TWN_ACTIVE_N and opens its gate. -/
  | twinClaim
  /-- `TWIN_HEARTBEAT_SEND`, R388: A unit sends a heartbeat message on the twin link every 250 µs. -/
  | twinHeartbeatSend
  /-- `TWIN_HEARTBEAT_RECEIVE`, R387: A partner heartbeat arrives on the link or pin, clearing silence and detecting dual-active. -/
  | twinHeartbeatReceive (h : HbIn)
  /-- `TWIN_PARTNER_LOST`, R389: Both paths are silent for 3 ms; the partner is lost and the standby takes the token if the pin is high.
  -/
  | twinPartnerLost
  /-- `TWIN_FAULT_RECEIVE`, R389: A FAULT message makes the partner lost at once. -/
  | twinFaultReceive
  /-- `TWIN_YIELD_REQUEST_RECEIVE`, R397: The active unit receives a YIELD request and yields unless FAILED. -/
  | twinYieldRequestReceive
  /-- `TWIN_YIELD_RECEIVE`, R384: A standby receives YIELD and takes the token. -/
  | twinYieldReceive
  /-- `TWIN_KICK`, R388: A write of TWN_KICK.kick restarts the kick period. -/
  | twinKick (r : Req)
  /-- `TWIN_KICK_LAPSE`, R388: The kick period lapses, heartbeats stop and an active unit goes to LISTEN. -/
  | twinKickLapse
  /-- `SATCHEL_APPLY`, R392: The standby checks a satchel and applies its parts, or refuses it and requests a resync. -/
  | satchelApply (l : List Byte)
  /-- `TWIN_COMPARE_SECOND`, R396: The standby measures δ and the frequency difference and judges a deviating second. -/
  | twinCompareSecond
  /-- `TWIN_YIELD_TIMEOUT`, R397: No YIELD within 10 ms sets yield_timeout. -/
  | twinYieldTimeout
  /-- `TWIN_SWAP`, R398: TWN_CMD.swap schedules a handover or refuses it. -/
  | twinSwap (b : TwnBy) (cmpOk : Bool)
  /-- `TWIN_SWAP_ABORT`, R398: TWN_CMD.abort cancels a pending swap. -/
  | twinSwapAbort (b : TwnBy)
  /-- `TWIN_RESYNC`, R392: TWN_CMD.resync starts a resync of every kind 1 entry. -/
  | twinResync (b : TwnBy)
  /-- `TWIN_SWAP_HANDOVER`, R398: At the scheduled time the active unit closes its gate and sends YIELD. -/
  | twinSwapHandover (cmpOk : Bool)
  /-- `TWIN_SWAP_BACK`, R399: Within the swap check a new active unit losing calibration or link yields back. -/
  | twinSwapBack
  /-- `TWIN_REVERT_WTR_EXPIRE`, R401: A standby primary meeting the revert conditions for TWN_WTR seconds requests a swap. -/
  | twinRevertWtrExpire
  /-- `ALIAS_WRITE`, R410: A write to the bit-set or bit-clear alias performs an indivisible set or clear, or is discarded and counted. -/
  | aliasWrite (r : Req) (clear : Bool) (x : BitVec 24) (vs : List (BitVec 8))
  /-- `DOORBELL_SET`, R413: A write of 1 to a doorbell's set bit sets pending and asserts its source. -/
  | doorbellSet (r : Req) (c : Fin 4) (f2h : Bool)
  /-- `DOORBELL_CLEAR`, R413: A write of 1 to a doorbell's clear bit clears pending. -/
  | doorbellClear (r : Req) (c : Fin 4) (f2h : Bool)
  /-- `MEM_TEST_REGION`, R415: Every MEM_TEST_CTL.ms the engine tests one region through its shadow and scrubs it. -/
  | memTestRegion (fails : Bool)
  /-- `PWR_ON`, R424: PWR_CMD state ON wakes a domain, or aborts or holds a transition in progress. -/
  | pwrOn (r : Req) (d : Fin 64) (past : Bool)
  /-- `PWR_IDLE`, R424: PWR_CMD state IDLE gates a domain's functional clocks. -/
  | pwrIdle (r : Req) (d : Fin 64)
  /-- `PWR_MOSS`, R428: PWR_CMD state MOSS hands a domain to the duty-cycle controller. -/
  | pwrMoss (r : Req) (d : Fin 64)
  /-- `PWR_RETAIN`, R424: PWR_CMD state RETAIN signs and lowers a domain or bank to retention. -/
  | pwrRetain (r : Req) (d : Fin 64)
  /-- `PWR_OFF`, R424: PWR_CMD state OFF quiesces a domain, writes its save list and removes its supply. -/
  | pwrOff (r : Req) (d : Fin 64)
  /-- `PWR_TRANSITION_COMPLETE`, R424: A transition completes, sets done and journals 0x0201. -/
  | pwrTransitionComplete (flips : List (Nat × BitVec 8))
  /-- `PERIODIC_CHECKPOINT`, R442: At every tenth millisecond strobe the engine writes a periodic checkpoint. -/
  | periodicCheckpoint (bad : List (Fin 20))
  /-- `CHECKPOINT_WRITE_COMPLETE`, R442: A checkpoint write completes and PWR_CKPTS increments. -/
  | checkpointWriteComplete
  /-- `PFAIL_WARNING`, R443: A 1 µs fall of PFAIL_N freezes the engine and starts the final checkpoint. -/
  | pfailWarning (step3 : Bool)
  /-- `FINAL_CHECKPOINT_COMPLETE`, R443: The final checkpoint completes and the pointer moves to it. -/
  | finalCheckpointComplete
  /-- `PFAIL_RELEASE`, R444: PFAIL_N high again after a final checkpoint holds reset for 10 ms and restarts. -/
  | pfailRelease
  /-- `RESET_N_ASSERT`, R432: RESET_N held low for 1 µs takes a checkpoint and resets the chip. -/
  | resetNAssert (step3 : Bool)
  /-- `VDD_AON_POWER_ON`, R432: VDD_AON comes up and the chip resets with cause 1. -/
  | vddAonPowerOn
  /-- `VDD_CORE_LOSS`, R430: VDD_CORE fails and the chip enters LICHEN. -/
  | vddCoreLoss (step3 : Bool)
  /-- `VDD_CORE_RETURN`, R432: VDD_CORE returns after LICHEN and the chip resets with cause 2. -/
  | vddCoreReturn
  /-- `CHIP_RESET`, R433: A chip reset starts every domain ON, clears memories and begins start-up. -/
  | chipReset (wrapOk : Bool) (ran : BitVec 63)
  /-- `RESTART_RESTORE`, R445: At start-up the engine restores the newest valid checkpoint or starts cold, writing EPOCH. -/
  | restartRestore (ran : BitVec 63)
  /-- `CONFIG_SLOT_APPLY`, R436: The boot sequencer selects a configuration slot and applies its records, or applies defaults. -/
  | configSlotApply (errA : Bool) (errB : Bool)
  /-- `PREFECT_BOOT_LOAD`, R438: The boot sequencer verifies and loads the Prefect image and starts F0. -/
  | prefectBootLoad
  /-- `FLASH_READ`, R439: CFG_FLASH_CMD READ copies flash bytes to the commons. -/
  | flashRead (r : Req)
  /-- `FLASH_PROGRAM`, R439: CFG_FLASH_CMD PROGRAM writes bytes from the commons to flash. -/
  | flashProgram (r : Req)
  /-- `FLASH_ERASE`, R439: CFG_FLASH_CMD ERASE clears a 64 KiB sector. -/
  | flashErase (r : Req)
  /-- `FLASH_COMPLETE`, R439: A flash command finishes and writes its result. -/
  | flashComplete (ok : Bool)
  /-- `PCIE_FUNCTION_RESET`, R463: A hot reset or FLR resets PD_HOST, the MSI-X table, PBA and PEND. -/
  | pcieFunctionReset (hot : Bool)
  /-- `MULTIWORD_LO_READ`, R457: A read of a _LO word loads the requester's latch with the upper words. -/
  | multiwordLoRead (q : Req) (cfg : Bool) (a : BitVec 24)
  /-- `MULTIWORD_LOWER_WRITE`, R458: A write to a lower word is held in the requester's stage. -/
  | multiwordLowerWrite (q : Req) (a : BitVec 24) (v : BitVec 32)
  /-- `MULTIWORD_HIGH_WRITE`, R458: A write to the highest word applies the staged words and itself in one cycle. -/
  | multiwordHighWrite (q : Req) (a : BitVec 24) (v : BitVec 32)
  /-- `BAD_ACCESS`, R455: An access of wrong width, to an unmapped offset or past a memory completes without effect and is counted. -/
  | badAccess (q : Req) (a : BitVec 26) (n : Nat) (wr : Bool)
  /-- `MGMT_SPI_READ`, R464: A management SPI read transaction returns words of the subset. -/
  | mgmtSpiRead (early : Bool) (a : BitVec 24) (k : Nat) (cut : Bool)
  /-- `MGMT_SPI_WRITE`, R464: A management SPI write transaction writes words of the subset. -/
  | mgmtSpiWrite (early : Bool) (a : BitVec 24) (vs : List (BitVec 32)) (cut : Bool)
  /-- `JTAG_BYPASS`, R486: The TAP executes BYPASS. -/
  | jtagBypass (tdi : List Bool)
  /-- `JTAG_IDCODE`, R486: The TAP returns IDCODE. -/
  | jtagIdcode
  /-- `JTAG_SAMPLE_PRELOAD`, R486: The TAP samples or preloads the boundary register. -/
  | jtagSamplePreload (pins : List Bool) (tdi : List Bool)
  /-- `JTAG_EXTEST`, R486: EXTEST drives the boundary register while RESET_N is low, else acts as BYPASS. -/
  | jtagExtest (pins : List Bool) (tdi : List Bool)
  /-- `JTAG_CLAMP`, R486: CLAMP holds the boundary outputs while RESET_N is low, else acts as BYPASS. -/
  | jtagClamp (tdi : List Bool)
  /-- `JTAG_HIGHZ`, R486: HIGHZ releases the outputs while RESET_N is low, else acts as BYPASS. -/
  | jtagHighz (tdi : List Bool)
  /-- `JTAG_DEBUG_UNLOCK`, R487: A signed unlock statement enables debug while keys are not OPEN and journals 0x0106. -/
  | jtagDebugUnlock (sig : Bytes)
  /-- `REGISTER_WRITE`, R13: A write to a register with no row of its own sets its RW, W1C and W1S fields. -/
  | registerWrite (q : Req) (cfg : Bool) (a : BitVec 24) (v : BitVec 32)
  /-- `TWN_ACTIVE_N_CHANGE`, R384: The shared open-drain TWN_ACTIVE_N line changes level, moving a LISTEN unit to STANDBY when it falls
  and deciding whether a unit that has lost its partner may take the token. -/
  | twnActiveNChange (low : Bool)
  /-- `TWIN_LINK_DOWN`, R390: The twin link goes down: satchels stop, SYS_READY.twin and TWN_STATUS.link and current clear, and heartbeats
  continue on the pins only. -/
  | twinLinkDown
  /-- `TIO_VDDO_CHANGE`, R178: The VDDO supply of a TIO group appears, disappears or changes level, updating TIO_VDDO and setting or
  clearing std_err and the pad drivers of its ports. -/
  | tioVddoChange (g : Fin 4) (level : BitVec 2)
  /-- `VDD_AON_LOSS`, R431: VDD_AON falls below 1.40 V, and the RTC and the Lichen store with its checkpoints and commit bit are lost. -/
  | vddAonLoss
  /-- `PERST_N_ASSERT`, R485: The PERST_N pin is asserted and resets PD_HOST only. -/
  | perstNAssert
  /-- `KEY_SLOT_WRITE_COMPLETE`, R373: The QSPI slot write of a PREPARE or PIN completes, sets the prepared manifest or the pin, sets
  KEY_RESULT done and journals 0x1109 or 0x110B, or fails with FLASH and 0x110D. -/
  | keySlotWriteComplete (ok : Bool)
  deriving DecidableEq, Repr

end Sys2Proof
end

