-- ==== Sys2Proof/WellFormed.lean ====
section
/-!
DEFINITION. Which commands are well formed: what their operand types leave open. A sender sends well-formed commands; every meaning is
total, so that an ill-formed command has an effect too, but one that no event of the hardware has.
-/

namespace Sys2Proof
open Machine

/-- Each domain returns at most one copy at a strobe (R28). -/
def syncsOk (sy : List (Fin 24 × BitVec 48)) : Bool := decide (sy.map (·.1)).Nodup

/-- Byte counts of one access (R93, R103, R104, R454). -/
def accessSizeOk (n : Nat) : Bool := decide (n ∈ [1, 2, 4, 8, 16])

/-- A spine time is never before 0:0.0 (R6). -/
def timeNonneg (z : Int) : Bool := decide (0 ≤ z)

/-- The partner names a time of its swap. -/
def twnByOk : TwnBy → Bool
  | .own _ => true
  | .partner _ t => timeNonneg t

/-- Operands that their types do not bound. -/
def Instr.wf : Instr → Bool
  | .millisecondStrobe sy => syncsOk sy
  | .interruptSourceAssert _ t => timeNonneg t
  | .todInCharacter _ _ _ t => timeNonneg t
  | .aliasWrite _ _ _ vs => decide (vs ≠ [])
  | .badAccess q a n _ => accessSizeOk n && decide (a.toNat + n ≤ if q = .spi then 0x1000000 else 0x3000000)
  | .twinSwap b _ => twnByOk b
  | .twinSwapAbort b => twnByOk b
  | .twinResync b => twnByOk b
  | .multiwordLoRead q cfg _ => !cfg || decide (q = .host)
  | .registerWrite q cfg _ _ => !cfg || decide (q = .host)
  | _ => true

end Sys2Proof
end

