-- ==== Sys2Proof/Decode.lean ====
section
/-!
DEFINITION. The words of commands. The rows of the command table give no bits, so no word spells a command there. The instructions of a
Frond have words of their own: their decoder and encoder follow the formats and opcodes of R96 to R122.
-/

namespace Sys2Proof

/-- The command that a word spells by the table's bits: the table gives no row any bits. -/
def decodeTableWord (_nbits _w : Nat) : Option Instr := none

/-! ## Fields of an instruction word (R96) -/

/-- `k` bits of a word from bit `lo` on. -/
def fieldOf (w : BitVec 32) (lo k : Nat) : BitVec k := BitVec.ofNat k (w.toNat / 2 ^ lo)

def majorOf (w : BitVec 32) : Nat := (fieldOf w 26 6).toNat
def dOf (w : BitVec 32) : BitVec 5 := fieldOf w 21 5
def aOf (w : BitVec 32) : BitVec 5 := fieldOf w 16 5
def bOf (w : BitVec 32) : BitVec 5 := fieldOf w 11 5
def funcOf (w : BitVec 32) : Nat := (fieldOf w 0 11).toNat
def immOf (w : BitVec 32) : BitVec 16 := fieldOf w 0 16
def ofsOf (w : BitVec 32) : BitVec 21 := fieldOf w 0 21

/-- Register format: major, d, a, b, func. -/
def wordR (major : Nat) (d a b : BitVec 5) (func : Nat) : BitVec 32 :=
  BitVec.ofNat 32 (major * 2 ^ 26 + d.toNat * 2 ^ 21 + a.toNat * 2 ^ 16 + b.toNat * 2 ^ 11 + func)

/-- Immediate and system formats: major, d, a, imm. -/
def wordI (major : Nat) (d a : BitVec 5) (imm : Nat) : BitVec 32 :=
  BitVec.ofNat 32 (major * 2 ^ 26 + d.toNat * 2 ^ 21 + a.toNat * 2 ^ 16 + imm)

/-- Branch format: major, c, offset. -/
def wordB (major : Nat) (c : BitVec 5) (o : BitVec 21) : BitVec 32 :=
  BitVec.ofNat 32 (major * 2 ^ 26 + c.toNat * 2 ^ 21 + o.toNat)

/-- Queue format: major, d, a, mode, three zeros, queue. -/
def wordQ (major : Nat) (d a : BitVec 5) (mode : BitVec 2) (q : BitVec 11) : BitVec 32 :=
  BitVec.ofNat 32 (major * 2 ^ 26 + d.toNat * 2 ^ 21 + a.toNat * 2 ^ 16 + mode.toNat * 2 ^ 14 + q.toNat)

/-! ## Decoder -/

/-- An instruction whose unused field holds 0 (R96). -/
def unusedZero {k : Nat} (x : BitVec k) (i : Instr) : Option Instr := if x = 0 then some i else none

/-- The ALU group (R98). -/
def decodeAlu (f : Fin 16) (d a b : BitVec 5) : Nat → Option Instr
  | 0x000 => some (.add f d a b)
  | 0x001 => some (.sub f d a b)
  | 0x002 => some (.and f d a b)
  | 0x003 => some (.or f d a b)
  | 0x004 => some (.xor f d a b)
  | 0x005 => some (.nor f d a b)
  | 0x006 => some (.slt f d a b)
  | 0x007 => some (.sltu f d a b)
  | 0x008 => some (.sll f d a b)
  | 0x009 => some (.srl f d a b)
  | 0x00A => some (.sra f d a b)
  | 0x00B => some (.min f d a b)
  | 0x00C => some (.max f d a b)
  | 0x00D => some (.minu f d a b)
  | 0x00E => some (.maxu f d a b)
  | 0x00F => unusedZero b (.clz f d a)
  | 0x010 => unusedZero b (.popc f d a)
  | _ => none

/-- The shift-immediate group: imm[15:8] = 0 and imm[7:6] the shift (R98). -/
def decodeShift (f : Fin 16) (d a : BitVec 5) (i : BitVec 16) : Option Instr :=
  let n : BitVec 6 := BitVec.ofNat 6 i.toNat
  match i.toNat / 64 with
  | 0 => some (.slli f d a n)
  | 1 => some (.srli f d a n)
  | 2 => some (.srai f d a n)
  | _ => none

/-- The multiply/divide group (R99). -/
def decodeMul (f : Fin 16) (d a b : BitVec 5) : Nat → Option Instr
  | 0x000 => some (.mullo f d a b)
  | 0x001 => some (.mulss f d a b)
  | 0x002 => some (.muluu f d a b)
  | 0x003 => some (.mulsu f d a b)
  | 0x004 => some (.divs f d a b)
  | 0x005 => some (.divu f d a b)
  | _ => none

/-- The time group (R100). -/
def decodeTime (f : Fin 16) (d a b : BitVec 5) : Nat → Option Instr
  | 0x000 => some (.tadd f d a b)
  | 0x001 => some (.tsub f d a b)
  | 0x002 => some (.taddd f d a b)
  | 0x003 => some (.tsubd f d a b)
  | 0x004 => unusedZero b (.tneg f d a)
  | 0x005 => unusedZero b (.tmov f d a)
  | 0x006 => some (.tcmp f d a b)
  | 0x007 => some (.tcmpd f d a b)
  | 0x008 => some (.tscl f d a b)
  | 0x009 => some (.tjoin f d a b)
  | 0x00A => unusedZero b (.tsecs f d a)
  | 0x00B => unusedZero b (.tfrac f d a)
  | 0x00C => unusedZero b (.tfrg f d a)
  | 0x00D => unusedZero b (.ttog f d a)
  | _ => none

/-- The atomic group (R106). -/
def decodeAtomic (f : Fin 16) (d a b : BitVec 5) : Nat → Option Instr
  | 0x000 => some (.aadd f d a b)
  | 0x001 => some (.aswp f d a b)
  | 0x002 => some (.aset f d a b)
  | 0x003 => some (.aclr f d a b)
  | 0x004 => some (.amin f d a b)
  | 0x005 => some (.amax f d a b)
  | 0x006 => some (.acas f d a b)
  | _ => none

/-- The system group (R122). -/
def decodeSystem (f : Fin 16) : Nat → Option Instr
  | 0x000 => some (.eret f)
  | 0x001 => some (.fence f)
  | 0x002 => some (.halt f)
  | _ => none

/-- WTU and WFE: the mode in func[1:0], func[10:2] = 0 (R96, R110). -/
def decodeWait (mk : BitVec 2 → Instr) (func : Nat) : Option Instr :=
  if func < 4 then some (mk (BitVec.ofNat 2 func)) else none

/-- A register-format instruction with func = 0. -/
def funcZero (func : Nat) (i : Instr) : Option Instr := if func = 0 then some i else none

/-- The two queue instructions: [13:11] = 0 (R96, R113). -/
def decodeQueue (mk : BitVec 2 → BitVec 11 → Instr) (w : BitVec 32) : Option Instr :=
  unusedZero (fieldOf w 11 3) (mk (fieldOf w 14 2) (fieldOf w 0 11))

/-- MFC and MTC: imm[15:12] = 0 (R122). -/
def decodeControl (mk : BitVec 12 → Instr) (w : BitVec 32) : Option Instr :=
  unusedZero (fieldOf w 12 4) (mk (fieldOf w 0 12))

/-- The instruction that a word spells for Frond `f` (R97). None: the word is unassigned or holds a nonzero unused field, and raises
ILLEGAL (R96). -/
def frondDecode (f : Fin 16) (w : BitVec 32) : Option Instr :=
  let d := dOf w
  let a := aOf w
  let b := bOf w
  match majorOf w with
  | 0x00 => decodeAlu f d a b (funcOf w)
  | 0x01 => some (.addi f d a (immOf w))
  | 0x02 => some (.andi f d a (immOf w))
  | 0x03 => some (.ori f d a (immOf w))
  | 0x04 => some (.xori f d a (immOf w))
  | 0x05 => some (.slti f d a (immOf w))
  | 0x06 => some (.sltiu f d a (immOf w))
  | 0x07 => unusedZero a (.lui f d (immOf w))
  | 0x08 => decodeShift f d a (immOf w)
  | 0x09 => decodeMul f d a b (funcOf w)
  | 0x0A => decodeTime f d a b (funcOf w)
  | 0x10 => some (.lb f d a (immOf w))
  | 0x11 => some (.lbu f d a (immOf w))
  | 0x12 => some (.lh f d a (immOf w))
  | 0x13 => some (.lhu f d a (immOf w))
  | 0x14 => some (.lw f d a (immOf w))
  | 0x15 => some (.lwu f d a (immOf w))
  | 0x16 => some (.ld f d a (immOf w))
  | 0x17 => some (.ldt f d a (immOf w))
  | 0x18 => some (.sb f d a (immOf w))
  | 0x19 => some (.sh f d a (immOf w))
  | 0x1A => some (.sw f d a (immOf w))
  | 0x1B => some (.sd f d a (immOf w))
  | 0x1C => some (.stt f d a (immOf w))
  | 0x1D => decodeAtomic f d a b (funcOf w)
  | 0x20 => unusedZero d (.br f (ofsOf w))
  | 0x21 => unusedZero d (.bl f (ofsOf w))
  | 0x22 => some (.beqz f d (ofsOf w))
  | 0x23 => some (.bnez f d (ofsOf w))
  | 0x24 => some (.bltz f d (ofsOf w))
  | 0x25 => some (.bgez f d (ofsOf w))
  | 0x26 => unusedZero d (.bto f (ofsOf w))
  | 0x27 => unusedZero d (.bnto f (ofsOf w))
  | 0x28 => if d = 0 ∧ b = 0 then funcZero (funcOf w) (.jr f a) else none
  | 0x29 => if b = 0 then funcZero (funcOf w) (.jlr f d a) else none
  | 0x2A => if b = 0 then funcZero (funcOf w) (.ati f d a) else none
  | 0x2B => decodeWait (.wtu f d a b) (funcOf w)
  | 0x2C => decodeWait (.wfe f d a b) (funcOf w)
  | 0x2D => unusedZero a (.stamp f d (immOf w))
  | 0x2E => funcZero (funcOf w) (.edge f d a b)
  | 0x2F => funcZero (funcOf w) (.tarm f d a b)
  | 0x30 => funcZero (funcOf w) (.sfeed f d a b)
  | 0x31 => funcZero (funcOf w) (.tslew f d a b)
  | 0x32 => if b = 0 then funcZero (funcOf w) (.tstep f d a) else none
  | 0x33 => decodeQueue (.qpush f d a) w
  | 0x34 => decodeQueue (.qpop f d a) w
  | 0x38 => if d = 0 ∧ a = 0 ∧ b = 0 then decodeSystem f (funcOf w) else none
  | 0x39 => if a = 0 then decodeControl (.mfc f d) w else none
  | 0x3A => if d = 0 then decodeControl (.mtc f a) w else none
  | 0x3B => if d = 0 ∧ a = 0 then some (.trap f (immOf w)) else none
  | _ => none

/-! ## Encoder -/

/-- The Frond and the word of a command that is an instruction of a Frond; none for every other command (R96, R97). -/
def frondEncode : Instr → Option (Fin 16 × BitVec 32)
  | .add f d a b => some (f, wordR 0x00 d a b 0x000)
  | .sub f d a b => some (f, wordR 0x00 d a b 0x001)
  | .and f d a b => some (f, wordR 0x00 d a b 0x002)
  | .or f d a b => some (f, wordR 0x00 d a b 0x003)
  | .xor f d a b => some (f, wordR 0x00 d a b 0x004)
  | .nor f d a b => some (f, wordR 0x00 d a b 0x005)
  | .slt f d a b => some (f, wordR 0x00 d a b 0x006)
  | .sltu f d a b => some (f, wordR 0x00 d a b 0x007)
  | .sll f d a b => some (f, wordR 0x00 d a b 0x008)
  | .srl f d a b => some (f, wordR 0x00 d a b 0x009)
  | .sra f d a b => some (f, wordR 0x00 d a b 0x00A)
  | .min f d a b => some (f, wordR 0x00 d a b 0x00B)
  | .max f d a b => some (f, wordR 0x00 d a b 0x00C)
  | .minu f d a b => some (f, wordR 0x00 d a b 0x00D)
  | .maxu f d a b => some (f, wordR 0x00 d a b 0x00E)
  | .clz f d a => some (f, wordR 0x00 d a 0 0x00F)
  | .popc f d a => some (f, wordR 0x00 d a 0 0x010)
  | .addi f d a i => some (f, wordI 0x01 d a i.toNat)
  | .andi f d a i => some (f, wordI 0x02 d a i.toNat)
  | .ori f d a i => some (f, wordI 0x03 d a i.toNat)
  | .xori f d a i => some (f, wordI 0x04 d a i.toNat)
  | .slti f d a i => some (f, wordI 0x05 d a i.toNat)
  | .sltiu f d a i => some (f, wordI 0x06 d a i.toNat)
  | .lui f d i => some (f, wordI 0x07 d 0 i.toNat)
  | .slli f d a n => some (f, wordI 0x08 d a n.toNat)
  | .srli f d a n => some (f, wordI 0x08 d a (64 + n.toNat))
  | .srai f d a n => some (f, wordI 0x08 d a (128 + n.toNat))
  | .mullo f d a b => some (f, wordR 0x09 d a b 0x000)
  | .mulss f d a b => some (f, wordR 0x09 d a b 0x001)
  | .muluu f d a b => some (f, wordR 0x09 d a b 0x002)
  | .mulsu f d a b => some (f, wordR 0x09 d a b 0x003)
  | .divs f d a b => some (f, wordR 0x09 d a b 0x004)
  | .divu f d a b => some (f, wordR 0x09 d a b 0x005)
  | .tadd f d a b => some (f, wordR 0x0A d a b 0x000)
  | .tsub f d a b => some (f, wordR 0x0A d a b 0x001)
  | .taddd f d a b => some (f, wordR 0x0A d a b 0x002)
  | .tsubd f d a b => some (f, wordR 0x0A d a b 0x003)
  | .tneg f d a => some (f, wordR 0x0A d a 0 0x004)
  | .tmov f d a => some (f, wordR 0x0A d a 0 0x005)
  | .tcmp f d a b => some (f, wordR 0x0A d a b 0x006)
  | .tcmpd f d a b => some (f, wordR 0x0A d a b 0x007)
  | .tscl f d a b => some (f, wordR 0x0A d a b 0x008)
  | .tjoin f d a b => some (f, wordR 0x0A d a b 0x009)
  | .tsecs f d a => some (f, wordR 0x0A d a 0 0x00A)
  | .tfrac f d a => some (f, wordR 0x0A d a 0 0x00B)
  | .tfrg f d a => some (f, wordR 0x0A d a 0 0x00C)
  | .ttog f d a => some (f, wordR 0x0A d a 0 0x00D)
  | .lb f d a i => some (f, wordI 0x10 d a i.toNat)
  | .lbu f d a i => some (f, wordI 0x11 d a i.toNat)
  | .lh f d a i => some (f, wordI 0x12 d a i.toNat)
  | .lhu f d a i => some (f, wordI 0x13 d a i.toNat)
  | .lw f d a i => some (f, wordI 0x14 d a i.toNat)
  | .lwu f d a i => some (f, wordI 0x15 d a i.toNat)
  | .ld f d a i => some (f, wordI 0x16 d a i.toNat)
  | .ldt f d a i => some (f, wordI 0x17 d a i.toNat)
  | .sb f d a i => some (f, wordI 0x18 d a i.toNat)
  | .sh f d a i => some (f, wordI 0x19 d a i.toNat)
  | .sw f d a i => some (f, wordI 0x1A d a i.toNat)
  | .sd f d a i => some (f, wordI 0x1B d a i.toNat)
  | .stt f d a i => some (f, wordI 0x1C d a i.toNat)
  | .aadd f d a b => some (f, wordR 0x1D d a b 0x000)
  | .aswp f d a b => some (f, wordR 0x1D d a b 0x001)
  | .aset f d a b => some (f, wordR 0x1D d a b 0x002)
  | .aclr f d a b => some (f, wordR 0x1D d a b 0x003)
  | .amin f d a b => some (f, wordR 0x1D d a b 0x004)
  | .amax f d a b => some (f, wordR 0x1D d a b 0x005)
  | .acas f d a b => some (f, wordR 0x1D d a b 0x006)
  | .br f o => some (f, wordB 0x20 0 o)
  | .bl f o => some (f, wordB 0x21 0 o)
  | .beqz f c o => some (f, wordB 0x22 c o)
  | .bnez f c o => some (f, wordB 0x23 c o)
  | .bltz f c o => some (f, wordB 0x24 c o)
  | .bgez f c o => some (f, wordB 0x25 c o)
  | .bto f o => some (f, wordB 0x26 0 o)
  | .bnto f o => some (f, wordB 0x27 0 o)
  | .jr f a => some (f, wordR 0x28 0 a 0 0)
  | .jlr f d a => some (f, wordR 0x29 d a 0 0)
  | .ati f d a => some (f, wordR 0x2A d a 0 0)
  | .wtu f d a b mode => some (f, wordR 0x2B d a b mode.toNat)
  | .wfe f d a b mode => some (f, wordR 0x2C d a b mode.toNat)
  | .stamp f d i => some (f, wordI 0x2D d 0 i.toNat)
  | .edge f d a b => some (f, wordR 0x2E d a b 0)
  | .tarm f d a b => some (f, wordR 0x2F d a b 0)
  | .sfeed f d a b => some (f, wordR 0x30 d a b 0)
  | .tslew f d a b => some (f, wordR 0x31 d a b 0)
  | .tstep f d a => some (f, wordR 0x32 d a 0 0)
  | .qpush f d a mode q => some (f, wordQ 0x33 d a mode q)
  | .qpop f d a mode q => some (f, wordQ 0x34 d a mode q)
  | .eret f => some (f, wordR 0x38 0 0 0 0x000)
  | .fence f => some (f, wordR 0x38 0 0 0 0x001)
  | .halt f => some (f, wordR 0x38 0 0 0 0x002)
  | .mfc f d i => some (f, wordI 0x39 d 0 i.toNat)
  | .mtc f a i => some (f, wordI 0x3A 0 a i.toNat)
  | .trap f i => some (f, wordI 0x3B 0 0 i.toNat)
  | _ => none

end Sys2Proof
end

