-- ==== Sys2Proof/Config.lean ====
section
/-!
DEFINITION. What one part fixes and what the spec leaves open: opaque constants without a value. A statement about
them holds for every value. Each names its entry of the assumption log.
-/

namespace Sys2Proof.Config

/-- The grade bit of `SYS_ID` (R460: per part). Log 10. -/
opaque grade : Bool

/-- The revision ID of the PCI header (R452 gives none). Log 56. -/
opaque pciRevision : Nat

/-- Low byte of the code, and payload, of the entry that journals the fall of ready bit b (R46 gives neither). Log 11. -/
opaque readyFallCode : Nat → BitVec 8
opaque readyFallPayload : Nat → BitVec 64

/-- Low byte of the code, and payload, of the entry that journals a drop at a queue's full output register: queue, and drops so far (R35
gives neither). Log 58. -/
opaque dropCode : Nat → BitVec 8
opaque dropPayload : Nat → Nat → BitVec 64

/-- What the servo's registers hold of a value beyond their range (R238 states the widths alone). Log 60. -/
opaque wideState : Int → BitVec 96
opaque wideMantissa : Int → Int → BitVec 64
opaque wideExponent : Int → Int → BitVec 32

/-! ## The rotator of an output channel (R166 names the dither LFSR and the modulator and gives neither; log 61) -/

/-- The next state of the 32-bit dither LFSR. -/
opaque lfsrNext : BitVec 32 → BitVec 32
/-- The next state of the ΔΣ modulator: state, fraction of the accumulator below one bin, dither. -/
opaque dsmNext : Nat → Nat → Nat → Nat
/-- By how many bins, less 2, the modulator moves an edge: at most 2 either way (R170). -/
opaque dsmMove : Nat → Fin 5

/-! ## What a register write meets and no rule states: one value for each draw of `State.free` (log 39) -/

/-- A PWR_CMD meets a running transition past its commit point. -/
opaque freePast : Nat → Bool
/-- The hit of a timebase switch, in bins, where a register write causes it. -/
opaque freeHit : Nat → Int
/-- The present port sample within the epoch, at a write of a channel's command word. -/
opaque freeSample : Nat → Fin 81840
/-- What the standby knows of the comparisons, at a write of TWN_CMD.swap. -/
opaque freeCmp : Nat → Bool

/-! ## Flash (log 40) -/

/-- A byte of the flash regions that hold the locker slots: sequence number of the slot plus one, or 0, and the offset in it. -/
opaque slotByte : Nat → Nat → Byte
/-- A flash byte after a program or an erase that reported an error: draw, and flash offset. -/
opaque flashBad : Nat → Nat → Byte

/-- Chip of the primary code of a signal, PRN and chip index: true for −1 (R267 names the signals); the carrier replica at a phase in 2⁻³² cycle
(R270 gives its phase alone). Log 63. -/
opaque codeChip : Nat → Nat → Nat → Bool
opaque carCos : BitVec 32 → Int
opaque carSin : BitVec 32 → Int

/-- Chip of the secondary code of a signal and PRN: true for −1 (R275 uses the chips and gives none). Log 15. -/
opaque secChip : Nat → Nat → Nat → Bool

/-! ## What the frames of the time service carry where the spec gives no value (log 23) -/

/-- The IP address that a lane answers from: lane, and true for IPv6. -/
opaque ownIp : Nat → Bool → List Byte
/-- Fields of the IP header: 0 DSCP and ECN, 1 identification, 2 flags and fragment, 3 TTL or hop limit, 4 flow label. -/
opaque ipFill : Nat → Nat
/-- The form in which a family 1 Announce carries localPriority (R330). -/
opaque localPrio : Nat → List Byte
/-- The MAC address to which a lane sends frames for an IP address. -/
opaque nextHop : Nat → List Byte → List Byte
/-- The part of a calibration residual that trims the receive latency (R318). -/
opaque calRxPart : Int → Int
/-- The slot of the policing buckets: the hash key and the hashed bytes (R346). -/
opaque polHash : List Byte → List Byte → Nat

/-- The peak that a search finds: the request's words (carrier centre, spans, code centre and span, signal and PRN) and the samples of its blocks give the
Doppler bin, the place in the code window, the peak ratio and C/N0 (R289; log 63). -/
opaque acqPeak : List Nat → List Byte → Nat × Int × Nat × Nat

/-- Cause field of 0x1201 for a change that R404 gives no cause: old and new state (log 30). -/
opaque twnCause : Nat → Nat → Nat

/-! ## Secrets and cryptographic functions (log 22)

The spec names the algorithms by their standards; the model uses them as functions of their inputs. -/

/-- The root secret R (R352), and the manufacturing certificate (R355). -/
opaque root : List Byte
opaque cert : List Byte

/-- Byte `i` of the output of the DRBG after `k` reseeds (R354). -/
opaque drbg : Nat → Nat → Byte

opaque sha384 : List Byte → List Byte
/-- HKDF-SHA-384 with IKM, salt, info and length. -/
opaque hkdf : List Byte → List Byte → List Byte → Nat → List Byte
/-- ECDSA P-384 over a hash: private key, hash, position of the nonce in the DRBG output. -/
opaque ecdsaSign : List Byte → List Byte → List Byte → List Byte
/-- Public key, hash, signature. -/
opaque ecdsaVerify : List Byte → List Byte → List Byte → Bool
/-- The 97-byte public key of a private key, and the x-coordinate of ECDH. -/
opaque p384Pub : List Byte → List Byte
opaque ecdhX : List Byte → List Byte → List Byte
/-- AES-256 key wrap (RFC 3394): key-encryption key and key. -/
opaque kwWrap : List Byte → List Byte → List Byte
opaque kwUnwrap : List Byte → List Byte → Option (List Byte)
opaque hmacSha256 : List Byte → List Byte → List Byte
opaque aesCmac : List Byte → List Byte → List Byte
/-- AES-SIV (RFC 5297): key, associated data, plaintext or tag and ciphertext. -/
opaque sivSeal : List Byte → List (List Byte) → List Byte → List Byte
opaque sivOpen : List Byte → List (List Byte) → List Byte → Option (List Byte)
/-- The public key of the one SubjectPublicKeyInfo of a DER CertificationRequestInfo; none where it holds none or several (R357). -/
opaque csrKey : List Byte → Option (List Byte)

end Sys2Proof.Config
end

