-- ==== Sys2Proof/Machine/RegsA.lean ====
section
/-!
DEFINITION. Registers of SYS, PWR, CFG, SPN, TLY, JNL, SYN, OUT and TIO: every field of the register tables of spec/, with the
address, stride, bit position, width, access and reset value that its table gives (R1 to R3, R14, R466).
A multi-word register is one register of 2, 3 or 4 words (R8, R15).
-/

namespace Sys2Proof.Machine.Reg

def SYS_ID_rev_num : Fld := ⟨0x0, 0x0, 1, 0x0, 0, 4, .ro, 1⟩
def SYS_ID_rev_let : Fld := ⟨0x0, 0x0, 1, 0x0, 4, 4, .ro, 1⟩
def SYS_ID_device : Fld := ⟨0x0, 0x0, 1, 0x0, 8, 16, .ro, 0x9632⟩
def SYS_ID_grade : Fld := ⟨0x0, 0x0, 1, 0x0, 24, 1, .ro, 0⟩
/-- `SYS_ID`, R460 of spec/16_address_map.md. -/
def SYS_ID : RegDef := ⟨"SYS_ID", 0x0, 0x0, 1, 1, 0x0, 1,
  [SYS_ID_rev_num, SYS_ID_rev_let, SYS_ID_device, SYS_ID_grade]⟩

def SYS_PCI_ID_vendor : Fld := ⟨0x4, 0x0, 1, 0x0, 0, 16, .ro, 0x1f4e⟩
def SYS_PCI_ID_device : Fld := ⟨0x4, 0x0, 1, 0x0, 16, 16, .ro, 0x9632⟩
/-- `SYS_PCI_ID`, R460 of spec/16_address_map.md. -/
def SYS_PCI_ID : RegDef := ⟨"SYS_PCI_ID", 0x4, 0x0, 1, 1, 0x0, 1,
  [SYS_PCI_ID_vendor, SYS_PCI_ID_device]⟩

def SYS_SCRATCH_data : Fld := ⟨0x8, 0x0, 1, 0x0, 0, 32, .rw, 0⟩
/-- `SYS_SCRATCH`, R460 of spec/16_address_map.md. -/
def SYS_SCRATCH : RegDef := ⟨"SYS_SCRATCH", 0x8, 0x0, 1, 1, 0x0, 1,
  [SYS_SCRATCH_data]⟩

def SYS_AUDIT_SKIP_count : Fld := ⟨0x10, 0x0, 1, 0x0, 0, 64, .ro, 0⟩
/-- `SYS_AUDIT_SKIP`, R460 of spec/16_address_map.md. -/
def SYS_AUDIT_SKIP : RegDef := ⟨"SYS_AUDIT_SKIP", 0x10, 0x0, 1, 1, 0x0, 2,
  [SYS_AUDIT_SKIP_count]⟩

def SYS_FATAL_REFUSED_count : Fld := ⟨0x18, 0x0, 1, 0x0, 0, 64, .ro, 0⟩
/-- `SYS_FATAL_REFUSED`, R460 of spec/16_address_map.md. -/
def SYS_FATAL_REFUSED : RegDef := ⟨"SYS_FATAL_REFUSED", 0x18, 0x0, 1, 1, 0x0, 2,
  [SYS_FATAL_REFUSED_count]⟩

def SYS_FW_WRITE_IGNORED_count : Fld := ⟨0x20, 0x0, 1, 0x0, 0, 64, .ro, 0⟩
/-- `SYS_FW_WRITE_IGNORED`, R460 of spec/16_address_map.md. -/
def SYS_FW_WRITE_IGNORED : RegDef := ⟨"SYS_FW_WRITE_IGNORED", 0x20, 0x0, 1, 1, 0x0, 2,
  [SYS_FW_WRITE_IGNORED_count]⟩

def SYS_BAD_ACCESS_count : Fld := ⟨0x28, 0x0, 1, 0x0, 0, 64, .ro, 0⟩
/-- `SYS_BAD_ACCESS`, R460 of spec/16_address_map.md. -/
def SYS_BAD_ACCESS : RegDef := ⟨"SYS_BAD_ACCESS", 0x28, 0x0, 1, 1, 0x0, 2,
  [SYS_BAD_ACCESS_count]⟩

def SYS_READY_rawa : Fld := ⟨0x40, 0x0, 1, 0x0, 0, 1, .ro, 0⟩
def SYS_READY_rawb : Fld := ⟨0x40, 0x0, 1, 0x0, 1, 1, .ro, 0⟩
def SYS_READY_spine : Fld := ⟨0x40, 0x0, 1, 0x0, 2, 1, .ro, 0⟩
def SYS_READY_out : Fld := ⟨0x40, 0x0, 1, 0x0, 3, 1, .ro, 0⟩
def SYS_READY_tdc : Fld := ⟨0x40, 0x0, 1, 0x0, 4, 1, .ro, 0⟩
def SYS_READY_cfg : Fld := ⟨0x40, 0x0, 1, 0x0, 5, 1, .ro, 0⟩
def SYS_READY_frd : Fld := ⟨0x40, 0x0, 1, 0x0, 6, 1, .ro, 0⟩
def SYS_READY_key : Fld := ⟨0x40, 0x0, 1, 0x0, 7, 1, .ro, 0⟩
def SYS_READY_tsv : Fld := ⟨0x40, 0x0, 1, 0x0, 8, 1, .ro, 0⟩
def SYS_READY_ref : Fld := ⟨0x40, 0x0, 1, 0x0, 9, 1, .ro, 0⟩
def SYS_READY_host : Fld := ⟨0x40, 0x0, 1, 0x0, 10, 1, .ro, 0⟩
def SYS_READY_twin : Fld := ⟨0x40, 0x0, 1, 0x0, 11, 1, .ro, 0⟩
def SYS_READY_gnss0 : Fld := ⟨0x40, 0x0, 1, 0x0, 12, 1, .ro, 0⟩
def SYS_READY_gnss1 : Fld := ⟨0x40, 0x0, 1, 0x0, 13, 1, .ro, 0⟩
def SYS_READY_gnss2 : Fld := ⟨0x40, 0x0, 1, 0x0, 14, 1, .ro, 0⟩
def SYS_READY_gnss3 : Fld := ⟨0x40, 0x0, 1, 0x0, 15, 1, .ro, 0⟩
/-- `SYS_READY`, R42 of spec/01_engine_organisation.md. -/
def SYS_READY : RegDef := ⟨"SYS_READY", 0x40, 0x0, 1, 1, 0x0, 1,
  [SYS_READY_rawa, SYS_READY_rawb, SYS_READY_spine, SYS_READY_out, SYS_READY_tdc, SYS_READY_cfg, SYS_READY_frd, SYS_READY_key, SYS_READY_tsv, SYS_READY_ref, SYS_READY_host, SYS_READY_twin, SYS_READY_gnss0, SYS_READY_gnss1, SYS_READY_gnss2, SYS_READY_gnss3]⟩

def SYS_READY_EVT_rawa : Fld := ⟨0x44, 0x0, 1, 0x0, 0, 1, .w1c, 0⟩
def SYS_READY_EVT_rawb : Fld := ⟨0x44, 0x0, 1, 0x0, 1, 1, .w1c, 0⟩
def SYS_READY_EVT_spine : Fld := ⟨0x44, 0x0, 1, 0x0, 2, 1, .w1c, 0⟩
def SYS_READY_EVT_out : Fld := ⟨0x44, 0x0, 1, 0x0, 3, 1, .w1c, 0⟩
def SYS_READY_EVT_tdc : Fld := ⟨0x44, 0x0, 1, 0x0, 4, 1, .w1c, 0⟩
def SYS_READY_EVT_cfg : Fld := ⟨0x44, 0x0, 1, 0x0, 5, 1, .w1c, 0⟩
def SYS_READY_EVT_frd : Fld := ⟨0x44, 0x0, 1, 0x0, 6, 1, .w1c, 0⟩
def SYS_READY_EVT_key : Fld := ⟨0x44, 0x0, 1, 0x0, 7, 1, .w1c, 0⟩
def SYS_READY_EVT_tsv : Fld := ⟨0x44, 0x0, 1, 0x0, 8, 1, .w1c, 0⟩
def SYS_READY_EVT_ref : Fld := ⟨0x44, 0x0, 1, 0x0, 9, 1, .w1c, 0⟩
def SYS_READY_EVT_host : Fld := ⟨0x44, 0x0, 1, 0x0, 10, 1, .w1c, 0⟩
def SYS_READY_EVT_twin : Fld := ⟨0x44, 0x0, 1, 0x0, 11, 1, .w1c, 0⟩
def SYS_READY_EVT_gnss0 : Fld := ⟨0x44, 0x0, 1, 0x0, 12, 1, .w1c, 0⟩
def SYS_READY_EVT_gnss1 : Fld := ⟨0x44, 0x0, 1, 0x0, 13, 1, .w1c, 0⟩
def SYS_READY_EVT_gnss2 : Fld := ⟨0x44, 0x0, 1, 0x0, 14, 1, .w1c, 0⟩
def SYS_READY_EVT_gnss3 : Fld := ⟨0x44, 0x0, 1, 0x0, 15, 1, .w1c, 0⟩
/-- `SYS_READY_EVT`, R42 of spec/01_engine_organisation.md. -/
def SYS_READY_EVT : RegDef := ⟨"SYS_READY_EVT", 0x44, 0x0, 1, 1, 0x0, 1,
  [SYS_READY_EVT_rawa, SYS_READY_EVT_rawb, SYS_READY_EVT_spine, SYS_READY_EVT_out, SYS_READY_EVT_tdc, SYS_READY_EVT_cfg, SYS_READY_EVT_frd, SYS_READY_EVT_key, SYS_READY_EVT_tsv, SYS_READY_EVT_ref, SYS_READY_EVT_host, SYS_READY_EVT_twin, SYS_READY_EVT_gnss0, SYS_READY_EVT_gnss1, SYS_READY_EVT_gnss2, SYS_READY_EVT_gnss3]⟩

def SYS_READY_LANE_lanes : Fld := ⟨0x48, 0x0, 1, 0x0, 0, 32, .ro, 0⟩
/-- `SYS_READY_LANE`, R42 of spec/01_engine_organisation.md. -/
def SYS_READY_LANE : RegDef := ⟨"SYS_READY_LANE", 0x48, 0x0, 1, 1, 0x0, 1,
  [SYS_READY_LANE_lanes]⟩

def SYS_FATAL_tally : Fld := ⟨0x50, 0x0, 1, 0x0, 0, 1, .ro, 0⟩
def SYS_FATAL_credit : Fld := ⟨0x50, 0x0, 1, 0x0, 1, 1, .ro, 0⟩
def SYS_FATAL_clock : Fld := ⟨0x50, 0x0, 1, 0x0, 2, 1, .ro, 0⟩
def SYS_FATAL_stamp : Fld := ⟨0x50, 0x0, 1, 0x0, 3, 1, .ro, 0⟩
def SYS_FATAL_ecc_time : Fld := ⟨0x50, 0x0, 1, 0x0, 4, 1, .ro, 0⟩
def SYS_FATAL_prev : Fld := ⟨0x50, 0x0, 1, 0x0, 8, 5, .ro, 0⟩
/-- `SYS_FATAL`, R47 of spec/01_engine_organisation.md. -/
def SYS_FATAL : RegDef := ⟨"SYS_FATAL", 0x50, 0x0, 1, 1, 0x0, 1,
  [SYS_FATAL_tally, SYS_FATAL_credit, SYS_FATAL_clock, SYS_FATAL_stamp, SYS_FATAL_ecc_time, SYS_FATAL_prev]⟩

def SYS_FATAL_INFO_first : Fld := ⟨0x54, 0x0, 1, 0x0, 0, 3, .ro, 0⟩
def SYS_FATAL_INFO_domain : Fld := ⟨0x54, 0x0, 1, 0x0, 8, 8, .ro, 255⟩
def SYS_FATAL_INFO_queue : Fld := ⟨0x54, 0x0, 1, 0x0, 16, 11, .ro, 0x7ff⟩
/-- `SYS_FATAL_INFO`, R48 of spec/01_engine_organisation.md. -/
def SYS_FATAL_INFO : RegDef := ⟨"SYS_FATAL_INFO", 0x54, 0x0, 1, 1, 0x0, 1,
  [SYS_FATAL_INFO_first, SYS_FATAL_INFO_domain, SYS_FATAL_INFO_queue]⟩

def SYS_IRQ_PENDw_pend : Fld := ⟨0x800, 0x4, 1, 0x0, 0, 32, .ro, 0⟩
/-- `SYS_IRQ_PENDw`, R460 of spec/16_address_map.md. -/
def SYS_IRQ_PENDw : RegDef := ⟨"SYS_IRQ_PENDw", 0x800, 0x4, 16, 1, 0x0, 1,
  [SYS_IRQ_PENDw_pend]⟩

def SYS_IRQ_CAUSEw_cause : Fld := ⟨0x840, 0x4, 1, 0x0, 0, 32, .w1c, 0⟩
/-- `SYS_IRQ_CAUSEw`, R460 of spec/16_address_map.md. -/
def SYS_IRQ_CAUSEw : RegDef := ⟨"SYS_IRQ_CAUSEw", 0x840, 0x4, 16, 1, 0x0, 1,
  [SYS_IRQ_CAUSEw_cause]⟩

def SYS_IRQ_ROUTEn_vector : Fld := ⟨0x1000, 0x4, 1, 0x0, 0, 6, .rw, 0⟩
def SYS_IRQ_ROUTEn_en : Fld := ⟨0x1000, 0x4, 1, 0x0, 6, 1, .rw, 0⟩
/-- `SYS_IRQ_ROUTEn`, R460 of spec/16_address_map.md. -/
def SYS_IRQ_ROUTEn : RegDef := ⟨"SYS_IRQ_ROUTEn", 0x1000, 0x4, 512, 1, 0x0, 1,
  [SYS_IRQ_ROUTEn_vector, SYS_IRQ_ROUTEn_en]⟩

def MSIX_ENTRY_addr : Fld := ⟨0x8000, 0x10, 1, 0x0, 0, 64, .rw, 0⟩
def MSIX_ENTRY_data : Fld := ⟨0x8000, 0x10, 1, 0x0, 64, 32, .rw, 0⟩
def MSIX_ENTRY_mask : Fld := ⟨0x8000, 0x10, 1, 0x0, 96, 1, .rw, 1⟩
/-- `MSIX_ENTRY`, R452 of spec/16_address_map.md. -/
def MSIX_ENTRY : RegDef := ⟨"MSIX_ENTRY", 0x8000, 0x10, 64, 1, 0x0, 4,
  [MSIX_ENTRY_addr, MSIX_ENTRY_data, MSIX_ENTRY_mask]⟩

def MSIX_PBA_pending : Fld := ⟨0x9000, 0x0, 1, 0x0, 0, 64, .ro, 0⟩
/-- `MSIX_PBA`, R452 of spec/16_address_map.md. -/
def MSIX_PBA : RegDef := ⟨"MSIX_PBA", 0x9000, 0x0, 1, 1, 0x0, 2,
  [MSIX_PBA_pending]⟩

def PWR_CMD_domain : Fld := ⟨0x10000, 0x0, 1, 0x0, 0, 6, .wo, 0⟩
def PWR_CMD_state : Fld := ⟨0x10000, 0x0, 1, 0x0, 6, 3, .wo, 0⟩
/-- `PWR_CMD`, R449 of spec/15_power_and_startup.md. -/
def PWR_CMD : RegDef := ⟨"PWR_CMD", 0x10000, 0x0, 1, 1, 0x0, 1,
  [PWR_CMD_domain, PWR_CMD_state]⟩

def PWR_RESULT_result : Fld := ⟨0x10004, 0x0, 1, 0x0, 0, 3, .ro, 0⟩
def PWR_RESULT_done : Fld := ⟨0x10004, 0x0, 1, 0x0, 3, 1, .ro, 1⟩
def PWR_RESULT_held : Fld := ⟨0x10004, 0x0, 1, 0x0, 4, 1, .ro, 0⟩
def PWR_RESULT_domain : Fld := ⟨0x10004, 0x0, 1, 0x0, 5, 6, .ro, 0⟩
/-- `PWR_RESULT`, R449 of spec/15_power_and_startup.md. -/
def PWR_RESULT : RegDef := ⟨"PWR_RESULT", 0x10004, 0x0, 1, 1, 0x0, 1,
  [PWR_RESULT_result, PWR_RESULT_done, PWR_RESULT_held, PWR_RESULT_domain]⟩

def PWR_STATEk_state : Fld := ⟨0x10008, 0x4, 1, 0x0, 0, 32, .ro, 0⟩
/-- `PWR_STATEk`, R449 of spec/15_power_and_startup.md. -/
def PWR_STATEk : RegDef := ⟨"PWR_STATEk", 0x10008, 0x4, 3, 1, 0x0, 1,
  [PWR_STATEk_state]⟩

def PWR_RESET_CAUSE_cause : Fld := ⟨0x10014, 0x0, 1, 0x0, 0, 3, .ro, 0⟩
def PWR_RESET_CAUSE_rtc_valid : Fld := ⟨0x10014, 0x0, 1, 0x0, 3, 1, .ro, 0⟩
def PWR_RESET_CAUSE_ckpt_fatal : Fld := ⟨0x10014, 0x0, 1, 0x0, 4, 1, .ro, 0⟩
/-- `PWR_RESET_CAUSE`, R449 of spec/15_power_and_startup.md. -/
def PWR_RESET_CAUSE : RegDef := ⟨"PWR_RESET_CAUSE", 0x10014, 0x0, 1, 1, 0x0, 1,
  [PWR_RESET_CAUSE_cause, PWR_RESET_CAUSE_rtc_valid, PWR_RESET_CAUSE_ckpt_fatal]⟩

def PWR_RESTART_kind : Fld := ⟨0x10018, 0x0, 1, 0x0, 0, 2, .ro, 0⟩
def PWR_RESTART_save_fail : Fld := ⟨0x10018, 0x0, 1, 0x0, 2, 1, .ro, 0⟩
/-- `PWR_RESTART`, R449 of spec/15_power_and_startup.md. -/
def PWR_RESTART : RegDef := ⟨"PWR_RESTART", 0x10018, 0x0, 1, 1, 0x0, 1,
  [PWR_RESTART_kind, PWR_RESTART_save_fail]⟩

def PWR_OUTAGE_ticks : Fld := ⟨0x1001c, 0x0, 1, 0x0, 0, 64, .ro, 0⟩
/-- `PWR_OUTAGE`, R449 of spec/15_power_and_startup.md. -/
def PWR_OUTAGE : RegDef := ⟨"PWR_OUTAGE", 0x1001c, 0x0, 1, 1, 0x0, 2,
  [PWR_OUTAGE_ticks]⟩

def PWR_CKPT_TIME_time : Fld := ⟨0x10024, 0x0, 1, 0x0, 0, 96, .ro, 0⟩
/-- `PWR_CKPT_TIME`, R449 of spec/15_power_and_startup.md. -/
def PWR_CKPT_TIME : RegDef := ⟨"PWR_CKPT_TIME", 0x10024, 0x0, 1, 1, 0x0, 3,
  [PWR_CKPT_TIME_time]⟩

def PWR_LOST_jnl : Fld := ⟨0x10030, 0x0, 1, 0x0, 0, 16, .ro, 0⟩
def PWR_LOST_tly : Fld := ⟨0x10030, 0x0, 1, 0x0, 16, 14, .ro, 0⟩
/-- `PWR_LOST`, R449 of spec/15_power_and_startup.md. -/
def PWR_LOST : RegDef := ⟨"PWR_LOST", 0x10030, 0x0, 1, 1, 0x0, 1,
  [PWR_LOST_jnl, PWR_LOST_tly]⟩

def PWR_RTC_SUB_count : Fld := ⟨0x10034, 0x0, 1, 0x0, 0, 15, .ro, 0⟩
/-- `PWR_RTC_SUB`, R449 of spec/15_power_and_startup.md. -/
def PWR_RTC_SUB : RegDef := ⟨"PWR_RTC_SUB", 0x10034, 0x0, 1, 1, 0x0, 1,
  [PWR_RTC_SUB_count]⟩

def PWR_RTC_SEC_secs : Fld := ⟨0x10038, 0x0, 1, 0x0, 0, 64, .ro, 0⟩
/-- `PWR_RTC_SEC`, R449 of spec/15_power_and_startup.md. -/
def PWR_RTC_SEC : RegDef := ⟨"PWR_RTC_SEC", 0x10038, 0x0, 1, 1, 0x0, 2,
  [PWR_RTC_SEC_secs]⟩

def PWR_CMDS_count : Fld := ⟨0x10040, 0x0, 1, 0x0, 0, 64, .ro, 0⟩
/-- `PWR_CMDS`, R449 of spec/15_power_and_startup.md. -/
def PWR_CMDS : RegDef := ⟨"PWR_CMDS", 0x10040, 0x0, 1, 1, 0x0, 2,
  [PWR_CMDS_count]⟩

def PWR_BUSY_count : Fld := ⟨0x10048, 0x0, 1, 0x0, 0, 64, .ro, 0⟩
/-- `PWR_BUSY`, R449 of spec/15_power_and_startup.md. -/
def PWR_BUSY : RegDef := ⟨"PWR_BUSY", 0x10048, 0x0, 1, 1, 0x0, 2,
  [PWR_BUSY_count]⟩

def PWR_OFF_ACCESS_count : Fld := ⟨0x10050, 0x0, 1, 0x0, 0, 64, .ro, 0⟩
/-- `PWR_OFF_ACCESS`, R449 of spec/15_power_and_startup.md. -/
def PWR_OFF_ACCESS : RegDef := ⟨"PWR_OFF_ACCESS", 0x10050, 0x0, 1, 1, 0x0, 2,
  [PWR_OFF_ACCESS_count]⟩

def PWR_CKPTS_count : Fld := ⟨0x10058, 0x0, 1, 0x0, 0, 64, .ro, 0⟩
/-- `PWR_CKPTS`, R449 of spec/15_power_and_startup.md. -/
def PWR_CKPTS : RegDef := ⟨"PWR_CKPTS", 0x10058, 0x0, 1, 1, 0x0, 2,
  [PWR_CKPTS_count]⟩

def PWR_TSV_ABANDON_count : Fld := ⟨0x10060, 0x0, 1, 0x0, 0, 64, .ro, 0⟩
/-- `PWR_TSV_ABANDON`, R449 of spec/15_power_and_startup.md. -/
def PWR_TSV_ABANDON : RegDef := ⟨"PWR_TSV_ABANDON", 0x10060, 0x0, 1, 1, 0x0, 2,
  [PWR_TSV_ABANDON_count]⟩

def PWR_ABANDON_RX_count : Fld := ⟨0x10068, 0x0, 1, 0x0, 0, 64, .ro, 0⟩
/-- `PWR_ABANDON_RX`, R449 of spec/15_power_and_startup.md. -/
def PWR_ABANDON_RX : RegDef := ⟨"PWR_ABANDON_RX", 0x10068, 0x0, 1, 1, 0x0, 2,
  [PWR_ABANDON_RX_count]⟩

def PWR_ABANDON_TX_count : Fld := ⟨0x10070, 0x0, 1, 0x0, 0, 64, .ro, 0⟩
/-- `PWR_ABANDON_TX`, R449 of spec/15_power_and_startup.md. -/
def PWR_ABANDON_TX : RegDef := ⟨"PWR_ABANDON_TX", 0x10070, 0x0, 1, 1, 0x0, 2,
  [PWR_ABANDON_TX_count]⟩

def CFG_STATUS_slot : Fld := ⟨0x20000, 0x0, 1, 0x0, 0, 1, .ro, 0⟩
def CFG_STATUS_defaulted : Fld := ⟨0x20000, 0x0, 1, 0x0, 1, 1, .ro, 0⟩
def CFG_STATUS_a_valid : Fld := ⟨0x20000, 0x0, 1, 0x0, 2, 1, .ro, 0⟩
def CFG_STATUS_b_valid : Fld := ⟨0x20000, 0x0, 1, 0x0, 3, 1, .ro, 0⟩
def CFG_STATUS_a_fail : Fld := ⟨0x20000, 0x0, 1, 0x0, 4, 3, .ro, 0⟩
def CFG_STATUS_b_fail : Fld := ⟨0x20000, 0x0, 1, 0x0, 7, 3, .ro, 0⟩
/-- `CFG_STATUS`, R450 of spec/15_power_and_startup.md. -/
def CFG_STATUS : RegDef := ⟨"CFG_STATUS", 0x20000, 0x0, 1, 1, 0x0, 1,
  [CFG_STATUS_slot, CFG_STATUS_defaulted, CFG_STATUS_a_valid, CFG_STATUS_b_valid, CFG_STATUS_a_fail, CFG_STATUS_b_fail]⟩

def CFG_SEQ_seq : Fld := ⟨0x20004, 0x0, 1, 0x0, 0, 32, .ro, 0⟩
/-- `CFG_SEQ`, R450 of spec/15_power_and_startup.md. -/
def CFG_SEQ : RegDef := ⟨"CFG_SEQ", 0x20004, 0x0, 1, 1, 0x0, 1,
  [CFG_SEQ_seq]⟩

def CFG_RECORDS_applied : Fld := ⟨0x20008, 0x0, 1, 0x0, 0, 16, .ro, 0⟩
def CFG_RECORDS_skipped : Fld := ⟨0x20008, 0x0, 1, 0x0, 16, 16, .ro, 0⟩
/-- `CFG_RECORDS`, R450 of spec/15_power_and_startup.md. -/
def CFG_RECORDS : RegDef := ⟨"CFG_RECORDS", 0x20008, 0x0, 1, 1, 0x0, 1,
  [CFG_RECORDS_applied, CFG_RECORDS_skipped]⟩

def CFG_BOOT_prefect : Fld := ⟨0x2000c, 0x0, 1, 0x0, 0, 3, .ro, 0⟩
def CFG_BOOT_recovery : Fld := ⟨0x2000c, 0x0, 1, 0x0, 3, 1, .ro, 0⟩
/-- `CFG_BOOT`, R450 of spec/15_power_and_startup.md. -/
def CFG_BOOT : RegDef := ⟨"CFG_BOOT", 0x2000c, 0x0, 1, 1, 0x0, 1,
  [CFG_BOOT_prefect, CFG_BOOT_recovery]⟩

def CFG_QSPI_div : Fld := ⟨0x20010, 0x0, 1, 0x0, 0, 2, .rw, 3⟩
/-- `CFG_QSPI`, R450 of spec/15_power_and_startup.md. -/
def CFG_QSPI : RegDef := ⟨"CFG_QSPI", 0x20010, 0x0, 1, 1, 0x0, 1,
  [CFG_QSPI_div]⟩

def CFG_FLASH_CMD_op : Fld := ⟨0x20014, 0x0, 1, 0x0, 0, 2, .wo, 0⟩
/-- `CFG_FLASH_CMD`, R450 of spec/15_power_and_startup.md. -/
def CFG_FLASH_CMD : RegDef := ⟨"CFG_FLASH_CMD", 0x20014, 0x0, 1, 1, 0x0, 1,
  [CFG_FLASH_CMD_op]⟩

def CFG_FLASH_ADDR_addr : Fld := ⟨0x20018, 0x0, 1, 0x0, 0, 28, .rw, 0⟩
/-- `CFG_FLASH_ADDR`, R450 of spec/15_power_and_startup.md. -/
def CFG_FLASH_ADDR : RegDef := ⟨"CFG_FLASH_ADDR", 0x20018, 0x0, 1, 1, 0x0, 1,
  [CFG_FLASH_ADDR_addr]⟩

def CFG_FLASH_BUF_base : Fld := ⟨0x2001c, 0x0, 1, 0x0, 6, 17, .rw, 0⟩
/-- `CFG_FLASH_BUF`, R450 of spec/15_power_and_startup.md. -/
def CFG_FLASH_BUF : RegDef := ⟨"CFG_FLASH_BUF", 0x2001c, 0x0, 1, 1, 0x0, 1,
  [CFG_FLASH_BUF_base]⟩

def CFG_FLASH_LEN_bytes : Fld := ⟨0x20020, 0x0, 1, 0x0, 0, 17, .rw, 0⟩
/-- `CFG_FLASH_LEN`, R450 of spec/15_power_and_startup.md. -/
def CFG_FLASH_LEN : RegDef := ⟨"CFG_FLASH_LEN", 0x20020, 0x0, 1, 1, 0x0, 1,
  [CFG_FLASH_LEN_bytes]⟩

def CFG_FLASH_RESULT_result : Fld := ⟨0x20024, 0x0, 1, 0x0, 0, 3, .ro, 0⟩
def CFG_FLASH_RESULT_done : Fld := ⟨0x20024, 0x0, 1, 0x0, 3, 1, .ro, 1⟩
/-- `CFG_FLASH_RESULT`, R450 of spec/15_power_and_startup.md. -/
def CFG_FLASH_RESULT : RegDef := ⟨"CFG_FLASH_RESULT", 0x20024, 0x0, 1, 1, 0x0, 1,
  [CFG_FLASH_RESULT_result, CFG_FLASH_RESULT_done]⟩

def CFG_DIRf_ofs : Fld := ⟨0x20100, 0x8, 1, 0x0, 0, 32, .ro, 0⟩
def CFG_DIRf_len : Fld := ⟨0x20100, 0x8, 1, 0x0, 32, 18, .ro, 0⟩
def CFG_DIRf_present : Fld := ⟨0x20100, 0x8, 1, 0x0, 63, 1, .ro, 0⟩
/-- `CFG_DIRf`, R450 of spec/15_power_and_startup.md. -/
def CFG_DIRf : RegDef := ⟨"CFG_DIRf", 0x20100, 0x8, 16, 1, 0x0, 2,
  [CFG_DIRf_ofs, CFG_DIRf_len, CFG_DIRf_present]⟩

def SPN_SNAP_CTL_snap : Fld := ⟨0x30000, 0x0, 1, 0x0, 0, 1, .ro, 0⟩
/-- `SPN_SNAP_CTL`, R64 of spec/02_time_tally_gradebook.md. -/
def SPN_SNAP_CTL : RegDef := ⟨"SPN_SNAP_CTL", 0x30000, 0x0, 1, 1, 0x0, 1,
  [SPN_SNAP_CTL_snap]⟩

def SPN_SNAP_TIME_time : Fld := ⟨0x30010, 0x0, 1, 0x0, 0, 96, .ro, 0⟩
/-- `SPN_SNAP_TIME`, R64 of spec/02_time_tally_gradebook.md. -/
def SPN_SNAP_TIME : RegDef := ⟨"SPN_SNAP_TIME", 0x30010, 0x0, 1, 1, 0x0, 3,
  [SPN_SNAP_TIME_time]⟩

def SPN_SNAP_RAW_raw : Fld := ⟨0x30020, 0x0, 1, 0x0, 0, 96, .ro, 0⟩
/-- `SPN_SNAP_RAW`, R64 of spec/02_time_tally_gradebook.md. -/
def SPN_SNAP_RAW : RegDef := ⟨"SPN_SNAP_RAW", 0x30020, 0x0, 1, 1, 0x0, 3,
  [SPN_SNAP_RAW_raw]⟩

def SPN_SNAP_TALLY_tally : Fld := ⟨0x30030, 0x0, 1, 0x0, 0, 96, .ro, 0⟩
/-- `SPN_SNAP_TALLY`, R64 of spec/02_time_tally_gradebook.md. -/
def SPN_SNAP_TALLY : RegDef := ⟨"SPN_SNAP_TALLY", 0x30030, 0x0, 1, 1, 0x0, 3,
  [SPN_SNAP_TALLY_tally]⟩

def SPN_SNAP_INFO_active : Fld := ⟨0x3003c, 0x0, 1, 0x0, 0, 1, .ro, 0⟩
/-- `SPN_SNAP_INFO`, R64 of spec/02_time_tally_gradebook.md. -/
def SPN_SNAP_INFO : RegDef := ⟨"SPN_SNAP_INFO", 0x3003c, 0x0, 1, 1, 0x0, 1,
  [SPN_SNAP_INFO_active]⟩

def SPN_UTC_STATUS_offset : Fld := ⟨0x30040, 0x0, 1, 0x0, 0, 8, .ro, 37⟩
def SPN_UTC_STATUS_valid : Fld := ⟨0x30040, 0x0, 1, 0x0, 8, 1, .ro, 0⟩
def SPN_UTC_STATUS_leap61 : Fld := ⟨0x30040, 0x0, 1, 0x0, 9, 1, .ro, 0⟩
def SPN_UTC_STATUS_leap59 : Fld := ⟨0x30040, 0x0, 1, 0x0, 10, 1, .ro, 0⟩
def SPN_UTC_STATUS_in_leap : Fld := ⟨0x30040, 0x0, 1, 0x0, 11, 1, .ro, 0⟩
/-- `SPN_UTC_STATUS`, R64 of spec/02_time_tally_gradebook.md. -/
def SPN_UTC_STATUS : RegDef := ⟨"SPN_UTC_STATUS", 0x30040, 0x0, 1, 1, 0x0, 1,
  [SPN_UTC_STATUS_offset, SPN_UTC_STATUS_valid, SPN_UTC_STATUS_leap61, SPN_UTC_STATUS_leap59, SPN_UTC_STATUS_in_leap]⟩

def SPN_UTC_DEFAULT_offset : Fld := ⟨0x30044, 0x0, 1, 0x0, 0, 8, .rw, 37⟩
/-- `SPN_UTC_DEFAULT`, R64 of spec/02_time_tally_gradebook.md. -/
def SPN_UTC_DEFAULT : RegDef := ⟨"SPN_UTC_DEFAULT", 0x30044, 0x0, 1, 1, 0x0, 1,
  [SPN_UTC_DEFAULT_offset]⟩

def SPN_LEAP_STAGE_e : Fld := ⟨0x30048, 0x0, 1, 0x0, 0, 48, .rw, 0⟩
def SPN_LEAP_STAGE_offset : Fld := ⟨0x30048, 0x0, 1, 0x0, 48, 8, .rw, 0⟩
/-- `SPN_LEAP_STAGE`, R64 of spec/02_time_tally_gradebook.md. -/
def SPN_LEAP_STAGE : RegDef := ⟨"SPN_LEAP_STAGE", 0x30048, 0x0, 1, 1, 0x0, 2,
  [SPN_LEAP_STAGE_e, SPN_LEAP_STAGE_offset]⟩

def SPN_LEAP_CMD_op : Fld := ⟨0x30050, 0x0, 1, 0x0, 0, 2, .wo, 0⟩
def SPN_LEAP_CMD_slot : Fld := ⟨0x30050, 0x0, 1, 0x0, 4, 4, .wo, 0⟩
/-- `SPN_LEAP_CMD`, R64 of spec/02_time_tally_gradebook.md. -/
def SPN_LEAP_CMD : RegDef := ⟨"SPN_LEAP_CMD", 0x30050, 0x0, 1, 1, 0x0, 1,
  [SPN_LEAP_CMD_op, SPN_LEAP_CMD_slot]⟩

def SPN_LEAP_RESULT_result : Fld := ⟨0x30054, 0x0, 1, 0x0, 0, 3, .ro, 0⟩
def SPN_LEAP_RESULT_slot : Fld := ⟨0x30054, 0x0, 1, 0x0, 4, 4, .ro, 0⟩
/-- `SPN_LEAP_RESULT`, R64 of spec/02_time_tally_gradebook.md. -/
def SPN_LEAP_RESULT : RegDef := ⟨"SPN_LEAP_RESULT", 0x30054, 0x0, 1, 1, 0x0, 1,
  [SPN_LEAP_RESULT_result, SPN_LEAP_RESULT_slot]⟩

def SPN_LEAPn_e : Fld := ⟨0x30100, 0x8, 1, 0x0, 0, 48, .ro, 0⟩
def SPN_LEAPn_offset : Fld := ⟨0x30100, 0x8, 1, 0x0, 48, 8, .ro, 0⟩
def SPN_LEAPn_applied : Fld := ⟨0x30100, 0x8, 1, 0x0, 62, 1, .ro, 0⟩
def SPN_LEAPn_valid : Fld := ⟨0x30100, 0x8, 1, 0x0, 63, 1, .ro, 0⟩
/-- `SPN_LEAPn`, R64 of spec/02_time_tally_gradebook.md. -/
def SPN_LEAPn : RegDef := ⟨"SPN_LEAPn", 0x30100, 0x8, 16, 1, 0x0, 2,
  [SPN_LEAPn_e, SPN_LEAPn_offset, SPN_LEAPn_applied, SPN_LEAPn_valid]⟩

def TLY_CTL_drain_en : Fld := ⟨0x31000, 0x0, 1, 0x0, 0, 1, .rw, 0⟩
/-- `TLY_CTL`, R75 of spec/02_time_tally_gradebook.md. -/
def TLY_CTL : RegDef := ⟨"TLY_CTL", 0x31000, 0x0, 1, 1, 0x0, 1,
  [TLY_CTL_drain_en]⟩

def TLY_DRAIN_BASE_base : Fld := ⟨0x31004, 0x0, 1, 0x0, 6, 17, .rw, 0⟩
/-- `TLY_DRAIN_BASE`, R75 of spec/02_time_tally_gradebook.md. -/
def TLY_DRAIN_BASE : RegDef := ⟨"TLY_DRAIN_BASE", 0x31004, 0x0, 1, 1, 0x0, 1,
  [TLY_DRAIN_BASE_base]⟩

def TLY_DRAIN_SIZE_log2n : Fld := ⟨0x31008, 0x0, 1, 0x0, 0, 5, .rw, 8⟩
/-- `TLY_DRAIN_SIZE`, R75 of spec/02_time_tally_gradebook.md. -/
def TLY_DRAIN_SIZE : RegDef := ⟨"TLY_DRAIN_SIZE", 0x31008, 0x0, 1, 1, 0x0, 1,
  [TLY_DRAIN_SIZE_log2n]⟩

def TLY_DRAIN_HEAD_head : Fld := ⟨0x3100c, 0x0, 1, 0x0, 0, 16, .ro, 0⟩
/-- `TLY_DRAIN_HEAD`, R75 of spec/02_time_tally_gradebook.md. -/
def TLY_DRAIN_HEAD : RegDef := ⟨"TLY_DRAIN_HEAD", 0x3100c, 0x0, 1, 1, 0x0, 1,
  [TLY_DRAIN_HEAD_head]⟩

def TLY_DRAIN_TAIL_tail : Fld := ⟨0x31010, 0x0, 1, 0x0, 0, 16, .rw, 0⟩
/-- `TLY_DRAIN_TAIL`, R75 of spec/02_time_tally_gradebook.md. -/
def TLY_DRAIN_TAIL : RegDef := ⟨"TLY_DRAIN_TAIL", 0x31010, 0x0, 1, 1, 0x0, 1,
  [TLY_DRAIN_TAIL_tail]⟩

def TLY_DRAIN_THRESH_level : Fld := ⟨0x31014, 0x0, 1, 0x0, 0, 16, .rw, 0x100⟩
/-- `TLY_DRAIN_THRESH`, R75 of spec/02_time_tally_gradebook.md. -/
def TLY_DRAIN_THRESH : RegDef := ⟨"TLY_DRAIN_THRESH", 0x31014, 0x0, 1, 1, 0x0, 1,
  [TLY_DRAIN_THRESH_level]⟩

def TLY_RING_FILL_fill : Fld := ⟨0x31018, 0x0, 1, 0x0, 0, 14, .ro, 0⟩
def TLY_RING_FILL_coalescing : Fld := ⟨0x31018, 0x0, 1, 0x0, 16, 1, .ro, 0⟩
def TLY_RING_FILL_reserve : Fld := ⟨0x31018, 0x0, 1, 0x0, 17, 1, .ro, 0⟩
/-- `TLY_RING_FILL`, R75 of spec/02_time_tally_gradebook.md. -/
def TLY_RING_FILL : RegDef := ⟨"TLY_RING_FILL", 0x31018, 0x0, 1, 1, 0x0, 1,
  [TLY_RING_FILL_fill, TLY_RING_FILL_coalescing, TLY_RING_FILL_reserve]⟩

def TLY_SEQ_next : Fld := ⟨0x3101c, 0x0, 1, 0x0, 0, 16, .ro, 0⟩
/-- `TLY_SEQ`, R75 of spec/02_time_tally_gradebook.md. -/
def TLY_SEQ : RegDef := ⟨"TLY_SEQ", 0x3101c, 0x0, 1, 1, 0x0, 1,
  [TLY_SEQ_next]⟩

def TLY_TOTAL_total : Fld := ⟨0x31020, 0x0, 1, 0x0, 0, 96, .ro, 0⟩
/-- `TLY_TOTAL`, R75 of spec/02_time_tally_gradebook.md. -/
def TLY_TOTAL : RegDef := ⟨"TLY_TOTAL", 0x31020, 0x0, 1, 1, 0x0, 3,
  [TLY_TOTAL_total]⟩

def TLY_CHECKS_count : Fld := ⟨0x31030, 0x0, 1, 0x0, 0, 64, .ro, 0⟩
/-- `TLY_CHECKS`, R75 of spec/02_time_tally_gradebook.md. -/
def TLY_CHECKS : RegDef := ⟨"TLY_CHECKS", 0x31030, 0x0, 1, 1, 0x0, 2,
  [TLY_CHECKS_count]⟩

def TLY_MERGED_count : Fld := ⟨0x31038, 0x0, 1, 0x0, 0, 64, .ro, 0⟩
/-- `TLY_MERGED`, R75 of spec/02_time_tally_gradebook.md. -/
def TLY_MERGED : RegDef := ⟨"TLY_MERGED", 0x31038, 0x0, 1, 1, 0x0, 2,
  [TLY_MERGED_count]⟩

def JNL_CTL_dma_en : Fld := ⟨0x32000, 0x0, 1, 0x0, 0, 1, .rw, 0⟩
/-- `JNL_CTL`, R84 of spec/02_time_tally_gradebook.md. -/
def JNL_CTL : RegDef := ⟨"JNL_CTL", 0x32000, 0x0, 1, 1, 0x0, 1,
  [JNL_CTL_dma_en]⟩

def JNL_DMA_BASE_base : Fld := ⟨0x32004, 0x0, 1, 0x0, 0, 64, .rw, 0⟩
/-- `JNL_DMA_BASE`, R84 of spec/02_time_tally_gradebook.md. -/
def JNL_DMA_BASE : RegDef := ⟨"JNL_DMA_BASE", 0x32004, 0x0, 1, 1, 0x0, 2,
  [JNL_DMA_BASE_base]⟩

def JNL_DMA_SIZE_log2n : Fld := ⟨0x3200c, 0x0, 1, 0x0, 0, 5, .rw, 10⟩
/-- `JNL_DMA_SIZE`, R84 of spec/02_time_tally_gradebook.md. -/
def JNL_DMA_SIZE : RegDef := ⟨"JNL_DMA_SIZE", 0x3200c, 0x0, 1, 1, 0x0, 1,
  [JNL_DMA_SIZE_log2n]⟩

def JNL_DMA_HEAD_head : Fld := ⟨0x32010, 0x0, 1, 0x0, 0, 20, .ro, 0⟩
/-- `JNL_DMA_HEAD`, R84 of spec/02_time_tally_gradebook.md. -/
def JNL_DMA_HEAD : RegDef := ⟨"JNL_DMA_HEAD", 0x32010, 0x0, 1, 1, 0x0, 1,
  [JNL_DMA_HEAD_head]⟩

def JNL_DMA_TAIL_tail : Fld := ⟨0x32014, 0x0, 1, 0x0, 0, 20, .rw, 0⟩
/-- `JNL_DMA_TAIL`, R84 of spec/02_time_tally_gradebook.md. -/
def JNL_DMA_TAIL : RegDef := ⟨"JNL_DMA_TAIL", 0x32014, 0x0, 1, 1, 0x0, 1,
  [JNL_DMA_TAIL_tail]⟩

def JNL_FILL_fill : Fld := ⟨0x32018, 0x0, 1, 0x0, 0, 16, .ro, 0⟩
/-- `JNL_FILL`, R84 of spec/02_time_tally_gradebook.md. -/
def JNL_FILL : RegDef := ⟨"JNL_FILL", 0x32018, 0x0, 1, 1, 0x0, 1,
  [JNL_FILL_fill]⟩

def JNL_THRESH_level : Fld := ⟨0x3201c, 0x0, 1, 0x0, 0, 16, .rw, 0x1000⟩
def JNL_THRESH_wait : Fld := ⟨0x3201c, 0x0, 1, 0x0, 16, 16, .rw, 0x3e8⟩
/-- `JNL_THRESH`, R84 of spec/02_time_tally_gradebook.md. -/
def JNL_THRESH : RegDef := ⟨"JNL_THRESH", 0x3201c, 0x0, 1, 1, 0x0, 1,
  [JNL_THRESH_level, JNL_THRESH_wait]⟩

def JNL_HOST_CODE_code : Fld := ⟨0x32020, 0x0, 1, 0x0, 0, 8, .rw, 0⟩
/-- `JNL_HOST_CODE`, R84 of spec/02_time_tally_gradebook.md. -/
def JNL_HOST_CODE : RegDef := ⟨"JNL_HOST_CODE", 0x32020, 0x0, 1, 1, 0x0, 1,
  [JNL_HOST_CODE_code]⟩

def JNL_HOST_PAYLOAD_payload : Fld := ⟨0x32024, 0x0, 1, 0x0, 0, 64, .rw, 0⟩
/-- `JNL_HOST_PAYLOAD`, R84 of spec/02_time_tally_gradebook.md. -/
def JNL_HOST_PAYLOAD : RegDef := ⟨"JNL_HOST_PAYLOAD", 0x32024, 0x0, 1, 1, 0x0, 2,
  [JNL_HOST_PAYLOAD_payload]⟩

def JNL_HOST_PUSH_push : Fld := ⟨0x3202c, 0x0, 1, 0x0, 0, 1, .wo, 0⟩
/-- `JNL_HOST_PUSH`, R84 of spec/02_time_tally_gradebook.md. -/
def JNL_HOST_PUSH : RegDef := ⟨"JNL_HOST_PUSH", 0x3202c, 0x0, 1, 1, 0x0, 1,
  [JNL_HOST_PUSH_push]⟩

def JNL_WRITTEN_count : Fld := ⟨0x32030, 0x0, 1, 0x0, 0, 64, .ro, 0⟩
/-- `JNL_WRITTEN`, R84 of spec/02_time_tally_gradebook.md. -/
def JNL_WRITTEN : RegDef := ⟨"JNL_WRITTEN", 0x32030, 0x0, 1, 1, 0x0, 2,
  [JNL_WRITTEN_count]⟩

def JNL_OVF_BOOK_count : Fld := ⟨0x32038, 0x0, 1, 0x0, 0, 64, .ro, 0⟩
/-- `JNL_OVF_BOOK`, R84 of spec/02_time_tally_gradebook.md. -/
def JNL_OVF_BOOK : RegDef := ⟨"JNL_OVF_BOOK", 0x32038, 0x0, 1, 1, 0x0, 2,
  [JNL_OVF_BOOK_count]⟩

def JNL_FW_REJECT_count : Fld := ⟨0x32040, 0x0, 1, 0x0, 0, 64, .ro, 0⟩
/-- `JNL_FW_REJECT`, R84 of spec/02_time_tally_gradebook.md. -/
def JNL_FW_REJECT : RegDef := ⟨"JNL_FW_REJECT", 0x32040, 0x0, 1, 1, 0x0, 2,
  [JNL_FW_REJECT_count]⟩

def JNL_OVFn_count : Fld := ⟨0x32100, 0x8, 1, 0x0, 0, 64, .ro, 0⟩
/-- `JNL_OVFn`, R84 of spec/02_time_tally_gradebook.md. -/
def JNL_OVFn : RegDef := ⟨"JNL_OVFn", 0x32100, 0x8, 44, 1, 0x0, 2,
  [JNL_OVFn_count]⟩

def SYN_CTL_prefer : Fld := ⟨0x40000, 0x0, 1, 0x0, 0, 1, .rw, 0⟩
def SYN_CTL_revert : Fld := ⟨0x40000, 0x0, 1, 0x0, 1, 1, .rw, 0⟩
/-- `SYN_CTL`, R157 of spec/05_raw_timebase_and_outputs.md. -/
def SYN_CTL : RegDef := ⟨"SYN_CTL", 0x40000, 0x0, 1, 1, 0x0, 1,
  [SYN_CTL_prefer, SYN_CTL_revert]⟩

def SYN_OSC_CFG_freq : Fld := ⟨0x40004, 0x4, 1, 0x0, 0, 3, .rw, 7⟩
def SYN_OSC_CFG_en : Fld := ⟨0x40004, 0x4, 1, 0x0, 3, 1, .rw, 1⟩
/-- `SYN_OSC_CFG`, R157 of spec/05_raw_timebase_and_outputs.md. -/
def SYN_OSC_CFG : RegDef := ⟨"SYN_OSC_CFG", 0x40004, 0x4, 2, 1, 0x0, 1,
  [SYN_OSC_CFG_freq, SYN_OSC_CFG_en]⟩

def SYN_STATUS_lock_a : Fld := ⟨0x4000c, 0x0, 1, 0x0, 0, 1, .ro, 0⟩
def SYN_STATUS_lock_b : Fld := ⟨0x4000c, 0x0, 1, 0x0, 1, 1, .ro, 0⟩
def SYN_STATUS_active : Fld := ⟨0x4000c, 0x0, 1, 0x0, 2, 1, .ro, 0⟩
def SYN_STATUS_xdispute : Fld := ⟨0x4000c, 0x0, 1, 0x0, 3, 1, .ro, 0⟩
def SYN_STATUS_search_a : Fld := ⟨0x4000c, 0x0, 1, 0x0, 4, 1, .ro, 0⟩
def SYN_STATUS_search_b : Fld := ⟨0x4000c, 0x0, 1, 0x0, 5, 1, .ro, 0⟩
def SYN_STATUS_det_a : Fld := ⟨0x4000c, 0x0, 1, 0x0, 8, 3, .ro, 7⟩
def SYN_STATUS_det_b : Fld := ⟨0x4000c, 0x0, 1, 0x0, 12, 3, .ro, 7⟩
/-- `SYN_STATUS`, R157 of spec/05_raw_timebase_and_outputs.md. -/
def SYN_STATUS : RegDef := ⟨"SYN_STATUS", 0x4000c, 0x0, 1, 1, 0x0, 1,
  [SYN_STATUS_lock_a, SYN_STATUS_lock_b, SYN_STATUS_active, SYN_STATUS_xdispute, SYN_STATUS_search_a, SYN_STATUS_search_b, SYN_STATUS_det_a, SYN_STATUS_det_b]⟩

def SYN_CMD_switch : Fld := ⟨0x40010, 0x0, 1, 0x0, 0, 1, .wo, 0⟩
/-- `SYN_CMD`, R157 of spec/05_raw_timebase_and_outputs.md. -/
def SYN_CMD : RegDef := ⟨"SYN_CMD", 0x40010, 0x0, 1, 1, 0x0, 1,
  [SYN_CMD_switch]⟩

def SYN_RESULT_result : Fld := ⟨0x40014, 0x0, 1, 0x0, 0, 2, .ro, 0⟩
/-- `SYN_RESULT`, R157 of spec/05_raw_timebase_and_outputs.md. -/
def SYN_RESULT : RegDef := ⟨"SYN_RESULT", 0x40014, 0x0, 1, 1, 0x0, 1,
  [SYN_RESULT_result]⟩

def SYN_XMON_WIN_win : Fld := ⟨0x40018, 0x0, 1, 0x0, 0, 10, .rw, 20⟩
/-- `SYN_XMON_WIN`, R157 of spec/05_raw_timebase_and_outputs.md. -/
def SYN_XMON_WIN : RegDef := ⟨"SYN_XMON_WIN", 0x40018, 0x0, 1, 1, 0x0, 1,
  [SYN_XMON_WIN_win]⟩

def SYN_RESTORE_WAIT_secs : Fld := ⟨0x4001c, 0x0, 1, 0x0, 0, 16, .rw, 60⟩
/-- `SYN_RESTORE_WAIT`, R157 of spec/05_raw_timebase_and_outputs.md. -/
def SYN_RESTORE_WAIT : RegDef := ⟨"SYN_RESTORE_WAIT", 0x4001c, 0x0, 1, 1, 0x0, 1,
  [SYN_RESTORE_WAIT_secs]⟩

def SYN_XPHASE_xphase : Fld := ⟨0x40020, 0x0, 1, 0x0, 0, 64, .ro, 0⟩
/-- `SYN_XPHASE`, R157 of spec/05_raw_timebase_and_outputs.md. -/
def SYN_XPHASE : RegDef := ⟨"SYN_XPHASE", 0x40020, 0x0, 1, 1, 0x0, 2,
  [SYN_XPHASE_xphase]⟩

def SYN_XFREQ_xfreq : Fld := ⟨0x40028, 0x0, 1, 0x0, 0, 48, .ro, 0⟩
/-- `SYN_XFREQ`, R157 of spec/05_raw_timebase_and_outputs.md. -/
def SYN_XFREQ : RegDef := ⟨"SYN_XFREQ", 0x40028, 0x0, 1, 1, 0x0, 2,
  [SYN_XFREQ_xfreq]⟩

def SYN_FAILOVERS_count : Fld := ⟨0x40030, 0x0, 1, 0x0, 0, 64, .ro, 0⟩
/-- `SYN_FAILOVERS`, R157 of spec/05_raw_timebase_and_outputs.md. -/
def SYN_FAILOVERS : RegDef := ⟨"SYN_FAILOVERS", 0x40030, 0x0, 1, 1, 0x0, 2,
  [SYN_FAILOVERS_count]⟩

def SYN_TUNE_CTL_mode : Fld := ⟨0x40040, 0x0, 1, 0x0, 0, 2, .rw, 0⟩
/-- `SYN_TUNE_CTL`, R163 of spec/05_raw_timebase_and_outputs.md. -/
def SYN_TUNE_CTL : RegDef := ⟨"SYN_TUNE_CTL", 0x40040, 0x0, 1, 1, 0x0, 1,
  [SYN_TUNE_CTL_mode]⟩

def SYN_TUNE_CODE_target : Fld := ⟨0x40044, 0x0, 1, 0x0, 0, 24, .rw, 0x800000⟩
/-- `SYN_TUNE_CODE`, R163 of spec/05_raw_timebase_and_outputs.md. -/
def SYN_TUNE_CODE : RegDef := ⟨"SYN_TUNE_CODE", 0x40044, 0x0, 1, 1, 0x0, 1,
  [SYN_TUNE_CODE_target]⟩

def SYN_TUNE_NOW_code : Fld := ⟨0x40048, 0x0, 1, 0x0, 0, 24, .ro, 0x800000⟩
/-- `SYN_TUNE_NOW`, R163 of spec/05_raw_timebase_and_outputs.md. -/
def SYN_TUNE_NOW : RegDef := ⟨"SYN_TUNE_NOW", 0x40048, 0x0, 1, 1, 0x0, 1,
  [SYN_TUNE_NOW_code]⟩

def SYN_TUNE_SLEW_rate : Fld := ⟨0x4004c, 0x0, 1, 0x0, 0, 24, .rw, 16⟩
/-- `SYN_TUNE_SLEW`, R163 of spec/05_raw_timebase_and_outputs.md. -/
def SYN_TUNE_SLEW : RegDef := ⟨"SYN_TUNE_SLEW", 0x4004c, 0x0, 1, 1, 0x0, 1,
  [SYN_TUNE_SLEW_rate]⟩

def SYN_AGEx_C0_c0 : Fld := ⟨0x40100, 0x40, 1, 0x0, 0, 48, .rw, 0⟩
/-- `SYN_AGEx_C0`, R162 of spec/05_raw_timebase_and_outputs.md. -/
def SYN_AGEx_C0 : RegDef := ⟨"SYN_AGEx_C0", 0x40100, 0x40, 2, 1, 0x0, 2,
  [SYN_AGEx_C0_c0]⟩

def SYN_AGEx_C1_c1 : Fld := ⟨0x40108, 0x40, 1, 0x0, 0, 48, .rw, 0⟩
/-- `SYN_AGEx_C1`, R162 of spec/05_raw_timebase_and_outputs.md. -/
def SYN_AGEx_C1 : RegDef := ⟨"SYN_AGEx_C1", 0x40108, 0x40, 2, 1, 0x0, 2,
  [SYN_AGEx_C1_c1]⟩

def SYN_AGEx_C2_c2 : Fld := ⟨0x40110, 0x40, 1, 0x0, 0, 48, .rw, 0⟩
/-- `SYN_AGEx_C2`, R162 of spec/05_raw_timebase_and_outputs.md. -/
def SYN_AGEx_C2 : RegDef := ⟨"SYN_AGEx_C2", 0x40110, 0x40, 2, 1, 0x0, 2,
  [SYN_AGEx_C2_c2]⟩

def SYN_AGEx_TAU_tau : Fld := ⟨0x40118, 0x40, 1, 0x0, 0, 32, .rw, 0⟩
/-- `SYN_AGEx_TAU`, R162 of spec/05_raw_timebase_and_outputs.md. -/
def SYN_AGEx_TAU : RegDef := ⟨"SYN_AGEx_TAU", 0x40118, 0x40, 2, 1, 0x0, 1,
  [SYN_AGEx_TAU_tau]⟩

def SYN_AGEx_EPOCH_epoch : Fld := ⟨0x4011c, 0x40, 1, 0x0, 0, 48, .rw, 0⟩
/-- `SYN_AGEx_EPOCH`, R162 of spec/05_raw_timebase_and_outputs.md. -/
def SYN_AGEx_EPOCH : RegDef := ⟨"SYN_AGEx_EPOCH", 0x4011c, 0x40, 2, 1, 0x0, 2,
  [SYN_AGEx_EPOCH_epoch]⟩

def SYN_AGEx_CMD_commit : Fld := ⟨0x40124, 0x40, 1, 0x0, 0, 1, .wo, 0⟩
/-- `SYN_AGEx_CMD`, R162 of spec/05_raw_timebase_and_outputs.md. -/
def SYN_AGEx_CMD : RegDef := ⟨"SYN_AGEx_CMD", 0x40124, 0x40, 2, 1, 0x0, 1,
  [SYN_AGEx_CMD_commit]⟩

def SYN_AGEx_NOW_c : Fld := ⟨0x40128, 0x40, 1, 0x0, 0, 48, .ro, 0⟩
/-- `SYN_AGEx_NOW`, R162 of spec/05_raw_timebase_and_outputs.md. -/
def SYN_AGEx_NOW : RegDef := ⟨"SYN_AGEx_NOW", 0x40128, 0x40, 2, 1, 0x0, 2,
  [SYN_AGEx_NOW_c]⟩

def OUT_FMAX_MARGIN_ppm : Fld := ⟨0x40f00, 0x0, 1, 0x0, 0, 16, .rw, 100⟩
/-- `OUT_FMAX_MARGIN`, R168 of spec/05_raw_timebase_and_outputs.md. -/
def OUT_FMAX_MARGIN : RegDef := ⟨"OUT_FMAX_MARGIN", 0x40f00, 0x0, 1, 1, 0x0, 1,
  [OUT_FMAX_MARGIN_ppm]⟩

def OUT_GLIDE_LIMIT_ppm : Fld := ⟨0x40f04, 0x0, 1, 0x0, 0, 16, .rw, 0x3e8⟩
/-- `OUT_GLIDE_LIMIT`, R168 of spec/05_raw_timebase_and_outputs.md. -/
def OUT_GLIDE_LIMIT : RegDef := ⟨"OUT_GLIDE_LIMIT", 0x40f04, 0x0, 1, 1, 0x0, 1,
  [OUT_GLIDE_LIMIT_ppm]⟩

def OUT_CAL_PERIOD_ms : Fld := ⟨0x40f08, 0x0, 1, 0x0, 0, 16, .rw, 0x3e8⟩
/-- `OUT_CAL_PERIOD`, R168 of spec/05_raw_timebase_and_outputs.md. -/
def OUT_CAL_PERIOD : RegDef := ⟨"OUT_CAL_PERIOD", 0x40f08, 0x0, 1, 1, 0x0, 1,
  [OUT_CAL_PERIOD_ms]⟩

def TIO_VDDO_level : Fld := ⟨0x40f10, 0x0, 1, 0x0, 0, 8, .ro, 0⟩
/-- `TIO_VDDO`, R179 of spec/05_raw_timebase_and_outputs.md. -/
def TIO_VDDO : RegDef := ⟨"TIO_VDDO", 0x40f10, 0x0, 1, 1, 0x0, 1,
  [TIO_VDDO_level]⟩

def OUTn_CTL_en : Fld := ⟨0x41000, 0x40, 1, 0x0, 0, 1, .rw, 0⟩
def OUTn_CTL_track : Fld := ⟨0x41000, 0x40, 1, 0x0, 1, 1, .rw, 1⟩
def OUTn_CTL_mult : Fld := ⟨0x41000, 0x40, 1, 0x0, 2, 3, .rw, 0⟩
def OUTn_CTL_dither : Fld := ⟨0x41000, 0x40, 1, 0x0, 5, 1, .rw, 1⟩
def OUTn_CTL_sync_port : Fld := ⟨0x41000, 0x40, 1, 0x0, 6, 5, .rw, 0⟩
def OUTn_CTL_sync_en : Fld := ⟨0x41000, 0x40, 1, 0x0, 11, 1, .rw, 0⟩
def OUTn_CTL_sync_once : Fld := ⟨0x41000, 0x40, 1, 0x0, 12, 1, .rw, 1⟩
def OUTn_CTL_sync_ms : Fld := ⟨0x41000, 0x40, 1, 0x0, 16, 10, .rw, 0x3e8⟩
/-- `OUTn_CTL`, R168 of spec/05_raw_timebase_and_outputs.md. -/
def OUTn_CTL : RegDef := ⟨"OUTn_CTL", 0x41000, 0x40, 36, 1, 0x0, 1,
  [OUTn_CTL_en, OUTn_CTL_track, OUTn_CTL_mult, OUTn_CTL_dither, OUTn_CTL_sync_port, OUTn_CTL_sync_en, OUTn_CTL_sync_once, OUTn_CTL_sync_ms]⟩

def OUTn_INC_inc : Fld := ⟨0x41004, 0x40, 1, 0x0, 0, 64, .rw, 0⟩
/-- `OUTn_INC`, R168 of spec/05_raw_timebase_and_outputs.md. -/
def OUTn_INC : RegDef := ⟨"OUTn_INC", 0x41004, 0x40, 36, 1, 0x0, 2,
  [OUTn_INC_inc]⟩

def OUTn_FREQ_w : Fld := ⟨0x4100c, 0x40, 1, 0x0, 0, 48, .rw, 0⟩
/-- `OUTn_FREQ`, R168 of spec/05_raw_timebase_and_outputs.md. -/
def OUTn_FREQ : RegDef := ⟨"OUTn_FREQ", 0x4100c, 0x40, 36, 1, 0x0, 2,
  [OUTn_FREQ_w]⟩

def OUTn_CYC_cyc : Fld := ⟨0x41014, 0x40, 1, 0x0, 0, 32, .rw, 0⟩
/-- `OUTn_CYC`, R168 of spec/05_raw_timebase_and_outputs.md. -/
def OUTn_CYC : RegDef := ⟨"OUTn_CYC", 0x41014, 0x40, 36, 1, 0x0, 1,
  [OUTn_CYC_cyc]⟩

def OUTn_PHASE_OFS_ofs : Fld := ⟨0x41018, 0x40, 1, 0x0, 0, 32, .rw, 0⟩
/-- `OUTn_PHASE_OFS`, R168 of spec/05_raw_timebase_and_outputs.md. -/
def OUTn_PHASE_OFS : RegDef := ⟨"OUTn_PHASE_OFS", 0x41018, 0x40, 36, 1, 0x0, 1,
  [OUTn_PHASE_OFS_ofs]⟩

def OUTn_SEED_seed : Fld := ⟨0x4101c, 0x40, 1, 0x0, 0, 32, .rw, 1⟩
/-- `OUTn_SEED`, R168 of spec/05_raw_timebase_and_outputs.md. -/
def OUTn_SEED : RegDef := ⟨"OUTn_SEED", 0x4101c, 0x40, 36, 1, 0x0, 1,
  [OUTn_SEED_seed]⟩

def OUTn_SYNC_DELAY_delay : Fld := ⟨0x41020, 0x40, 1, 0x0, 0, 32, .rw, 0⟩
/-- `OUTn_SYNC_DELAY`, R168 of spec/05_raw_timebase_and_outputs.md. -/
def OUTn_SYNC_DELAY : RegDef := ⟨"OUTn_SYNC_DELAY", 0x41020, 0x40, 36, 1, 0x0, 1,
  [OUTn_SYNC_DELAY_delay]⟩

def OUTn_STATUS_state : Fld := ⟨0x41024, 0x40, 1, 0x0, 0, 3, .ro, 0⟩
def OUTn_STATUS_aligned : Fld := ⟨0x41024, 0x40, 1, 0x0, 3, 1, .ro, 0⟩
def OUTn_STATUS_plan_err : Fld := ⟨0x41024, 0x40, 1, 0x0, 4, 1, .ro, 0⟩
def OUTn_STATUS_clamped : Fld := ⟨0x41024, 0x40, 1, 0x0, 5, 1, .ro, 0⟩
/-- `OUTn_STATUS`, R168 of spec/05_raw_timebase_and_outputs.md. -/
def OUTn_STATUS : RegDef := ⟨"OUTn_STATUS", 0x41024, 0x40, 36, 1, 0x0, 1,
  [OUTn_STATUS_state, OUTn_STATUS_aligned, OUTn_STATUS_plan_err, OUTn_STATUS_clamped]⟩

def OUTn_SQUELCH_count : Fld := ⟨0x41028, 0x40, 1, 0x0, 0, 64, .ro, 0⟩
/-- `OUTn_SQUELCH`, R168 of spec/05_raw_timebase_and_outputs.md. -/
def OUTn_SQUELCH : RegDef := ⟨"OUTn_SQUELCH", 0x41028, 0x40, 36, 1, 0x0, 2,
  [OUTn_SQUELCH_count]⟩

def OUTn_REALIGN_count : Fld := ⟨0x41030, 0x40, 1, 0x0, 0, 64, .ro, 0⟩
/-- `OUTn_REALIGN`, R168 of spec/05_raw_timebase_and_outputs.md. -/
def OUTn_REALIGN : RegDef := ⟨"OUTn_REALIGN", 0x41030, 0x40, 36, 1, 0x0, 2,
  [OUTn_REALIGN_count]⟩

def TIOn_CFG_func : Fld := ⟨0x44000, 0x80, 1, 0x0, 0, 4, .rw, 0⟩
def TIOn_CFG_chan : Fld := ⟨0x44000, 0x80, 1, 0x0, 4, 5, .rw, 0⟩
def TIOn_CFG_std : Fld := ⟨0x44000, 0x80, 1, 0x0, 9, 3, .rw, 0⟩
def TIOn_CFG_term : Fld := ⟨0x44000, 0x80, 1, 0x0, 12, 1, .rw, 0⟩
def TIOn_CFG_invert : Fld := ⟨0x44000, 0x80, 1, 0x0, 13, 1, .rw, 0⟩
def TIOn_CFG_lb_cal : Fld := ⟨0x44000, 0x80, 1, 0x0, 14, 1, .rw, 1⟩
/-- `TIOn_CFG`, R179 of spec/05_raw_timebase_and_outputs.md. -/
def TIOn_CFG : RegDef := ⟨"TIOn_CFG", 0x44000, 0x80, 32, 1, 0x0, 1,
  [TIOn_CFG_func, TIOn_CFG_chan, TIOn_CFG_std, TIOn_CFG_term, TIOn_CFG_invert, TIOn_CFG_lb_cal]⟩

def TIOn_BELL_PERIOD_ms : Fld := ⟨0x44004, 0x80, 1, 0x0, 0, 16, .rw, 0x3e8⟩
/-- `TIOn_BELL_PERIOD`, R179 of spec/05_raw_timebase_and_outputs.md. -/
def TIOn_BELL_PERIOD : RegDef := ⟨"TIOn_BELL_PERIOD", 0x44004, 0x80, 32, 1, 0x0, 1,
  [TIOn_BELL_PERIOD_ms]⟩

def TIOn_BELL_WIDTH_ns : Fld := ⟨0x44008, 0x80, 1, 0x0, 0, 30, .rw, 0x186a0⟩
/-- `TIOn_BELL_WIDTH`, R179 of spec/05_raw_timebase_and_outputs.md. -/
def TIOn_BELL_WIDTH : RegDef := ⟨"TIOn_BELL_WIDTH", 0x44008, 0x80, 32, 1, 0x0, 1,
  [TIOn_BELL_WIDTH_ns]⟩

def TIOn_BELL_OFS_ofs : Fld := ⟨0x4400c, 0x80, 1, 0x0, 0, 32, .rw, 0⟩
/-- `TIOn_BELL_OFS`, R179 of spec/05_raw_timebase_and_outputs.md. -/
def TIOn_BELL_OFS : RegDef := ⟨"TIOn_BELL_OFS", 0x4400c, 0x80, 32, 1, 0x0, 1,
  [TIOn_BELL_OFS_ofs]⟩

def TIOn_BELL_ALIGN_src : Fld := ⟨0x44010, 0x80, 1, 0x0, 0, 1, .rw, 0⟩
def TIOn_BELL_ALIGN_port : Fld := ⟨0x44010, 0x80, 1, 0x0, 1, 5, .rw, 0⟩
def TIOn_BELL_ALIGN_window : Fld := ⟨0x44010, 0x80, 1, 0x0, 16, 16, .rw, 100⟩
/-- `TIOn_BELL_ALIGN`, R179 of spec/05_raw_timebase_and_outputs.md. -/
def TIOn_BELL_ALIGN : RegDef := ⟨"TIOn_BELL_ALIGN", 0x44010, 0x80, 32, 1, 0x0, 1,
  [TIOn_BELL_ALIGN_src, TIOn_BELL_ALIGN_port, TIOn_BELL_ALIGN_window]⟩

def TIOn_TRACE_DELAY_delay : Fld := ⟨0x44014, 0x80, 1, 0x0, 0, 32, .rw, 0⟩
/-- `TIOn_TRACE_DELAY`, R179 of spec/05_raw_timebase_and_outputs.md. -/
def TIOn_TRACE_DELAY : RegDef := ⟨"TIOn_TRACE_DELAY", 0x44014, 0x80, 32, 1, 0x0, 1,
  [TIOn_TRACE_DELAY_delay]⟩

def TIOn_CAL_DELAY_delay : Fld := ⟨0x44018, 0x80, 1, 0x0, 0, 32, .ro, 0⟩
/-- `TIOn_CAL_DELAY`, R179 of spec/05_raw_timebase_and_outputs.md. -/
def TIOn_CAL_DELAY : RegDef := ⟨"TIOn_CAL_DELAY", 0x44018, 0x80, 32, 1, 0x0, 1,
  [TIOn_CAL_DELAY_delay]⟩

def TIOn_TOD_CFG_baud : Fld := ⟨0x4401c, 0x80, 1, 0x0, 0, 4, .rw, 1⟩
def TIOn_TOD_CFG_pps_port : Fld := ⟨0x4401c, 0x80, 1, 0x0, 4, 5, .rw, 0⟩
def TIOn_TOD_CFG_start_ms : Fld := ⟨0x4401c, 0x80, 1, 0x0, 10, 10, .rw, 10⟩
/-- `TIOn_TOD_CFG`, R179 of spec/05_raw_timebase_and_outputs.md. -/
def TIOn_TOD_CFG : RegDef := ⟨"TIOn_TOD_CFG", 0x4401c, 0x80, 32, 1, 0x0, 1,
  [TIOn_TOD_CFG_baud, TIOn_TOD_CFG_pps_port, TIOn_TOD_CFG_start_ms]⟩

def TIOn_STATUS_level : Fld := ⟨0x44020, 0x80, 1, 0x0, 0, 1, .ro, 0⟩
def TIOn_STATUS_cal_valid : Fld := ⟨0x44020, 0x80, 1, 0x0, 1, 1, .ro, 0⟩
def TIOn_STATUS_std_err : Fld := ⟨0x44020, 0x80, 1, 0x0, 2, 1, .ro, 0⟩
def TIOn_STATUS_nosrc : Fld := ⟨0x44020, 0x80, 1, 0x0, 3, 1, .ro, 0⟩
def TIOn_STATUS_bell_aligned : Fld := ⟨0x44020, 0x80, 1, 0x0, 4, 1, .ro, 0⟩
/-- `TIOn_STATUS`, R179 of spec/05_raw_timebase_and_outputs.md. -/
def TIOn_STATUS : RegDef := ⟨"TIOn_STATUS", 0x44020, 0x80, 32, 1, 0x0, 1,
  [TIOn_STATUS_level, TIOn_STATUS_cal_valid, TIOn_STATUS_std_err, TIOn_STATUS_nosrc, TIOn_STATUS_bell_aligned]⟩

def TIOn_EDGE_LATE_count : Fld := ⟨0x44028, 0x80, 1, 0x0, 0, 64, .ro, 0⟩
/-- `TIOn_EDGE_LATE`, R179 of spec/05_raw_timebase_and_outputs.md. -/
def TIOn_EDGE_LATE : RegDef := ⟨"TIOn_EDGE_LATE", 0x44028, 0x80, 32, 1, 0x0, 2,
  [TIOn_EDGE_LATE_count]⟩

def TIOn_EDGE_CLOSE_count : Fld := ⟨0x44030, 0x80, 1, 0x0, 0, 64, .ro, 0⟩
/-- `TIOn_EDGE_CLOSE`, R179 of spec/05_raw_timebase_and_outputs.md. -/
def TIOn_EDGE_CLOSE : RegDef := ⟨"TIOn_EDGE_CLOSE", 0x44030, 0x80, 32, 1, 0x0, 2,
  [TIOn_EDGE_CLOSE_count]⟩

def TIOn_BELL_SKIP_count : Fld := ⟨0x44038, 0x80, 1, 0x0, 0, 64, .ro, 0⟩
/-- `TIOn_BELL_SKIP`, R179 of spec/05_raw_timebase_and_outputs.md. -/
def TIOn_BELL_SKIP : RegDef := ⟨"TIOn_BELL_SKIP", 0x44038, 0x80, 32, 1, 0x0, 2,
  [TIOn_BELL_SKIP_count]⟩

def TIOn_ALIGN_IGNORED_count : Fld := ⟨0x44040, 0x80, 1, 0x0, 0, 64, .ro, 0⟩
/-- `TIOn_ALIGN_IGNORED`, R179 of spec/05_raw_timebase_and_outputs.md. -/
def TIOn_ALIGN_IGNORED : RegDef := ⟨"TIOn_ALIGN_IGNORED", 0x44040, 0x80, 32, 1, 0x0, 2,
  [TIOn_ALIGN_IGNORED_count]⟩

/-- The registers of this file, in address order. -/
def tableA : List RegDef :=
  [SYS_ID, SYS_PCI_ID, SYS_SCRATCH, SYS_AUDIT_SKIP, SYS_FATAL_REFUSED, SYS_FW_WRITE_IGNORED, SYS_BAD_ACCESS, SYS_READY, SYS_READY_EVT, SYS_READY_LANE, SYS_FATAL, SYS_FATAL_INFO, SYS_IRQ_PENDw, SYS_IRQ_CAUSEw, SYS_IRQ_ROUTEn, MSIX_ENTRY, MSIX_PBA, PWR_CMD, PWR_RESULT, PWR_STATEk, PWR_RESET_CAUSE, PWR_RESTART, PWR_OUTAGE, PWR_CKPT_TIME, PWR_LOST, PWR_RTC_SUB, PWR_RTC_SEC, PWR_CMDS, PWR_BUSY, PWR_OFF_ACCESS] ++
  [PWR_CKPTS, PWR_TSV_ABANDON, PWR_ABANDON_RX, PWR_ABANDON_TX, CFG_STATUS, CFG_SEQ, CFG_RECORDS, CFG_BOOT, CFG_QSPI, CFG_FLASH_CMD, CFG_FLASH_ADDR, CFG_FLASH_BUF, CFG_FLASH_LEN, CFG_FLASH_RESULT, CFG_DIRf, SPN_SNAP_CTL, SPN_SNAP_TIME, SPN_SNAP_RAW, SPN_SNAP_TALLY, SPN_SNAP_INFO, SPN_UTC_STATUS, SPN_UTC_DEFAULT, SPN_LEAP_STAGE, SPN_LEAP_CMD, SPN_LEAP_RESULT, SPN_LEAPn, TLY_CTL, TLY_DRAIN_BASE, TLY_DRAIN_SIZE, TLY_DRAIN_HEAD] ++
  [TLY_DRAIN_TAIL, TLY_DRAIN_THRESH, TLY_RING_FILL, TLY_SEQ, TLY_TOTAL, TLY_CHECKS, TLY_MERGED, JNL_CTL, JNL_DMA_BASE, JNL_DMA_SIZE, JNL_DMA_HEAD, JNL_DMA_TAIL, JNL_FILL, JNL_THRESH, JNL_HOST_CODE, JNL_HOST_PAYLOAD, JNL_HOST_PUSH, JNL_WRITTEN, JNL_OVF_BOOK, JNL_FW_REJECT, JNL_OVFn, SYN_CTL, SYN_OSC_CFG, SYN_STATUS, SYN_CMD, SYN_RESULT, SYN_XMON_WIN, SYN_RESTORE_WAIT, SYN_XPHASE, SYN_XFREQ] ++
  [SYN_FAILOVERS, SYN_TUNE_CTL, SYN_TUNE_CODE, SYN_TUNE_NOW, SYN_TUNE_SLEW, SYN_AGEx_C0, SYN_AGEx_C1, SYN_AGEx_C2, SYN_AGEx_TAU, SYN_AGEx_EPOCH, SYN_AGEx_CMD, SYN_AGEx_NOW, OUT_FMAX_MARGIN, OUT_GLIDE_LIMIT, OUT_CAL_PERIOD, TIO_VDDO, OUTn_CTL, OUTn_INC, OUTn_FREQ, OUTn_CYC, OUTn_PHASE_OFS, OUTn_SEED, OUTn_SYNC_DELAY, OUTn_STATUS, OUTn_SQUELCH, OUTn_REALIGN, TIOn_CFG, TIOn_BELL_PERIOD, TIOn_BELL_WIDTH, TIOn_BELL_OFS] ++
  [TIOn_BELL_ALIGN, TIOn_TRACE_DELAY, TIOn_CAL_DELAY, TIOn_TOD_CFG, TIOn_STATUS, TIOn_EDGE_LATE, TIOn_EDGE_CLOSE, TIOn_BELL_SKIP, TIOn_ALIGN_IGNORED]

end Sys2Proof.Machine.Reg
end

