-- ==== Sys2Proof/Machine/RegsB.lean ====
section
/-!
DEFINITION. Registers of TDC, MOSS, RCL, SRV and GNS, and the GNSS channel records: every field of the register tables of spec/, with the
address, stride, bit position, width, access and reset value that its table gives (R1 to R3, R14, R466).
A multi-word register is one register of 2, 3 or 4 words (R8, R15).
-/

namespace Sys2Proof.Machine.Reg

def TDCn_CTL_mode : Fld := ⟨0x50000, 0x40, 1, 0x0, 0, 2, .rw, 0⟩
def TDCn_CTL_route_en : Fld := ⟨0x50000, 0x40, 1, 0x0, 2, 1, .rw, 0⟩
def TDCn_CTL_frond : Fld := ⟨0x50000, 0x40, 1, 0x0, 3, 4, .rw, 0⟩
def TDCn_CTL_arm : Fld := ⟨0x50000, 0x40, 1, 0x0, 8, 1, .wo, 0⟩
def TDCn_CTL_disarm : Fld := ⟨0x50000, 0x40, 1, 0x0, 9, 1, .wo, 0⟩
def TDCn_CTL_count : Fld := ⟨0x50000, 0x40, 1, 0x0, 16, 16, .rw, 0⟩
/-- `TDCn_CTL`, R194 of spec/06_interval_measurement.md. -/
def TDCn_CTL : RegDef := ⟨"TDCn_CTL", 0x50000, 0x40, 40, 1, 0x0, 1,
  [TDCn_CTL_mode, TDCn_CTL_route_en, TDCn_CTL_frond, TDCn_CTL_arm, TDCn_CTL_disarm, TDCn_CTL_count]⟩

def TDCn_SRC_start : Fld := ⟨0x50004, 0x40, 1, 0x0, 0, 8, .rw, 0⟩
def TDCn_SRC_stop : Fld := ⟨0x50004, 0x40, 1, 0x0, 8, 8, .rw, 0⟩
def TDCn_SRC_start_edge : Fld := ⟨0x50004, 0x40, 1, 0x0, 16, 1, .rw, 0⟩
def TDCn_SRC_stop_edge : Fld := ⟨0x50004, 0x40, 1, 0x0, 17, 1, .rw, 0⟩
/-- `TDCn_SRC`, R194 of spec/06_interval_measurement.md. -/
def TDCn_SRC : RegDef := ⟨"TDCn_SRC", 0x50004, 0x40, 40, 1, 0x0, 1,
  [TDCn_SRC_start, TDCn_SRC_stop, TDCn_SRC_start_edge, TDCn_SRC_stop_edge]⟩

def TDCn_SKIP_skip : Fld := ⟨0x50008, 0x40, 1, 0x0, 0, 24, .rw, 0⟩
/-- `TDCn_SKIP`, R194 of spec/06_interval_measurement.md. -/
def TDCn_SKIP : RegDef := ⟨"TDCn_SKIP", 0x50008, 0x40, 40, 1, 0x0, 1,
  [TDCn_SKIP_skip]⟩

def TDCn_STATUS_state : Fld := ⟨0x5000c, 0x40, 1, 0x0, 0, 2, .ro, 0⟩
def TDCn_STATUS_cal_valid : Fld := ⟨0x5000c, 0x40, 1, 0x0, 2, 1, .ro, 0⟩
def TDCn_STATUS_claim : Fld := ⟨0x5000c, 0x40, 1, 0x0, 3, 3, .ro, 0⟩
/-- `TDCn_STATUS`, R194 of spec/06_interval_measurement.md. -/
def TDCn_STATUS : RegDef := ⟨"TDCn_STATUS", 0x5000c, 0x40, 40, 1, 0x0, 1,
  [TDCn_STATUS_state, TDCn_STATUS_cal_valid, TDCn_STATUS_claim]⟩

def TDCn_LIMIT_us : Fld := ⟨0x50010, 0x40, 1, 0x0, 0, 32, .rw, 0⟩
/-- `TDCn_LIMIT`, R194 of spec/06_interval_measurement.md. -/
def TDCn_LIMIT : RegDef := ⟨"TDCn_LIMIT", 0x50010, 0x40, 40, 1, 0x0, 1,
  [TDCn_LIMIT_us]⟩

def TDCn_RESULT_item : Fld := ⟨0x50014, 0x40, 1, 0x0, 0, 64, .ro, 0⟩
/-- `TDCn_RESULT`, R194 of spec/06_interval_measurement.md. -/
def TDCn_RESULT : RegDef := ⟨"TDCn_RESULT", 0x50014, 0x40, 40, 1, 0x0, 2,
  [TDCn_RESULT_item]⟩

def TDCn_STOP_TIME_time : Fld := ⟨0x5001c, 0x40, 1, 0x0, 0, 96, .ro, 0⟩
/-- `TDCn_STOP_TIME`, R194 of spec/06_interval_measurement.md. -/
def TDCn_STOP_TIME : RegDef := ⟨"TDCn_STOP_TIME", 0x5001c, 0x40, 40, 1, 0x0, 3,
  [TDCn_STOP_TIME_time]⟩

def TDCn_DONE_count : Fld := ⟨0x50028, 0x40, 1, 0x0, 0, 64, .ro, 0⟩
/-- `TDCn_DONE`, R194 of spec/06_interval_measurement.md. -/
def TDCn_DONE : RegDef := ⟨"TDCn_DONE", 0x50028, 0x40, 40, 1, 0x0, 2,
  [TDCn_DONE_count]⟩

def TDCn_IGNORED_count : Fld := ⟨0x50030, 0x40, 1, 0x0, 0, 64, .ro, 0⟩
/-- `TDCn_IGNORED`, R194 of spec/06_interval_measurement.md. -/
def TDCn_IGNORED : RegDef := ⟨"TDCn_IGNORED", 0x50030, 0x40, 40, 1, 0x0, 2,
  [TDCn_IGNORED_count]⟩

def TDCn_LOST_count : Fld := ⟨0x50038, 0x40, 1, 0x0, 0, 64, .ro, 0⟩
/-- `TDCn_LOST`, R194 of spec/06_interval_measurement.md. -/
def TDCn_LOST : RegDef := ⟨"TDCn_LOST", 0x50038, 0x40, 40, 1, 0x0, 2,
  [TDCn_LOST_count]⟩

def TDC_CAL_CTL_bg_en : Fld := ⟨0x50c00, 0x0, 1, 0x0, 0, 1, .rw, 1⟩
def TDC_CAL_CTL_hist : Fld := ⟨0x50c00, 0x0, 1, 0x0, 1, 5, .rw, 24⟩
/-- `TDC_CAL_CTL`, R198 of spec/06_interval_measurement.md. -/
def TDC_CAL_CTL : RegDef := ⟨"TDC_CAL_CTL", 0x50c00, 0x0, 1, 1, 0x0, 1,
  [TDC_CAL_CTL_bg_en, TDC_CAL_CTL_hist]⟩

def TDC_CAL_VALID_valid : Fld := ⟨0x50c04, 0x0, 1, 0x0, 0, 40, .ro, 0⟩
/-- `TDC_CAL_VALID`, R198 of spec/06_interval_measurement.md. -/
def TDC_CAL_VALID : RegDef := ⟨"TDC_CAL_VALID", 0x50c04, 0x0, 1, 1, 0x0, 2,
  [TDC_CAL_VALID_valid]⟩

def TDC_CAL_FAIL_count : Fld := ⟨0x50c0c, 0x0, 1, 0x0, 0, 64, .ro, 0⟩
/-- `TDC_CAL_FAIL`, R198 of spec/06_interval_measurement.md. -/
def TDC_CAL_FAIL : RegDef := ⟨"TDC_CAL_FAIL", 0x50c0c, 0x0, 1, 1, 0x0, 2,
  [TDC_CAL_FAIL_count]⟩

def TDC_TEMP_now : Fld := ⟨0x50c14, 0x0, 1, 0x0, 0, 16, .ro, 0⟩
def TDC_TEMP_cal : Fld := ⟨0x50c14, 0x0, 1, 0x0, 16, 16, .ro, 0⟩
/-- `TDC_TEMP`, R198 of spec/06_interval_measurement.md. -/
def TDC_TEMP : RegDef := ⟨"TDC_TEMP", 0x50c14, 0x0, 1, 1, 0x0, 1,
  [TDC_TEMP_now, TDC_TEMP_cal]⟩

def MOSSn_CTL_samples : Fld := ⟨0x58000, 0x40, 1, 0x0, 0, 8, .rw, 1⟩
def MOSSn_CTL_rearm : Fld := ⟨0x58000, 0x40, 1, 0x0, 8, 1, .rw, 0⟩
def MOSSn_CTL_report : Fld := ⟨0x58000, 0x40, 1, 0x0, 9, 1, .rw, 0⟩
/-- `MOSSn_CTL`, R201 of spec/06_interval_measurement.md. -/
def MOSSn_CTL : RegDef := ⟨"MOSSn_CTL", 0x58000, 0x40, 40, 1, 0x0, 1,
  [MOSSn_CTL_samples, MOSSn_CTL_rearm, MOSSn_CTL_report]⟩

def MOSSn_PERIOD_ms : Fld := ⟨0x58004, 0x40, 1, 0x0, 0, 16, .rw, 0x3e8⟩
def MOSSn_PERIOD_lead : Fld := ⟨0x58004, 0x40, 1, 0x0, 16, 16, .rw, 10⟩
/-- `MOSSn_PERIOD`, R201 of spec/06_interval_measurement.md. -/
def MOSSn_PERIOD : RegDef := ⟨"MOSSn_PERIOD", 0x58004, 0x40, 40, 1, 0x0, 1,
  [MOSSn_PERIOD_ms, MOSSn_PERIOD_lead]⟩

def MOSSn_EXPECT_expect : Fld := ⟨0x58008, 0x40, 1, 0x0, 0, 57, .rw, 0⟩
/-- `MOSSn_EXPECT`, R201 of spec/06_interval_measurement.md. -/
def MOSSn_EXPECT : RegDef := ⟨"MOSSn_EXPECT", 0x58008, 0x40, 40, 1, 0x0, 2,
  [MOSSn_EXPECT_expect]⟩

def MOSSn_WIN_bins : Fld := ⟨0x58010, 0x40, 1, 0x0, 0, 32, .rw, 0x400⟩
/-- `MOSSn_WIN`, R201 of spec/06_interval_measurement.md. -/
def MOSSn_WIN : RegDef := ⟨"MOSSn_WIN", 0x58010, 0x40, 40, 1, 0x0, 1,
  [MOSSn_WIN_bins]⟩

def MOSSn_SPREAD_bins : Fld := ⟨0x58014, 0x40, 1, 0x0, 0, 32, .rw, 0xffffffff⟩
/-- `MOSSn_SPREAD`, R201 of spec/06_interval_measurement.md. -/
def MOSSn_SPREAD : RegDef := ⟨"MOSSn_SPREAD", 0x58014, 0x40, 40, 1, 0x0, 1,
  [MOSSn_SPREAD_bins]⟩

def MOSSn_STATUS_state : Fld := ⟨0x58018, 0x40, 1, 0x0, 0, 2, .ro, 0⟩
def MOSSn_STATUS_cause : Fld := ⟨0x58018, 0x40, 1, 0x0, 2, 3, .ro, 0⟩
/-- `MOSSn_STATUS`, R201 of spec/06_interval_measurement.md. -/
def MOSSn_STATUS : RegDef := ⟨"MOSSn_STATUS", 0x58018, 0x40, 40, 1, 0x0, 1,
  [MOSSn_STATUS_state, MOSSn_STATUS_cause]⟩

def MOSSn_MEAN_mean : Fld := ⟨0x5801c, 0x40, 1, 0x0, 0, 57, .ro, 0⟩
/-- `MOSSn_MEAN`, R201 of spec/06_interval_measurement.md. -/
def MOSSn_MEAN : RegDef := ⟨"MOSSn_MEAN", 0x5801c, 0x40, 40, 1, 0x0, 2,
  [MOSSn_MEAN_mean]⟩

def MOSSn_ROUNDS_count : Fld := ⟨0x58024, 0x40, 1, 0x0, 0, 64, .ro, 0⟩
/-- `MOSSn_ROUNDS`, R201 of spec/06_interval_measurement.md. -/
def MOSSn_ROUNDS : RegDef := ⟨"MOSSn_ROUNDS", 0x58024, 0x40, 40, 1, 0x0, 2,
  [MOSSn_ROUNDS_count]⟩

def MOSSn_DEV_count : Fld := ⟨0x5802c, 0x40, 1, 0x0, 0, 64, .ro, 0⟩
/-- `MOSSn_DEV`, R201 of spec/06_interval_measurement.md. -/
def MOSSn_DEV : RegDef := ⟨"MOSSn_DEV", 0x5802c, 0x40, 40, 1, 0x0, 2,
  [MOSSn_DEV_count]⟩

def MOSSn_SKIP_count : Fld := ⟨0x58034, 0x40, 1, 0x0, 0, 64, .ro, 0⟩
/-- `MOSSn_SKIP`, R201 of spec/06_interval_measurement.md. -/
def MOSSn_SKIP : RegDef := ⟨"MOSSn_SKIP", 0x58034, 0x40, 40, 1, 0x0, 2,
  [MOSSn_SKIP_count]⟩

def MOSS_Gp_CTL_en : Fld := ⟨0x59000, 0x40, 1, 0x0, 0, 1, .rw, 0⟩
def MOSS_Gp_CTL_l1 : Fld := ⟨0x59000, 0x40, 1, 0x0, 1, 1, .rw, 1⟩
def MOSS_Gp_CTL_l5 : Fld := ⟨0x59000, 0x40, 1, 0x0, 2, 1, .rw, 1⟩
def MOSS_Gp_CTL_len_ms : Fld := ⟨0x59000, 0x40, 1, 0x0, 3, 5, .rw, 2⟩
def MOSS_Gp_CTL_wake_every : Fld := ⟨0x59000, 0x40, 1, 0x0, 8, 16, .rw, 0⟩
def MOSS_Gp_CTL_release : Fld := ⟨0x59000, 0x40, 1, 0x0, 30, 1, .wo, 0⟩
/-- `MOSS_Gp_CTL`, R203 of spec/06_interval_measurement.md. -/
def MOSS_Gp_CTL : RegDef := ⟨"MOSS_Gp_CTL", 0x59000, 0x40, 4, 1, 0x0, 1,
  [MOSS_Gp_CTL_en, MOSS_Gp_CTL_l1, MOSS_Gp_CTL_l5, MOSS_Gp_CTL_len_ms, MOSS_Gp_CTL_wake_every, MOSS_Gp_CTL_release]⟩

def MOSS_Gp_PERIOD_ms : Fld := ⟨0x59004, 0x40, 1, 0x0, 0, 16, .rw, 0xea60⟩
/-- `MOSS_Gp_PERIOD`, R203 of spec/06_interval_measurement.md. -/
def MOSS_Gp_PERIOD : RegDef := ⟨"MOSS_Gp_PERIOD", 0x59004, 0x40, 4, 1, 0x0, 1,
  [MOSS_Gp_PERIOD_ms]⟩

def MOSS_Gp_BUF_base : Fld := ⟨0x59008, 0x40, 1, 0x0, 6, 17, .rw, 0⟩
/-- `MOSS_Gp_BUF`, R203 of spec/06_interval_measurement.md. -/
def MOSS_Gp_BUF : RegDef := ⟨"MOSS_Gp_BUF", 0x59008, 0x40, 4, 1, 0x0, 1,
  [MOSS_Gp_BUF_base]⟩

def MOSS_Gp_FWIN_ppb : Fld := ⟨0x5900c, 0x40, 1, 0x0, 0, 16, .rw, 0x3e8⟩
/-- `MOSS_Gp_FWIN`, R203 of spec/06_interval_measurement.md. -/
def MOSS_Gp_FWIN : RegDef := ⟨"MOSS_Gp_FWIN", 0x5900c, 0x40, 4, 1, 0x0, 1,
  [MOSS_Gp_FWIN_ppb]⟩

def MOSS_Gp_PWR_L1_min : Fld := ⟨0x59010, 0x40, 1, 0x0, 0, 16, .rw, 0x100⟩
def MOSS_Gp_PWR_L1_max : Fld := ⟨0x59010, 0x40, 1, 0x0, 16, 16, .rw, 0x2000⟩
/-- `MOSS_Gp_PWR_L1`, R203 of spec/06_interval_measurement.md. -/
def MOSS_Gp_PWR_L1 : RegDef := ⟨"MOSS_Gp_PWR_L1", 0x59010, 0x40, 4, 1, 0x0, 1,
  [MOSS_Gp_PWR_L1_min, MOSS_Gp_PWR_L1_max]⟩

def MOSS_Gp_PWR_L5_min : Fld := ⟨0x59014, 0x40, 1, 0x0, 0, 16, .rw, 0x100⟩
def MOSS_Gp_PWR_L5_max : Fld := ⟨0x59014, 0x40, 1, 0x0, 16, 16, .rw, 0x2000⟩
/-- `MOSS_Gp_PWR_L5`, R203 of spec/06_interval_measurement.md. -/
def MOSS_Gp_PWR_L5 : RegDef := ⟨"MOSS_Gp_PWR_L5", 0x59014, 0x40, 4, 1, 0x0, 1,
  [MOSS_Gp_PWR_L5_min, MOSS_Gp_PWR_L5_max]⟩

def MOSS_Gp_CLIP_frac : Fld := ⟨0x59018, 0x40, 1, 0x0, 0, 8, .rw, 13⟩
/-- `MOSS_Gp_CLIP`, R203 of spec/06_interval_measurement.md. -/
def MOSS_Gp_CLIP : RegDef := ⟨"MOSS_Gp_CLIP", 0x59018, 0x40, 4, 1, 0x0, 1,
  [MOSS_Gp_CLIP_frac]⟩

def MOSS_Gp_STATUS_state : Fld := ⟨0x5901c, 0x40, 1, 0x0, 0, 2, .ro, 0⟩
def MOSS_Gp_STATUS_cause : Fld := ⟨0x5901c, 0x40, 1, 0x0, 2, 3, .ro, 0⟩
/-- `MOSS_Gp_STATUS`, R203 of spec/06_interval_measurement.md. -/
def MOSS_Gp_STATUS : RegDef := ⟨"MOSS_Gp_STATUS", 0x5901c, 0x40, 4, 1, 0x0, 1,
  [MOSS_Gp_STATUS_state, MOSS_Gp_STATUS_cause]⟩

def MOSS_Gp_LAST_FREQ_ppb : Fld := ⟨0x59020, 0x40, 1, 0x0, 0, 32, .ro, 0⟩
/-- `MOSS_Gp_LAST_FREQ`, R203 of spec/06_interval_measurement.md. -/
def MOSS_Gp_LAST_FREQ : RegDef := ⟨"MOSS_Gp_LAST_FREQ", 0x59020, 0x40, 4, 1, 0x0, 1,
  [MOSS_Gp_LAST_FREQ_ppb]⟩

def MOSS_Gp_LAST_PWR_l1 : Fld := ⟨0x59024, 0x40, 1, 0x0, 0, 16, .ro, 0⟩
def MOSS_Gp_LAST_PWR_l5 : Fld := ⟨0x59024, 0x40, 1, 0x0, 16, 16, .ro, 0⟩
/-- `MOSS_Gp_LAST_PWR`, R203 of spec/06_interval_measurement.md. -/
def MOSS_Gp_LAST_PWR : RegDef := ⟨"MOSS_Gp_LAST_PWR", 0x59024, 0x40, 4, 1, 0x0, 1,
  [MOSS_Gp_LAST_PWR_l1, MOSS_Gp_LAST_PWR_l5]⟩

def MOSS_Gp_ROUNDS_count : Fld := ⟨0x59028, 0x40, 1, 0x0, 0, 64, .ro, 0⟩
/-- `MOSS_Gp_ROUNDS`, R203 of spec/06_interval_measurement.md. -/
def MOSS_Gp_ROUNDS : RegDef := ⟨"MOSS_Gp_ROUNDS", 0x59028, 0x40, 4, 1, 0x0, 2,
  [MOSS_Gp_ROUNDS_count]⟩

def MOSS_Gp_DEV_count : Fld := ⟨0x59030, 0x40, 1, 0x0, 0, 64, .ro, 0⟩
/-- `MOSS_Gp_DEV`, R203 of spec/06_interval_measurement.md. -/
def MOSS_Gp_DEV : RegDef := ⟨"MOSS_Gp_DEV", 0x59030, 0x40, 4, 1, 0x0, 2,
  [MOSS_Gp_DEV_count]⟩

def RCL_CTL_slew : Fld := ⟨0x60000, 0x0, 1, 0x0, 0, 1, .rw, 0⟩
def RCL_CTL_third_osc : Fld := ⟨0x60000, 0x0, 1, 0x0, 1, 2, .rw, 0⟩
/-- `RCL_CTL`, R228 of spec/07_roll_call.md. -/
def RCL_CTL : RegDef := ⟨"RCL_CTL", 0x60000, 0x0, 1, 1, 0x0, 1,
  [RCL_CTL_slew, RCL_CTL_third_osc]⟩

def RCL_ALIGN_TIME_ms : Fld := ⟨0x60004, 0x0, 1, 0x0, 0, 16, .rw, 100⟩
/-- `RCL_ALIGN_TIME`, R228 of spec/07_roll_call.md. -/
def RCL_ALIGN_TIME : RegDef := ⟨"RCL_ALIGN_TIME", 0x60004, 0x0, 1, 1, 0x0, 1,
  [RCL_ALIGN_TIME_ms]⟩

def RCL_WTR_secs : Fld := ⟨0x60008, 0x0, 1, 0x0, 0, 16, .rw, 0x12c⟩
/-- `RCL_WTR`, R228 of spec/07_roll_call.md. -/
def RCL_WTR : RegDef := ⟨"RCL_WTR", 0x60008, 0x0, 1, 1, 0x0, 1,
  [RCL_WTR_secs]⟩

def RCL_DISPUTE_LIMIT_ppt : Fld := ⟨0x6000c, 0x0, 1, 0x0, 0, 16, .rw, 50⟩
def RCL_DISPUTE_LIMIT_win : Fld := ⟨0x6000c, 0x0, 1, 0x0, 16, 16, .rw, 100⟩
/-- `RCL_DISPUTE_LIMIT`, R228 of spec/07_roll_call.md. -/
def RCL_DISPUTE_LIMIT : RegDef := ⟨"RCL_DISPUTE_LIMIT", 0x6000c, 0x0, 1, 1, 0x0, 1,
  [RCL_DISPUTE_LIMIT_ppt, RCL_DISPUTE_LIMIT_win]⟩

def RCL_JUMP_SETTLE_secs : Fld := ⟨0x60010, 0x0, 1, 0x0, 0, 16, .rw, 0x258⟩
/-- `RCL_JUMP_SETTLE`, R228 of spec/07_roll_call.md. -/
def RCL_JUMP_SETTLE : RegDef := ⟨"RCL_JUMP_SETTLE", 0x60010, 0x0, 1, 1, 0x0, 1,
  [RCL_JUMP_SETTLE_secs]⟩

def RCL_JUMP_CONSIST_ps : Fld := ⟨0x60014, 0x0, 1, 0x0, 0, 32, .rw, 0x186a0⟩
/-- `RCL_JUMP_CONSIST`, R228 of spec/07_roll_call.md. -/
def RCL_JUMP_CONSIST : RegDef := ⟨"RCL_JUMP_CONSIST", 0x60014, 0x0, 1, 1, 0x0, 1,
  [RCL_JUMP_CONSIST_ps]⟩

def RCL_CMD_op : Fld := ⟨0x60018, 0x0, 1, 0x0, 0, 3, .wo, 0⟩
def RCL_CMD_slot : Fld := ⟨0x60018, 0x0, 1, 0x0, 8, 5, .wo, 0⟩
/-- `RCL_CMD`, R228 of spec/07_roll_call.md. -/
def RCL_CMD : RegDef := ⟨"RCL_CMD", 0x60018, 0x0, 1, 1, 0x0, 1,
  [RCL_CMD_op, RCL_CMD_slot]⟩

def RCL_RESULT_result : Fld := ⟨0x6001c, 0x0, 1, 0x0, 0, 2, .ro, 0⟩
/-- `RCL_RESULT`, R228 of spec/07_roll_call.md. -/
def RCL_RESULT : RegDef := ⟨"RCL_RESULT", 0x6001c, 0x0, 1, 1, 0x0, 1,
  [RCL_RESULT_result]⟩

def RCL_STATUS_selected : Fld := ⟨0x60020, 0x0, 1, 0x0, 0, 6, .ro, 63⟩
def RCL_STATUS_target : Fld := ⟨0x60020, 0x0, 1, 0x0, 6, 6, .ro, 63⟩
def RCL_STATUS_phase : Fld := ⟨0x60020, 0x0, 1, 0x0, 12, 2, .ro, 0⟩
def RCL_STATUS_deferred : Fld := ⟨0x60020, 0x0, 1, 0x0, 14, 1, .ro, 0⟩
def RCL_STATUS_forced : Fld := ⟨0x60020, 0x0, 1, 0x0, 15, 1, .ro, 0⟩
def RCL_STATUS_jump : Fld := ⟨0x60020, 0x0, 1, 0x0, 16, 1, .ro, 0⟩
def RCL_STATUS_need_step : Fld := ⟨0x60020, 0x0, 1, 0x0, 17, 1, .ro, 0⟩
def RCL_STATUS_dispute : Fld := ⟨0x60020, 0x0, 1, 0x0, 18, 1, .ro, 0⟩
def RCL_STATUS_fslot : Fld := ⟨0x60020, 0x0, 1, 0x0, 19, 5, .ro, 31⟩
/-- `RCL_STATUS`, R228 of spec/07_roll_call.md. -/
def RCL_STATUS : RegDef := ⟨"RCL_STATUS", 0x60020, 0x0, 1, 1, 0x0, 1,
  [RCL_STATUS_selected, RCL_STATUS_target, RCL_STATUS_phase, RCL_STATUS_deferred, RCL_STATUS_forced, RCL_STATUS_jump, RCL_STATUS_need_step, RCL_STATUS_dispute, RCL_STATUS_fslot]⟩

def RCL_ALARM_dispute : Fld := ⟨0x60024, 0x0, 1, 0x0, 0, 1, .w1c, 0⟩
def RCL_ALARM_jump : Fld := ⟨0x60024, 0x0, 1, 0x0, 1, 1, .w1c, 0⟩
def RCL_ALARM_holdover : Fld := ⟨0x60024, 0x0, 1, 0x0, 2, 1, .w1c, 0⟩
def RCL_ALARM_need_step : Fld := ⟨0x60024, 0x0, 1, 0x0, 3, 1, .w1c, 0⟩
/-- `RCL_ALARM`, R228 of spec/07_roll_call.md. -/
def RCL_ALARM : RegDef := ⟨"RCL_ALARM", 0x60024, 0x0, 1, 1, 0x0, 1,
  [RCL_ALARM_dispute, RCL_ALARM_jump, RCL_ALARM_holdover, RCL_ALARM_need_step]⟩

def RCL_COMMIT_time : Fld := ⟨0x60028, 0x0, 1, 0x0, 0, 96, .ro, 0⟩
/-- `RCL_COMMIT`, R228 of spec/07_roll_call.md. -/
def RCL_COMMIT : RegDef := ⟨"RCL_COMMIT", 0x60028, 0x0, 1, 1, 0x0, 3,
  [RCL_COMMIT_time]⟩

def RCL_BUILDOUT_b : Fld := ⟨0x60034, 0x0, 1, 0x0, 0, 64, .ro, 0⟩
/-- `RCL_BUILDOUT`, R228 of spec/07_roll_call.md. -/
def RCL_BUILDOUT : RegDef := ⟨"RCL_BUILDOUT", 0x60034, 0x0, 1, 1, 0x0, 2,
  [RCL_BUILDOUT_b]⟩

def RCL_SWITCHES_count : Fld := ⟨0x60040, 0x0, 1, 0x0, 0, 64, .ro, 0⟩
/-- `RCL_SWITCHES`, R228 of spec/07_roll_call.md. -/
def RCL_SWITCHES : RegDef := ⟨"RCL_SWITCHES", 0x60040, 0x0, 1, 1, 0x0, 2,
  [RCL_SWITCHES_count]⟩

def RCL_REDIRECTS_count : Fld := ⟨0x60048, 0x0, 1, 0x0, 0, 64, .ro, 0⟩
/-- `RCL_REDIRECTS`, R228 of spec/07_roll_call.md. -/
def RCL_REDIRECTS : RegDef := ⟨"RCL_REDIRECTS", 0x60048, 0x0, 1, 1, 0x0, 2,
  [RCL_REDIRECTS_count]⟩

def RCL_JUMPS_count : Fld := ⟨0x60050, 0x0, 1, 0x0, 0, 64, .ro, 0⟩
/-- `RCL_JUMPS`, R228 of spec/07_roll_call.md. -/
def RCL_JUMPS : RegDef := ⟨"RCL_JUMPS", 0x60050, 0x0, 1, 1, 0x0, 2,
  [RCL_JUMPS_count]⟩

def RCL_FEED_DROP_count : Fld := ⟨0x60058, 0x0, 1, 0x0, 0, 64, .ro, 0⟩
/-- `RCL_FEED_DROP`, R228 of spec/07_roll_call.md. -/
def RCL_FEED_DROP : RegDef := ⟨"RCL_FEED_DROP", 0x60058, 0x0, 1, 1, 0x0, 2,
  [RCL_FEED_DROP_count]⟩

def RCL_QLMAPc_q : Fld := ⟨0x60080, 0x4, 1, 0x0, 0, 16, .rw, 0x8000⟩
/-- `RCL_QLMAPc`, R228 of spec/07_roll_call.md. -/
def RCL_QLMAPc : RegDef := ⟨"RCL_QLMAPc", 0x60080, 0x4, 16, 1, 0x0, 1,
  [RCL_QLMAPc_q]⟩

def RCLn_CFG_kind : Fld := ⟨0x60100, 0x40, 1, 0x0, 0, 4, .rw, 0⟩
def RCLn_CFG_en : Fld := ⟨0x60100, 0x40, 1, 0x0, 4, 1, .rw, 0⟩
def RCLn_CFG_feed : Fld := ⟨0x60100, 0x40, 1, 0x0, 5, 1, .rw, 0⟩
def RCLn_CFG_lockout : Fld := ⟨0x60100, 0x40, 1, 0x0, 6, 1, .rw, 0⟩
def RCLn_CFG_src : Fld := ⟨0x60100, 0x40, 1, 0x0, 8, 5, .rw, 0⟩
def RCLn_CFG_prio : Fld := ⟨0x60100, 0x40, 1, 0x0, 16, 8, .rw, 128⟩
/-- `RCLn_CFG`, R229 of spec/07_roll_call.md. -/
def RCLn_CFG : RegDef := ⟨"RCLn_CFG", 0x60100, 0x40, 24, 1, 0x0, 1,
  [RCLn_CFG_kind, RCLn_CFG_en, RCLn_CFG_feed, RCLn_CFG_lockout, RCLn_CFG_src, RCLn_CFG_prio]⟩

def RCLn_NOMINAL_hz : Fld := ⟨0x60104, 0x40, 1, 0x0, 0, 32, .rw, 0x989680⟩
/-- `RCLn_NOMINAL`, R229 of spec/07_roll_call.md. -/
def RCLn_NOMINAL : RegDef := ⟨"RCLn_NOMINAL", 0x60104, 0x40, 24, 1, 0x0, 1,
  [RCLn_NOMINAL_hz]⟩

def RCLn_QUAL_ppb : Fld := ⟨0x60108, 0x40, 1, 0x0, 0, 16, .rw, 100⟩
def RCLn_QUAL_secs : Fld := ⟨0x60108, 0x40, 1, 0x0, 16, 16, .rw, 10⟩
/-- `RCLn_QUAL`, R229 of spec/07_roll_call.md. -/
def RCLn_QUAL : RegDef := ⟨"RCLn_QUAL", 0x60108, 0x40, 24, 1, 0x0, 1,
  [RCLn_QUAL_ppb, RCLn_QUAL_secs]⟩

def RCLn_PHASE_ps : Fld := ⟨0x6010c, 0x40, 1, 0x0, 0, 32, .rw, 0xf4240⟩
/-- `RCLn_PHASE`, R229 of spec/07_roll_call.md. -/
def RCLn_PHASE : RegDef := ⟨"RCLn_PHASE", 0x6010c, 0x40, 24, 1, 0x0, 1,
  [RCLn_PHASE_ps]⟩

def RCLn_MISS_us : Fld := ⟨0x60110, 0x40, 1, 0x0, 0, 24, .rw, 0⟩
def RCLn_MISS_count : Fld := ⟨0x60110, 0x40, 1, 0x0, 24, 4, .rw, 1⟩
/-- `RCLn_MISS`, R229 of spec/07_roll_call.md. -/
def RCLn_MISS : RegDef := ⟨"RCLn_MISS", 0x60110, 0x40, 24, 1, 0x0, 1,
  [RCLn_MISS_us, RCLn_MISS_count]⟩

def RCLn_QFIX_q : Fld := ⟨0x60114, 0x40, 1, 0x0, 0, 16, .rw, 0xffff⟩
/-- `RCLn_QFIX`, R229 of spec/07_roll_call.md. -/
def RCLn_QFIX : RegDef := ⟨"RCLn_QFIX", 0x60114, 0x40, 24, 1, 0x0, 1,
  [RCLn_QFIX_q]⟩

def RCLn_ADV_BOUND_ps : Fld := ⟨0x60118, 0x40, 1, 0x0, 0, 32, .rw, 0xffffffff⟩
/-- `RCLn_ADV_BOUND`, R229 of spec/07_roll_call.md. -/
def RCLn_ADV_BOUND : RegDef := ⟨"RCLn_ADV_BOUND", 0x60118, 0x40, 24, 1, 0x0, 1,
  [RCLn_ADV_BOUND_ps]⟩

def RCLn_STATUS_state : Fld := ⟨0x6011c, 0x40, 1, 0x0, 0, 3, .ro, 0⟩
def RCLn_STATUS_disputed : Fld := ⟨0x6011c, 0x40, 1, 0x0, 3, 1, .ro, 0⟩
def RCLn_STATUS_wtr : Fld := ⟨0x6011c, 0x40, 1, 0x0, 4, 1, .ro, 0⟩
def RCLn_STATUS_readmit : Fld := ⟨0x6011c, 0x40, 1, 0x0, 5, 1, .ro, 0⟩
/-- `RCLn_STATUS`, R229 of spec/07_roll_call.md. -/
def RCLn_STATUS : RegDef := ⟨"RCLn_STATUS", 0x6011c, 0x40, 24, 1, 0x0, 1,
  [RCLn_STATUS_state, RCLn_STATUS_disputed, RCLn_STATUS_wtr, RCLn_STATUS_readmit]⟩

def RCLn_Q_q : Fld := ⟨0x60120, 0x40, 1, 0x0, 0, 16, .ro, 0xffff⟩
/-- `RCLn_Q`, R229 of spec/07_roll_call.md. -/
def RCLn_Q : RegDef := ⟨"RCLn_Q", 0x60120, 0x40, 24, 1, 0x0, 1,
  [RCLn_Q_q]⟩

def RCLn_OFS_ofs : Fld := ⟨0x60124, 0x40, 1, 0x0, 0, 64, .ro, 0⟩
/-- `RCLn_OFS`, R229 of spec/07_roll_call.md. -/
def RCLn_OFS : RegDef := ⟨"RCLn_OFS", 0x60124, 0x40, 24, 1, 0x0, 2,
  [RCLn_OFS_ofs]⟩

def RCLn_FREQ_freq : Fld := ⟨0x6012c, 0x40, 1, 0x0, 0, 48, .ro, 0⟩
/-- `RCLn_FREQ`, R229 of spec/07_roll_call.md. -/
def RCLn_FREQ : RegDef := ⟨"RCLn_FREQ", 0x6012c, 0x40, 24, 1, 0x0, 2,
  [RCLn_FREQ_freq]⟩

def RCLn_TIMER_secs : Fld := ⟨0x60134, 0x40, 1, 0x0, 0, 32, .ro, 0⟩
/-- `RCLn_TIMER`, R229 of spec/07_roll_call.md. -/
def RCLn_TIMER : RegDef := ⟨"RCLn_TIMER", 0x60134, 0x40, 24, 1, 0x0, 1,
  [RCLn_TIMER_secs]⟩

def RCLn_DISQ_count : Fld := ⟨0x60138, 0x40, 1, 0x0, 0, 64, .ro, 0⟩
/-- `RCLn_DISQ`, R229 of spec/07_roll_call.md. -/
def RCLn_DISQ : RegDef := ⟨"RCLn_DISQ", 0x60138, 0x40, 24, 1, 0x0, 2,
  [RCLn_DISQ_count]⟩

def SRV_CTL_direct : Fld := ⟨0x70000, 0x0, 1, 0x0, 0, 1, .rw, 0⟩
def SRV_CTL_age_est : Fld := ⟨0x70000, 0x0, 1, 0x0, 1, 1, .rw, 1⟩
def SRV_CTL_hold_age : Fld := ⟨0x70000, 0x0, 1, 0x0, 2, 1, .rw, 1⟩
/-- `SRV_CTL`, R259 of spec/08_servo_holdover.md. -/
def SRV_CTL : RegDef := ⟨"SRV_CTL", 0x70000, 0x0, 1, 1, 0x0, 1,
  [SRV_CTL_direct, SRV_CTL_age_est, SRV_CTL_hold_age]⟩

def SRV_SLEW_MAX_ps_s : Fld := ⟨0x70004, 0x0, 1, 0x0, 0, 20, .rw, 0x1388⟩
/-- `SRV_SLEW_MAX`, R259 of spec/08_servo_holdover.md. -/
def SRV_SLEW_MAX : RegDef := ⟨"SRV_SLEW_MAX", 0x70004, 0x0, 1, 1, 0x0, 1,
  [SRV_SLEW_MAX_ps_s]⟩

def SRV_STEP_LIMIT_ps : Fld := ⟨0x70008, 0x0, 1, 0x0, 0, 32, .rw, 0x186a0⟩
/-- `SRV_STEP_LIMIT`, R259 of spec/08_servo_holdover.md. -/
def SRV_STEP_LIMIT : RegDef := ⟨"SRV_STEP_LIMIT", 0x70008, 0x0, 1, 1, 0x0, 1,
  [SRV_STEP_LIMIT_ps]⟩

def SRV_STEP_CONFIRM_count : Fld := ⟨0x7000c, 0x0, 1, 0x0, 0, 8, .rw, 16⟩
/-- `SRV_STEP_CONFIRM`, R259 of spec/08_servo_holdover.md. -/
def SRV_STEP_CONFIRM : RegDef := ⟨"SRV_STEP_CONFIRM", 0x7000c, 0x0, 1, 1, 0x0, 1,
  [SRV_STEP_CONFIRM_count]⟩

def SRV_PHASE_TC_secs : Fld := ⟨0x70010, 0x0, 1, 0x0, 0, 16, .rw, 16⟩
/-- `SRV_PHASE_TC`, R259 of spec/08_servo_holdover.md. -/
def SRV_PHASE_TC : RegDef := ⟨"SRV_PHASE_TC", 0x70010, 0x0, 1, 1, 0x0, 1,
  [SRV_PHASE_TC_secs]⟩

def SRV_DEADBAND_ps : Fld := ⟨0x70014, 0x0, 1, 0x0, 0, 16, .rw, 1⟩
/-- `SRV_DEADBAND`, R259 of spec/08_servo_holdover.md. -/
def SRV_DEADBAND : RegDef := ⟨"SRV_DEADBAND", 0x70014, 0x0, 1, 1, 0x0, 1,
  [SRV_DEADBAND_ps]⟩

def SRV_QX_m : Fld := ⟨0x70018, 0x0, 1, 0x0, 0, 24, .rw, 1⟩
def SRV_QX_e : Fld := ⟨0x70018, 0x0, 1, 0x0, 24, 8, .rw, 0⟩
/-- `SRV_QX`, R259 of spec/08_servo_holdover.md. -/
def SRV_QX : RegDef := ⟨"SRV_QX", 0x70018, 0x0, 1, 1, 0x0, 1,
  [SRV_QX_m, SRV_QX_e]⟩

def SRV_QY_m : Fld := ⟨0x7001c, 0x0, 1, 0x0, 0, 24, .rw, 0xd1b717⟩
def SRV_QY_e : Fld := ⟨0x7001c, 0x0, 1, 0x0, 24, 8, .rw, 219⟩
/-- `SRV_QY`, R259 of spec/08_servo_holdover.md. -/
def SRV_QY : RegDef := ⟨"SRV_QY", 0x7001c, 0x0, 1, 1, 0x0, 1,
  [SRV_QY_m, SRV_QY_e]⟩

def SRV_QA_m : Fld := ⟨0x70020, 0x0, 1, 0x0, 0, 24, .rw, 0⟩
def SRV_QA_e : Fld := ⟨0x70020, 0x0, 1, 0x0, 24, 8, .rw, 0⟩
/-- `SRV_QA`, R259 of spec/08_servo_holdover.md. -/
def SRV_QA : RegDef := ⟨"SRV_QA", 0x70020, 0x0, 1, 1, 0x0, 1,
  [SRV_QA_m, SRV_QA_e]⟩

def SRV_R_MIN_ps : Fld := ⟨0x70024, 0x0, 1, 0x0, 0, 16, .rw, 10⟩
/-- `SRV_R_MIN`, R259 of spec/08_servo_holdover.md. -/
def SRV_R_MIN : RegDef := ⟨"SRV_R_MIN", 0x70024, 0x0, 1, 1, 0x0, 1,
  [SRV_R_MIN_ps]⟩

def SRV_BOUND_K_k : Fld := ⟨0x70028, 0x0, 1, 0x0, 0, 8, .rw, 48⟩
/-- `SRV_BOUND_K`, R259 of spec/08_servo_holdover.md. -/
def SRV_BOUND_K : RegDef := ⟨"SRV_BOUND_K", 0x70028, 0x0, 1, 1, 0x0, 1,
  [SRV_BOUND_K_k]⟩

def SRV_Y_FLOOR_y : Fld := ⟨0x7002c, 0x0, 1, 0x0, 0, 48, .rw, 0x2ee⟩
/-- `SRV_Y_FLOOR`, R259 of spec/08_servo_holdover.md. -/
def SRV_Y_FLOOR : RegDef := ⟨"SRV_Y_FLOOR", 0x7002c, 0x0, 1, 1, 0x0, 2,
  [SRV_Y_FLOOR_y]⟩

def SRV_A_FLOOR_a : Fld := ⟨0x70034, 0x0, 1, 0x0, 0, 48, .rw, 0⟩
/-- `SRV_A_FLOOR`, R259 of spec/08_servo_holdover.md. -/
def SRV_A_FLOOR : RegDef := ⟨"SRV_A_FLOOR", 0x70034, 0x0, 1, 1, 0x0, 2,
  [SRV_A_FLOOR_a]⟩

def SRV_INIT_Y_ppt : Fld := ⟨0x7003c, 0x0, 1, 0x0, 0, 32, .rw, 0x186a0⟩
/-- `SRV_INIT_Y`, R259 of spec/08_servo_holdover.md. -/
def SRV_INIT_Y : RegDef := ⟨"SRV_INIT_Y", 0x7003c, 0x0, 1, 1, 0x0, 1,
  [SRV_INIT_Y_ppt]⟩

def SRV_INIT_A_ppt_d : Fld := ⟨0x70040, 0x0, 1, 0x0, 0, 32, .rw, 0x2710⟩
/-- `SRV_INIT_A`, R259 of spec/08_servo_holdover.md. -/
def SRV_INIT_A : RegDef := ⟨"SRV_INIT_A", 0x70040, 0x0, 1, 1, 0x0, 1,
  [SRV_INIT_A_ppt_d]⟩

def SRV_RETRACE_ppt : Fld := ⟨0x70044, 0x0, 1, 0x0, 0, 32, .rw, 0x3e8⟩
/-- `SRV_RETRACE`, R259 of spec/08_servo_holdover.md. -/
def SRV_RETRACE : RegDef := ⟨"SRV_RETRACE", 0x70044, 0x0, 1, 1, 0x0, 1,
  [SRV_RETRACE_ppt]⟩

def SRV_WORD_RATE_rate : Fld := ⟨0x70048, 0x0, 1, 0x0, 0, 32, .rw, 0x3e80000⟩
/-- `SRV_WORD_RATE`, R259 of spec/08_servo_holdover.md. -/
def SRV_WORD_RATE : RegDef := ⟨"SRV_WORD_RATE", 0x70048, 0x0, 1, 1, 0x0, 1,
  [SRV_WORD_RATE_rate]⟩

def SRV_HOLD_SPEC_ps : Fld := ⟨0x7004c, 0x0, 1, 0x0, 0, 32, .rw, 0xf4240⟩
/-- `SRV_HOLD_SPEC`, R259 of spec/08_servo_holdover.md. -/
def SRV_HOLD_SPEC : RegDef := ⟨"SRV_HOLD_SPEC", 0x7004c, 0x0, 1, 1, 0x0, 1,
  [SRV_HOLD_SPEC_ps]⟩

def SRV_LOCK_AGE_secs : Fld := ⟨0x70050, 0x0, 1, 0x0, 0, 16, .rw, 10⟩
/-- `SRV_LOCK_AGE`, R259 of spec/08_servo_holdover.md. -/
def SRV_LOCK_AGE : RegDef := ⟨"SRV_LOCK_AGE", 0x70050, 0x0, 1, 1, 0x0, 1,
  [SRV_LOCK_AGE_secs]⟩

def SRV_BOUND_ALARM_ps : Fld := ⟨0x70054, 0x0, 1, 0x0, 0, 32, .rw, 0xffffffff⟩
/-- `SRV_BOUND_ALARM`, R259 of spec/08_servo_holdover.md. -/
def SRV_BOUND_ALARM : RegDef := ⟨"SRV_BOUND_ALARM", 0x70054, 0x0, 1, 1, 0x0, 1,
  [SRV_BOUND_ALARM_ps]⟩

def SRV_CMD_op : Fld := ⟨0x70058, 0x0, 1, 0x0, 0, 2, .wo, 0⟩
/-- `SRV_CMD`, R259 of spec/08_servo_holdover.md. -/
def SRV_CMD : RegDef := ⟨"SRV_CMD", 0x70058, 0x0, 1, 1, 0x0, 1,
  [SRV_CMD_op]⟩

def SRV_RESULT_result : Fld := ⟨0x7005c, 0x0, 1, 0x0, 0, 2, .ro, 0⟩
/-- `SRV_RESULT`, R259 of spec/08_servo_holdover.md. -/
def SRV_RESULT : RegDef := ⟨"SRV_RESULT", 0x7005c, 0x0, 1, 1, 0x0, 1,
  [SRV_RESULT_result]⟩

def SRV_STATUS_mode : Fld := ⟨0x70060, 0x0, 1, 0x0, 0, 2, .ro, 0⟩
def SRV_STATUS_step_refused : Fld := ⟨0x70060, 0x0, 1, 0x0, 2, 1, .ro, 0⟩
def SRV_STATUS_candidate : Fld := ⟨0x70060, 0x0, 1, 0x0, 3, 1, .ro, 0⟩
def SRV_STATUS_slewing : Fld := ⟨0x70060, 0x0, 1, 0x0, 4, 1, .ro, 0⟩
def SRV_STATUS_paused : Fld := ⟨0x70060, 0x0, 1, 0x0, 5, 1, .ro, 0⟩
def SRV_STATUS_fatal : Fld := ⟨0x70060, 0x0, 1, 0x0, 6, 1, .ro, 0⟩
def SRV_STATUS_fclamp : Fld := ⟨0x70060, 0x0, 1, 0x0, 7, 1, .ro, 0⟩
def SRV_STATUS_class : Fld := ⟨0x70060, 0x0, 1, 0x0, 8, 3, .ro, 0⟩
def SRV_STATUS_run : Fld := ⟨0x70060, 0x0, 1, 0x0, 16, 8, .ro, 0⟩
/-- `SRV_STATUS`, R259 of spec/08_servo_holdover.md. -/
def SRV_STATUS : RegDef := ⟨"SRV_STATUS", 0x70060, 0x0, 1, 1, 0x0, 1,
  [SRV_STATUS_mode, SRV_STATUS_step_refused, SRV_STATUS_candidate, SRV_STATUS_slewing, SRV_STATUS_paused, SRV_STATUS_fatal, SRV_STATUS_fclamp, SRV_STATUS_class, SRV_STATUS_run]⟩

def SRV_ALARM_candidate_step : Fld := ⟨0x70064, 0x0, 1, 0x0, 0, 1, .w1c, 0⟩
def SRV_ALARM_bound : Fld := ⟨0x70064, 0x0, 1, 0x0, 1, 1, .w1c, 0⟩
def SRV_ALARM_fclamp : Fld := ⟨0x70064, 0x0, 1, 0x0, 2, 1, .w1c, 0⟩
/-- `SRV_ALARM`, R259 of spec/08_servo_holdover.md. -/
def SRV_ALARM : RegDef := ⟨"SRV_ALARM", 0x70064, 0x0, 1, 1, 0x0, 1,
  [SRV_ALARM_candidate_step, SRV_ALARM_bound, SRV_ALARM_fclamp]⟩

def SRV_BOUND_ps : Fld := ⟨0x70068, 0x0, 1, 0x0, 0, 32, .ro, 0xffffffff⟩
/-- `SRV_BOUND`, R259 of spec/08_servo_holdover.md. -/
def SRV_BOUND : RegDef := ⟨"SRV_BOUND", 0x70068, 0x0, 1, 1, 0x0, 1,
  [SRV_BOUND_ps]⟩

def SRV_LAST_FEED_time : Fld := ⟨0x7006c, 0x0, 1, 0x0, 0, 96, .ro, 0⟩
/-- `SRV_LAST_FEED`, R259 of spec/08_servo_holdover.md. -/
def SRV_LAST_FEED : RegDef := ⟨"SRV_LAST_FEED", 0x7006c, 0x0, 1, 1, 0x0, 3,
  [SRV_LAST_FEED_time]⟩

def SRV_PHASE_EST_p : Fld := ⟨0x70078, 0x0, 1, 0x0, 0, 64, .ro, 0⟩
/-- `SRV_PHASE_EST`, R259 of spec/08_servo_holdover.md. -/
def SRV_PHASE_EST : RegDef := ⟨"SRV_PHASE_EST", 0x70078, 0x0, 1, 1, 0x0, 2,
  [SRV_PHASE_EST_p]⟩

def SRV_FREQ_EST_y : Fld := ⟨0x70080, 0x0, 1, 0x0, 0, 48, .ro, 0⟩
/-- `SRV_FREQ_EST`, R259 of spec/08_servo_holdover.md. -/
def SRV_FREQ_EST : RegDef := ⟨"SRV_FREQ_EST", 0x70080, 0x0, 1, 1, 0x0, 2,
  [SRV_FREQ_EST_y]⟩

def SRV_AGE_EST_a : Fld := ⟨0x70088, 0x0, 1, 0x0, 0, 48, .ro, 0⟩
/-- `SRV_AGE_EST`, R259 of spec/08_servo_holdover.md. -/
def SRV_AGE_EST : RegDef := ⟨"SRV_AGE_EST", 0x70088, 0x0, 1, 1, 0x0, 2,
  [SRV_AGE_EST_a]⟩

def SRV_SIGMA_X_ps : Fld := ⟨0x70090, 0x0, 1, 0x0, 0, 32, .ro, 0xffffffff⟩
/-- `SRV_SIGMA_X`, R259 of spec/08_servo_holdover.md. -/
def SRV_SIGMA_X : RegDef := ⟨"SRV_SIGMA_X", 0x70090, 0x0, 1, 1, 0x0, 1,
  [SRV_SIGMA_X_ps]⟩

def SRV_SIGMA_Y_y : Fld := ⟨0x70094, 0x0, 1, 0x0, 0, 32, .ro, 0xffffffff⟩
/-- `SRV_SIGMA_Y`, R259 of spec/08_servo_holdover.md. -/
def SRV_SIGMA_Y : RegDef := ⟨"SRV_SIGMA_Y", 0x70094, 0x0, 1, 1, 0x0, 1,
  [SRV_SIGMA_Y_y]⟩

def SRV_SIGMA_A_a : Fld := ⟨0x70098, 0x0, 1, 0x0, 0, 32, .ro, 0xffffffff⟩
/-- `SRV_SIGMA_A`, R259 of spec/08_servo_holdover.md. -/
def SRV_SIGMA_A : RegDef := ⟨"SRV_SIGMA_A", 0x70098, 0x0, 1, 1, 0x0, 1,
  [SRV_SIGMA_A_a]⟩

def SRV_WORD_w : Fld := ⟨0x7009c, 0x0, 1, 0x0, 0, 48, .ro, 0⟩
/-- `SRV_WORD`, R259 of spec/08_servo_holdover.md. -/
def SRV_WORD : RegDef := ⟨"SRV_WORD", 0x7009c, 0x0, 1, 1, 0x0, 2,
  [SRV_WORD_w]⟩

def SRV_CANDIDATE_j : Fld := ⟨0x700a4, 0x0, 1, 0x0, 0, 64, .ro, 0⟩
/-- `SRV_CANDIDATE`, R259 of spec/08_servo_holdover.md. -/
def SRV_CANDIDATE : RegDef := ⟨"SRV_CANDIDATE", 0x700a4, 0x0, 1, 1, 0x0, 2,
  [SRV_CANDIDATE_j]⟩

def SRV_SINCE_FEED_secs : Fld := ⟨0x700ac, 0x0, 1, 0x0, 0, 32, .ro, 0xffffffff⟩
/-- `SRV_SINCE_FEED`, R259 of spec/08_servo_holdover.md. -/
def SRV_SINCE_FEED : RegDef := ⟨"SRV_SINCE_FEED", 0x700ac, 0x0, 1, 1, 0x0, 1,
  [SRV_SINCE_FEED_secs]⟩

def SRV_ACCEPTED_count : Fld := ⟨0x700b0, 0x0, 1, 0x0, 0, 64, .ro, 0⟩
/-- `SRV_ACCEPTED`, R259 of spec/08_servo_holdover.md. -/
def SRV_ACCEPTED : RegDef := ⟨"SRV_ACCEPTED", 0x700b0, 0x0, 1, 1, 0x0, 2,
  [SRV_ACCEPTED_count]⟩

def SRV_REFUSED_count : Fld := ⟨0x700b8, 0x0, 1, 0x0, 0, 64, .ro, 0⟩
/-- `SRV_REFUSED`, R259 of spec/08_servo_holdover.md. -/
def SRV_REFUSED : RegDef := ⟨"SRV_REFUSED", 0x700b8, 0x0, 1, 1, 0x0, 2,
  [SRV_REFUSED_count]⟩

def SRV_STALE_count : Fld := ⟨0x700c0, 0x0, 1, 0x0, 0, 64, .ro, 0⟩
/-- `SRV_STALE`, R259 of spec/08_servo_holdover.md. -/
def SRV_STALE : RegDef := ⟨"SRV_STALE", 0x700c0, 0x0, 1, 1, 0x0, 2,
  [SRV_STALE_count]⟩

def SRV_UNUSED_count : Fld := ⟨0x700c8, 0x0, 1, 0x0, 0, 64, .ro, 0⟩
/-- `SRV_UNUSED`, R259 of spec/08_servo_holdover.md. -/
def SRV_UNUSED : RegDef := ⟨"SRV_UNUSED", 0x700c8, 0x0, 1, 1, 0x0, 2,
  [SRV_UNUSED_count]⟩

def SRV_CLASSp_freerun : Fld := ⟨0x70100, 0x8, 1, 0x0, 0, 8, .rw, 248⟩
def SRV_CLASSp_locked : Fld := ⟨0x70100, 0x8, 1, 0x0, 8, 8, .rw, 6⟩
def SRV_CLASSp_hold_in : Fld := ⟨0x70100, 0x8, 1, 0x0, 16, 8, .rw, 7⟩
def SRV_CLASSp_hold_out_freq : Fld := ⟨0x70100, 0x8, 1, 0x0, 24, 8, .rw, 52⟩
def SRV_CLASSp_hold_out : Fld := ⟨0x70100, 0x8, 1, 0x0, 32, 8, .rw, 52⟩
/-- `SRV_CLASSp`, R259 of spec/08_servo_holdover.md. -/
def SRV_CLASSp : RegDef := ⟨"SRV_CLASSp", 0x70100, 0x8, 4, 1, 0x0, 2,
  [SRV_CLASSp_freerun, SRV_CLASSp_locked, SRV_CLASSp_hold_in, SRV_CLASSp_hold_out_freq, SRV_CLASSp_hold_out]⟩

def GNS_ACQ_CTL_frond : Fld := ⟨0x80000, 0x0, 1, 0x0, 0, 4, .rw, 0⟩
def GNS_ACQ_CTL_route_en : Fld := ⟨0x80000, 0x0, 1, 0x0, 4, 1, .rw, 0⟩
def GNS_ACQ_CTL_thresh : Fld := ⟨0x80000, 0x0, 1, 0x0, 8, 8, .rw, 40⟩
/-- `GNS_ACQ_CTL`, R292 of spec/09_gnss_baseband.md. -/
def GNS_ACQ_CTL : RegDef := ⟨"GNS_ACQ_CTL", 0x80000, 0x0, 1, 1, 0x0, 1,
  [GNS_ACQ_CTL_frond, GNS_ACQ_CTL_route_en, GNS_ACQ_CTL_thresh]⟩

def GNS_ACQ_SCRATCH_base : Fld := ⟨0x80004, 0x0, 1, 0x0, 6, 17, .rw, 0⟩
/-- `GNS_ACQ_SCRATCH`, R292 of spec/09_gnss_baseband.md. -/
def GNS_ACQ_SCRATCH : RegDef := ⟨"GNS_ACQ_SCRATCH", 0x80004, 0x0, 1, 1, 0x0, 1,
  [GNS_ACQ_SCRATCH_base]⟩

def GNS_ACQ_SUBMIT_slot : Fld := ⟨0x80008, 0x0, 1, 0x0, 0, 6, .wo, 0⟩
/-- `GNS_ACQ_SUBMIT`, R292 of spec/09_gnss_baseband.md. -/
def GNS_ACQ_SUBMIT : RegDef := ⟨"GNS_ACQ_SUBMIT", 0x80008, 0x0, 1, 1, 0x0, 1,
  [GNS_ACQ_SUBMIT_slot]⟩

def GNS_ACQ_STATUS_waiting : Fld := ⟨0x8000c, 0x0, 1, 0x0, 0, 7, .ro, 0⟩
def GNS_ACQ_STATUS_busy : Fld := ⟨0x8000c, 0x0, 1, 0x0, 7, 1, .ro, 0⟩
def GNS_ACQ_STATUS_slot : Fld := ⟨0x8000c, 0x0, 1, 0x0, 8, 6, .ro, 0⟩
/-- `GNS_ACQ_STATUS`, R292 of spec/09_gnss_baseband.md. -/
def GNS_ACQ_STATUS : RegDef := ⟨"GNS_ACQ_STATUS", 0x8000c, 0x0, 1, 1, 0x0, 1,
  [GNS_ACQ_STATUS_waiting, GNS_ACQ_STATUS_busy, GNS_ACQ_STATUS_slot]⟩

def GNS_ACQ_DONE_count : Fld := ⟨0x80010, 0x0, 1, 0x0, 0, 64, .ro, 0⟩
/-- `GNS_ACQ_DONE`, R292 of spec/09_gnss_baseband.md. -/
def GNS_ACQ_DONE : RegDef := ⟨"GNS_ACQ_DONE", 0x80010, 0x0, 1, 1, 0x0, 2,
  [GNS_ACQ_DONE_count]⟩

def GNS_ACQ_REFUSED_count : Fld := ⟨0x80018, 0x0, 1, 0x0, 0, 64, .ro, 0⟩
/-- `GNS_ACQ_REFUSED`, R292 of spec/09_gnss_baseband.md. -/
def GNS_ACQ_REFUSED : RegDef := ⟨"GNS_ACQ_REFUSED", 0x80018, 0x0, 1, 1, 0x0, 2,
  [GNS_ACQ_REFUSED_count]⟩

def GNS_SNAP_CTL_ports : Fld := ⟨0x80020, 0x0, 1, 0x0, 0, 4, .rw, 0⟩
def GNS_SNAP_CTL_l1 : Fld := ⟨0x80020, 0x0, 1, 0x0, 4, 1, .rw, 1⟩
def GNS_SNAP_CTL_l5 : Fld := ⟨0x80020, 0x0, 1, 0x0, 5, 1, .rw, 1⟩
def GNS_SNAP_CTL_len_ms : Fld := ⟨0x80020, 0x0, 1, 0x0, 6, 5, .rw, 2⟩
def GNS_SNAP_CTL_go : Fld := ⟨0x80020, 0x0, 1, 0x0, 11, 1, .wo, 0⟩
def GNS_SNAP_CTL_abort : Fld := ⟨0x80020, 0x0, 1, 0x0, 12, 1, .wo, 0⟩
/-- `GNS_SNAP_CTL`, R292 of spec/09_gnss_baseband.md. -/
def GNS_SNAP_CTL : RegDef := ⟨"GNS_SNAP_CTL", 0x80020, 0x0, 1, 1, 0x0, 1,
  [GNS_SNAP_CTL_ports, GNS_SNAP_CTL_l1, GNS_SNAP_CTL_l5, GNS_SNAP_CTL_len_ms, GNS_SNAP_CTL_go, GNS_SNAP_CTL_abort]⟩

def GNS_SNAP_START_time : Fld := ⟨0x80024, 0x0, 1, 0x0, 0, 96, .rw, 0⟩
/-- `GNS_SNAP_START`, R292 of spec/09_gnss_baseband.md. -/
def GNS_SNAP_START : RegDef := ⟨"GNS_SNAP_START", 0x80024, 0x0, 1, 1, 0x0, 3,
  [GNS_SNAP_START_time]⟩

def GNS_SNAP_BASEp_base : Fld := ⟨0x80030, 0x4, 1, 0x0, 6, 17, .rw, 0⟩
/-- `GNS_SNAP_BASEp`, R292 of spec/09_gnss_baseband.md. -/
def GNS_SNAP_BASEp : RegDef := ⟨"GNS_SNAP_BASEp", 0x80030, 0x4, 4, 1, 0x0, 1,
  [GNS_SNAP_BASEp_base]⟩

def GNS_SNAP_STATUS_state : Fld := ⟨0x80040, 0x0, 1, 0x0, 0, 2, .ro, 0⟩
def GNS_SNAP_STATUS_result : Fld := ⟨0x80040, 0x0, 1, 0x0, 2, 3, .ro, 0⟩
/-- `GNS_SNAP_STATUS`, R292 of spec/09_gnss_baseband.md. -/
def GNS_SNAP_STATUS : RegDef := ⟨"GNS_SNAP_STATUS", 0x80040, 0x0, 1, 1, 0x0, 1,
  [GNS_SNAP_STATUS_state, GNS_SNAP_STATUS_result]⟩

def GNS_SNAP_EPOCHp_k : Fld := ⟨0x80050, 0x8, 1, 0x0, 0, 64, .ro, 0⟩
/-- `GNS_SNAP_EPOCHp`, R292 of spec/09_gnss_baseband.md. -/
def GNS_SNAP_EPOCHp : RegDef := ⟨"GNS_SNAP_EPOCHp", 0x80050, 0x8, 4, 1, 0x0, 2,
  [GNS_SNAP_EPOCHp_k]⟩

def GNS_SNAP_Tp_time : Fld := ⟨0x80070, 0x10, 1, 0x0, 0, 96, .ro, 0⟩
/-- `GNS_SNAP_Tp`, R292 of spec/09_gnss_baseband.md. -/
def GNS_SNAP_Tp : RegDef := ⟨"GNS_SNAP_Tp", 0x80070, 0x10, 4, 1, 0x0, 3,
  [GNS_SNAP_Tp_time]⟩

def GNS_XLATCH_CTL_ports : Fld := ⟨0x800b0, 0x0, 1, 0x0, 0, 4, .rw, 0⟩
def GNS_XLATCH_CTL_arm : Fld := ⟨0x800b0, 0x0, 1, 0x0, 4, 1, .wo, 0⟩
def GNS_XLATCH_CTL_id : Fld := ⟨0x800b0, 0x0, 1, 0x0, 16, 16, .rw, 0⟩
/-- `GNS_XLATCH_CTL`, R292 of spec/09_gnss_baseband.md. -/
def GNS_XLATCH_CTL : RegDef := ⟨"GNS_XLATCH_CTL", 0x800b0, 0x0, 1, 1, 0x0, 1,
  [GNS_XLATCH_CTL_ports, GNS_XLATCH_CTL_arm, GNS_XLATCH_CTL_id]⟩

def GNS_XLATCH_TIME_time : Fld := ⟨0x800b4, 0x0, 1, 0x0, 0, 96, .rw, 0⟩
/-- `GNS_XLATCH_TIME`, R292 of spec/09_gnss_baseband.md. -/
def GNS_XLATCH_TIME : RegDef := ⟨"GNS_XLATCH_TIME", 0x800b4, 0x0, 1, 1, 0x0, 3,
  [GNS_XLATCH_TIME_time]⟩

def GNS_XLATCH_STATUS_result : Fld := ⟨0x800c0, 0x0, 1, 0x0, 0, 2, .ro, 0⟩
def GNS_XLATCH_STATUS_pending : Fld := ⟨0x800c0, 0x0, 1, 0x0, 2, 1, .ro, 0⟩
/-- `GNS_XLATCH_STATUS`, R292 of spec/09_gnss_baseband.md. -/
def GNS_XLATCH_STATUS : RegDef := ⟨"GNS_XLATCH_STATUS", 0x800c0, 0x0, 1, 1, 0x0, 1,
  [GNS_XLATCH_STATUS_result, GNS_XLATCH_STATUS_pending]⟩

def GNS_SOLa_BOUND_ps : Fld := ⟨0x800d0, 0x4, 1, 0x0, 0, 32, .rw, 0xffffffff⟩
/-- `GNS_SOLa_BOUND`, R292 of spec/09_gnss_baseband.md. -/
def GNS_SOLa_BOUND : RegDef := ⟨"GNS_SOLa_BOUND", 0x800d0, 0x4, 5, 1, 0x0, 1,
  [GNS_SOLa_BOUND_ps]⟩

def GNS_SOL_TIMEOUT_secs : Fld := ⟨0x800e4, 0x0, 1, 0x0, 0, 8, .rw, 3⟩
/-- `GNS_SOL_TIMEOUT`, R292 of spec/09_gnss_baseband.md. -/
def GNS_SOL_TIMEOUT : RegDef := ⟨"GNS_SOL_TIMEOUT", 0x800e4, 0x0, 1, 1, 0x0, 1,
  [GNS_SOL_TIMEOUT_secs]⟩

def GNS_Pp_CTL_en : Fld := ⟨0x80100, 0x80, 1, 0x0, 0, 1, .rw, 0⟩
def GNS_Pp_CTL_l1 : Fld := ⟨0x80100, 0x80, 1, 0x0, 1, 1, .rw, 1⟩
def GNS_Pp_CTL_l5 : Fld := ⟨0x80100, 0x80, 1, 0x0, 2, 1, .rw, 1⟩
def GNS_Pp_CTL_tdc : Fld := ⟨0x80100, 0x80, 1, 0x0, 3, 6, .rw, 36⟩
def GNS_Pp_CTL_lag : Fld := ⟨0x80100, 0x80, 1, 0x0, 9, 1, .rw, 1⟩
/-- `GNS_Pp_CTL`, R266 of spec/09_gnss_baseband.md. -/
def GNS_Pp_CTL : RegDef := ⟨"GNS_Pp_CTL", 0x80100, 0x80, 4, 1, 0x0, 1,
  [GNS_Pp_CTL_en, GNS_Pp_CTL_l1, GNS_Pp_CTL_l5, GNS_Pp_CTL_tdc, GNS_Pp_CTL_lag]⟩

def GNS_Pp_IF_L1_if : Fld := ⟨0x80104, 0x80, 1, 0x0, 0, 32, .rw, 0⟩
/-- `GNS_Pp_IF_L1`, R266 of spec/09_gnss_baseband.md. -/
def GNS_Pp_IF_L1 : RegDef := ⟨"GNS_Pp_IF_L1", 0x80104, 0x80, 4, 1, 0x0, 1,
  [GNS_Pp_IF_L1_if]⟩

def GNS_Pp_IF_L5_if : Fld := ⟨0x80108, 0x80, 1, 0x0, 0, 32, .rw, 0⟩
/-- `GNS_Pp_IF_L5`, R266 of spec/09_gnss_baseband.md. -/
def GNS_Pp_IF_L5 : RegDef := ⟨"GNS_Pp_IF_L5", 0x80108, 0x80, 4, 1, 0x0, 1,
  [GNS_Pp_IF_L5_if]⟩

def GNS_Pp_DELAY_L1_ps : Fld := ⟨0x8010c, 0x80, 1, 0x0, 0, 32, .rw, 0⟩
/-- `GNS_Pp_DELAY_L1`, R266 of spec/09_gnss_baseband.md. -/
def GNS_Pp_DELAY_L1 : RegDef := ⟨"GNS_Pp_DELAY_L1", 0x8010c, 0x80, 4, 1, 0x0, 1,
  [GNS_Pp_DELAY_L1_ps]⟩

def GNS_Pp_DELAY_L5_ps : Fld := ⟨0x80110, 0x80, 1, 0x0, 0, 32, .rw, 0⟩
/-- `GNS_Pp_DELAY_L5`, R266 of spec/09_gnss_baseband.md. -/
def GNS_Pp_DELAY_L5 : RegDef := ⟨"GNS_Pp_DELAY_L5", 0x80110, 0x80, 4, 1, 0x0, 1,
  [GNS_Pp_DELAY_L5_ps]⟩

def GNS_Pp_STATUS_clk : Fld := ⟨0x80114, 0x80, 1, 0x0, 0, 1, .ro, 0⟩
def GNS_Pp_STATUS_running : Fld := ⟨0x80114, 0x80, 1, 0x0, 1, 1, .ro, 0⟩
def GNS_Pp_STATUS_stamped : Fld := ⟨0x80114, 0x80, 1, 0x0, 2, 1, .ro, 0⟩
/-- `GNS_Pp_STATUS`, R266 of spec/09_gnss_baseband.md. -/
def GNS_Pp_STATUS : RegDef := ⟨"GNS_Pp_STATUS", 0x80114, 0x80, 4, 1, 0x0, 1,
  [GNS_Pp_STATUS_clk, GNS_Pp_STATUS_running, GNS_Pp_STATUS_stamped]⟩

def GNS_Pp_EPOCH_k : Fld := ⟨0x80118, 0x80, 1, 0x0, 0, 64, .ro, 0⟩
/-- `GNS_Pp_EPOCH`, R266 of spec/09_gnss_baseband.md. -/
def GNS_Pp_EPOCH : RegDef := ⟨"GNS_Pp_EPOCH", 0x80118, 0x80, 4, 1, 0x0, 2,
  [GNS_Pp_EPOCH_k]⟩

def GNS_Pp_EPOCH_TIME_time : Fld := ⟨0x80120, 0x80, 1, 0x0, 0, 96, .ro, 0⟩
/-- `GNS_Pp_EPOCH_TIME`, R266 of spec/09_gnss_baseband.md. -/
def GNS_Pp_EPOCH_TIME : RegDef := ⟨"GNS_Pp_EPOCH_TIME", 0x80120, 0x80, 4, 1, 0x0, 3,
  [GNS_Pp_EPOCH_TIME_time]⟩

def GNS_Pp_CLK_f : Fld := ⟨0x8012c, 0x80, 1, 0x0, 0, 48, .ro, 0⟩
/-- `GNS_Pp_CLK`, R266 of spec/09_gnss_baseband.md. -/
def GNS_Pp_CLK : RegDef := ⟨"GNS_Pp_CLK", 0x8012c, 0x80, 4, 1, 0x0, 2,
  [GNS_Pp_CLK_f]⟩

def GNS_Pp_PWR_l1 : Fld := ⟨0x80134, 0x80, 1, 0x0, 0, 16, .ro, 0⟩
def GNS_Pp_PWR_l5 : Fld := ⟨0x80134, 0x80, 1, 0x0, 16, 16, .ro, 0⟩
/-- `GNS_Pp_PWR`, R266 of spec/09_gnss_baseband.md. -/
def GNS_Pp_PWR : RegDef := ⟨"GNS_Pp_PWR", 0x80134, 0x80, 4, 1, 0x0, 1,
  [GNS_Pp_PWR_l1, GNS_Pp_PWR_l5]⟩

def GNS_Pp_CLIP_l1 : Fld := ⟨0x80138, 0x80, 1, 0x0, 0, 8, .ro, 0⟩
def GNS_Pp_CLIP_l5 : Fld := ⟨0x80138, 0x80, 1, 0x0, 8, 8, .ro, 0⟩
/-- `GNS_Pp_CLIP`, R266 of spec/09_gnss_baseband.md. -/
def GNS_Pp_CLIP : RegDef := ⟨"GNS_Pp_CLIP", 0x80138, 0x80, 4, 1, 0x0, 1,
  [GNS_Pp_CLIP_l1, GNS_Pp_CLIP_l5]⟩

def GNS_Pp_RING_BASE_base : Fld := ⟨0x8013c, 0x80, 1, 0x0, 6, 17, .rw, 0⟩
/-- `GNS_Pp_RING_BASE`, R266 of spec/09_gnss_baseband.md. -/
def GNS_Pp_RING_BASE : RegDef := ⟨"GNS_Pp_RING_BASE", 0x8013c, 0x80, 4, 1, 0x0, 1,
  [GNS_Pp_RING_BASE_base]⟩

def GNS_Pp_RING_SIZE_log2n : Fld := ⟨0x80140, 0x80, 1, 0x0, 0, 5, .rw, 10⟩
/-- `GNS_Pp_RING_SIZE`, R266 of spec/09_gnss_baseband.md. -/
def GNS_Pp_RING_SIZE : RegDef := ⟨"GNS_Pp_RING_SIZE", 0x80140, 0x80, 4, 1, 0x0, 1,
  [GNS_Pp_RING_SIZE_log2n]⟩

def GNS_Pp_RING_HEAD_head : Fld := ⟨0x80144, 0x80, 1, 0x0, 0, 16, .ro, 0⟩
/-- `GNS_Pp_RING_HEAD`, R266 of spec/09_gnss_baseband.md. -/
def GNS_Pp_RING_HEAD : RegDef := ⟨"GNS_Pp_RING_HEAD", 0x80144, 0x80, 4, 1, 0x0, 1,
  [GNS_Pp_RING_HEAD_head]⟩

def GNS_Pp_RING_TAIL_tail : Fld := ⟨0x80148, 0x80, 1, 0x0, 0, 16, .rw, 0⟩
/-- `GNS_Pp_RING_TAIL`, R266 of spec/09_gnss_baseband.md. -/
def GNS_Pp_RING_TAIL : RegDef := ⟨"GNS_Pp_RING_TAIL", 0x80148, 0x80, 4, 1, 0x0, 1,
  [GNS_Pp_RING_TAIL_tail]⟩

def GNS_Pp_DUMPS_count : Fld := ⟨0x8014c, 0x80, 1, 0x0, 0, 64, .ro, 0⟩
/-- `GNS_Pp_DUMPS`, R266 of spec/09_gnss_baseband.md. -/
def GNS_Pp_DUMPS : RegDef := ⟨"GNS_Pp_DUMPS", 0x8014c, 0x80, 4, 1, 0x0, 2,
  [GNS_Pp_DUMPS_count]⟩

def GNS_Pp_LOST_count : Fld := ⟨0x80154, 0x80, 1, 0x0, 0, 64, .ro, 0⟩
/-- `GNS_Pp_LOST`, R266 of spec/09_gnss_baseband.md. -/
def GNS_Pp_LOST : RegDef := ⟨"GNS_Pp_LOST", 0x80154, 0x80, 4, 1, 0x0, 2,
  [GNS_Pp_LOST_count]⟩

def GNS_Pp_LATE_count : Fld := ⟨0x8015c, 0x80, 1, 0x0, 0, 64, .ro, 0⟩
/-- `GNS_Pp_LATE`, R266 of spec/09_gnss_baseband.md. -/
def GNS_Pp_LATE : RegDef := ⟨"GNS_Pp_LATE", 0x8015c, 0x80, 4, 1, 0x0, 2,
  [GNS_Pp_LATE_count]⟩

def GNS_CH_ctl_sig : Fld := ⟨0x200000, 0x100, 1, 0x0, 0, 4, .rw, 0⟩
def GNS_CH_ctl_prn : Fld := ⟨0x200000, 0x100, 1, 0x0, 4, 8, .rw, 0⟩
def GNS_CH_ctl_pair : Fld := ⟨0x200000, 0x100, 1, 0x0, 16, 9, .rw, 0⟩
def GNS_CH_ctl_pair_en : Fld := ⟨0x200000, 0x100, 1, 0x0, 25, 1, .rw, 0⟩
def GNS_CH_ctl_sec_wipe : Fld := ⟨0x200000, 0x100, 1, 0x0, 26, 1, .rw, 0⟩
/-- `GNS_CH_ctl`, R271 of spec/09_gnss_baseband.md. -/
def GNS_CH_ctl : RegDef := ⟨"GNS_CH_ctl", 0x200000, 0x100, 512, 1, 0x0, 1,
  [GNS_CH_ctl_sig, GNS_CH_ctl_prn, GNS_CH_ctl_pair, GNS_CH_ctl_pair_en, GNS_CH_ctl_sec_wipe]⟩

def GNS_CH_taps_el : Fld := ⟨0x200004, 0x100, 1, 0x0, 0, 6, .rw, 8⟩
def GNS_CH_taps_vel : Fld := ⟨0x200004, 0x100, 1, 0x0, 6, 6, .rw, 16⟩
def GNS_CH_taps_mp1 : Fld := ⟨0x200004, 0x100, 1, 0x0, 12, 8, .rw, 4⟩
def GNS_CH_taps_mp2 : Fld := ⟨0x200004, 0x100, 1, 0x0, 20, 8, .rw, 12⟩
/-- `GNS_CH_taps`, R271 of spec/09_gnss_baseband.md. -/
def GNS_CH_taps : RegDef := ⟨"GNS_CH_taps", 0x200004, 0x100, 512, 1, 0x0, 1,
  [GNS_CH_taps_el, GNS_CH_taps_vel, GNS_CH_taps_mp1, GNS_CH_taps_mp2]⟩

def GNS_CH_08_car_rate : Fld := ⟨0x200008, 0x100, 1, 0x0, 0, 32, .rw, 0⟩
/-- `GNS_CH_08`, R271 of spec/09_gnss_baseband.md. -/
def GNS_CH_08 : RegDef := ⟨"GNS_CH_08", 0x200008, 0x100, 512, 1, 0x0, 1,
  [GNS_CH_08_car_rate]⟩

def GNS_CH_0C_car_step : Fld := ⟨0x20000c, 0x100, 1, 0x0, 0, 32, .rw, 0⟩
/-- `GNS_CH_0C`, R271 of spec/09_gnss_baseband.md. -/
def GNS_CH_0C : RegDef := ⟨"GNS_CH_0C", 0x20000c, 0x100, 512, 1, 0x0, 1,
  [GNS_CH_0C_car_step]⟩

def GNS_CH_10_code_rate : Fld := ⟨0x200010, 0x100, 1, 0x0, 0, 48, .rw, 0⟩
/-- `GNS_CH_10`, R271 of spec/09_gnss_baseband.md. -/
def GNS_CH_10 : RegDef := ⟨"GNS_CH_10", 0x200010, 0x100, 512, 1, 0x0, 2,
  [GNS_CH_10_code_rate]⟩

def GNS_CH_18_code_step : Fld := ⟨0x200018, 0x100, 1, 0x0, 0, 32, .rw, 0⟩
/-- `GNS_CH_18`, R271 of spec/09_gnss_baseband.md. -/
def GNS_CH_18 : RegDef := ⟨"GNS_CH_18", 0x200018, 0x100, 512, 1, 0x0, 1,
  [GNS_CH_18_code_step]⟩

def GNS_CH_1C_sec_phase : Fld := ⟨0x20001c, 0x100, 1, 0x0, 0, 11, .rw, 0⟩
/-- `GNS_CH_1C`, R271 of spec/09_gnss_baseband.md. -/
def GNS_CH_1C : RegDef := ⟨"GNS_CH_1C", 0x20001c, 0x100, 512, 1, 0x0, 1,
  [GNS_CH_1C_sec_phase]⟩

def GNS_CH_20_start_sample : Fld := ⟨0x200020, 0x100, 1, 0x0, 0, 64, .rw, 0⟩
/-- `GNS_CH_20`, R271 of spec/09_gnss_baseband.md. -/
def GNS_CH_20 : RegDef := ⟨"GNS_CH_20", 0x200020, 0x100, 512, 1, 0x0, 2,
  [GNS_CH_20_start_sample]⟩

def GNS_CH_28_init_code : Fld := ⟨0x200028, 0x100, 1, 0x0, 0, 62, .rw, 0⟩
/-- `GNS_CH_28`, R271 of spec/09_gnss_baseband.md. -/
def GNS_CH_28 : RegDef := ⟨"GNS_CH_28", 0x200028, 0x100, 512, 1, 0x0, 2,
  [GNS_CH_28_init_code]⟩

def GNS_CH_30_init_car : Fld := ⟨0x200030, 0x100, 1, 0x0, 0, 32, .rw, 0⟩
/-- `GNS_CH_30`, R271 of spec/09_gnss_baseband.md. -/
def GNS_CH_30 : RegDef := ⟨"GNS_CH_30", 0x200030, 0x100, 512, 1, 0x0, 1,
  [GNS_CH_30_init_car]⟩

def GNS_CH_cmd_start : Fld := ⟨0x200034, 0x100, 1, 0x0, 0, 1, .wo, 0⟩
def GNS_CH_cmd_stop : Fld := ⟨0x200034, 0x100, 1, 0x0, 1, 1, .wo, 0⟩
def GNS_CH_cmd_commit : Fld := ⟨0x200034, 0x100, 1, 0x0, 2, 1, .wo, 0⟩
/-- `GNS_CH_cmd`, R271 of spec/09_gnss_baseband.md. -/
def GNS_CH_cmd : RegDef := ⟨"GNS_CH_cmd", 0x200034, 0x100, 512, 1, 0x0, 1,
  [GNS_CH_cmd_start, GNS_CH_cmd_stop, GNS_CH_cmd_commit]⟩

def GNS_CH_38_for_seq : Fld := ⟨0x200038, 0x100, 1, 0x0, 0, 32, .rw, 0⟩
/-- `GNS_CH_38`, R271 of spec/09_gnss_baseband.md. -/
def GNS_CH_38 : RegDef := ⟨"GNS_CH_38", 0x200038, 0x100, 512, 1, 0x0, 1,
  [GNS_CH_38_for_seq]⟩

def GNS_CH_status_state : Fld := ⟨0x200040, 0x100, 1, 0x0, 0, 2, .ro, 0⟩
def GNS_CH_status_late_start : Fld := ⟨0x200040, 0x100, 1, 0x0, 2, 1, .ro, 0⟩
def GNS_CH_status_cause : Fld := ⟨0x200040, 0x100, 1, 0x0, 3, 3, .ro, 0⟩
/-- `GNS_CH_status`, R271 of spec/09_gnss_baseband.md. -/
def GNS_CH_status : RegDef := ⟨"GNS_CH_status", 0x200040, 0x100, 512, 1, 0x0, 1,
  [GNS_CH_status_state, GNS_CH_status_late_start, GNS_CH_status_cause]⟩

def GNS_CH_44_seq : Fld := ⟨0x200044, 0x100, 1, 0x0, 0, 32, .ro, 0⟩
/-- `GNS_CH_44`, R271 of spec/09_gnss_baseband.md. -/
def GNS_CH_44 : RegDef := ⟨"GNS_CH_44", 0x200044, 0x100, 512, 1, 0x0, 1,
  [GNS_CH_44_seq]⟩

def GNS_CH_48_code_rate_now : Fld := ⟨0x200048, 0x100, 1, 0x0, 0, 48, .ro, 0⟩
/-- `GNS_CH_48`, R271 of spec/09_gnss_baseband.md. -/
def GNS_CH_48 : RegDef := ⟨"GNS_CH_48", 0x200048, 0x100, 512, 1, 0x0, 2,
  [GNS_CH_48_code_rate_now]⟩

def GNS_CH_50_car_rate_now : Fld := ⟨0x200050, 0x100, 1, 0x0, 0, 32, .ro, 0⟩
/-- `GNS_CH_50`, R271 of spec/09_gnss_baseband.md. -/
def GNS_CH_50 : RegDef := ⟨"GNS_CH_50", 0x200050, 0x100, 512, 1, 0x0, 1,
  [GNS_CH_50_car_rate_now]⟩

def GNS_CH_latch_tagA : Fld := ⟨0x200060, 0x100, 1, 0x0, 0, 32, .ro, 0⟩
def GNS_CH_latch_t_lat : Fld := ⟨0x200060, 0x100, 1, 0x0, 32, 96, .ro, 0⟩
def GNS_CH_latch_code : Fld := ⟨0x200060, 0x100, 1, 0x0, 128, 64, .ro, 0⟩
def GNS_CH_latch_code_ms : Fld := ⟨0x200060, 0x100, 1, 0x0, 192, 32, .ro, 0⟩
def GNS_CH_latch_sec : Fld := ⟨0x200060, 0x100, 1, 0x0, 224, 11, .ro, 0⟩
def GNS_CH_latch_cycles : Fld := ⟨0x200060, 0x100, 1, 0x0, 256, 64, .ro, 0⟩
def GNS_CH_latch_frac : Fld := ⟨0x200060, 0x100, 1, 0x0, 320, 32, .ro, 0⟩
def GNS_CH_latch_tagB : Fld := ⟨0x200060, 0x100, 1, 0x0, 352, 32, .ro, 0⟩
/-- `GNS_CH_latch`, R272 of spec/09_gnss_baseband.md. -/
def GNS_CH_latch : RegDef := ⟨"GNS_CH_latch", 0x200060, 0x100, 512, 1, 0x0, 12,
  [GNS_CH_latch_tagA, GNS_CH_latch_t_lat, GNS_CH_latch_code, GNS_CH_latch_code_ms, GNS_CH_latch_sec, GNS_CH_latch_cycles, GNS_CH_latch_frac, GNS_CH_latch_tagB]⟩

def GNS_CH_xlatch_tagA : Fld := ⟨0x2000a0, 0x100, 1, 0x0, 0, 32, .ro, 0⟩
def GNS_CH_xlatch_t_lat : Fld := ⟨0x2000a0, 0x100, 1, 0x0, 32, 96, .ro, 0⟩
def GNS_CH_xlatch_code : Fld := ⟨0x2000a0, 0x100, 1, 0x0, 128, 64, .ro, 0⟩
def GNS_CH_xlatch_code_ms : Fld := ⟨0x2000a0, 0x100, 1, 0x0, 192, 32, .ro, 0⟩
def GNS_CH_xlatch_sec : Fld := ⟨0x2000a0, 0x100, 1, 0x0, 224, 11, .ro, 0⟩
def GNS_CH_xlatch_cycles : Fld := ⟨0x2000a0, 0x100, 1, 0x0, 256, 64, .ro, 0⟩
def GNS_CH_xlatch_frac : Fld := ⟨0x2000a0, 0x100, 1, 0x0, 320, 32, .ro, 0⟩
def GNS_CH_xlatch_tagB : Fld := ⟨0x2000a0, 0x100, 1, 0x0, 352, 32, .ro, 0⟩
/-- `GNS_CH_xlatch`, R280 of spec/09_gnss_baseband.md. -/
def GNS_CH_xlatch : RegDef := ⟨"GNS_CH_xlatch", 0x2000a0, 0x100, 512, 1, 0x0, 12,
  [GNS_CH_xlatch_tagA, GNS_CH_xlatch_t_lat, GNS_CH_xlatch_code, GNS_CH_xlatch_code_ms, GNS_CH_xlatch_sec, GNS_CH_xlatch_cycles, GNS_CH_xlatch_frac, GNS_CH_xlatch_tagB]⟩

/-- The registers of this file, in address order. -/
def tableB : List RegDef :=
  [TDCn_CTL, TDCn_SRC, TDCn_SKIP, TDCn_STATUS, TDCn_LIMIT, TDCn_RESULT, TDCn_STOP_TIME, TDCn_DONE, TDCn_IGNORED, TDCn_LOST, TDC_CAL_CTL, TDC_CAL_VALID, TDC_CAL_FAIL, TDC_TEMP, MOSSn_CTL, MOSSn_PERIOD, MOSSn_EXPECT, MOSSn_WIN, MOSSn_SPREAD, MOSSn_STATUS, MOSSn_MEAN, MOSSn_ROUNDS, MOSSn_DEV, MOSSn_SKIP, MOSS_Gp_CTL, MOSS_Gp_PERIOD, MOSS_Gp_BUF, MOSS_Gp_FWIN, MOSS_Gp_PWR_L1, MOSS_Gp_PWR_L5] ++
  [MOSS_Gp_CLIP, MOSS_Gp_STATUS, MOSS_Gp_LAST_FREQ, MOSS_Gp_LAST_PWR, MOSS_Gp_ROUNDS, MOSS_Gp_DEV, RCL_CTL, RCL_ALIGN_TIME, RCL_WTR, RCL_DISPUTE_LIMIT, RCL_JUMP_SETTLE, RCL_JUMP_CONSIST, RCL_CMD, RCL_RESULT, RCL_STATUS, RCL_ALARM, RCL_COMMIT, RCL_BUILDOUT, RCL_SWITCHES, RCL_REDIRECTS, RCL_JUMPS, RCL_FEED_DROP, RCL_QLMAPc, RCLn_CFG, RCLn_NOMINAL, RCLn_QUAL, RCLn_PHASE, RCLn_MISS, RCLn_QFIX, RCLn_ADV_BOUND] ++
  [RCLn_STATUS, RCLn_Q, RCLn_OFS, RCLn_FREQ, RCLn_TIMER, RCLn_DISQ, SRV_CTL, SRV_SLEW_MAX, SRV_STEP_LIMIT, SRV_STEP_CONFIRM, SRV_PHASE_TC, SRV_DEADBAND, SRV_QX, SRV_QY, SRV_QA, SRV_R_MIN, SRV_BOUND_K, SRV_Y_FLOOR, SRV_A_FLOOR, SRV_INIT_Y, SRV_INIT_A, SRV_RETRACE, SRV_WORD_RATE, SRV_HOLD_SPEC, SRV_LOCK_AGE, SRV_BOUND_ALARM, SRV_CMD, SRV_RESULT, SRV_STATUS, SRV_ALARM] ++
  [SRV_BOUND, SRV_LAST_FEED, SRV_PHASE_EST, SRV_FREQ_EST, SRV_AGE_EST, SRV_SIGMA_X, SRV_SIGMA_Y, SRV_SIGMA_A, SRV_WORD, SRV_CANDIDATE, SRV_SINCE_FEED, SRV_ACCEPTED, SRV_REFUSED, SRV_STALE, SRV_UNUSED, SRV_CLASSp, GNS_ACQ_CTL, GNS_ACQ_SCRATCH, GNS_ACQ_SUBMIT, GNS_ACQ_STATUS, GNS_ACQ_DONE, GNS_ACQ_REFUSED, GNS_SNAP_CTL, GNS_SNAP_START, GNS_SNAP_BASEp, GNS_SNAP_STATUS, GNS_SNAP_EPOCHp, GNS_SNAP_Tp, GNS_XLATCH_CTL, GNS_XLATCH_TIME] ++
  [GNS_XLATCH_STATUS, GNS_SOLa_BOUND, GNS_SOL_TIMEOUT, GNS_Pp_CTL, GNS_Pp_IF_L1, GNS_Pp_IF_L5, GNS_Pp_DELAY_L1, GNS_Pp_DELAY_L5, GNS_Pp_STATUS, GNS_Pp_EPOCH, GNS_Pp_EPOCH_TIME, GNS_Pp_CLK, GNS_Pp_PWR, GNS_Pp_CLIP, GNS_Pp_RING_BASE, GNS_Pp_RING_SIZE, GNS_Pp_RING_HEAD, GNS_Pp_RING_TAIL, GNS_Pp_DUMPS, GNS_Pp_LOST, GNS_Pp_LATE, GNS_CH_ctl, GNS_CH_taps, GNS_CH_08, GNS_CH_0C, GNS_CH_10, GNS_CH_18, GNS_CH_1C, GNS_CH_20, GNS_CH_28] ++
  [GNS_CH_30, GNS_CH_cmd, GNS_CH_38, GNS_CH_status, GNS_CH_44, GNS_CH_48, GNS_CH_50, GNS_CH_latch, GNS_CH_xlatch]

end Sys2Proof.Machine.Reg
end

