-- ==== Sys2Proof/Machine/RegsC.lean ====
section
/-!
DEFINITION. Registers of TSV, KEY, TWN, MEM, PRF, FRD and MAC: every field of the register tables of spec/, with the
address, stride, bit position, width, access and reset value that its table gives (R1 to R3, R14, R466).
A multi-word register is one register of 2, 3 or 4 words (R8, R15).
-/

namespace Sys2Proof.Machine.Reg

def TSV_CTL_frond : Fld := ⟨0x90000, 0x0, 1, 0x0, 0, 4, .rw, 0⟩
def TSV_CTL_kod : Fld := ⟨0x90000, 0x0, 1, 0x0, 4, 1, .rw, 0⟩
def TSV_CTL_atomic : Fld := ⟨0x90000, 0x0, 1, 0x0, 5, 1, .rw, 0⟩
/-- `TSV_CTL`, R349 of spec/11_time_service.md. -/
def TSV_CTL : RegDef := ⟨"TSV_CTL", 0x90000, 0x0, 1, 1, 0x0, 1,
  [TSV_CTL_frond, TSV_CTL_kod, TSV_CTL_atomic]⟩

def TSV_CLOCK_ID_id : Fld := ⟨0x90004, 0x0, 1, 0x0, 0, 64, .rw, 0⟩
/-- `TSV_CLOCK_ID`, R349 of spec/11_time_service.md. -/
def TSV_CLOCK_ID : RegDef := ⟨"TSV_CLOCK_ID", 0x90004, 0x0, 1, 1, 0x0, 2,
  [TSV_CLOCK_ID_id]⟩

def TSV_BOUND_ORG_org : Fld := ⟨0x9000c, 0x0, 1, 0x0, 0, 24, .rw, 0xda70d1⟩
/-- `TSV_BOUND_ORG`, R349 of spec/11_time_service.md. -/
def TSV_BOUND_ORG : RegDef := ⟨"TSV_BOUND_ORG", 0x9000c, 0x0, 1, 1, 0x0, 1,
  [TSV_BOUND_ORG_org]⟩

def TSV_UNI_BUDGET_rate : Fld := ⟨0x90010, 0x0, 1, 0x0, 0, 32, .rw, 0x1e8480⟩
/-- `TSV_UNI_BUDGET`, R349 of spec/11_time_service.md. -/
def TSV_UNI_BUDGET : RegDef := ⟨"TSV_UNI_BUDGET", 0x90010, 0x0, 1, 1, 0x0, 1,
  [TSV_UNI_BUDGET_rate]⟩

def TSV_POL_BASE_base : Fld := ⟨0x90014, 0x0, 1, 0x0, 6, 17, .rw, 0⟩
/-- `TSV_POL_BASE`, R349 of spec/11_time_service.md. -/
def TSV_POL_BASE : RegDef := ⟨"TSV_POL_BASE", 0x90014, 0x0, 1, 1, 0x0, 1,
  [TSV_POL_BASE_base]⟩

def TSV_POL_RATE_rate : Fld := ⟨0x90018, 0x0, 1, 0x0, 0, 16, .rw, 0x800⟩
def TSV_POL_RATE_burst : Fld := ⟨0x90018, 0x0, 1, 0x0, 16, 16, .rw, 0x1000⟩
/-- `TSV_POL_RATE`, R349 of spec/11_time_service.md. -/
def TSV_POL_RATE : RegDef := ⟨"TSV_POL_RATE", 0x90018, 0x0, 1, 1, 0x0, 1,
  [TSV_POL_RATE_rate, TSV_POL_RATE_burst]⟩

def TSV_FWD_BASE_base : Fld := ⟨0x9001c, 0x0, 1, 0x0, 6, 17, .rw, 0⟩
/-- `TSV_FWD_BASE`, R349 of spec/11_time_service.md. -/
def TSV_FWD_BASE : RegDef := ⟨"TSV_FWD_BASE", 0x9001c, 0x0, 1, 1, 0x0, 1,
  [TSV_FWD_BASE_base]⟩

def TSV_FWD_SIZE_log2n : Fld := ⟨0x90020, 0x0, 1, 0x0, 0, 5, .rw, 10⟩
/-- `TSV_FWD_SIZE`, R349 of spec/11_time_service.md. -/
def TSV_FWD_SIZE : RegDef := ⟨"TSV_FWD_SIZE", 0x90020, 0x0, 1, 1, 0x0, 1,
  [TSV_FWD_SIZE_log2n]⟩

def TSV_FWD_HEAD_head : Fld := ⟨0x90024, 0x0, 1, 0x0, 0, 17, .ro, 0⟩
/-- `TSV_FWD_HEAD`, R349 of spec/11_time_service.md. -/
def TSV_FWD_HEAD : RegDef := ⟨"TSV_FWD_HEAD", 0x90024, 0x0, 1, 1, 0x0, 1,
  [TSV_FWD_HEAD_head]⟩

def TSV_FWD_TAIL_tail : Fld := ⟨0x90028, 0x0, 1, 0x0, 0, 17, .rw, 0⟩
/-- `TSV_FWD_TAIL`, R349 of spec/11_time_service.md. -/
def TSV_FWD_TAIL : RegDef := ⟨"TSV_FWD_TAIL", 0x90028, 0x0, 1, 1, 0x0, 1,
  [TSV_FWD_TAIL_tail]⟩

def TSV_COOKIE_CTL_master : Fld := ⟨0x9002c, 0x0, 1, 0x0, 0, 10, .rw, 0⟩
def TSV_COOKIE_CTL_hours : Fld := ⟨0x9002c, 0x0, 1, 0x0, 16, 8, .rw, 24⟩
/-- `TSV_COOKIE_CTL`, R349 of spec/11_time_service.md. -/
def TSV_COOKIE_CTL : RegDef := ⟨"TSV_COOKIE_CTL", 0x9002c, 0x0, 1, 1, 0x0, 1,
  [TSV_COOKIE_CTL_master, TSV_COOKIE_CTL_hours]⟩

def TSV_COOKIE_LOCKg_enc : Fld := ⟨0x90030, 0x4, 1, 0x0, 0, 10, .rw, 0⟩
def TSV_COOKIE_LOCKg_dec : Fld := ⟨0x90030, 0x4, 1, 0x0, 16, 10, .rw, 0⟩
/-- `TSV_COOKIE_LOCKg`, R349 of spec/11_time_service.md. -/
def TSV_COOKIE_LOCKg : RegDef := ⟨"TSV_COOKIE_LOCKg", 0x90030, 0x4, 3, 1, 0x0, 1,
  [TSV_COOKIE_LOCKg_enc, TSV_COOKIE_LOCKg_dec]⟩

def TSV_COOKIE_ID_id : Fld := ⟨0x9003c, 0x0, 1, 0x0, 0, 32, .ro, 0⟩
/-- `TSV_COOKIE_ID`, R349 of spec/11_time_service.md. -/
def TSV_COOKIE_ID : RegDef := ⟨"TSV_COOKIE_ID", 0x9003c, 0x0, 1, 1, 0x0, 1,
  [TSV_COOKIE_ID_id]⟩

def TSV_KE_CTL_locker : Fld := ⟨0x90040, 0x0, 1, 0x0, 0, 10, .rw, 0⟩
/-- `TSV_KE_CTL`, R349 of spec/11_time_service.md. -/
def TSV_KE_CTL : RegDef := ⟨"TSV_KE_CTL", 0x90040, 0x0, 1, 1, 0x0, 1,
  [TSV_KE_CTL_locker]⟩

def TSV_KE_BASE_base : Fld := ⟨0x90044, 0x0, 1, 0x0, 7, 16, .rw, 0⟩
/-- `TSV_KE_BASE`, R349 of spec/11_time_service.md. -/
def TSV_KE_BASE : RegDef := ⟨"TSV_KE_BASE", 0x90044, 0x0, 1, 1, 0x0, 1,
  [TSV_KE_BASE_base]⟩

def TSV_KE_SIZE_log2n : Fld := ⟨0x90048, 0x0, 1, 0x0, 0, 4, .rw, 6⟩
/-- `TSV_KE_SIZE`, R349 of spec/11_time_service.md. -/
def TSV_KE_SIZE : RegDef := ⟨"TSV_KE_SIZE", 0x90048, 0x0, 1, 1, 0x0, 1,
  [TSV_KE_SIZE_log2n]⟩

def TSV_KE_PROD_index : Fld := ⟨0x9004c, 0x0, 1, 0x0, 0, 10, .rw, 0⟩
/-- `TSV_KE_PROD`, R349 of spec/11_time_service.md. -/
def TSV_KE_PROD : RegDef := ⟨"TSV_KE_PROD", 0x9004c, 0x0, 1, 1, 0x0, 1,
  [TSV_KE_PROD_index]⟩

def TSV_KE_CONS_index : Fld := ⟨0x90050, 0x0, 1, 0x0, 0, 10, .ro, 0⟩
/-- `TSV_KE_CONS`, R349 of spec/11_time_service.md. -/
def TSV_KE_CONS : RegDef := ⟨"TSV_KE_CONS", 0x90050, 0x0, 1, 1, 0x0, 1,
  [TSV_KE_CONS_index]⟩

def TSV_CNT_SNAP_snap : Fld := ⟨0x90054, 0x0, 1, 0x0, 0, 1, .rw, 0⟩
/-- `TSV_CNT_SNAP`, R349 of spec/11_time_service.md. -/
def TSV_CNT_SNAP : RegDef := ⟨"TSV_CNT_SNAP", 0x90054, 0x0, 1, 1, 0x0, 1,
  [TSV_CNT_SNAP_snap]⟩

def TSV_INFLIGHT_n : Fld := ⟨0x90058, 0x0, 1, 0x0, 0, 12, .ro, 0⟩
/-- `TSV_INFLIGHT`, R349 of spec/11_time_service.md. -/
def TSV_INFLIGHT : RegDef := ⟨"TSV_INFLIGHT", 0x90058, 0x0, 1, 1, 0x0, 1,
  [TSV_INFLIGHT_n]⟩

def TSV_LANEn_prof : Fld := ⟨0x90100, 0x4, 1, 0x0, 0, 3, .rw, 0⟩
def TSV_LANEn_ptp : Fld := ⟨0x90100, 0x4, 1, 0x0, 3, 1, .rw, 0⟩
def TSV_LANEn_ntp : Fld := ⟨0x90100, 0x4, 1, 0x0, 4, 1, .rw, 0⟩
def TSV_LANEn_plain : Fld := ⟨0x90100, 0x4, 1, 0x0, 5, 1, .rw, 0⟩
/-- `TSV_LANEn`, R349 of spec/11_time_service.md. -/
def TSV_LANEn : RegDef := ⟨"TSV_LANEn", 0x90100, 0x4, 32, 1, 0x0, 1,
  [TSV_LANEn_prof, TSV_LANEn_ptp, TSV_LANEn_ntp, TSV_LANEn_plain]⟩

def TSV_PROFp_CFG_family : Fld := ⟨0x90200, 0x20, 1, 0x0, 0, 3, .rw, 0⟩
def TSV_PROFp_CFG_l2 : Fld := ⟨0x90200, 0x20, 1, 0x0, 3, 1, .rw, 1⟩
def TSV_PROFp_CFG_ipv4 : Fld := ⟨0x90200, 0x20, 1, 0x0, 4, 1, .rw, 0⟩
def TSV_PROFp_CFG_ipv6 : Fld := ⟨0x90200, 0x20, 1, 0x0, 5, 1, .rw, 0⟩
def TSV_PROFp_CFG_p2p : Fld := ⟨0x90200, 0x20, 1, 0x0, 6, 1, .rw, 0⟩
def TSV_PROFp_CFG_unicast : Fld := ⟨0x90200, 0x20, 1, 0x0, 7, 1, .rw, 0⟩
def TSV_PROFp_CFG_multicast : Fld := ⟨0x90200, 0x20, 1, 0x0, 8, 1, .rw, 1⟩
def TSV_PROFp_CFG_auth : Fld := ⟨0x90200, 0x20, 1, 0x0, 9, 1, .rw, 0⟩
def TSV_PROFp_CFG_bound_tlv : Fld := ⟨0x90200, 0x20, 1, 0x0, 11, 1, .rw, 1⟩
def TSV_PROFp_CFG_trailer : Fld := ⟨0x90200, 0x20, 1, 0x0, 12, 1, .rw, 0⟩
def TSV_PROFp_CFG_twostep : Fld := ⟨0x90200, 0x20, 1, 0x0, 13, 1, .rw, 0⟩
def TSV_PROFp_CFG_gaddr : Fld := ⟨0x90200, 0x20, 1, 0x0, 14, 1, .rw, 0⟩
def TSV_PROFp_CFG_domain : Fld := ⟨0x90200, 0x20, 1, 0x0, 16, 8, .rw, 0⟩
/-- `TSV_PROFp_CFG`, R349 of spec/11_time_service.md. -/
def TSV_PROFp_CFG : RegDef := ⟨"TSV_PROFp_CFG", 0x90200, 0x20, 8, 1, 0x0, 1,
  [TSV_PROFp_CFG_family, TSV_PROFp_CFG_l2, TSV_PROFp_CFG_ipv4, TSV_PROFp_CFG_ipv6, TSV_PROFp_CFG_p2p, TSV_PROFp_CFG_unicast, TSV_PROFp_CFG_multicast, TSV_PROFp_CFG_auth, TSV_PROFp_CFG_bound_tlv, TSV_PROFp_CFG_trailer, TSV_PROFp_CFG_twostep, TSV_PROFp_CFG_gaddr, TSV_PROFp_CFG_domain]⟩

def TSV_PROFp_INTV_sync : Fld := ⟨0x90204, 0x20, 1, 0x0, 0, 8, .rw, 253⟩
def TSV_PROFp_INTV_announce : Fld := ⟨0x90204, 0x20, 1, 0x0, 8, 8, .rw, 1⟩
def TSV_PROFp_INTV_delay : Fld := ⟨0x90204, 0x20, 1, 0x0, 16, 8, .rw, 0⟩
def TSV_PROFp_INTV_timeout : Fld := ⟨0x90204, 0x20, 1, 0x0, 24, 4, .rw, 3⟩
/-- `TSV_PROFp_INTV`, R349 of spec/11_time_service.md. -/
def TSV_PROFp_INTV : RegDef := ⟨"TSV_PROFp_INTV", 0x90204, 0x20, 8, 1, 0x0, 1,
  [TSV_PROFp_INTV_sync, TSV_PROFp_INTV_announce, TSV_PROFp_INTV_delay, TSV_PROFp_INTV_timeout]⟩

def TSV_PROFp_DS_p1 : Fld := ⟨0x90208, 0x20, 1, 0x0, 0, 8, .rw, 128⟩
def TSV_PROFp_DS_p2 : Fld := ⟨0x90208, 0x20, 1, 0x0, 8, 8, .rw, 128⟩
def TSV_PROFp_DS_local : Fld := ⟨0x90208, 0x20, 1, 0x0, 16, 8, .rw, 128⟩
/-- `TSV_PROFp_DS`, R349 of spec/11_time_service.md. -/
def TSV_PROFp_DS : RegDef := ⟨"TSV_PROFp_DS", 0x90208, 0x20, 8, 1, 0x0, 1,
  [TSV_PROFp_DS_p1, TSV_PROFp_DS_p2, TSV_PROFp_DS_local]⟩

def TSV_PROFp_UNI_min_sync : Fld := ⟨0x9020c, 0x20, 1, 0x0, 0, 8, .rw, 249⟩
def TSV_PROFp_UNI_min_ann : Fld := ⟨0x9020c, 0x20, 1, 0x0, 8, 8, .rw, 253⟩
/-- `TSV_PROFp_UNI`, R349 of spec/11_time_service.md. -/
def TSV_PROFp_UNI : RegDef := ⟨"TSV_PROFp_UNI", 0x9020c, 0x20, 8, 1, 0x0, 1,
  [TSV_PROFp_UNI_min_sync, TSV_PROFp_UNI_min_ann]⟩

def TSV_PROFp_DUR_min : Fld := ⟨0x90210, 0x20, 1, 0x0, 0, 16, .rw, 10⟩
def TSV_PROFp_DUR_max : Fld := ⟨0x90210, 0x20, 1, 0x0, 16, 16, .rw, 0x3e8⟩
/-- `TSV_PROFp_DUR`, R349 of spec/11_time_service.md. -/
def TSV_PROFp_DUR : RegDef := ⟨"TSV_PROFp_DUR", 0x90210, 0x20, 8, 1, 0x0, 1,
  [TSV_PROFp_DUR_min, TSV_PROFp_DUR_max]⟩

def TSV_KEYk_ID_id : Fld := ⟨0x90400, 0x10, 1, 0x0, 0, 32, .rw, 0⟩
/-- `TSV_KEYk_ID`, R349 of spec/11_time_service.md. -/
def TSV_KEYk_ID : RegDef := ⟨"TSV_KEYk_ID", 0x90400, 0x10, 32, 1, 0x0, 1,
  [TSV_KEYk_ID_id]⟩

def TSV_KEYk_CFG_locker : Fld := ⟨0x90404, 0x10, 1, 0x0, 0, 10, .rw, 0⟩
def TSV_KEYk_CFG_alg : Fld := ⟨0x90404, 0x10, 1, 0x0, 10, 1, .rw, 0⟩
def TSV_KEYk_CFG_tx : Fld := ⟨0x90404, 0x10, 1, 0x0, 11, 1, .rw, 0⟩
def TSV_KEYk_CFG_rx : Fld := ⟨0x90404, 0x10, 1, 0x0, 12, 1, .rw, 0⟩
def TSV_KEYk_CFG_profs : Fld := ⟨0x90404, 0x10, 1, 0x0, 13, 8, .rw, 0⟩
def TSV_KEYk_CFG_bad : Fld := ⟨0x90404, 0x10, 1, 0x0, 21, 1, .ro, 0⟩
/-- `TSV_KEYk_CFG`, R349 of spec/11_time_service.md. -/
def TSV_KEYk_CFG : RegDef := ⟨"TSV_KEYk_CFG", 0x90404, 0x10, 32, 1, 0x0, 1,
  [TSV_KEYk_CFG_locker, TSV_KEYk_CFG_alg, TSV_KEYk_CFG_tx, TSV_KEYk_CFG_rx, TSV_KEYk_CFG_profs, TSV_KEYk_CFG_bad]⟩

def TSV_KEYk_NB_secs : Fld := ⟨0x90408, 0x10, 1, 0x0, 0, 32, .rw, 0⟩
/-- `TSV_KEYk_NB`, R349 of spec/11_time_service.md. -/
def TSV_KEYk_NB : RegDef := ⟨"TSV_KEYk_NB", 0x90408, 0x10, 32, 1, 0x0, 1,
  [TSV_KEYk_NB_secs]⟩

def TSV_KEYk_NA_secs : Fld := ⟨0x9040c, 0x10, 1, 0x0, 0, 32, .rw, 0⟩
/-- `TSV_KEYk_NA`, R349 of spec/11_time_service.md. -/
def TSV_KEYk_NA : RegDef := ⟨"TSV_KEYk_NA", 0x9040c, 0x10, 32, 1, 0x0, 1,
  [TSV_KEYk_NA_secs]⟩

def TSV_UPu_CTL_en : Fld := ⟨0x90800, 0x40, 1, 0x0, 0, 1, .rw, 0⟩
def TSV_UPu_CTL_lane : Fld := ⟨0x90800, 0x40, 1, 0x0, 1, 5, .rw, 0⟩
def TSV_UPu_CTL_prof : Fld := ⟨0x90800, 0x40, 1, 0x0, 6, 3, .rw, 0⟩
def TSV_UPu_CTL_nego : Fld := ⟨0x90800, 0x40, 1, 0x0, 9, 1, .rw, 0⟩
def TSV_UPu_CTL_key : Fld := ⟨0x90800, 0x40, 1, 0x0, 10, 5, .rw, 0⟩
def TSV_UPu_CTL_avg : Fld := ⟨0x90800, 0x40, 1, 0x0, 16, 6, .rw, 8⟩
/-- `TSV_UPu_CTL`, R349 of spec/11_time_service.md. -/
def TSV_UPu_CTL : RegDef := ⟨"TSV_UPu_CTL", 0x90800, 0x40, 8, 1, 0x0, 1,
  [TSV_UPu_CTL_en, TSV_UPu_CTL_lane, TSV_UPu_CTL_prof, TSV_UPu_CTL_nego, TSV_UPu_CTL_key, TSV_UPu_CTL_avg]⟩

def TSV_UPu_ADDR_addr : Fld := ⟨0x90804, 0x40, 1, 0x0, 0, 128, .rw, 0⟩
/-- `TSV_UPu_ADDR`, R349 of spec/11_time_service.md. -/
def TSV_UPu_ADDR : RegDef := ⟨"TSV_UPu_ADDR", 0x90804, 0x40, 8, 1, 0x0, 4,
  [TSV_UPu_ADDR_addr]⟩

def TSV_UPu_ASYM_ps : Fld := ⟨0x90814, 0x40, 1, 0x0, 0, 32, .rw, 0xffffffff⟩
/-- `TSV_UPu_ASYM`, R349 of spec/11_time_service.md. -/
def TSV_UPu_ASYM : RegDef := ⟨"TSV_UPu_ASYM", 0x90814, 0x40, 8, 1, 0x0, 1,
  [TSV_UPu_ASYM_ps]⟩

def TSV_UPu_UNC_ps : Fld := ⟨0x90818, 0x40, 1, 0x0, 0, 32, .rw, 0x3e8⟩
/-- `TSV_UPu_UNC`, R349 of spec/11_time_service.md. -/
def TSV_UPu_UNC : RegDef := ⟨"TSV_UPu_UNC", 0x90818, 0x40, 8, 1, 0x0, 1,
  [TSV_UPu_UNC_ps]⟩

def TSV_UPu_JUMP_ps : Fld := ⟨0x9081c, 0x40, 1, 0x0, 0, 32, .rw, 0⟩
/-- `TSV_UPu_JUMP`, R349 of spec/11_time_service.md. -/
def TSV_UPu_JUMP : RegDef := ⟨"TSV_UPu_JUMP", 0x9081c, 0x40, 8, 1, 0x0, 1,
  [TSV_UPu_JUMP_ps]⟩

def TSV_UPu_SETTLE_secs : Fld := ⟨0x90820, 0x40, 1, 0x0, 0, 16, .rw, 0x258⟩
/-- `TSV_UPu_SETTLE`, R349 of spec/11_time_service.md. -/
def TSV_UPu_SETTLE : RegDef := ⟨"TSV_UPu_SETTLE", 0x90820, 0x40, 8, 1, 0x0, 1,
  [TSV_UPu_SETTLE_secs]⟩

def TSV_UPu_STATUS_state : Fld := ⟨0x90824, 0x40, 1, 0x0, 0, 3, .ro, 0⟩
def TSV_UPu_STATUS_changed : Fld := ⟨0x90824, 0x40, 1, 0x0, 3, 1, .ro, 0⟩
def TSV_UPu_STATUS_jump : Fld := ⟨0x90824, 0x40, 1, 0x0, 4, 1, .ro, 0⟩
def TSV_UPu_STATUS_authed : Fld := ⟨0x90824, 0x40, 1, 0x0, 5, 1, .ro, 0⟩
/-- `TSV_UPu_STATUS`, R349 of spec/11_time_service.md. -/
def TSV_UPu_STATUS : RegDef := ⟨"TSV_UPu_STATUS", 0x90824, 0x40, 8, 1, 0x0, 1,
  [TSV_UPu_STATUS_state, TSV_UPu_STATUS_changed, TSV_UPu_STATUS_jump, TSV_UPu_STATUS_authed]⟩

def TSV_UPu_BOUND_ps : Fld := ⟨0x90828, 0x40, 1, 0x0, 0, 32, .ro, 0xffffffff⟩
/-- `TSV_UPu_BOUND`, R349 of spec/11_time_service.md. -/
def TSV_UPu_BOUND : RegDef := ⟨"TSV_UPu_BOUND", 0x90828, 0x40, 8, 1, 0x0, 1,
  [TSV_UPu_BOUND_ps]⟩

def TSV_UPu_DELAY_ps : Fld := ⟨0x9082c, 0x40, 1, 0x0, 0, 32, .ro, 0⟩
/-- `TSV_UPu_DELAY`, R349 of spec/11_time_service.md. -/
def TSV_UPu_DELAY : RegDef := ⟨"TSV_UPu_DELAY", 0x9082c, 0x40, 8, 1, 0x0, 1,
  [TSV_UPu_DELAY_ps]⟩

def TSV_UPu_GM_id : Fld := ⟨0x90830, 0x40, 1, 0x0, 0, 64, .ro, 0⟩
/-- `TSV_UPu_GM`, R349 of spec/11_time_service.md. -/
def TSV_UPu_GM : RegDef := ⟨"TSV_UPu_GM", 0x90830, 0x40, 8, 1, 0x0, 2,
  [TSV_UPu_GM_id]⟩

def TSV_UPu_CMD_resume : Fld := ⟨0x90838, 0x40, 1, 0x0, 0, 1, .wo, 0⟩
/-- `TSV_UPu_CMD`, R349 of spec/11_time_service.md. -/
def TSV_UPu_CMD : RegDef := ⟨"TSV_UPu_CMD", 0x90838, 0x40, 8, 1, 0x0, 1,
  [TSV_UPu_CMD_resume]⟩

def TSV_UPu_ENTRY_i : Fld := ⟨0x9083c, 0x40, 1, 0x0, 0, 14, .ro, 0⟩
/-- `TSV_UPu_ENTRY`, R349 of spec/11_time_service.md. -/
def TSV_UPu_ENTRY : RegDef := ⟨"TSV_UPu_ENTRY", 0x9083c, 0x40, 8, 1, 0x0, 1,
  [TSV_UPu_ENTRY_i]⟩

def TSV_CNTi_count : Fld := ⟨0x90f00, 0x8, 1, 0x0, 0, 64, .ro, 0⟩
/-- `TSV_CNTi`, R349 of spec/11_time_service.md. -/
def TSV_CNTi : RegDef := ⟨"TSV_CNTi", 0x90f00, 0x8, 25, 1, 0x0, 2,
  [TSV_CNTi_count]⟩

def KEY_STATUS_state : Fld := ⟨0xa0000, 0x0, 1, 0x0, 0, 2, .ro, 0⟩
def KEY_STATUS_provisioned : Fld := ⟨0xa0000, 0x0, 1, 0x0, 2, 1, .ro, 1⟩
def KEY_STATUS_owner0 : Fld := ⟨0xa0000, 0x0, 1, 0x0, 3, 1, .ro, 0⟩
def KEY_STATUS_busy : Fld := ⟨0xa0000, 0x0, 1, 0x0, 4, 1, .ro, 0⟩
def KEY_STATUS_trng_fail : Fld := ⟨0xa0000, 0x0, 1, 0x0, 5, 1, .ro, 0⟩
def KEY_STATUS_pair_ok : Fld := ⟨0xa0000, 0x0, 1, 0x0, 6, 1, .ro, 0⟩
def KEY_STATUS_pin_mismatch : Fld := ⟨0xa0000, 0x0, 1, 0x0, 7, 1, .ro, 0⟩
def KEY_STATUS_slot : Fld := ⟨0xa0000, 0x0, 1, 0x0, 8, 1, .ro, 0⟩
def KEY_STATUS_prepared : Fld := ⟨0xa0000, 0x0, 1, 0x0, 9, 1, .ro, 0⟩
/-- `KEY_STATUS`, R380 of spec/12_lockers_identity.md. -/
def KEY_STATUS : RegDef := ⟨"KEY_STATUS", 0xa0000, 0x0, 1, 1, 0x0, 1,
  [KEY_STATUS_state, KEY_STATUS_provisioned, KEY_STATUS_owner0, KEY_STATUS_busy, KEY_STATUS_trng_fail, KEY_STATUS_pair_ok, KEY_STATUS_pin_mismatch, KEY_STATUS_slot, KEY_STATUS_prepared]⟩

def KEY_CMD_op : Fld := ⟨0xa0004, 0x0, 1, 0x0, 0, 4, .wo, 0⟩
def KEY_CMD_frond : Fld := ⟨0xa0004, 0x0, 1, 0x0, 4, 4, .wo, 0⟩
def KEY_CMD_locker : Fld := ⟨0xa0004, 0x0, 1, 0x0, 8, 10, .wo, 0⟩
/-- `KEY_CMD`, R380 of spec/12_lockers_identity.md. -/
def KEY_CMD : RegDef := ⟨"KEY_CMD", 0xa0004, 0x0, 1, 1, 0x0, 1,
  [KEY_CMD_op, KEY_CMD_frond, KEY_CMD_locker]⟩

def KEY_RESULT_result : Fld := ⟨0xa0008, 0x0, 1, 0x0, 0, 4, .ro, 0⟩
def KEY_RESULT_done : Fld := ⟨0xa0008, 0x0, 1, 0x0, 4, 1, .ro, 1⟩
/-- `KEY_RESULT`, R380 of spec/12_lockers_identity.md. -/
def KEY_RESULT : RegDef := ⟨"KEY_RESULT", 0xa0008, 0x0, 1, 1, 0x0, 1,
  [KEY_RESULT_result, KEY_RESULT_done]⟩

def KEY_IN_BASE_base : Fld := ⟨0xa000c, 0x0, 1, 0x0, 6, 17, .rw, 0⟩
/-- `KEY_IN_BASE`, R380 of spec/12_lockers_identity.md. -/
def KEY_IN_BASE : RegDef := ⟨"KEY_IN_BASE", 0xa000c, 0x0, 1, 1, 0x0, 1,
  [KEY_IN_BASE_base]⟩

def KEY_IN_LEN_bytes : Fld := ⟨0xa0010, 0x0, 1, 0x0, 0, 16, .rw, 0⟩
/-- `KEY_IN_LEN`, R380 of spec/12_lockers_identity.md. -/
def KEY_IN_LEN : RegDef := ⟨"KEY_IN_LEN", 0xa0010, 0x0, 1, 1, 0x0, 1,
  [KEY_IN_LEN_bytes]⟩

def KEY_OUT_BASE_base : Fld := ⟨0xa0014, 0x0, 1, 0x0, 6, 17, .rw, 0⟩
/-- `KEY_OUT_BASE`, R380 of spec/12_lockers_identity.md. -/
def KEY_OUT_BASE : RegDef := ⟨"KEY_OUT_BASE", 0xa0014, 0x0, 1, 1, 0x0, 1,
  [KEY_OUT_BASE_base]⟩

def KEY_OUT_LEN_bytes : Fld := ⟨0xa0018, 0x0, 1, 0x0, 0, 16, .ro, 0⟩
/-- `KEY_OUT_LEN`, R380 of spec/12_lockers_identity.md. -/
def KEY_OUT_LEN : RegDef := ⟨"KEY_OUT_LEN", 0xa0018, 0x0, 1, 1, 0x0, 1,
  [KEY_OUT_LEN_bytes]⟩

def KEY_USE_BASE_base : Fld := ⟨0xa001c, 0x0, 1, 0x0, 7, 16, .rw, 0⟩
/-- `KEY_USE_BASE`, R380 of spec/12_lockers_identity.md. -/
def KEY_USE_BASE : RegDef := ⟨"KEY_USE_BASE", 0xa001c, 0x0, 1, 1, 0x0, 1,
  [KEY_USE_BASE_base]⟩

def KEY_USE_SIZE_log2n : Fld := ⟨0xa0020, 0x0, 1, 0x0, 0, 4, .rw, 6⟩
/-- `KEY_USE_SIZE`, R380 of spec/12_lockers_identity.md. -/
def KEY_USE_SIZE : RegDef := ⟨"KEY_USE_SIZE", 0xa0020, 0x0, 1, 1, 0x0, 1,
  [KEY_USE_SIZE_log2n]⟩

def KEY_USE_PROD_index : Fld := ⟨0xa0024, 0x0, 1, 0x0, 0, 10, .rw, 0⟩
/-- `KEY_USE_PROD`, R380 of spec/12_lockers_identity.md. -/
def KEY_USE_PROD : RegDef := ⟨"KEY_USE_PROD", 0xa0024, 0x0, 1, 1, 0x0, 1,
  [KEY_USE_PROD_index]⟩

def KEY_USE_CONS_index : Fld := ⟨0xa0028, 0x0, 1, 0x0, 0, 10, .ro, 0⟩
/-- `KEY_USE_CONS`, R380 of spec/12_lockers_identity.md. -/
def KEY_USE_CONS : RegDef := ⟨"KEY_USE_CONS", 0xa0028, 0x0, 1, 1, 0x0, 1,
  [KEY_USE_CONS_index]⟩

def KEY_SLOT_SEQ_seq : Fld := ⟨0xa002c, 0x0, 1, 0x0, 0, 32, .ro, 0⟩
/-- `KEY_SLOT_SEQ`, R380 of spec/12_lockers_identity.md. -/
def KEY_SLOT_SEQ : RegDef := ⟨"KEY_SLOT_SEQ", 0xa002c, 0x0, 1, 1, 0x0, 1,
  [KEY_SLOT_SEQ_seq]⟩

def KEY_APPLIED_count : Fld := ⟨0xa0030, 0x0, 1, 0x0, 0, 64, .ro, 0⟩
/-- `KEY_APPLIED`, R380 of spec/12_lockers_identity.md. -/
def KEY_APPLIED : RegDef := ⟨"KEY_APPLIED", 0xa0030, 0x0, 1, 1, 0x0, 2,
  [KEY_APPLIED_count]⟩

def KEY_REFUSED_count : Fld := ⟨0xa0038, 0x0, 1, 0x0, 0, 64, .ro, 0⟩
/-- `KEY_REFUSED`, R380 of spec/12_lockers_identity.md. -/
def KEY_REFUSED : RegDef := ⟨"KEY_REFUSED", 0xa0038, 0x0, 1, 1, 0x0, 2,
  [KEY_REFUSED_count]⟩

def KEY_MCHAINw_chain : Fld := ⟨0xa0040, 0x4, 1, 0x0, 0, 32, .ro, 0⟩
/-- `KEY_MCHAINw`, R380 of spec/12_lockers_identity.md. -/
def KEY_MCHAINw : RegDef := ⟨"KEY_MCHAINw", 0xa0040, 0x4, 12, 1, 0x0, 1,
  [KEY_MCHAINw_chain]⟩

def KEY_ID_HASHw_hash : Fld := ⟨0xa0070, 0x4, 1, 0x0, 0, 32, .ro, 0⟩
/-- `KEY_ID_HASHw`, R380 of spec/12_lockers_identity.md. -/
def KEY_ID_HASHw : RegDef := ⟨"KEY_ID_HASHw", 0xa0070, 0x4, 12, 1, 0x0, 1,
  [KEY_ID_HASHw_hash]⟩

def KEY_PINw_hash : Fld := ⟨0xa00a0, 0x4, 1, 0x0, 0, 32, .ro, 0⟩
/-- `KEY_PINw`, R380 of spec/12_lockers_identity.md. -/
def KEY_PINw : RegDef := ⟨"KEY_PINw", 0xa00a0, 0x4, 12, 1, 0x0, 1,
  [KEY_PINw_hash]⟩

def KEY_PENDw_hash : Fld := ⟨0xa00d0, 0x4, 1, 0x0, 0, 32, .ro, 0⟩
/-- `KEY_PENDw`, R380 of spec/12_lockers_identity.md. -/
def KEY_PENDw : RegDef := ⟨"KEY_PENDw", 0xa00d0, 0x4, 12, 1, 0x0, 1,
  [KEY_PENDw_hash]⟩

def KEY_CTRk_count : Fld := ⟨0xa0100, 0x4, 1, 0x0, 0, 15, .ro, 0⟩
/-- `KEY_CTRk`, R380 of spec/12_lockers_identity.md. -/
def KEY_CTRk : RegDef := ⟨"KEY_CTRk", 0xa0100, 0x4, 16, 1, 0x0, 1,
  [KEY_CTRk_count]⟩

def KEY_REMASKS_count : Fld := ⟨0xa0140, 0x0, 1, 0x0, 0, 64, .ro, 0⟩
/-- `KEY_REMASKS`, R380 of spec/12_lockers_identity.md. -/
def KEY_REMASKS : RegDef := ⟨"KEY_REMASKS", 0xa0140, 0x0, 1, 1, 0x0, 2,
  [KEY_REMASKS_count]⟩

def KEY_CERT_LEN_bytes : Fld := ⟨0xa0148, 0x0, 1, 0x0, 0, 11, .ro, 0⟩
/-- `KEY_CERT_LEN`, R380 of spec/12_lockers_identity.md. -/
def KEY_CERT_LEN : RegDef := ⟨"KEY_CERT_LEN", 0xa0148, 0x0, 1, 1, 0x0, 1,
  [KEY_CERT_LEN_bytes]⟩

def KEY_MANIFESTw_hash : Fld := ⟨0xa0400, 0x4, 1, 0x0, 0, 32, .ro, 0⟩
/-- `KEY_MANIFESTw`, R380 of spec/12_lockers_identity.md. -/
def KEY_MANIFESTw : RegDef := ⟨"KEY_MANIFESTw", 0xa0400, 0x4, 192, 1, 0x0, 1,
  [KEY_MANIFESTw_hash]⟩

def KEY_CERTw_cert : Fld := ⟨0xa1000, 0x4, 1, 0x0, 0, 32, .ro, 0⟩
/-- `KEY_CERTw`, R380 of spec/12_lockers_identity.md. -/
def KEY_CERTw : RegDef := ⟨"KEY_CERTw", 0xa1000, 0x4, 512, 1, 0x0, 1,
  [KEY_CERTw_cert]⟩

def KEY_LOCKi_attr : Fld := ⟨0xa2000, 0x4, 1, 0x0, 0, 3, .ro, 0⟩
def KEY_LOCKi_noexport : Fld := ⟨0xa2000, 0x4, 1, 0x0, 3, 1, .ro, 0⟩
def KEY_LOCKi_p384 : Fld := ⟨0xa2000, 0x4, 1, 0x0, 4, 1, .ro, 0⟩
def KEY_LOCKi_origin : Fld := ⟨0xa2000, 0x4, 1, 0x0, 5, 2, .ro, 0⟩
def KEY_LOCKi_owner : Fld := ⟨0xa2000, 0x4, 1, 0x0, 7, 4, .ro, 0⟩
def KEY_LOCKi_master : Fld := ⟨0xa2000, 0x4, 1, 0x0, 11, 10, .ro, 0⟩
/-- `KEY_LOCKi`, R380 of spec/12_lockers_identity.md. -/
def KEY_LOCKi : RegDef := ⟨"KEY_LOCKi", 0xa2000, 0x4, 1024, 1, 0x0, 1,
  [KEY_LOCKi_attr, KEY_LOCKi_noexport, KEY_LOCKi_p384, KEY_LOCKi_origin, KEY_LOCKi_owner, KEY_LOCKi_master]⟩

def TWN_CTL_en : Fld := ⟨0xb0000, 0x0, 1, 0x0, 0, 1, .rw, 0⟩
def TWN_CTL_primary : Fld := ⟨0xb0000, 0x0, 1, 0x0, 1, 1, .rw, 0⟩
def TWN_CTL_revert : Fld := ⟨0xb0000, 0x0, 1, 0x0, 2, 1, .rw, 0⟩
def TWN_CTL_bound_feed : Fld := ⟨0xb0000, 0x0, 1, 0x0, 3, 1, .rw, 0⟩
def TWN_CTL_ref_slot : Fld := ⟨0xb0000, 0x0, 1, 0x0, 4, 5, .rw, 0⟩
/-- `TWN_CTL`, R403 of spec/13_twin_operation.md. -/
def TWN_CTL : RegDef := ⟨"TWN_CTL", 0xb0000, 0x0, 1, 1, 0x0, 1,
  [TWN_CTL_en, TWN_CTL_primary, TWN_CTL_revert, TWN_CTL_bound_feed, TWN_CTL_ref_slot]⟩

def TWN_STATUS_state : Fld := ⟨0xb0004, 0x0, 1, 0x0, 0, 3, .ro, 0⟩
def TWN_STATUS_link : Fld := ⟨0xb0004, 0x0, 1, 0x0, 3, 1, .ro, 0⟩
def TWN_STATUS_hb_link : Fld := ⟨0xb0004, 0x0, 1, 0x0, 4, 1, .ro, 0⟩
def TWN_STATUS_hb_pin : Fld := ⟨0xb0004, 0x0, 1, 0x0, 5, 1, .ro, 0⟩
def TWN_STATUS_current : Fld := ⟨0xb0004, 0x0, 1, 0x0, 6, 1, .ro, 0⟩
def TWN_STATUS_gate : Fld := ⟨0xb0004, 0x0, 1, 0x0, 7, 1, .ro, 0⟩
def TWN_STATUS_swap_pending : Fld := ⟨0xb0004, 0x0, 1, 0x0, 8, 1, .ro, 0⟩
/-- `TWN_STATUS`, R403 of spec/13_twin_operation.md. -/
def TWN_STATUS : RegDef := ⟨"TWN_STATUS", 0xb0004, 0x0, 1, 1, 0x0, 1,
  [TWN_STATUS_state, TWN_STATUS_link, TWN_STATUS_hb_link, TWN_STATUS_hb_pin, TWN_STATUS_current, TWN_STATUS_gate, TWN_STATUS_swap_pending]⟩

def TWN_CMD_swap : Fld := ⟨0xb0008, 0x0, 1, 0x0, 0, 1, .wo, 0⟩
def TWN_CMD_abort : Fld := ⟨0xb0008, 0x0, 1, 0x0, 1, 1, .wo, 0⟩
def TWN_CMD_resync : Fld := ⟨0xb0008, 0x0, 1, 0x0, 2, 1, .wo, 0⟩
/-- `TWN_CMD`, R403 of spec/13_twin_operation.md. -/
def TWN_CMD : RegDef := ⟨"TWN_CMD", 0xb0008, 0x0, 1, 1, 0x0, 1,
  [TWN_CMD_swap, TWN_CMD_abort, TWN_CMD_resync]⟩

def TWN_RESULT_result : Fld := ⟨0xb000c, 0x0, 1, 0x0, 0, 3, .ro, 0⟩
/-- `TWN_RESULT`, R403 of spec/13_twin_operation.md. -/
def TWN_RESULT : RegDef := ⟨"TWN_RESULT", 0xb000c, 0x0, 1, 1, 0x0, 1,
  [TWN_RESULT_result]⟩

def TWN_ALARM_partner_lost : Fld := ⟨0xb0010, 0x0, 1, 0x0, 0, 1, .w1c, 0⟩
def TWN_ALARM_stuck : Fld := ⟨0xb0010, 0x0, 1, 0x0, 1, 1, .w1c, 0⟩
def TWN_ALARM_dual : Fld := ⟨0xb0010, 0x0, 1, 0x0, 2, 1, .w1c, 0⟩
def TWN_ALARM_role : Fld := ⟨0xb0010, 0x0, 1, 0x0, 3, 1, .w1c, 0⟩
def TWN_ALARM_deviation : Fld := ⟨0xb0010, 0x0, 1, 0x0, 4, 1, .w1c, 0⟩
def TWN_ALARM_cmp_missing : Fld := ⟨0xb0010, 0x0, 1, 0x0, 5, 1, .w1c, 0⟩
def TWN_ALARM_yield_timeout : Fld := ⟨0xb0010, 0x0, 1, 0x0, 6, 1, .w1c, 0⟩
def TWN_ALARM_swap_back : Fld := ⟨0xb0010, 0x0, 1, 0x0, 7, 1, .w1c, 0⟩
/-- `TWN_ALARM`, R403 of spec/13_twin_operation.md. -/
def TWN_ALARM : RegDef := ⟨"TWN_ALARM", 0xb0010, 0x0, 1, 1, 0x0, 1,
  [TWN_ALARM_partner_lost, TWN_ALARM_stuck, TWN_ALARM_dual, TWN_ALARM_role, TWN_ALARM_deviation, TWN_ALARM_cmp_missing, TWN_ALARM_yield_timeout, TWN_ALARM_swap_back]⟩

def TWN_KICK_kick : Fld := ⟨0xb0014, 0x0, 1, 0x0, 0, 1, .wo, 0⟩
/-- `TWN_KICK`, R403 of spec/13_twin_operation.md. -/
def TWN_KICK : RegDef := ⟨"TWN_KICK", 0xb0014, 0x0, 1, 1, 0x0, 1,
  [TWN_KICK_kick]⟩

def TWN_KICK_MS_ms : Fld := ⟨0xb0018, 0x0, 1, 0x0, 0, 16, .rw, 100⟩
/-- `TWN_KICK_MS`, R403 of spec/13_twin_operation.md. -/
def TWN_KICK_MS : RegDef := ⟨"TWN_KICK_MS", 0xb0018, 0x0, 1, 1, 0x0, 1,
  [TWN_KICK_MS_ms]⟩

def TWN_CMP_CFG_pps_port : Fld := ⟨0xb001c, 0x0, 1, 0x0, 0, 5, .rw, 0⟩
def TWN_CMP_CFG_clk_port : Fld := ⟨0xb001c, 0x0, 1, 0x0, 5, 5, .rw, 0⟩
def TWN_CMP_CFG_clk_chan : Fld := ⟨0xb001c, 0x0, 1, 0x0, 10, 6, .rw, 0⟩
def TWN_CMP_CFG_unit_pps : Fld := ⟨0xb001c, 0x0, 1, 0x0, 16, 3, .rw, 0⟩
def TWN_CMP_CFG_unit_clk : Fld := ⟨0xb001c, 0x0, 1, 0x0, 19, 3, .rw, 1⟩
def TWN_CMP_CFG_count : Fld := ⟨0xb001c, 0x0, 1, 0x0, 22, 4, .rw, 5⟩
/-- `TWN_CMP_CFG`, R403 of spec/13_twin_operation.md. -/
def TWN_CMP_CFG : RegDef := ⟨"TWN_CMP_CFG", 0xb001c, 0x0, 1, 1, 0x0, 1,
  [TWN_CMP_CFG_pps_port, TWN_CMP_CFG_clk_port, TWN_CMP_CFG_clk_chan, TWN_CMP_CFG_unit_pps, TWN_CMP_CFG_unit_clk, TWN_CMP_CFG_count]⟩

def TWN_CMP_WIN_ps : Fld := ⟨0xb0020, 0x0, 1, 0x0, 0, 32, .rw, 0x2710⟩
/-- `TWN_CMP_WIN`, R403 of spec/13_twin_operation.md. -/
def TWN_CMP_WIN : RegDef := ⟨"TWN_CMP_WIN", 0xb0020, 0x0, 1, 1, 0x0, 1,
  [TWN_CMP_WIN_ps]⟩

def TWN_CMP_FWIN_ppt : Fld := ⟨0xb0024, 0x0, 1, 0x0, 0, 32, .rw, 0x3e8⟩
/-- `TWN_CMP_FWIN`, R403 of spec/13_twin_operation.md. -/
def TWN_CMP_FWIN : RegDef := ⟨"TWN_CMP_FWIN", 0xb0024, 0x0, 1, 1, 0x0, 1,
  [TWN_CMP_FWIN_ppt]⟩

def TWN_CMP_DELAY_ps : Fld := ⟨0xb0028, 0x0, 1, 0x0, 0, 32, .rw, 0⟩
/-- `TWN_CMP_DELAY`, R403 of spec/13_twin_operation.md. -/
def TWN_CMP_DELAY : RegDef := ⟨"TWN_CMP_DELAY", 0xb0028, 0x0, 1, 1, 0x0, 1,
  [TWN_CMP_DELAY_ps]⟩

def TWN_CMP_UNC_ps : Fld := ⟨0xb002c, 0x0, 1, 0x0, 0, 32, .rw, 0x1f4⟩
/-- `TWN_CMP_UNC`, R403 of spec/13_twin_operation.md. -/
def TWN_CMP_UNC : RegDef := ⟨"TWN_CMP_UNC", 0xb002c, 0x0, 1, 1, 0x0, 1,
  [TWN_CMP_UNC_ps]⟩

def TWN_DELTA_d : Fld := ⟨0xb0030, 0x0, 1, 0x0, 0, 64, .ro, 0⟩
/-- `TWN_DELTA`, R403 of spec/13_twin_operation.md. -/
def TWN_DELTA : RegDef := ⟨"TWN_DELTA", 0xb0030, 0x0, 1, 1, 0x0, 2,
  [TWN_DELTA_d]⟩

def TWN_DFREQ_f : Fld := ⟨0xb0038, 0x0, 1, 0x0, 0, 48, .ro, 0⟩
/-- `TWN_DFREQ`, R403 of spec/13_twin_operation.md. -/
def TWN_DFREQ : RegDef := ⟨"TWN_DFREQ", 0xb0038, 0x0, 1, 1, 0x0, 2,
  [TWN_DFREQ_f]⟩

def TWN_PARTNER_BOUND_ps : Fld := ⟨0xb0040, 0x0, 1, 0x0, 0, 32, .ro, 0xffffffff⟩
/-- `TWN_PARTNER_BOUND`, R403 of spec/13_twin_operation.md. -/
def TWN_PARTNER_BOUND : RegDef := ⟨"TWN_PARTNER_BOUND", 0xb0040, 0x0, 1, 1, 0x0, 1,
  [TWN_PARTNER_BOUND_ps]⟩

def TWN_PARTNER_CLASS_class : Fld := ⟨0xb0044, 0x0, 1, 0x0, 0, 3, .ro, 0⟩
def TWN_PARTNER_CLASS_state : Fld := ⟨0xb0044, 0x0, 1, 0x0, 3, 3, .ro, 0⟩
def TWN_PARTNER_CLASS_fatal : Fld := ⟨0xb0044, 0x0, 1, 0x0, 6, 1, .ro, 0⟩
/-- `TWN_PARTNER_CLASS`, R403 of spec/13_twin_operation.md. -/
def TWN_PARTNER_CLASS : RegDef := ⟨"TWN_PARTNER_CLASS", 0xb0044, 0x0, 1, 1, 0x0, 1,
  [TWN_PARTNER_CLASS_class, TWN_PARTNER_CLASS_state, TWN_PARTNER_CLASS_fatal]⟩

def TWN_WTR_secs : Fld := ⟨0xb0048, 0x0, 1, 0x0, 0, 16, .rw, 0x12c⟩
/-- `TWN_WTR`, R403 of spec/13_twin_operation.md. -/
def TWN_WTR : RegDef := ⟨"TWN_WTR", 0xb0048, 0x0, 1, 1, 0x0, 1,
  [TWN_WTR_secs]⟩

def TWN_SWAP_OFS_ms : Fld := ⟨0xb004c, 0x0, 1, 0x0, 0, 10, .rw, 0x1f4⟩
/-- `TWN_SWAP_OFS`, R403 of spec/13_twin_operation.md. -/
def TWN_SWAP_OFS : RegDef := ⟨"TWN_SWAP_OFS", 0xb004c, 0x0, 1, 1, 0x0, 1,
  [TWN_SWAP_OFS_ms]⟩

def TWN_SWAP_CHECK_ms : Fld := ⟨0xb0050, 0x0, 1, 0x0, 0, 16, .rw, 0x7d0⟩
/-- `TWN_SWAP_CHECK`, R403 of spec/13_twin_operation.md. -/
def TWN_SWAP_CHECK : RegDef := ⟨"TWN_SWAP_CHECK", 0xb0050, 0x0, 1, 1, 0x0, 1,
  [TWN_SWAP_CHECK_ms]⟩

def TWN_SATCHEL_SEQ_seq : Fld := ⟨0xb0054, 0x0, 1, 0x0, 0, 32, .ro, 0⟩
/-- `TWN_SATCHEL_SEQ`, R403 of spec/13_twin_operation.md. -/
def TWN_SATCHEL_SEQ : RegDef := ⟨"TWN_SATCHEL_SEQ", 0xb0054, 0x0, 1, 1, 0x0, 1,
  [TWN_SATCHEL_SEQ_seq]⟩

def TWN_SATCHEL_TX_count : Fld := ⟨0xb0100, 0x0, 1, 0x0, 0, 64, .ro, 0⟩
/-- `TWN_SATCHEL_TX`, R403 of spec/13_twin_operation.md. -/
def TWN_SATCHEL_TX : RegDef := ⟨"TWN_SATCHEL_TX", 0xb0100, 0x0, 1, 1, 0x0, 2,
  [TWN_SATCHEL_TX_count]⟩

def TWN_SATCHEL_RX_count : Fld := ⟨0xb0108, 0x0, 1, 0x0, 0, 64, .ro, 0⟩
/-- `TWN_SATCHEL_RX`, R403 of spec/13_twin_operation.md. -/
def TWN_SATCHEL_RX : RegDef := ⟨"TWN_SATCHEL_RX", 0xb0108, 0x0, 1, 1, 0x0, 2,
  [TWN_SATCHEL_RX_count]⟩

def TWN_SATCHEL_BAD_count : Fld := ⟨0xb0110, 0x0, 1, 0x0, 0, 64, .ro, 0⟩
/-- `TWN_SATCHEL_BAD`, R403 of spec/13_twin_operation.md. -/
def TWN_SATCHEL_BAD : RegDef := ⟨"TWN_SATCHEL_BAD", 0xb0110, 0x0, 1, 1, 0x0, 2,
  [TWN_SATCHEL_BAD_count]⟩

def TWN_TAKEOVERS_count : Fld := ⟨0xb0118, 0x0, 1, 0x0, 0, 64, .ro, 0⟩
/-- `TWN_TAKEOVERS`, R403 of spec/13_twin_operation.md. -/
def TWN_TAKEOVERS : RegDef := ⟨"TWN_TAKEOVERS", 0xb0118, 0x0, 1, 1, 0x0, 2,
  [TWN_TAKEOVERS_count]⟩

def TWN_DEVIATIONS_count : Fld := ⟨0xb0120, 0x0, 1, 0x0, 0, 64, .ro, 0⟩
/-- `TWN_DEVIATIONS`, R403 of spec/13_twin_operation.md. -/
def TWN_DEVIATIONS : RegDef := ⟨"TWN_DEVIATIONS", 0xb0120, 0x0, 1, 1, 0x0, 2,
  [TWN_DEVIATIONS_count]⟩

def MEM_TEST_CTL_en : Fld := ⟨0xc0000, 0x0, 1, 0x0, 0, 1, .rw, 1⟩
def MEM_TEST_CTL_ms : Fld := ⟨0xc0000, 0x0, 1, 0x0, 16, 10, .rw, 55⟩
/-- `MEM_TEST_CTL`, R420 of spec/14_memory.md. -/
def MEM_TEST_CTL : RegDef := ⟨"MEM_TEST_CTL", 0xc0000, 0x0, 1, 1, 0x0, 1,
  [MEM_TEST_CTL_en, MEM_TEST_CTL_ms]⟩

def MEM_TEST_CURSOR_region : Fld := ⟨0xc0004, 0x0, 1, 0x0, 0, 18, .ro, 0⟩
/-- `MEM_TEST_CURSOR`, R420 of spec/14_memory.md. -/
def MEM_TEST_CURSOR : RegDef := ⟨"MEM_TEST_CURSOR", 0xc0004, 0x0, 1, 1, 0x0, 1,
  [MEM_TEST_CURSOR_region]⟩

def MEM_TEST_PASSES_count : Fld := ⟨0xc0008, 0x0, 1, 0x0, 0, 64, .ro, 0⟩
/-- `MEM_TEST_PASSES`, R420 of spec/14_memory.md. -/
def MEM_TEST_PASSES : RegDef := ⟨"MEM_TEST_PASSES", 0xc0008, 0x0, 1, 1, 0x0, 2,
  [MEM_TEST_PASSES_count]⟩

def MEM_TEST_FAIL_count : Fld := ⟨0xc0010, 0x0, 1, 0x0, 0, 64, .ro, 0⟩
/-- `MEM_TEST_FAIL`, R420 of spec/14_memory.md. -/
def MEM_TEST_FAIL : RegDef := ⟨"MEM_TEST_FAIL", 0xc0010, 0x0, 1, 1, 0x0, 2,
  [MEM_TEST_FAIL_count]⟩

def MEM_SPARE_USED_count : Fld := ⟨0xc0018, 0x0, 1, 0x0, 0, 64, .ro, 0⟩
/-- `MEM_SPARE_USED`, R420 of spec/14_memory.md. -/
def MEM_SPARE_USED : RegDef := ⟨"MEM_SPARE_USED", 0xc0018, 0x0, 1, 1, 0x0, 2,
  [MEM_SPARE_USED_count]⟩

def MEM_NOSPARE_bank : Fld := ⟨0xc0020, 0x0, 1, 0x0, 0, 32, .ro, 0⟩
/-- `MEM_NOSPARE`, R420 of spec/14_memory.md. -/
def MEM_NOSPARE : RegDef := ⟨"MEM_NOSPARE", 0xc0020, 0x0, 1, 1, 0x0, 1,
  [MEM_NOSPARE_bank]⟩

def MEM_TEST_SKIP_count : Fld := ⟨0xc0024, 0x0, 1, 0x0, 0, 64, .ro, 0⟩
/-- `MEM_TEST_SKIP`, R420 of spec/14_memory.md. -/
def MEM_TEST_SKIP : RegDef := ⟨"MEM_TEST_SKIP", 0xc0024, 0x0, 1, 1, 0x0, 2,
  [MEM_TEST_SKIP_count]⟩

def MEM_ECC_CORR_count : Fld := ⟨0xc002c, 0x0, 1, 0x0, 0, 64, .ro, 0⟩
/-- `MEM_ECC_CORR`, R420 of spec/14_memory.md. -/
def MEM_ECC_CORR : RegDef := ⟨"MEM_ECC_CORR", 0xc002c, 0x0, 1, 1, 0x0, 2,
  [MEM_ECC_CORR_count]⟩

def MEM_ECC_UNCORR_count : Fld := ⟨0xc0034, 0x0, 1, 0x0, 0, 64, .ro, 0⟩
/-- `MEM_ECC_UNCORR`, R420 of spec/14_memory.md. -/
def MEM_ECC_UNCORR : RegDef := ⟨"MEM_ECC_UNCORR", 0xc0034, 0x0, 1, 1, 0x0, 2,
  [MEM_ECC_UNCORR_count]⟩

def MEM_ECC_ADDR_offset : Fld := ⟨0xc003c, 0x0, 1, 0x0, 0, 24, .ro, 0⟩
def MEM_ECC_ADDR_port : Fld := ⟨0xc003c, 0x0, 1, 0x0, 24, 5, .ro, 0⟩
/-- `MEM_ECC_ADDR`, R420 of spec/14_memory.md. -/
def MEM_ECC_ADDR : RegDef := ⟨"MEM_ECC_ADDR", 0xc003c, 0x0, 1, 1, 0x0, 1,
  [MEM_ECC_ADDR_offset, MEM_ECC_ADDR_port]⟩

def MEM_COLL_COUNT_count : Fld := ⟨0xc0040, 0x0, 1, 0x0, 0, 64, .ro, 0⟩
/-- `MEM_COLL_COUNT`, R420 of spec/14_memory.md. -/
def MEM_COLL_COUNT : RegDef := ⟨"MEM_COLL_COUNT", 0xc0040, 0x0, 1, 1, 0x0, 2,
  [MEM_COLL_COUNT_count]⟩

def MEM_AGED_count : Fld := ⟨0xc0048, 0x0, 1, 0x0, 0, 64, .ro, 0⟩
/-- `MEM_AGED`, R420 of spec/14_memory.md. -/
def MEM_AGED : RegDef := ⟨"MEM_AGED", 0xc0048, 0x0, 1, 1, 0x0, 2,
  [MEM_AGED_count]⟩

def MEM_OFF_ACCESS_count : Fld := ⟨0xc0050, 0x0, 1, 0x0, 0, 64, .ro, 0⟩
/-- `MEM_OFF_ACCESS`, R420 of spec/14_memory.md. -/
def MEM_OFF_ACCESS : RegDef := ⟨"MEM_OFF_ACCESS", 0xc0050, 0x0, 1, 1, 0x0, 2,
  [MEM_OFF_ACCESS_count]⟩

def MEM_ALIAS_ERR_count : Fld := ⟨0xc0058, 0x0, 1, 0x0, 0, 64, .ro, 0⟩
/-- `MEM_ALIAS_ERR`, R420 of spec/14_memory.md. -/
def MEM_ALIAS_ERR : RegDef := ⟨"MEM_ALIAS_ERR", 0xc0058, 0x0, 1, 1, 0x0, 2,
  [MEM_ALIAS_ERR_count]⟩

def MEM_LOCAL_REFUSED_count : Fld := ⟨0xc0060, 0x0, 1, 0x0, 0, 64, .ro, 0⟩
/-- `MEM_LOCAL_REFUSED`, R420 of spec/14_memory.md. -/
def MEM_LOCAL_REFUSED : RegDef := ⟨"MEM_LOCAL_REFUSED", 0xc0060, 0x0, 1, 1, 0x0, 2,
  [MEM_LOCAL_REFUSED_count]⟩

def MEM_BANK_STATE_state : Fld := ⟨0xc0068, 0x0, 1, 0x0, 0, 64, .ro, 0⟩
/-- `MEM_BANK_STATE`, R420 of spec/14_memory.md. -/
def MEM_BANK_STATE : RegDef := ⟨"MEM_BANK_STATE", 0xc0068, 0x0, 1, 1, 0x0, 2,
  [MEM_BANK_STATE_state]⟩

def MEM_RET_STATUS_fail : Fld := ⟨0xc0070, 0x0, 1, 0x0, 0, 32, .w1c, 0⟩
/-- `MEM_RET_STATUS`, R420 of spec/14_memory.md. -/
def MEM_RET_STATUS : RegDef := ⟨"MEM_RET_STATUS", 0xc0070, 0x0, 1, 1, 0x0, 1,
  [MEM_RET_STATUS_fail]⟩

def MEM_MBc_H2F_set : Fld := ⟨0xc0080, 0x8, 1, 0x0, 0, 1, .wo, 0⟩
def MEM_MBc_H2F_clear : Fld := ⟨0xc0080, 0x8, 1, 0x0, 1, 1, .wo, 0⟩
def MEM_MBc_H2F_pending : Fld := ⟨0xc0080, 0x8, 1, 0x0, 2, 1, .ro, 0⟩
/-- `MEM_MBc_H2F`, R420 of spec/14_memory.md. -/
def MEM_MBc_H2F : RegDef := ⟨"MEM_MBc_H2F", 0xc0080, 0x8, 4, 1, 0x0, 1,
  [MEM_MBc_H2F_set, MEM_MBc_H2F_clear, MEM_MBc_H2F_pending]⟩

def MEM_MBc_F2H_set : Fld := ⟨0xc0084, 0x8, 1, 0x0, 0, 1, .wo, 0⟩
def MEM_MBc_F2H_clear : Fld := ⟨0xc0084, 0x8, 1, 0x0, 1, 1, .wo, 0⟩
def MEM_MBc_F2H_pending : Fld := ⟨0xc0084, 0x8, 1, 0x0, 2, 1, .ro, 0⟩
/-- `MEM_MBc_F2H`, R420 of spec/14_memory.md. -/
def MEM_MBc_F2H : RegDef := ⟨"MEM_MBc_F2H", 0xc0084, 0x8, 4, 1, 0x0, 1,
  [MEM_MBc_F2H_set, MEM_MBc_F2H_clear, MEM_MBc_F2H_pending]⟩

def PRF_SELk_event : Fld := ⟨0xd0000, 0x4, 1, 0x0, 0, 8, .rw, 0⟩
def PRF_SELk_en : Fld := ⟨0xd0000, 0x4, 1, 0x0, 8, 1, .rw, 0⟩
def PRF_SELk_irq : Fld := ⟨0xd0000, 0x4, 1, 0x0, 9, 1, .rw, 0⟩
def PRF_SELk_span : Fld := ⟨0xd0000, 0x4, 1, 0x0, 16, 6, .rw, 48⟩
/-- `PRF_SELk`, R154 of spec/04_frond_execution.md. -/
def PRF_SELk : RegDef := ⟨"PRF_SELk", 0xd0000, 0x4, 16, 1, 0x0, 1,
  [PRF_SELk_event, PRF_SELk_en, PRF_SELk_irq, PRF_SELk_span]⟩

def PRF_OVF_ovf : Fld := ⟨0xd0040, 0x0, 1, 0x0, 0, 16, .w1c, 0⟩
/-- `PRF_OVF`, R154 of spec/04_frond_execution.md. -/
def PRF_OVF : RegDef := ⟨"PRF_OVF", 0xd0040, 0x0, 1, 1, 0x0, 1,
  [PRF_OVF_ovf]⟩

def PRF_CNTk_count : Fld := ⟨0xd0100, 0x8, 1, 0x0, 0, 48, .ro, 0⟩
/-- `PRF_CNTk`, R154 of spec/04_frond_execution.md. -/
def PRF_CNTk : RegDef := ⟨"PRF_CNTk", 0xd0100, 0x8, 16, 1, 0x0, 2,
  [PRF_CNTk_count]⟩

def FRD_CMD_op : Fld := ⟨0xe0000, 0x0, 1, 0x0, 0, 3, .wo, 0⟩
def FRD_CMD_frond : Fld := ⟨0xe0000, 0x0, 1, 0x0, 4, 4, .wo, 0⟩
/-- `FRD_CMD`, R142 of spec/04_frond_execution.md. -/
def FRD_CMD : RegDef := ⟨"FRD_CMD", 0xe0000, 0x0, 1, 1, 0x0, 1,
  [FRD_CMD_op, FRD_CMD_frond]⟩

def FRD_RESULT_result : Fld := ⟨0xe0004, 0x0, 1, 0x0, 0, 4, .ro, 0⟩
def FRD_RESULT_done : Fld := ⟨0xe0004, 0x0, 1, 0x0, 4, 1, .ro, 1⟩
/-- `FRD_RESULT`, R142 of spec/04_frond_execution.md. -/
def FRD_RESULT : RegDef := ⟨"FRD_RESULT", 0xe0004, 0x0, 1, 1, 0x0, 1,
  [FRD_RESULT_result, FRD_RESULT_done]⟩

def FRD_TIME_GRANT_grant : Fld := ⟨0xe0008, 0x0, 1, 0x0, 0, 16, .rw, 1⟩
/-- `FRD_TIME_GRANT`, R119 of spec/03_frond_instruction_set.md. -/
def FRD_TIME_GRANT : RegDef := ⟨"FRD_TIME_GRANT", 0xe0008, 0x0, 1, 1, 0x0, 1,
  [FRD_TIME_GRANT_grant]⟩

def FRD_CMD_SRC_base : Fld := ⟨0xe000c, 0x0, 1, 0x0, 6, 17, .rw, 0⟩
/-- `FRD_CMD_SRC`, R142 of spec/04_frond_execution.md. -/
def FRD_CMD_SRC : RegDef := ⟨"FRD_CMD_SRC", 0xe000c, 0x0, 1, 1, 0x0, 1,
  [FRD_CMD_SRC_base]⟩

def FRD_STATUSn_state : Fld := ⟨0xe0100, 0x4, 1, 0x0, 0, 2, .ro, 2⟩
def FRD_STATUSn_staged : Fld := ⟨0xe0100, 0x4, 1, 0x0, 2, 1, .ro, 0⟩
def FRD_STATUSn_loaded : Fld := ⟨0xe0100, 0x4, 1, 0x0, 3, 1, .ro, 0⟩
/-- `FRD_STATUSn`, R142 of spec/04_frond_execution.md. -/
def FRD_STATUSn : RegDef := ⟨"FRD_STATUSn", 0xe0100, 0x4, 16, 1, 0x0, 1,
  [FRD_STATUSn_state, FRD_STATUSn_staged, FRD_STATUSn_loaded]⟩

def FRD_IMGn_release : Fld := ⟨0xe0140, 0x4, 1, 0x0, 0, 32, .ro, 0⟩
/-- `FRD_IMGn`, R142 of spec/04_frond_execution.md. -/
def FRD_IMGn : RegDef := ⟨"FRD_IMGn", 0xe0140, 0x4, 16, 1, 0x0, 1,
  [FRD_IMGn_release]⟩

def FRD_EVT_OVRn_count : Fld := ⟨0xe0200, 0x8, 1, 0x0, 0, 64, .ro, 0⟩
/-- `FRD_EVT_OVRn`, R142 of spec/04_frond_execution.md. -/
def FRD_EVT_OVRn : RegDef := ⟨"FRD_EVT_OVRn", 0xe0200, 0x8, 16, 1, 0x0, 2,
  [FRD_EVT_OVRn_count]⟩

def FRD_EVT_ROUTEn_mask : Fld := ⟨0xe1000, 0x4, 1, 0x0, 0, 16, .rw, 0⟩
def FRD_EVT_ROUTEn_line : Fld := ⟨0xe1000, 0x4, 1, 0x0, 16, 6, .rw, 0⟩
/-- `FRD_EVT_ROUTEn`, R133 of spec/04_frond_execution.md. -/
def FRD_EVT_ROUTEn : RegDef := ⟨"FRD_EVT_ROUTEn", 0xe1000, 0x4, 512, 1, 0x0, 1,
  [FRD_EVT_ROUTEn_mask, FRD_EVT_ROUTEn_line]⟩

def MACn_CTL_mode : Fld := ⟨0x100000, 0x8000, 1, 0x0, 0, 3, .rw, 0⟩
def MACn_CTL_fec : Fld := ⟨0x100000, 0x8000, 1, 0x0, 3, 2, .rw, 0⟩
def MACn_CTL_an : Fld := ⟨0x100000, 0x8000, 1, 0x0, 5, 1, .rw, 1⟩
def MACn_CTL_lt : Fld := ⟨0x100000, 0x8000, 1, 0x0, 6, 1, .rw, 0⟩
def MACn_CTL_bcast : Fld := ⟨0x100000, 0x8000, 1, 0x0, 7, 1, .rw, 0⟩
def MACn_CTL_preempt_en : Fld := ⟨0x100000, 0x8000, 1, 0x0, 8, 1, .rw, 0⟩
def MACn_CTL_frond : Fld := ⟨0x100000, 0x8000, 1, 0x0, 9, 4, .rw, 0⟩
/-- `MACn_CTL`, R319 of spec/10_ethernet_lanes.md. -/
def MACn_CTL : RegDef := ⟨"MACn_CTL", 0x100000, 0x8000, 32, 1, 0x0, 1,
  [MACn_CTL_mode, MACn_CTL_fec, MACn_CTL_an, MACn_CTL_lt, MACn_CTL_bcast, MACn_CTL_preempt_en, MACn_CTL_frond]⟩

def MACn_MAXLEN_bytes : Fld := ⟨0x100004, 0x8000, 1, 0x0, 0, 14, .rw, 0x5f2⟩
/-- `MACn_MAXLEN`, R319 of spec/10_ethernet_lanes.md. -/
def MACn_MAXLEN : RegDef := ⟨"MACn_MAXLEN", 0x100004, 0x8000, 32, 1, 0x0, 1,
  [MACn_MAXLEN_bytes]⟩

def MACn_STATUS_link : Fld := ⟨0x100008, 0x8000, 1, 0x0, 0, 1, .ro, 0⟩
def MACn_STATUS_fec_lock : Fld := ⟨0x100008, 0x8000, 1, 0x0, 1, 1, .ro, 0⟩
def MACn_STATUS_bonded_member : Fld := ⟨0x100008, 0x8000, 1, 0x0, 2, 1, .ro, 0⟩
def MACn_STATUS_preempt : Fld := ⟨0x100008, 0x8000, 1, 0x0, 3, 2, .ro, 0⟩
def MACn_STATUS_cal_valid : Fld := ⟨0x100008, 0x8000, 1, 0x0, 5, 1, .ro, 0⟩
def MACn_STATUS_listening : Fld := ⟨0x100008, 0x8000, 1, 0x0, 6, 1, .ro, 0⟩
/-- `MACn_STATUS`, R319 of spec/10_ethernet_lanes.md. -/
def MACn_STATUS : RegDef := ⟨"MACn_STATUS", 0x100008, 0x8000, 32, 1, 0x0, 1,
  [MACn_STATUS_link, MACn_STATUS_fec_lock, MACn_STATUS_bonded_member, MACn_STATUS_preempt, MACn_STATUS_cal_valid, MACn_STATUS_listening]⟩

def MACn_UCk_addr : Fld := ⟨0x100010, 0x8000, 8, 0x8, 0, 48, .rw, 0⟩
def MACn_UCk_en : Fld := ⟨0x100010, 0x8000, 8, 0x8, 48, 1, .rw, 0⟩
def MACn_UCk_cls : Fld := ⟨0x100010, 0x8000, 8, 0x8, 49, 1, .rw, 0⟩
/-- `MACn_UCk`, R319 of spec/10_ethernet_lanes.md. -/
def MACn_UCk : RegDef := ⟨"MACn_UCk", 0x100010, 0x8000, 256, 8, 0x8, 2,
  [MACn_UCk_addr, MACn_UCk_en, MACn_UCk_cls]⟩

def MACn_MCk_addr : Fld := ⟨0x100050, 0x8000, 8, 0x8, 0, 48, .rw, 0⟩
def MACn_MCk_en : Fld := ⟨0x100050, 0x8000, 8, 0x8, 48, 1, .rw, 0⟩
def MACn_MCk_cls : Fld := ⟨0x100050, 0x8000, 8, 0x8, 49, 1, .rw, 0⟩
/-- `MACn_MCk`, R319 of spec/10_ethernet_lanes.md. -/
def MACn_MCk : RegDef := ⟨"MACn_MCk", 0x100050, 0x8000, 256, 8, 0x8, 2,
  [MACn_MCk_addr, MACn_MCk_en, MACn_MCk_cls]⟩

def MACn_LAUNCH_LEAD_ns : Fld := ⟨0x100090, 0x8000, 1, 0x0, 0, 16, .rw, 0x7d0⟩
/-- `MACn_LAUNCH_LEAD`, R319 of spec/10_ethernet_lanes.md. -/
def MACn_LAUNCH_LEAD : RegDef := ⟨"MACn_LAUNCH_LEAD", 0x100090, 0x8000, 32, 1, 0x0, 1,
  [MACn_LAUNCH_LEAD_ns]⟩

def MACn_RESLOT_MAX_n : Fld := ⟨0x100094, 0x8000, 1, 0x0, 0, 4, .rw, 3⟩
/-- `MACn_RESLOT_MAX`, R319 of spec/10_ethernet_lanes.md. -/
def MACn_RESLOT_MAX : RegDef := ⟨"MACn_RESLOT_MAX", 0x100094, 0x8000, 32, 1, 0x0, 1,
  [MACn_RESLOT_MAX_n]⟩

def MACn_TRACE_RX_ps : Fld := ⟨0x100098, 0x8000, 1, 0x0, 0, 32, .rw, 0⟩
/-- `MACn_TRACE_RX`, R319 of spec/10_ethernet_lanes.md. -/
def MACn_TRACE_RX : RegDef := ⟨"MACn_TRACE_RX", 0x100098, 0x8000, 32, 1, 0x0, 1,
  [MACn_TRACE_RX_ps]⟩

def MACn_TRACE_TX_ps : Fld := ⟨0x10009c, 0x8000, 1, 0x0, 0, 32, .rw, 0⟩
/-- `MACn_TRACE_TX`, R319 of spec/10_ethernet_lanes.md. -/
def MACn_TRACE_TX : RegDef := ⟨"MACn_TRACE_TX", 0x10009c, 0x8000, 32, 1, 0x0, 1,
  [MACn_TRACE_TX_ps]⟩

def MACn_RX_LAT_ps : Fld := ⟨0x1000a0, 0x8000, 1, 0x0, 0, 32, .ro, 0⟩
/-- `MACn_RX_LAT`, R319 of spec/10_ethernet_lanes.md. -/
def MACn_RX_LAT : RegDef := ⟨"MACn_RX_LAT", 0x1000a0, 0x8000, 32, 1, 0x0, 1,
  [MACn_RX_LAT_ps]⟩

def MACn_TX_LAT_ps : Fld := ⟨0x1000a4, 0x8000, 1, 0x0, 0, 32, .ro, 0⟩
/-- `MACn_TX_LAT`, R319 of spec/10_ethernet_lanes.md. -/
def MACn_TX_LAT : RegDef := ⟨"MACn_TX_LAT", 0x1000a4, 0x8000, 32, 1, 0x0, 1,
  [MACn_TX_LAT_ps]⟩

def MACn_TX_PHASE_ps : Fld := ⟨0x1000a8, 0x8000, 1, 0x0, 0, 32, .ro, 0⟩
/-- `MACn_TX_PHASE`, R319 of spec/10_ethernet_lanes.md. -/
def MACn_TX_PHASE : RegDef := ⟨"MACn_TX_PHASE", 0x1000a8, 0x8000, 32, 1, 0x0, 1,
  [MACn_TX_PHASE_ps]⟩

def MACn_CAL_CTL_run : Fld := ⟨0x1000ac, 0x8000, 1, 0x0, 0, 1, .wo, 0⟩
def MACn_CAL_CTL_busy : Fld := ⟨0x1000ac, 0x8000, 1, 0x0, 1, 1, .ro, 0⟩
/-- `MACn_CAL_CTL`, R319 of spec/10_ethernet_lanes.md. -/
def MACn_CAL_CTL : RegDef := ⟨"MACn_CAL_CTL", 0x1000ac, 0x8000, 32, 1, 0x0, 1,
  [MACn_CAL_CTL_run, MACn_CAL_CTL_busy]⟩

def MACn_CAL_RESULT_ps : Fld := ⟨0x1000b0, 0x8000, 1, 0x0, 0, 32, .ro, 0⟩
/-- `MACn_CAL_RESULT`, R319 of spec/10_ethernet_lanes.md. -/
def MACn_CAL_RESULT : RegDef := ⟨"MACn_CAL_RESULT", 0x1000b0, 0x8000, 32, 1, 0x0, 1,
  [MACn_CAL_RESULT_ps]⟩

def MACn_ESMC_RX_ssm : Fld := ⟨0x1000b4, 0x8000, 1, 0x0, 0, 4, .ro, 15⟩
def MACn_ESMC_RX_valid : Fld := ⟨0x1000b4, 0x8000, 1, 0x0, 4, 1, .ro, 0⟩
def MACn_ESMC_RX_timeout : Fld := ⟨0x1000b4, 0x8000, 1, 0x0, 5, 1, .ro, 0⟩
/-- `MACn_ESMC_RX`, R319 of spec/10_ethernet_lanes.md. -/
def MACn_ESMC_RX : RegDef := ⟨"MACn_ESMC_RX", 0x1000b4, 0x8000, 32, 1, 0x0, 1,
  [MACn_ESMC_RX_ssm, MACn_ESMC_RX_valid, MACn_ESMC_RX_timeout]⟩

def MACn_ESMC_TX_ssm : Fld := ⟨0x1000b8, 0x8000, 1, 0x0, 0, 4, .rw, 15⟩
def MACn_ESMC_TX_en : Fld := ⟨0x1000b8, 0x8000, 1, 0x0, 4, 1, .rw, 0⟩
def MACn_ESMC_TX_auto : Fld := ⟨0x1000b8, 0x8000, 1, 0x0, 5, 1, .rw, 0⟩
/-- `MACn_ESMC_TX`, R319 of spec/10_ethernet_lanes.md. -/
def MACn_ESMC_TX : RegDef := ⟨"MACn_ESMC_TX", 0x1000b8, 0x8000, 32, 1, 0x0, 1,
  [MACn_ESMC_TX_ssm, MACn_ESMC_TX_en, MACn_ESMC_TX_auto]⟩

def MACn_PWR_listen : Fld := ⟨0x1000bc, 0x8000, 1, 0x0, 0, 1, .rw, 0⟩
def MACn_PWR_auto_wake : Fld := ⟨0x1000bc, 0x8000, 1, 0x0, 1, 1, .rw, 1⟩
def MACn_PWR_magic : Fld := ⟨0x1000bc, 0x8000, 1, 0x0, 2, 1, .rw, 1⟩
def MACn_PWR_pattern : Fld := ⟨0x1000bc, 0x8000, 1, 0x0, 3, 1, .rw, 0⟩
/-- `MACn_PWR`, R319 of spec/10_ethernet_lanes.md. -/
def MACn_PWR : RegDef := ⟨"MACn_PWR", 0x1000bc, 0x8000, 32, 1, 0x0, 1,
  [MACn_PWR_listen, MACn_PWR_auto_wake, MACn_PWR_magic, MACn_PWR_pattern]⟩

def MACn_RXG_BASE_base : Fld := ⟨0x1000c0, 0x8000, 1, 0x0, 6, 17, .rw, 0⟩
/-- `MACn_RXG_BASE`, R319 of spec/10_ethernet_lanes.md. -/
def MACn_RXG_BASE : RegDef := ⟨"MACn_RXG_BASE", 0x1000c0, 0x8000, 32, 1, 0x0, 1,
  [MACn_RXG_BASE_base]⟩

def MACn_RXG_SIZE_log2n : Fld := ⟨0x1000c4, 0x8000, 1, 0x0, 0, 5, .rw, 10⟩
/-- `MACn_RXG_SIZE`, R319 of spec/10_ethernet_lanes.md. -/
def MACn_RXG_SIZE : RegDef := ⟨"MACn_RXG_SIZE", 0x1000c4, 0x8000, 32, 1, 0x0, 1,
  [MACn_RXG_SIZE_log2n]⟩

def MACn_RXG_HEAD_head : Fld := ⟨0x1000c8, 0x8000, 1, 0x0, 0, 17, .ro, 0⟩
/-- `MACn_RXG_HEAD`, R319 of spec/10_ethernet_lanes.md. -/
def MACn_RXG_HEAD : RegDef := ⟨"MACn_RXG_HEAD", 0x1000c8, 0x8000, 32, 1, 0x0, 1,
  [MACn_RXG_HEAD_head]⟩

def MACn_RXG_TAIL_tail : Fld := ⟨0x1000cc, 0x8000, 1, 0x0, 0, 17, .rw, 0⟩
/-- `MACn_RXG_TAIL`, R319 of spec/10_ethernet_lanes.md. -/
def MACn_RXG_TAIL : RegDef := ⟨"MACn_RXG_TAIL", 0x1000cc, 0x8000, 32, 1, 0x0, 1,
  [MACn_RXG_TAIL_tail]⟩

def MACn_WAKE_PATi_bytes : Fld := ⟨0x100100, 0x8000, 16, 0x4, 0, 32, .rw, 0⟩
/-- `MACn_WAKE_PATi`, R319 of spec/10_ethernet_lanes.md. -/
def MACn_WAKE_PATi : RegDef := ⟨"MACn_WAKE_PATi", 0x100100, 0x8000, 512, 16, 0x4, 1,
  [MACn_WAKE_PATi_bytes]⟩

def MACn_WAKE_MASK_mask : Fld := ⟨0x100140, 0x8000, 1, 0x0, 0, 64, .rw, 0⟩
/-- `MACn_WAKE_MASK`, R319 of spec/10_ethernet_lanes.md. -/
def MACn_WAKE_MASK : RegDef := ⟨"MACn_WAKE_MASK", 0x100140, 0x8000, 32, 1, 0x0, 2,
  [MACn_WAKE_MASK_mask]⟩

def MACn_CNT_SNAP_snap : Fld := ⟨0x1001f0, 0x8000, 1, 0x0, 0, 1, .rw, 0⟩
/-- `MACn_CNT_SNAP`, R319 of spec/10_ethernet_lanes.md. -/
def MACn_CNT_SNAP : RegDef := ⟨"MACn_CNT_SNAP", 0x1001f0, 0x8000, 32, 1, 0x0, 1,
  [MACn_CNT_SNAP_snap]⟩

def MACn_INFLIGHT_rx : Fld := ⟨0x1001f4, 0x8000, 1, 0x0, 0, 12, .ro, 0⟩
def MACn_INFLIGHT_tx : Fld := ⟨0x1001f4, 0x8000, 1, 0x0, 16, 12, .ro, 0⟩
/-- `MACn_INFLIGHT`, R319 of spec/10_ethernet_lanes.md. -/
def MACn_INFLIGHT : RegDef := ⟨"MACn_INFLIGHT", 0x1001f4, 0x8000, 32, 1, 0x0, 1,
  [MACn_INFLIGHT_rx, MACn_INFLIGHT_tx]⟩

def MACn_CNTi_count : Fld := ⟨0x100200, 0x8000, 26, 0x8, 0, 64, .ro, 0⟩
/-- `MACn_CNTi`, R319 of spec/10_ethernet_lanes.md. -/
def MACn_CNTi : RegDef := ⟨"MACn_CNTi", 0x100200, 0x8000, 832, 26, 0x8, 2,
  [MACn_CNTi_count]⟩

def MAC_ESMC_MAP_ssm : Fld := ⟨0x1ffff0, 0x0, 1, 0x0, 0, 20, .rw, 0xb442b⟩
/-- `MAC_ESMC_MAP`, R319 of spec/10_ethernet_lanes.md. -/
def MAC_ESMC_MAP : RegDef := ⟨"MAC_ESMC_MAP", 0x1ffff0, 0x0, 1, 1, 0x0, 1,
  [MAC_ESMC_MAP_ssm]⟩

/-- The registers of this file, in address order. -/
def tableC : List RegDef :=
  [TSV_CTL, TSV_CLOCK_ID, TSV_BOUND_ORG, TSV_UNI_BUDGET, TSV_POL_BASE, TSV_POL_RATE, TSV_FWD_BASE, TSV_FWD_SIZE, TSV_FWD_HEAD, TSV_FWD_TAIL, TSV_COOKIE_CTL, TSV_COOKIE_LOCKg, TSV_COOKIE_ID, TSV_KE_CTL, TSV_KE_BASE, TSV_KE_SIZE, TSV_KE_PROD, TSV_KE_CONS, TSV_CNT_SNAP, TSV_INFLIGHT, TSV_LANEn, TSV_PROFp_CFG, TSV_PROFp_INTV, TSV_PROFp_DS, TSV_PROFp_UNI, TSV_PROFp_DUR, TSV_KEYk_ID, TSV_KEYk_CFG, TSV_KEYk_NB, TSV_KEYk_NA] ++
  [TSV_UPu_CTL, TSV_UPu_ADDR, TSV_UPu_ASYM, TSV_UPu_UNC, TSV_UPu_JUMP, TSV_UPu_SETTLE, TSV_UPu_STATUS, TSV_UPu_BOUND, TSV_UPu_DELAY, TSV_UPu_GM, TSV_UPu_CMD, TSV_UPu_ENTRY, TSV_CNTi, KEY_STATUS, KEY_CMD, KEY_RESULT, KEY_IN_BASE, KEY_IN_LEN, KEY_OUT_BASE, KEY_OUT_LEN, KEY_USE_BASE, KEY_USE_SIZE, KEY_USE_PROD, KEY_USE_CONS, KEY_SLOT_SEQ, KEY_APPLIED, KEY_REFUSED, KEY_MCHAINw, KEY_ID_HASHw, KEY_PINw] ++
  [KEY_PENDw, KEY_CTRk, KEY_REMASKS, KEY_CERT_LEN, KEY_MANIFESTw, KEY_CERTw, KEY_LOCKi, TWN_CTL, TWN_STATUS, TWN_CMD, TWN_RESULT, TWN_ALARM, TWN_KICK, TWN_KICK_MS, TWN_CMP_CFG, TWN_CMP_WIN, TWN_CMP_FWIN, TWN_CMP_DELAY, TWN_CMP_UNC, TWN_DELTA, TWN_DFREQ, TWN_PARTNER_BOUND, TWN_PARTNER_CLASS, TWN_WTR, TWN_SWAP_OFS, TWN_SWAP_CHECK, TWN_SATCHEL_SEQ, TWN_SATCHEL_TX, TWN_SATCHEL_RX, TWN_SATCHEL_BAD] ++
  [TWN_TAKEOVERS, TWN_DEVIATIONS, MEM_TEST_CTL, MEM_TEST_CURSOR, MEM_TEST_PASSES, MEM_TEST_FAIL, MEM_SPARE_USED, MEM_NOSPARE, MEM_TEST_SKIP, MEM_ECC_CORR, MEM_ECC_UNCORR, MEM_ECC_ADDR, MEM_COLL_COUNT, MEM_AGED, MEM_OFF_ACCESS, MEM_ALIAS_ERR, MEM_LOCAL_REFUSED, MEM_BANK_STATE, MEM_RET_STATUS, MEM_MBc_H2F, MEM_MBc_F2H, PRF_SELk, PRF_OVF, PRF_CNTk, FRD_CMD, FRD_RESULT, FRD_TIME_GRANT, FRD_CMD_SRC, FRD_STATUSn, FRD_IMGn] ++
  [FRD_EVT_OVRn, FRD_EVT_ROUTEn, MACn_CTL, MACn_MAXLEN, MACn_STATUS, MACn_UCk, MACn_MCk, MACn_LAUNCH_LEAD, MACn_RESLOT_MAX, MACn_TRACE_RX, MACn_TRACE_TX, MACn_RX_LAT, MACn_TX_LAT, MACn_TX_PHASE, MACn_CAL_CTL, MACn_CAL_RESULT, MACn_ESMC_RX, MACn_ESMC_TX, MACn_PWR, MACn_RXG_BASE, MACn_RXG_SIZE, MACn_RXG_HEAD, MACn_RXG_TAIL, MACn_WAKE_PATi, MACn_WAKE_MASK, MACn_CNT_SNAP, MACn_INFLIGHT, MACn_CNTi, MAC_ESMC_MAP]

end Sys2Proof.Machine.Reg
end

