-- ==== Sys2Proof/Machine/Init.lean ====
section
/-!
DEFINITION. What each part of the state holds at reset. A value that the spec gives is its rule's; a part beside the registers
that the spec gives no reset value is empty, zero or absent (log 2).
-/

namespace Sys2Proof.Machine
open Sys2Proof Reg

/-! ## Registers whose instances differ in their reset values (R46, R164, R212, R228, R229, R259, R293, R432) -/

/-- Fields at reset that differ from the one value of their field's definition, in rising order of key. The read-only OUTn_CTL.en of OUT32 to OUT35
is 1, so that the fixed references of R164 run (DESIGN CHOICE, log 66). -/
def regsReset : RegFile :=
  [(PWR_RESET_CAUSE_cause.key 0, 1)] ++
  [(OUTn_CTL_en.key 32, 1), (OUTn_INC_inc.key 32, 0x1400000000000000), (OUTn_CTL_en.key 33, 1), (OUTn_INC_inc.key 33, 0x1400000000000000),
   (OUTn_CTL_en.key 34, 1), (OUTn_INC_inc.key 34, 0x1400000000000000), (OUTn_CTL_en.key 35, 1), (OUTn_INC_inc.key 35, 0x1400000000000000)] ++
  [(RCL_QLMAPc_q.key 0, 0x8000), (RCL_QLMAPc_q.key 1, 0x8100), (RCL_QLMAPc_q.key 2, 0x8200), (RCL_QLMAPc_q.key 3, 0x8300),
   (RCL_QLMAPc_q.key 4, 0x8400), (RCL_QLMAPc_q.key 5, 0x8500), (RCL_QLMAPc_q.key 6, 0x8600), (RCL_QLMAPc_q.key 7, 0x8700),
   (RCL_QLMAPc_q.key 8, 0x8800), (RCL_QLMAPc_q.key 9, 0x8900), (RCL_QLMAPc_q.key 10, 0x8A00), (RCL_QLMAPc_q.key 11, 0x8B00),
   (RCL_QLMAPc_q.key 12, 0x8C00), (RCL_QLMAPc_q.key 13, 0x8D00), (RCL_QLMAPc_q.key 14, 0x8E00), (RCL_QLMAPc_q.key 15, 0xFFFF)] ++
  [(RCLn_CFG_kind.key 23, 8), (RCLn_CFG_en.key 23, 1), (RCLn_CFG_prio.key 23, 0)] ++
  [(SRV_CLASSp_hold_out_freq.key 1, 140), (SRV_CLASSp_hold_out.key 1, 160), (SRV_CLASSp_hold_out_freq.key 2, 140),
   (SRV_CLASSp_hold_out.key 2, 160), (SRV_CLASSp_freerun.key 3, 248), (SRV_CLASSp_locked.key 3, 6), (SRV_CLASSp_hold_in.key 3, 7),
   (SRV_CLASSp_hold_out_freq.key 3, 248), (SRV_CLASSp_hold_out.key 3, 248)] ++
  [(GNS_Pp_CTL_tdc.key 0, 36), (GNS_Pp_CTL_tdc.key 1, 37), (GNS_Pp_CTL_tdc.key 2, 38), (GNS_Pp_CTL_tdc.key 3, 39)]

/-! ## Fronds (R92, R142, R146, R149) -/

/-- Base of instruction memory in a Frond's own addresses (R95). -/
def frdBase : Nat := 0x10000000

/-- Registers and control words at their reset values; the pending bits and the latched stamps are given (R92, R142, R146, R149). -/
def Frond.fresh (f : Nat) (entry : Nat) (pend : BitVec 64) (stamps : Vector Int 64) (obs : BitVec 64) (frozen : Bool) : Frond :=
  { g := Vector.replicate 32 0, t := Vector.replicate 8 0, pc := BitVec.ofNat 64 (frdBase + entry), mode := true, ie := false, inh := false,
    tf := false, tio := false, retpc := 0, code := 0, line := 0, trap := 0, faultAddr := 0, htable := 1, retMode := true, retIe := false,
    t7saved := false, t7save := 0, evtPend := pend, evtEn := if f = 0 then 1 else 0, scratch := 0, prgBase := Vector.replicate 8 0,
    prgLimit := Vector.replicate 8 0, pcnt := Vector.replicate 8 0, psel := Vector.replicate 8 0x300C00, povf := 0, xctl := 0,
    lineStamp := stamps, lineObs := obs, wait := .none, frozen := frozen, entry := entry, jhdr := none, bp := [], ras := [], sent := [] }

/-- A Frond at chip reset. -/
def Frond.atReset (f : Nat) : Frond := Frond.fresh f 0 0 (Vector.replicate 64 0) 0 false

/-! ## Units, ports, channels, lanes -/

def OutCh.empty : OutCh := ⟨0, 0, 0, 0, none, 0, 0, 0, 1, none, false, 0, false, 0, 0⟩
def TioPort.empty : TioPort := ⟨false, false, none, none, none, none, none, [], [], [], none, [], 0, none, [], none, false, none, 0, none⟩
def TdcUnit.empty : TdcUnit :=
  ⟨0, none, false, none, none, 0, false, false, 0, 0, false, 0, false, none, (0, 0), false, none, 0, 0, [], none, 0, 0, [], false, false, 0, 0, []⟩
def GPort.empty : GPort := ⟨0, [], 0, false, 0, 0, 0, 0, none, (0, 0), (0, 0)⟩
def GChan.empty : GChan := ⟨0, 0, 0, 0, 0, none⟩
def Slot.empty : Slot := ⟨[], 0, false, 0, 0, 0, none, none, [], none, 0, []⟩
/-- No ESMC PDU has been sent: the code in force is that of "do not use". -/
def Lane.empty : Lane := ⟨[], [], 0, [], 0, 0, 0, false, none, 0, 0, 15, 0, -1, 0, none⟩
def Sess.empty : Sess :=
  ⟨0, 0, 0, 0, 0, [], 0, [], [], 0, 0, #v[0, 0, 0], #v[0, 0, 0], #v[0, 0, 0], 0, 0, [], 0⟩
def UpSess.empty : UpSess :=
  { srcPid := [], annAt := 0, annLog := 0, pend := none, sync := none, t3 := none, delays := [], holdLo := 0, holdHi := 0, holdFrom := none,
    grants := #v[0, 0, 0], durs := #v[0, 0, 0], reqAt := 0, negoAt := #v[0, 0, 0], seq := 0, cls := 0, acc := 0, bm := none }
def PeerX.empty : PeerX := ⟨0, none, none, none, 0, none, 0⟩

/-! ## Blocks -/

def JnlState.empty : JnlState := ⟨[], [], [], [], 0, none, []⟩
def AgeModel.empty : AgeModel := ⟨0, 0, 0, 0, 0, 0, 0, false⟩
def Chain.empty : Chain := ⟨0, false, AgeModel.empty, 0⟩

/-- Spine time does not run; no strobe has fired. -/
def TimeState.empty : TimeState :=
  { run := false, time := 0, chains := #v[Chain.empty, Chain.empty], closed := 0, freqStamp := 0, freqAmt := 0, dcoRes := 0, slew := none,
    steer := 0, foreign := 0, slewSum := 0, slewWait := none, steps := [], ring := [], relPrev := none, xHist := [], lastSwitch := none,
    xOutAt := 0, xTrack := [], tuneAt := none, relock := none, hit := 0, lastStrobe := -1, strobeFrom := 0 }

/-- Domains 0 to 3, 40 and 42 run from reset; lane and antenna clocks and the twin link's recovered clock start with their sources, and
SCLK runs only within a transaction (R26, R30; log 34). -/
def DomCopy.empty (d : Nat) : DomCopy := ⟨decide (d < 4) || decide (d = 40) || decide (d = 42), false, 0⟩

def zeroFlt : Flt := ⟨0, 0⟩
def SrvState.empty : SrvState :=
  { r := 0, y := 0, a := 0, cov := ⟨zeroFlt, zeroFlt, zeroFlt, zeroFlt, zeroFlt, zeroFlt⟩, sk := 0, inited := false, resetPend := false,
    timeFed := false, above := false,
    sigBase := 0, sigHist := [], lastFeed := none, anchor := none, switches := [], run := none, budW0 := 0, budSlew := 0, budWord := 0, ruler := 0, slewLim := 5000,
    clampRun := false, sat := false, restore := none }

def RclState.empty : RclState :=
  { slots := Vector.replicate 24 Slot.empty, disputes := [], needLimit := 0, policy := false, slewDue := none, held := [],
    ptpQ := Vector.replicate 8 0xFFFF }

def GnsState.empty : GnsState :=
  { ports := Vector.replicate 4 GPort.empty, chans := [], solAt := Vector.replicate 5 0, acqQ := [], acqRef := 0, acqLeft := 0, acqData := [], xPorts := 0, xTime := 0, xId := 0,
    snapPorts := 0,
    snapL1 := false, snapL5 := false, snapLen := 0, snapAt := 0, snapBase := Vector.replicate 4 0, snapLeft := 0,
    snapMs := Vector.replicate 4 0, snapFrom := Vector.replicate 4 0 }

/-- A part as it leaves provisioning: no owner, no slot, counters at 0 (R352, R364, R370). The 32 bytes drawn are the nonce of R487. -/
def KeyState.empty : KeyState :=
  { wrapOk := true, lockers := [], owners := [], ctrs := Vector.replicate 16 0, recovery := none, slot0 := none, slot1 := none,
    commitBit := none, chain := List.replicate 48 0, manifest := Vector.replicate 16 (List.replicate 48 0), unsealed := false, readied := false, mnext := none,
    pin := List.replicate 48 0, pend := List.replicate 48 0, auth := [], commit := none, write := none, seeds := 0, draws := 32, reqs := 1,
    seedAt := 0, uses := [], maskAt := 0, masks := [], eph := [], sent := none, partner := none }

def TsvState.empty : TsvState :=
  { inbox := [], work := [], sess := [], gens := [], annAt := [], kodSec := [], polKey := 0, ups := Vector.replicate 8 UpSess.empty,
    peers := Vector.replicate 32 PeerX.empty, cookies := #v[none, none, none], cookieAt := 0, mcSeq := Vector.replicate 32 (0, 0),
    mcAt := Vector.replicate 32 (0, 0), tbInd := 0, tbChange := 0, noKeySec := Vector.replicate 8 (-1), foreignSec := Vector.replicate 32 (-1),
    fullSec := -1, fullCnt := 0, budSec := -1, budCnt := 0, snap := none }

def TwnState.empty : TwnState :=
  { partnerLow := false, highSince := 0, since := 0, activeBeat := none, lastLink := none, lastPin := none, enAt := 0, lost := false,
    partner := ⟨0, 0, 0, 0, 0, false⟩, heard := false, beating := false, kickAt := 0, beatAt := 0, sent := none, satOut := [],
    rxSeq := none, changed := [], resyncLeft := [], resyncSent := 0, resyncing := false, keyDue := false, map := [], tlySeq := 0, devRun := 0,
    missRun := 0, goodRun := 0, arb := none, yieldAt := none, swapAt := none, swapCause := 0, checkEnd := none, checkNew := false,
    checkPorts := [], checkLanes := [], revertFrom := none }

def FrdCtl.empty : FrdCtl := ⟨none, none, none⟩
def MemState.empty : MemState := ⟨[], [], [], [], 0, 0, false, []⟩

/-- A supply that has just come up: the Lichen store holds nothing (R431, R432). -/
def PwrState.empty : PwrState :=
  { trans := none, saves := [], badSave := [], copy0 := none, copy1 := none, newest := 0, writing := none, nextSeq := 0, chip := .run,
    pfail := false, resetCause := 0, prevFatal := 0, rtcValid := false, aon := true, core := true, rtc := 0,
    offSeq := [], sigs := [] }

def CfgState.empty : CfgState := ⟨[], none, []⟩
def PcieState.empty : PcieState := ⟨[], false, false, false, false, none⟩
def AccState.empty : AccState := ⟨Vector.replicate 18 none, Vector.replicate 18 none, Vector.replicate 18 0, false, false⟩
def JtagState.empty : JtagState := ⟨.idcode, [], [], .none, 0, 0, false, false⟩

end Sys2Proof.Machine
end

