-- ==== Sys2Proof/Machine/State.lean ====
section
/-!
DEFINITION. The state of the TN9632 as plain data, and the state right after reset.
-/

namespace Sys2Proof.Machine

/-- Reasons a step can stop with a fault: there is none. Every command of the table has an effect that the spec
gives, and where a command finds its condition false the state stays as it is. -/
inductive Fault where
  deriving DecidableEq, Repr

/-- Reasons a step can be refused. -/
inductive Refusal where
  /-- A command without a meaning yet; raised by `exec` alone. Safe: the model stops. -/
  | notModelled (mnemonic : String)
  deriving DecidableEq, Repr

/-- The state of the machine. -/
structure State where
  /-- Commands that wait, first in, first out. -/
  pending : List Instr
  /-- Every field of every register table, by key. -/
  regs : RegFile
  /-- Commons, mailboxes, Frond local memories and acquisition slots, by BAR0 address. -/
  mem : List Host.Cell
  queues : Tab Queue
  jnl : JnlState
  tm : TimeState
  doms : Vector DomCopy 44
  fronds : Vector Frond 16
  srv : SrvState
  rcl : RclState
  outs : Vector OutCh 36
  tios : Vector TioPort 32
  tdc : Vector TdcUnit 40
  gns : GnsState
  key : KeyState
  lanes : Vector Lane 32
  tsv : TsvState
  twn : TwnState
  fctl : FrdCtl
  memx : MemState
  pwr : PwrState
  cfg : CfgState
  pcie : PcieState
  acc : AccState
  jtag : JtagState
  /-- ALARM_N is driven low (R50). -/
  alarm : Bool
  /-- The model's own counter of free values drawn; no statement rests on its value. -/
  free : Nat
  deriving DecidableEq, Repr

/-- The machine right after reset: power-on with cause 1 (R432, R433). Registers hold the reset values of their tables; memories are
empty; no oscillator has been seen. -/
def State.reset : State :=
  { pending := [], regs := regsReset, mem := [], queues := [], jnl := .empty, tm := .empty, doms := Vector.ofFn (fun d => DomCopy.empty d.val),
    fronds := Vector.ofFn (fun f => Frond.atReset f.val), srv := .empty, rcl := .empty, outs := Vector.replicate 36 OutCh.empty,
    tios := Vector.replicate 32 TioPort.empty, tdc := Vector.replicate 40 TdcUnit.empty, gns := .empty, key := .empty,
    lanes := Vector.replicate 32 Lane.empty, tsv := .empty, twn := .empty, fctl := .empty, memx := .empty, pwr := .empty, cfg := .empty,
    pcie := .empty, acc := .empty, jtag := .empty, alarm := false, free := 0 }

end Sys2Proof.Machine
end

