-- ==== Sys2Proof/Machine/Ops.lean ====
section
/-!
DEFINITION. The named operations that every meaning shares: register fields, queues with credits (R33 to R37),
stamps (R27), the journal streams (R78 to R82), interrupt sources and event lines (R38 to R41, R133 to R136, R462),
and the readiness bits (R42 to R46).
-/

namespace Sys2Proof.Machine
open Sys2Proof Reg

/-- What a command answers. -/
abbrev Result := Host.Outcome State Fault Refusal

/-! ## Register fields -/

/-- The value of instance `n` of a field. -/
def State.rf (s : State) (f : Fld) (n : Nat := 0) : Nat := tabGet f.reset (f.key n) s.regs

/-- A field read as two's complement of `w` bits. -/
def State.rs (s : State) (w : Nat) (f : Fld) (n : Nat := 0) : Int := toSigned w (s.rf f n)

/-- A one-bit field as a Bool. -/
def State.rb (s : State) (f : Fld) (n : Nat := 0) : Bool := decide (s.rf f n ≠ 0)

/-- The state with a field set; the value is cut to the field's width. -/
def State.wf (s : State) (f : Fld) (v : Nat) (n : Nat := 0) : State :=
  { s with regs := tabSet (f.key n) (v % 2 ^ f.width) s.regs }

/-- A field set to a signed value. -/
def State.ws (s : State) (f : Fld) (z : Int) (n : Nat := 0) : State := s.wf f (ofSigned f.width z) n

/-- A one-bit field set from a Bool. -/
def State.wb (s : State) (f : Fld) (b : Bool) (n : Nat := 0) : State := s.wf f (if b then 1 else 0) n

/-- A counter advanced by `k` (R15). -/
def State.add (s : State) (f : Fld) (k : Nat) (n : Nat := 0) : State := s.wf f (s.rf f n + k) n

/-- A counter advanced by one. -/
def State.inc (s : State) (f : Fld) (n : Nat := 0) : State := s.add f 1 n

/-! ## Power states of domains (R422, R423) -/

/-- State of power domain `i` below 20: 0 ON, 1 IDLE, 2 MOSS, 3 RETAIN, 4 OFF. -/
def State.pd (s : State) (i : Nat) : Nat := bitsOf (s.rf PWR_STATEk_state (i / 8)) (4 * (i % 8)) 3

/-- The core rail supplies the chip and it is not held in reset: in LICHEN, and without VDD_AON, no block runs (R430). -/
def State.supplied (s : State) : Bool := decide (s.pwr.chip = .run) || decide (s.pwr.chip = .frozen)

/-- What a command of a block does: nothing while the block has no supply or is held in reset (R430). -/
def State.whenUp (s t : State) : State := if s.supplied then t else s

/-- The chip is in RUN, and no warning of PFAIL_N or RESET_N has frozen it (R430, R443). -/
def State.live (s : State) : Bool := decide (s.pwr.chip = .run)

/-- The domain is ON and not in transition. A freeze stops the Fronds, the lanes, the pipeline and GNSS (R443). -/
def State.pdOn (s : State) (i : Nat) : Bool :=
  decide (bitsOf (s.rf PWR_STATEk_state (i / 8)) (4 * (i % 8)) 4 = 0) && (s.live || decide (i < 2) || decide (15 ≤ i))

/-- Its registers are served: ON, IDLE or MOSS. -/
def State.pdServed (s : State) (i : Nat) : Bool := decide (s.pd i < 3)

/-- State of commons bank `b`: 0 ON, 1 RETAIN, 2 OFF, 3 WAKING (R420). -/
def State.bank (s : State) (b : Nat) : Nat := bitsOf (s.rf MEM_BANK_STATE_state) (2 * b) 2

/-! ## Time -/

def State.now (s : State) : Int := s.tm.time

/-- A spine time as the RTC holds it, in 1/32,768 s (R431). -/
def rtcOf (t : Int) : Nat := (t * 32768 / uSec).toNat

/-- The RTC: it follows spine time while that runs, and else stands at what it last ran to (R431; log 37). -/
def State.rtcNow (s : State) : Nat := if s.tm.run && s.pwr.aon then rtcOf s.tm.time else s.pwr.rtc

/-- The copy of coarse spine time in domain `d` (R27). -/
def State.dom (s : State) (d : Nat) : DomCopy := (s.doms[d]?).getD ⟨false, false, 0⟩

def State.domNow (s : State) (d : Nat) : Int := coarse s.tm.time + (s.dom d).dev

/-- A domain holds a valid copy (R30). The spine holds spine time itself. -/
def State.domValid (s : State) (d : Nat) : Bool :=
  s.tm.run && (decide (d = 1) || ((s.dom d).running && (s.dom d).loaded))

def State.setDom (s : State) (d : Nat) (c : DomCopy) : State := { s with doms := s.doms.set! d c }

/-- Watermark lag of a domain in units (R80). -/
def domLag (d : Nat) : Int :=
  if d ≤ 1 then 16 * uNs
  else if d ≤ 3 then 40 * uNs
  else if d ≤ 35 then 2000 * uNs
  else if d ≤ 39 then 1000 * uNs
  else if d = 42 then 64000 * uNs
  else 100 * uNs

/-- The active timebase, and the domain of its ring (R26). -/
def State.active (s : State) : Nat := s.rf SYN_STATUS_active % 2
def State.ringDom (s : State) : Nat := 2 + s.active

/-! ## Queues (R33 to R37, R49) -/

/-- Depth of the queue with an index of R49 (R23; the launch buffer of R306; a block queue is a Frond-block
message queue). No rule gives a depth to the queues 428 to 459 from a lane to the general-ring writer: 64, as for those to the pipeline
(DESIGN CHOICE, log 12), and to the last group: 16 (DESIGN CHOICE, log 12). -/
def qDepth (i : Nat) : Nat :=
  if i < 272 then 16
  else if i < 312 then 32
  else if i < 344 then 16
  else if i < 348 then 128
  else if i < 392 then 64
  else if i = 392 then 256
  else if i < 396 then 64
  else if i < 460 then 64
  else if i < 492 then 48
  else 16

def Queue.empty (d : Nat) : Queue := ⟨[], 0, 0, 0, 0, d, none, 0, 0⟩

def State.queue (s : State) (i : Nat) : Queue := tabGet (Queue.empty (qDepth i)) i s.queues

def State.setQueue (s : State) (i : Nat) (q : Queue) : State := { s with queues := tabSet i q s.queues }

/-- A push: the item joins the queue and one credit is consumed (R34). -/
def Queue.push (q : Queue) (x : QItem) : Queue :=
  { q with items := q.items ++ [x], p := (q.p + 1) % 2 ^ 32, c := q.c - 1 }

/-- A pop of the oldest entry at the receiver (R34). -/
def Queue.pop (q : Queue) : Queue :=
  { q with items := q.items.tail, vis := q.vis - 1, q := (q.q + 1) % 2 ^ 32 }

/-- A credit return that reaches the sender at a stamp (R34, R113). -/
def Queue.ret (q : Queue) (stamp : Int) : Queue :=
  { q with a := (q.a + 1) % 2 ^ 32, c := q.c + 1, cstamp := if q.c = 0 then stamp else q.cstamp }

def State.qCredit (s : State) (i : Nat) : Bool := decide (0 < (s.queue i).c)

def State.qPush (s : State) (i : Nat) (x : QItem) : State := s.setQueue i ((s.queue i).push x)

def State.qPop (s : State) (i : Nat) : State := s.setQueue i (s.queue i).pop

/-- The oldest visible entry. -/
def State.qFront (s : State) (i : Nat) : Option QItem :=
  if (s.queue i).vis = 0 then none else (s.queue i).items.head?

/-- A hardware producer's push under R35: into the queue, else into the output register, else `none`: dropped. -/
def State.qProduce (s : State) (i : Nat) (x : QItem) : Option State :=
  if s.qCredit i then some (s.qPush i x)
  else if (s.queue i).out = none then some (s.setQueue i { s.queue i with out := some x })
  else none

/-- An item that one command carries through a queue: pushed, popped, and its credit returned (R34; log 58). -/
def State.qPass (s : State) (i : Nat) : State :=
  let q := s.queue i
  s.setQueue i { q with p := (q.p + 1) % 2 ^ 32, q := (q.q + 1) % 2 ^ 32, a := (q.a + 1) % 2 ^ 32 }

/-- The queue emptied and its counts reset together (R37); the producer's count of drops stays (R15, R35). -/
def State.qReset (s : State) (i : Nat) : State := s.setQueue i { Queue.empty (qDepth i) with drops := (s.queue i).drops }

/-! ## The journal streams (R78 to R82) -/

/-- The stream queue of a domain (R49). -/
def streamOf (d : Nat) : Nat := 348 + d

/-- A push into a journal stream: the item stands behind every item stamped at or before its own (R79). -/
def Queue.pushOrdered (q : Queue) (x : QItem) : Queue :=
  { q.push x with items := q.items.takeWhile (fun y => decide (y.stamp ≤ x.stamp)) ++
      x :: q.items.dropWhile (fun y => decide (y.stamp ≤ x.stamp)) }

/-- An event of a source in domain `d`, with a stamp of its own: pushed into the stream, in stamp order (R79), held in the domain's output
register where the stream has no room (R35), or counted as overflowed where that register is full too (R82) or the domain holds no valid
copy (R30). It consumes a sequence number in every case (R78). -/
def State.journalAt (s : State) (d src code payload flags : Nat) (stamp : Int) : State :=
  let seq := tabGet 0 src s.jnl.seqs
  let s1 : State := { s with jnl := { s.jnl with seqs := tabSet src ((seq + 1) % 2 ^ 32) s.jnl.seqs } }
  let q := s.queue (streamOf d)
  if s.domValid d && (decide (0 < q.c) || q.out.isNone) then
    let fl := if d ∈ s.jnl.strOvf then flags + 2 else flags
    let x : QItem := ⟨stamp, .entry ⟨stamp, code, src, d, fl, payload % 2 ^ 64, seq⟩⟩
    let s2 := s1.setQueue (streamOf d) (if 0 < q.c then q.pushOrdered x else { q with out := some x })
    { s2 with jnl := { s2.jnl with strOvf := s2.jnl.strOvf.filter (· ≠ d) } }
  else
    let s2 := s1.inc JNL_OVFn_count d
    { s2 with jnl := { s2.jnl with strOvf := if d ∈ s2.jnl.strOvf then s2.jnl.strOvf else d :: s2.jnl.strOvf } }

/-- An event stamped with the domain's copy of spine time (R27). -/
def State.journal (s : State) (d src code : Nat) (payload : Nat) : State :=
  s.journalAt d src code payload 0 (s.domNow d)

/-- The drop of a hardware producer in domain `d` at a queue whose output register is full: counted, and journalled as overflow by the
producing block's source `src` (R35). No rule gives the entry's code and payload (log 58). -/
def State.qDropped (s : State) (i d src : Nat) : State :=
  let q := s.queue i
  let n := (q.drops + 1) % 2 ^ 64
  (s.setQueue i { q with drops := n }).journal d src (src / 256 * 256 + (Config.dropCode i).toNat) (Config.dropPayload i n).toNat

/-- What a hardware producer in domain `d` sends into a queue: pushed, held, or dropped as R35 has it. -/
def State.qSend (s : State) (i d src : Nat) (x : QItem) : State :=
  match s.qProduce i x with
  | some t => t
  | none => s.qDropped i d src

/-! ## Fronds and event lines (R133 to R136) -/

def State.frond (s : State) (f : Fin 16) : Frond := s.fronds[f]

def State.setFrond (s : State) (f : Fin 16) (x : Frond) : State := { s with fronds := s.fronds.set f x }

/-- The event codes of R151 that the model counts at their events; `k` counts of one event in the present mode.
A carry out of bit span − 1 sets the POVF bit and, with irq, asks for line 63 (R153). -/
def pselSpan (v : BitVec 22) : Nat :=
  let x := (v.toNat / 2 ^ 16) % 64
  if 8 ≤ x ∧ x ≤ 48 then x else 48

/-- One counter of a Frond advanced by `k`: the new Frond and whether line 63 is to be raised. -/
def Frond.countOne (x : Frond) (i : Fin 8) (k : Nat) : Frond × Bool :=
  let sel := x.psel[i]
  let old := x.pcnt[i].toNat
  let span := pselSpan sel
  let ovf := decide (old % 2 ^ span + k ≥ 2 ^ span)
  ({ x with
      pcnt := x.pcnt.set i (BitVec.ofNat 48 (old + k)),
      povf := if ovf then x.povf ||| BitVec.ofNat 8 (2 ^ i.val) else x.povf },
   ovf && sel.getLsbD 9)

/-- Counter `i` of a Frond counts event `ev` in the Frond's present mode (R149). -/
def Frond.counts (x : Frond) (i : Fin 8) (ev : Nat) : Bool :=
  let sel := x.psel[i]
  decide (sel.toNat % 256 = ev) && sel.getLsbD 8 && (if x.mode then sel.getLsbD 10 else sel.getLsbD 11)

/-- An assertion of line `l` of a Frond with a stamp, the overrun count left out (R135). -/
def Frond.raise (x : Frond) (l : Fin 64) (stamp : Int) : Frond :=
  { x with
    evtPend := x.evtPend ||| BitVec.ofNat 64 (2 ^ l.val),
    lineStamp := x.lineStamp.set l stamp,
    lineObs := x.lineObs &&& ~~~ BitVec.ofNat 64 (2 ^ l.val) }

/-- The line is observed: R136 lets EVT_CLR clear it. -/
def Frond.observe (x : Frond) (mask : BitVec 64) : Frond := { x with lineObs := x.lineObs ||| mask }

/-- Line `l` of Frond `f` asserts at a stamp; an assertion on a pending, unobserved line is an overrun (R135).
The count of event 0x11 is left to `raiseLine`. -/
def State.raiseLine0 (s : State) (f : Fin 16) (l : Fin 64) (stamp : Int) : State :=
  let x := s.frond f
  let lost := x.evtPend.getLsbD l.val && !x.lineObs.getLsbD l.val
  let s1 := s.setFrond f (x.raise l stamp)
  if lost then
    (s1.inc FRD_EVT_OVRn_count f.val).journal 0 (0x1500 + f.val) 0x1504 (l.val + f.val * 256)
  else s1

/-- `k` counts of event `ev` over the eight counters of a Frond, and how many raises of line 63 were overruns. -/
def State.perfOnce (s : State) (f : Fin 16) (ev k : Nat) : State × Nat :=
  (List.finRange 8).foldl (fun (p : State × Nat) i =>
    let x := p.1.frond f
    if x.counts i ev then
      let r := x.countOne i k
      let s1 := p.1.setFrond f r.1
      if r.2 then (s1.raiseLine0 f 63 (s1.domNow 0), p.2 + if r.1.evtPend.getLsbD 63 && !r.1.lineObs.getLsbD 63 then 1 else 0) else (s1, p.2)
    else p) (s, 0)

/-- The counts of an event, and of the overruns of line 63 that they bring: each carry of a counter brings one at most. -/
def State.perfAll : Nat → State → Fin 16 → Nat → Nat → State
  | 0, s, f, ev, k => (s.perfOnce f ev k).1
  | n + 1, s, f, ev, k =>
    let r := s.perfOnce f ev k
    if r.2 = 0 then r.1 else State.perfAll n r.1 f 0x11 r.2

/-- `k` counts of event `ev` of R151 on Frond `f`. -/
def State.perf (s : State) (f : Fin 16) (ev k : Nat) : State := State.perfAll 9 s f ev k

/-- An assertion of a line, with its overrun counted as event 0x11 of R151. -/
def State.raiseLine (s : State) (f : Fin 16) (l : Fin 64) (stamp : Int) : State :=
  let x := s.frond f
  let lost := x.evtPend.getLsbD l.val && !x.lineObs.getLsbD l.val
  let s1 := s.raiseLine0 f l stamp
  if lost then s1.perf f 0x11 1 else s1

/-! ## Interrupt sources (R38 to R41, R461, R462) -/

/-- The numbers of R461 that name a source; the others never assert. -/
def srcListed (n : Nat) : Bool :=
  decide (n ≤ 37) || (decide (64 ≤ n) && decide (n ≤ 99)) ||
  (decide (128 ≤ n) && decide (n ≤ 207) && decide (n ≠ 160) && decide (n ≠ 200)) ||
  (decide (256 ≤ n) && decide (n ≤ 351))

/-- The host route of a source: vector and enable. Source 0 goes to vector 0 always (R41). -/
def State.irqEn (s : State) (n : Nat) : Bool := decide (n = 0) || s.rb SYS_IRQ_ROUTEn_en n
def State.irqVec (s : State) (n : Nat) : Nat := if n = 0 then 0 else s.rf SYS_IRQ_ROUTEn_vector n

/-- Bit `n` of a bank of 32-bit registers set or cleared. -/
def State.setBit32 (s : State) (f : Fld) (n : Nat) (b : Bool) : State :=
  s.wf f (setBitOf (s.rf f (n / 32)) (n % 32) b) (n / 32)

def State.bit32 (s : State) (f : Fld) (n : Nat) : Bool := bitOf (s.rf f (n / 32)) (n % 32)

/-- The Frond routes of a source: its line in every Frond of its mask, the two fixed lines left out (R133, R134). -/
def State.raiseRoutes (s : State) (n : Nat) (stamp : Int) : State :=
  (List.finRange 16).foldl (fun s f =>
    if bitOf (s.rf FRD_EVT_ROUTEn_mask n) f.val then
      let l : Fin 64 := Fin.ofNat 64 (s.rf FRD_EVT_ROUTEn_line n)
      if l = 63 ∨ (f = 0 ∧ l = 0) then s else s.raiseLine f l stamp
    else s) s

/-- Source `n` asserts with the stamp of its event (R39, R462). -/
def State.assertSrc (s : State) (n : Nat) (stamp : Int) : State :=
  if srcListed n then
    let s1 := s.setBit32 SYS_IRQ_CAUSEw_cause n true
    let s2 := if s1.irqEn n then s1.setBit32 SYS_IRQ_PENDw_pend n true else s1
    let s3 := if n = 0 then s2.raiseLine 0 0 stamp else s2
    s3.raiseRoutes n stamp
  else s

/-! ## Shared counters (R154) -/

/-- Span of a `PRF_SELk`: 8 to 48, other values act as 48. -/
def State.prfSpan (s : State) (k : Nat) : Nat := let x := s.rf PRF_SELk_span k; if 8 ≤ x ∧ x ≤ 48 then x else 48

/-- Shared counter `k` advanced by `n`: a carry out of bit span − 1 sets its PRF_OVF bit and, with irq, asserts PRF_OVF. -/
def State.prfAdd (s : State) (k n : Nat) : State :=
  let old := s.rf PRF_CNTk_count k
  let s1 := s.wf PRF_CNTk_count (old + n) k
  if old % 2 ^ s.prfSpan k + n ≥ 2 ^ s.prfSpan k then
    let s2 := s1.wf PRF_OVF_ovf (setBitOf (s1.rf PRF_OVF_ovf) k true)
    if s.rb PRF_SELk_irq k then s2.assertSrc 19 (s2.domNow 0) else s2
  else s1

/-- `n` counts of the shared event `ev`, in every counter that selects it. -/
def State.shared (s : State) (ev n : Nat) : State :=
  (List.range 16).foldl (fun s k => if s.rb PRF_SELk_en k ∧ s.rf PRF_SELk_event k = ev then s.prfAdd k n else s) s

/-! ## Readiness (R42 to R46) -/

/-- Bit `b` of `SYS_READY` and of `SYS_READY_EVT`, as fields. -/
def readyFld (b : Nat) : Fld := ⟨0x40, 0x0, 1, 0x0, b, 1, .ro, 0⟩
def readyEvtFld (b : Nat) : Fld := ⟨0x44, 0x0, 1, 0x0, b, 1, .w1c, 0⟩

def State.isReady (s : State) (b : Nat) : Bool := s.rb (readyFld b)

/-- Bit `b` of `SYS_READY` takes value `v`; an edge sets the EVT bit and asserts its source, and a fall is journalled. -/
def State.ready (s : State) (b : Nat) (v : Bool) : State :=
  if s.isReady b = v then s
  else
    let s1 := (s.wb (readyFld b) v).wf (readyEvtFld b) 1
    let s2 := s1.assertSrc (1 + b) (s1.domNow 1)
    if v then s2
    else s2.journal 1 0x0100 (0x0100 + (Config.readyFallCode b).toNat) (Config.readyFallPayload b).toNat

/-! ## Who may write (R141, R459) -/

/-- The host, or the management SPI slave, whose writes count as host writes (R465). -/
def reqIsHost : Req → Bool
  | .host => true
  | .spi => true
  | _ => false

/-- The host or F0: the writers of the command registers of R141. -/
def reqIsHostOrF0 : Req → Bool
  | .frond f => decide (f = 0)
  | q => reqIsHost q

/-- The host or F0 in supervisor mode (R119, R133, R459). -/
def State.hostOrSupF0 (s : State) : Req → Bool
  | .frond f => decide (f = 0) && (s.frond f).mode
  | q => reqIsHost q

/-- The host or a supervisor-mode Frond (R58). -/
def State.hostOrSup (s : State) : Req → Bool
  | .frond f => (s.frond f).mode
  | q => reqIsHost q

/-- A write that a block reserves to other requesters: ignored, and counted when a Frond made it (R459). -/
def State.ignoreWrite (s : State) : Req → State
  | .frond _ => s.inc SYS_FW_WRITE_IGNORED_count
  | _ => s

/-- A requester's accesses reach the map: the host's do not while the endpoint is in D3hot, where they complete as Unsupported Request, or off
(R423, R453). -/
def State.onBus (s : State) : Req → Bool
  | .host => !s.pcie.d3 && s.pdServed 19
  | _ => true

/-- The crossings of an access from another domain: its request, and its reply (R49). -/
def State.reqCross (s : State) : Req → State
  | .frond _ => s
  | .host => (s.qPass 498).qPass 499
  | .spi => (s.qPass 496).qPass 497

/-- A fatal cause is set (R51). -/
def State.fatalSet (s : State) : Bool :=
  s.rb SYS_FATAL_tally || s.rb SYS_FATAL_credit || s.rb SYS_FATAL_clock || s.rb SYS_FATAL_stamp || s.rb SYS_FATAL_ecc_time

/-- The value of a register from its fields; WO fields read 0 (R13). -/
def State.getReg (s : State) (r : RegDef) (n : Nat) : Nat :=
  r.flds.foldl (fun x f => x + (match f.acc with | .wo => 0 | _ => s.rf f n) * 2 ^ f.pos) 0

end Sys2Proof.Machine
end

