-- ==== Sys2Proof/Machine/Gate.lean ====
section
/-!
DEFINITION. The state of a twin unit and its output gate (R383, R384, R386), as every block that can change it uses it.
-/

namespace Sys2Proof.Machine
open Sys2Proof Reg

def State.setTwn (s : State) (t : TwnState) : State := { s with twn := t }

/-- The state of R403: 0 SOLO, 1 LISTEN, 2 STANDBY, 3 ACTIVE, 4 FAILED. -/
def State.twnSt (s : State) : Nat := s.rf TWN_STATUS_state

def State.twnJournal (s : State) (code payload : Nat) : State := s.journal 0 0x1200 code payload

/-- A bit of TWN_ALARM sets; TWN_ALARM asserts (R403). -/
def State.twnAlarm (s : State) (f : Fld) : State := if s.rb f then s else (s.wf f 1).assertSrc 31 (s.domNow 0)

/-- The gate that a state gives: closed on every unit until SYS_READY.cfg, then open in SOLO and ACTIVE, and closed in a
pair from a freeze on (R383, R384, R443). -/
def State.gateShow (s : State) : State :=
  s.wb TWN_STATUS_gate (s.isReady 5 && (decide (s.twnSt = 0) || (decide (s.twnSt = 3) && s.live)))

/-- OSC_TUNE is driven: by the modulator, with the gate open; else it is high-impedance (R163, R386). -/
def State.tuneDrives (s : State) : Bool := s.live && s.rb TWN_STATUS_gate && decide (s.rf SYN_TUNE_CTL_mode = 1)

/-- The transmit pin of UART1 is held in the mark state (R163, R386). -/
def State.uartMark (s : State) : Bool := !s.rb TWN_STATUS_gate

/-- TWN_ACTIVE_N is low: an ACTIVE unit drives it (R384). -/
def State.pinLow (s : State) : Bool := (decide (s.twnSt = 3) && s.live) || s.twn.partnerLow

/-- A change of state with its cause of R404 (R384). -/
def State.twnMove (s : State) (new cause : Nat) : State :=
  let old := s.twnSt
  if old = new then s
  else
    let low := s.pinLow
    let s1 := (s.wf TWN_STATUS_state new).gateShow
    let high := low && !s1.pinLow
    let t := { s1.twn with since := s.now, highSince := if high then s.now else s.twn.highSince }
    let t1 := if old = 3 ∨ new = 3 then { t with devRun := 0, missRun := 0, goodRun := 0, arb := none } else t
    let s2 := ((s1.setTwn t1).twnJournal 0x1201 (old + new * 8 + cause * 64)).assertSrc 32 (s1.domNow 0)
    if old = 2 ∧ new = 3 then s2.inc TWN_TAKEOVERS_count else s2

/-- A fatal cause on a unit in twin operation: FAILED, and FAULT over the link (R53, R384). -/
def State.twnFatal (s : State) : State :=
  if s.twnSt = 0 then s
  else
    let s1 := s.twnMove 4 6
    s1.setTwn { s1.twn with sent := some .fault }

end Sys2Proof.Machine
end

