-- ==== Sys2Proof/Machine/Mem.lean ====
section
/-!
DEFINITION. The byte memories: commons, mailboxes, Frond local memories and acquisition slots, as one list of cells
in canonical form, with ECC (R409), bank states (R417) and the write stamps of R111.
-/

namespace Sys2Proof.Machine
open Sys2Proof Reg

/-- What a byte that nothing has written reads: 0. R433 clears banks and Frond memories at reset; for mailboxes and
acquisition slots this is the model's choice (log 13). -/
def memDefault : Byte := 0

/-- The byte at an address. -/
def memGet (a : Nat) : List Host.Cell → Byte
  | [] => memDefault
  | (k, v) :: t => if k = a then v else if a < k then memDefault else memGet a t

/-- The cells with byte `v` at `a`: an entry equal to the default is not listed. -/
def memSet (a : Nat) (v : Byte) : List Host.Cell → List Host.Cell
  | [] => if v = memDefault then [] else [(a, v)]
  | (k, w) :: t =>
    if a < k then (if v = memDefault then (k, w) :: t else (a, v) :: (k, w) :: t)
    else if k = a then (if v = memDefault then t else (a, v) :: t)
    else (k, w) :: memSet a v t

/-- Addresses rise strictly from `lo`, and no cell holds the default. -/
def memWfFrom (lo : Nat) : List Host.Cell → Bool
  | [] => true
  | (k, v) :: t => decide (lo ≤ k) && decide (v ≠ memDefault) && memWfFrom (k + 1) t

/-- The canonical form of a memory. -/
def Memory.wf (l : List Host.Cell) : Bool := memWfFrom 0 l

/-- `bs` stored from address `a` up. -/
def memSetList (a : Nat) : List Byte → List Host.Cell → List Host.Cell
  | [], m => m
  | b :: t, m => memSetList (a + 1) t (memSet a b m)

/-- `n` bytes from address `a` up. -/
def memGetList (a : Nat) : Nat → List Host.Cell → List Byte
  | 0, _ => []
  | n + 1, m => memGet a m :: memGetList (a + 1) n m

/-- The bytes outside [lo, hi) alone: a block of memory cleared. -/
def memClear (lo hi : Nat) (m : List Host.Cell) : List Host.Cell := m.filter (fun c => decide (c.1 < lo) || decide (hi ≤ c.1))

/-- The 64-bit word addresses that `n` bytes from `a` touch. -/
def wordsOf (a n : Nat) : List Nat :=
  if n = 0 then [] else (List.range ((a + n - 1) / 8 - a / 8 + 1)).map (fun i => (a / 8 + i) * 8)

def State.byteAt (s : State) (a : Nat) : Byte := memGet a s.mem
def State.bytesAt (s : State) (a n : Nat) : List Byte := memGetList a n s.mem
def State.word64 (s : State) (a : Nat) : Nat := ofLeBytes (s.bytesAt a 8)

/-- Bytes stored with no check: the cells, and the core-domain stamp of every word that changed (R111). -/
def State.rawStore (s : State) (a : Nat) (bs : List Byte) : State :=
  let s1 : State := { s with mem := memSetList a bs s.mem }
  let wst := (wordsOf a bs.length).foldl (fun w x =>
    if s.word64 x = s1.word64 x then w else tabSet x (s.domNow 0) w) s.memx.wst
  { s1 with memx := { s1.memx with wst := wst } }

/-! ## Address map of the memories (R454) -/

def commonsBase : Nat := 0x800000
def inCommons (a : Nat) : Bool := decide (0x800000 ≤ a) && decide (a < 0x1000000)
def bankOf (a : Nat) : Nat := (a - 0x800000) / 0x40000
def inMailbox (a : Nat) : Bool := decide (0xC8000 ≤ a) && decide (a < 0xD0000)
def mailboxOf (a : Nat) : Nat := (a - 0xC8000) / 0x2000
def inLocal (a : Nat) : Bool := decide (0x400000 ≤ a) && decide (a < 0x600000)
def localOf (a : Nat) : Nat := (a - 0x400000) / 0x20000
def inInstrMem (a : Nat) : Bool := inLocal a && decide ((a - 0x400000) % 0x20000 < 0x10000)
/-- BAR0 addresses of a Frond's own instruction and data memory (R414). -/
def imemOf (f : Nat) : Nat := 0x400000 + 0x20000 * f
def dmemOf (f : Nat) : Nat := 0x410000 + 0x20000 * f

/-! ## ECC (R409) -/

/-- One corrected word: written back and counted. -/
def State.eccCorrect (s : State) (w : Nat) : State :=
  let s1 := s.inc MEM_ECC_CORR_count
  { s1 with memx := { s1.memx with ecc1 := s1.memx.ecc1.filter (· ≠ w), corr := s1.memx.corr + 1 } }

/-- 0x1301 at the end of a second in which words were corrected (R409, R421). -/
def State.eccSecond (s : State) : State :=
  if s.memx.corr = 0 then s
  else
    let s1 := s.journal 0 0x1300 0x1301 (s.memx.corr % 2 ^ 32)
    { s1 with memx := { s1.memx with corr := 0 } }

/-- An uncorrectable word met by a port: counted, recorded, journalled under `code`, MEM_ALARM (R409, R420). -/
def State.eccReport (s : State) (w port code : Nat) : State :=
  let s1 := ((s.inc MEM_ECC_UNCORR_count).wf MEM_ECC_ADDR_offset w).wf MEM_ECC_ADDR_port port
  (s1.journal 0 0x1300 code (w + port * 2 ^ 24)).assertSrc 34 (s1.domNow 0)

/-- The ECC effects of a read of `n` bytes at `a`, and whether a word was uncorrectable. -/
def State.eccRead (s : State) (port a n : Nat) : State × Bool :=
  (wordsOf a n).foldl (fun r w =>
    let s := r.1
    let s1 := if w ∈ s.memx.ecc1 then s.eccCorrect w else s
    if w ∈ s1.memx.ecc2 then (s1.eccReport w port 0x1302, true) else (s1, r.2)) (s, false)

/-- The ECC effects of a write of `n` bytes at `a`: a partial store to an uncorrectable word clears the word's other
bytes, and either store gives fresh check bits. -/
def State.eccWrite (s : State) (port a n : Nat) : State :=
  (wordsOf a n).foldl (fun s w =>
    let full := decide (a ≤ w) && decide (w + 8 ≤ a + n)
    let s1 :=
      if w ∈ s.memx.ecc2 && !full then (s.rawStore w (List.replicate 8 0)).eccReport w port 0x1303 else s
    { s1 with memx := { s1.memx with ecc1 := s1.memx.ecc1.filter (· ≠ w), ecc2 := s1.memx.ecc2.filter (· ≠ w) } }) s

/-! ## The check word CRC-32C (R418, R435) -/

def crc32cBit (c : Nat) : Nat := if c % 2 = 1 then (c / 2) ^^^ 0x82F63B78 else c / 2
def crc32cByte (c : Nat) (b : Byte) : Nat := (List.range 8).foldl (fun c _ => crc32cBit c) (c ^^^ b.toNat)
/-- The Castagnoli CRC, reflected, with ones as initial and final value (log 43). -/
def crc32c (l : List Byte) : Nat := l.foldl crc32cByte 0xFFFFFFFF ^^^ 0xFFFFFFFF

/-! ## Accesses to the commons (R417) -/

/-- The address lies in a bank that is ON. -/
def State.bankOn (s : State) (a : Nat) : Bool := inCommons a && decide (s.bank (bankOf a) = 0)

/-- Every bank that `n` bytes from `a` touch is ON. -/
def State.allOn (s : State) (a n : Nat) : Bool :=
  (List.range (ceilDiv n 0x40000)).all (fun k => s.bankOn (a + k * 0x40000)) && (decide (n = 0) || s.bankOn (a + n - 1))

/-- Bytes from `a` cut at the bounds of banks, at most `fuel` pieces, with their addresses. -/
def bankRuns : Nat → Nat → List Byte → List (Nat × List Byte)
  | 0, _, _ => []
  | _ + 1, _, [] => []
  | fuel + 1, a, bs =>
    let cut := (bankOf a + 1) * 0x40000 + 0x800000 - a
    (a, bs.take cut) :: bankRuns fuel (a + cut) (bs.drop cut)

/-- The parts of a store that lie in banks that are ON, with their addresses. -/
def State.onRuns (s : State) (a : Nat) (bs : List Byte) : List (Nat × List Byte) :=
  (bankRuns (bs.length / 0x40000 + 2) a bs).filter (fun r => s.bankOn r.1)

/-- The address lies in a bank that wakes. -/
def State.bankWakes (s : State) (a : Nat) : Bool := inCommons a && decide (s.bank (bankOf a) = 3)

/-- A read of `n` bytes meets a bank that wakes: it waits (R417, R419). -/
def State.waits (s : State) (a n : Nat) : Bool :=
  (List.range (ceilDiv n 0x40000)).any (fun k => s.bankWakes (a + k * 0x40000)) || (decide (n ≠ 0) && s.bankWakes (a + n - 1))

/-- The parts of a store that lie in banks that wake, with their addresses. -/
def State.wakeRuns (s : State) (a : Nat) (bs : List Byte) : List (Nat × List Byte) :=
  (bankRuns (bs.length / 0x40000 + 2) a bs).filter (fun r => s.bankWakes r.1)

/-- An access joins those that wait for a bank. -/
def State.hold (s : State) (x : Held) : State := { s with memx := { s.memx with held := s.memx.held ++ [x] } }

/-- A store: what falls in a bank that wakes waits until it is ON; what falls in a bank that is in RETAIN or OFF, or past the commons, is
discarded, and the access counted. -/
def State.commonsWrite (s : State) (port a : Nat) (bs : List Byte) : State :=
  let on := s.onRuns a bs
  let wk := s.wakeRuns a bs
  let s1 := on.foldl (fun s r => (s.eccWrite port r.1 r.2.length).rawStore r.1 r.2) (s.shared 1 1)
  let s2 := wk.foldl (fun s r => s.hold (.store port r.1 r.2)) s1
  if ((on ++ wk).map (fun r => r.2.length)).sum = bs.length then s2 else s2.inc MEM_OFF_ACCESS_count

/-- The address lies in a bank that is ON, or will be: a block's own read of a bank that wakes waits, and finds what the bank keeps (log 67). -/
def State.bankSees (s : State) (a : Nat) : Bool := s.bankOn a || s.bankWakes a

/-- Every bank that `n` bytes from `a` touch serves the read. -/
def State.allSeen (s : State) (a n : Nat) : Bool :=
  (List.range (ceilDiv n 0x40000)).all (fun k => s.bankSees (a + k * 0x40000)) && (decide (n = 0) || s.bankSees (a + n - 1))

/-- A read of `n` bytes: the state, the bytes (0 where no bank serves them), and whether a word that is served was uncorrectable (R409). -/
def State.commonsRead (s : State) (port a n : Nat) : State × List Byte × Bool :=
  if s.allSeen a n then
    let r := (s.shared 1 1).eccRead port a n
    (r.1, r.1.bytesAt a n, r.2)
  else
    let runs := (bankRuns (n / 0x40000 + 2) a (List.replicate n 0)).filter (fun r => s.bankSees r.1)
    let r := runs.foldl (fun (r : State × Bool) x =>
      let e := r.1.eccRead port x.1 x.2.length
      (e.1, r.2 || e.2)) (if runs = [] then s else s.shared 1 1, false)
    (r.1.inc MEM_OFF_ACCESS_count, (List.range n).map (fun i => if s.bankSees (a + i) then r.1.byteAt (a + i) else 0), r.2)

/-- A store of a hardware writer, and a read of a hardware reader, at a commons offset. -/
def State.engStore (s : State) (port off : Nat) (bs : List Byte) : State := s.commonsWrite port (commonsBase + off) bs
def State.engLoad (s : State) (port off n : Nat) : State × List Byte × Bool := s.commonsRead port (commonsBase + off) n

end Sys2Proof.Machine
end

