-- ==== Sys2Proof/Machine/Tally.lean ====
section
/-!
DEFINITION. Spine time and the Tally (R54 to R75): the spine tick, the entries and their closing, coalescing and
reserve, the fatal response (R47 to R52), snapshots, and the drain ring.
-/

namespace Sys2Proof.Machine
open Sys2Proof Reg

def State.setTm (s : State) (t : TimeState) : State := { s with tm := t }

/-- The spine word in force, signed (R70). -/
def State.word (s : State) : Int := s.rs 48 SRV_WORD_w

/-- The amount accrued in an open SLEW entry. -/
def TimeState.slewAmt (t : TimeState) : Int :=
  match t.slew with
  | some x => x.amount
  | none => 0

/-- The sum of the Tally: closed entries since the last EPOCH entry, plus the open FREQ and SLEW entries (R66). -/
def TimeState.total (t : TimeState) : Int := t.closed + t.freqAmt + t.slewAmt

/-- Raw time of a timebase. -/
def TimeState.rawOf (t : TimeState) (c : Nat) : Int := ((t.chains[c]?).map (·.raw)).getD 0

/-- Raw time: the count of the active timebase (R65). -/
def State.raw (s : State) : Int := s.tm.rawOf s.active

/-! ## Entries (R67 to R69, R73 to R75) -/

/-- The fill of the on-chip ring, its coalescing and its reserve bit, after a change of the ring. -/
def State.tlyFill (s : State) : State :=
  let n := s.tm.ring.length
  let s1 := s.wf TLY_RING_FILL_fill (min 8192 n)
  let s2 :=
    if n ≥ 8128 ∧ ¬ s1.rb TLY_RING_FILL_coalescing then
      (s1.wf TLY_RING_FILL_coalescing 1).journal 1 0x0500 0x0504 n
    else if n ≤ 8064 then s1.wf TLY_RING_FILL_coalescing 0 else s1
  if n ≥ 8184 ∧ ¬ s2.rb TLY_RING_FILL_reserve then
    (s2.wf TLY_RING_FILL_reserve 1).journal 1 0x0500 0x0505 n
  else if n ≤ 8176 then s2.wf TLY_RING_FILL_reserve 0 else s2

/-- An entry written into the on-chip ring with the next sequence number; its amount joins the closed sum. -/
def State.tlyPush (s : State) (stamp amount : Int) (param kind source flags : Nat) : State :=
  let seq := s.rf TLY_SEQ_next
  let e : TEntry := ⟨stamp, amount, param, kind, source, flags, seq⟩
  let s1 := s.wf TLY_SEQ_next (seq + 1)
  let t := s1.tm
  (s1.setTm { t with ring := t.ring ++ [e], closed := t.closed + amount }).tlyFill

/-- The newest entry of a kind, with no STEP, SWITCH or EPOCH entry after it, changed by `f`; the list is newest first (R74). -/
def mergeNewest (kind : Nat) (f : TEntry → TEntry) : List TEntry → Option (List TEntry)
  | [] => none
  | e :: t =>
    if e.kind = kind then some (f e :: t)
    else if 3 ≤ e.kind then none
    else (mergeNewest kind f t).map (e :: ·)

/-- A closing FREQ or SLEW entry: merged while coalescing holds, else written; `none` where it must stay open (R74). A merged entry keeps
the source of the older part, and its flags are those of both parts together (DESIGN CHOICE, log 59). -/
def State.tlyClose (s : State) (stamp amount : Int) (param kind source flags : Nat) : Option State :=
  let f : TEntry → TEntry := fun e =>
    { e with amount := e.amount + amount, flags := e.flags ||| 1 ||| flags,
             param := if kind = 2 then e.param + param else param }
  match (if s.rb TLY_RING_FILL_coalescing then mergeNewest kind f s.tm.ring.reverse else none) with
  | some l =>
    let t := s.tm
    some ((s.setTm { t with ring := l.reverse, closed := t.closed + amount }).inc TLY_MERGED_count)
  | none => if s.tm.ring.length < 8192 then some (s.tlyPush stamp amount param kind source flags) else none

/-- The open FREQ entry closes and a new one opens at the same tick; one that opened at this very tick stays. `flags` is 8 under a fatal
response. The stamp is that of the tick at which the interval began (R67; DESIGN CHOICE against the case table after R75, log 59). -/
def State.closeFreq (s : State) (flags : Nat) : State :=
  if s.tm.freqStamp = s.now ∧ s.tm.freqAmt = 0 then s
  else match s.tlyClose s.tm.freqStamp s.tm.freqAmt (ofSigned 48 s.word) 1 0 flags with
  | some s1 => s1.setTm { s1.tm with freqStamp := s1.now, freqAmt := 0 }
  | none => s

/-- The open SLEW entry closes. An entry of source 1 or 2 adds its amount to the build-out of the selected slot (R218). With nothing left to apply it carries flags.final and the slew ends; else a new entry
opens at the same tick (R69, R71). -/
def State.closeSlew (s : State) (flags : Nat) : State :=
  match s.tm.slew with
  | none => s
  | some x =>
    let final := decide (x.remaining = 0)
    if ¬ final ∧ x.ticks = 0 then s else
    let fl := (if final then 4 else 0) + flags + (if x.source = 1 then 16 * x.frond else 0)
    match s.tlyClose x.stamp x.amount x.ticks 2 x.source fl with
    | none => s
    | some s1 =>
      let x' : Slew := { x with stamp := s1.now, amount := 0, ticks := 0 }
      let s2 := s1.setTm { s1.tm with slew := if final then none else some x' }
      if x.source = 0 then s2 else s2.ws RCL_BUILDOUT_b (s2.rs 64 RCL_BUILDOUT_b + x.amount)

/-- The closing points of R69: FREQ, then SLEW. -/
def State.closeOpen (s : State) (flags : Nat) : State := (s.closeFreq flags).closeSlew flags

/-- A STEP, SWITCH or EPOCH entry with its journal entry 0x0501 to 0x0503 (R68, R77). -/
def State.tlyMark (s : State) (amount : Int) (param kind source flags : Nat) : State :=
  let seq := s.rf TLY_SEQ_next
  let s1 := s.tlyPush s.now amount param kind source flags
  s1.journal 1 0x0500 (0x0500 + (kind - 2)) (seq + ofSigned 48 (satSigned 48 amount) * 2 ^ 16)

/-- The opening stamps of entries that open at the tick of a change of spine time follow it. -/
def State.moveTime (s : State) (d : Int) : State :=
  let t := s.tm
  let old := t.time
  let slew := t.slew.map (fun x => if x.stamp = old ∧ x.amount = 0 then { x with stamp := old + d } else x)
  s.setTm { t with time := old + d, slew := slew,
                   freqStamp := if t.freqStamp = old ∧ t.freqAmt = 0 then old + d else t.freqStamp }

/-- A slew begun at this tick (R71, R121, R219, R242). An open SLEW entry that found no slot (R74) goes on. -/
def State.slewBegin (s : State) (total : Int) (rate source frond : Nat) : State :=
  let o : Int × Int × Nat := match s.tm.slew with
    | some x => (x.stamp, x.amount, x.ticks)
    | none => (s.now, 0, 0)
  s.setTm { s.tm with slew := some ⟨o.1, o.2.1, o.2.2, total, 0, rate, rate, source, frond⟩ }

/-- The running slew ended where it stands, with flags.final: its remainder is dropped (R121, R242). -/
def State.slewCut (s : State) : State :=
  match s.tm.slew with
  | none => s
  | some x => (s.setTm { s.tm with slew := some { x with remaining := 0 } }).closeSlew 0

/-! ## The spine tick (R16, R65, R70, R71) -/

/-- A signed accumulation in 10⁻¹² units: whole units, and the residual in [0, 10¹²) (R70). -/
def dcoStep (res : Nat) (inc : Int) : Int × Nat :=
  let x := (res : Int) + inc
  (x / dcoOne, (x % dcoOne).toNat)

/-- Raw advance of a timebase over one tick beyond 131,072 units: the ageing word with its residual (R162). -/
def ageStep (c : Chain) (word : Int) : Int × Chain :=
  let r := dcoStep c.age.tickRes (2 * word)
  (r.1, { c with age := { c.age with tickRes := r.2 } })

/-- The advance of one slew over one tick: it never passes its total (R71). -/
def Slew.step (x : Slew) : Slew :=
  let r := dcoStep x.acc (2 * (min x.rate x.rateCap : Nat))
  if x.remaining ≥ 0 then
    let d := min r.1 x.remaining
    { x with amount := x.amount + d, remaining := x.remaining - d, acc := r.2, ticks := x.ticks + 1 }
  else
    let d := min r.1 (-x.remaining)
    { x with amount := x.amount - d, remaining := x.remaining + d, acc := r.2, ticks := x.ticks + 1 }

/-- Source of the running slew, 0 for none. -/
def TimeState.slewSource (t : TimeState) : Nat :=
  match t.slew with
  | some x => x.source
  | none => 0

/-- What one tick adds to spine time beyond raw time, in the open entries. -/
def TimeState.slewDelta (t : TimeState) : Int :=
  match t.slew with
  | some x => x.step.amount - x.amount
  | none => 0

/-- One 2 ns tick of the time state. `a` is the active timebase, `word` the spine word, `wa` and `wb` the ageing words of
A and B, and `drift` the advance of the standby ring beyond the active one. -/
def TimeState.tick (t : TimeState) (a : Nat) (word wa wb drift : Int) : TimeState :=
  let ra := ageStep t.chains[0] wa
  let rb := ageStep t.chains[1] wb
  let da := uTick + ra.1 + (if a = 0 then 0 else drift)
  let db := uTick + rb.1 + (if a = 0 then drift else 0)
  let ca : Chain := { ra.2 with raw := ra.2.raw + (if t.chains[0].rawOn ∨ a = 0 then da else 0) }
  let cb : Chain := { rb.2 with raw := rb.2.raw + (if t.chains[1].rawOn ∨ a ≠ 0 then db else 0) }
  let d := dcoStep t.dcoRes (2 * word)
  let adv := (if a = 0 then da else db) + d.1 + t.slewDelta
  { t with
    time := t.time + adv,
    chains := #v[ca, cb],
    freqAmt := t.freqAmt + d.1,
    dcoRes := d.2,
    slew := t.slew.map Slew.step,
    steer := t.steer + d.1 + (if t.slewSource = 0 then t.slewDelta else 0),
    foreign := t.foreign + (if t.slewSource = 0 then 0 else t.slewDelta),
    slewSum := t.slewSum + t.slewDelta }

/-! ## Refined stamps (R29, R63) -/

/-- The spine time of an event at raw bin `re`, by the Tally of the present tick. -/
def State.refine (s : State) (re : Int) : Int :=
  let t := s.tm
  let rs := s.raw
  let wAge := s.rs 48 SYN_AGEx_NOW_c s.active
  let span := uTick + (dcoStep (((t.chains[s.active]?).map (fun c : Chain => c.age.tickRes)).getD 0) (2 * wAge)).1
  let sl : Int × Int := match t.slew with
    | some x =>
      let r : Int := min (2 * ((min x.rate x.rateCap : Nat) : Int)) ((x.remaining.natAbs : Int) * dcoOne - x.acc)
      if x.remaining = 0 then (0, 0) else if x.remaining > 0 then ((x.acc : Int), r) else (-(x.acc : Int), -r)
    | none => (0, 0)
  let d := 2 * s.word + sl.2
  let num := ((64 * re + t.total) * dcoOne + (t.dcoRes : Int) + sl.1) * span + d * (64 * re - rs)
  roundHalfDown num (dcoOne * span)

/-! ## The servo's mode and the fatal response -/

/-- The servo's mode: 0 FREE, 1 TRACK, 2 FREQ, 3 HOLD; a change is journalled (R248). -/
def State.srvMode (s : State) (m : Nat) : State :=
  let old := s.rf SRV_STATUS_mode
  if old = m then s
  else (s.wf SRV_STATUS_mode m).journal 1 0x0D00 0x0D05 (old + m * 4 + (s.rf RCL_STATUS_selected) % 32 * 16)

/-- An alarm bit set; its source asserts when the bit sets (R228, R259). -/
def State.alarmBit (s : State) (f : Fld) (src : Nat) : State :=
  if s.rb f then s else (s.wf f 1).assertSrc src (s.domNow 1)

/-- The selected slot, 63 for none. -/
def State.selected (s : State) : Nat := s.rf RCL_STATUS_selected

/-- `SYS_READY.ref` (R217). -/
def State.refReady (s : State) : State :=
  s.ready 9 (decide (s.selected ≠ 23) && decide (s.selected ≠ 63) && decide (s.rf SRV_BOUND_ps ≠ 0xFFFFFFFF))

/-- A published bound: the first figure above SRV_BOUND_ALARM sets the alarm, and `SYS_READY.ref` follows (R217, R254). -/
def State.boundSet (s : State) (n : Nat) : State :=
  let s1 := s.wf SRV_BOUND_ps n
  let above := decide (s.rf SRV_BOUND_ALARM_ps < n)
  let s2 : State := { s1 with srv := { s1.srv with above := above } }
  (if above && !s.srv.above then (s2.alarmBit SRV_ALARM_bound 21).journal 1 0x0D00 0x0D07 n else s2).refReady

/-- `RCL_STATUS.phase`: SLEW while a roll-call slew runs or waits, else PREPHASE while a target stands (R219). -/
def State.phaseShow (s : State) : State :=
  s.wf RCL_STATUS_phase
    (if s.tm.slewSource = 2 ∨ s.tm.slewWait.isSome then 2 else if s.rf RCL_STATUS_target ≠ 63 then 1 else 0)

/-- Every slew stops where it stands, and none is due (R51). -/
def State.slewsStop (s : State) : State :=
  let s1 := s.setTm { s.tm with slew := s.tm.slew.map (fun x => { x with remaining := 0 }), slewWait := none }
  { s1 with rcl := { s1.rcl with slewDue := none } }

/-- Bit of a fatal cause 1 to 5 (R47). -/
def fatalFld (cause : Nat) : Fld := ⟨0x50, 0x0, 1, 0x0, cause - 1, 1, .ro, 0⟩

/-- The response to a fatal cause (R47 to R52): 1 tally, 2 credit, 3 clock, 4 stamp, 5 ecc_time. -/
def State.fatal (s : State) (cause domain queue : Nat) (diff : Int) : State :=
  if s.rb (fatalFld cause) then s
  else
    let s1 := s.wf (fatalFld cause) 1
    let s2 :=
      if s1.rf SYS_FATAL_INFO_first = 0 then
        ((s1.wf SYS_FATAL_INFO_first cause).wf SYS_FATAL_INFO_domain domain).wf SYS_FATAL_INFO_queue queue
      else s1
    let s3 := (s2.slewsStop.closeOpen 8).phaseShow
    let s5 := (((s3.srvMode 3).wf SRV_STATUS_fatal 1).wf SRV_STATUS_slewing 0).wf SRV_STATUS_paused 0
    let info := s5.rf SYS_FATAL_INFO_first + s5.rf SYS_FATAL_INFO_domain * 2 ^ 8 + s5.rf SYS_FATAL_INFO_queue * 2 ^ 16
    let payload := if cause = 1 then ofSigned 64 (satSigned 64 diff) else if cause = 2 ∨ cause = 4 then info else 0
    let s6 : State := { s5 with alarm := true }
    let s7 := ((s6.journal 1 0x0100 (0x0100 + cause) payload).assertSrc 0 (s6.domNow 1)).twnFatal
    if cause = 3 ∨ cause = 5 then s7.boundSet 0xFFFFFFFF else s7

/-- The checker of R72: one comparison at one tick. -/
def State.tallyCheck (s : State) : State :=
  let diff := s.now - s.raw - s.tm.total
  if diff = 0 then s.inc TLY_CHECKS_count else s.fatal 1 0xFF 0x7FF diff

/-- An uncorrectable error in PD_TIME state, met by the tick that reads it (R47, R409). -/
def State.timeEccCheck (s : State) : State :=
  if s.memx.timeEcc then ({ s with memx := { s.memx with timeEcc := false } } : State).fatal 5 0xFF 0x7FF 0 else s

/-! ## Snapshots (R62) -/

def State.snapRequest (s : State) : State := s.wf SPN_SNAP_CTL_snap 1

def State.snapLatch (s : State) : State :=
  if s.rb SPN_SNAP_CTL_snap && s.isReady 2 then
    ((((s.wf SPN_SNAP_TIME_time (packTime s.now)).ws SPN_SNAP_RAW_raw s.raw).ws SPN_SNAP_TALLY_tally
      s.tm.total).wf SPN_SNAP_INFO_active s.active).wf SPN_SNAP_CTL_snap 0
  else s

/-! ## The drain ring (R73) -/

/-- Bytes of a Tally entry (R67). -/
def TEntry.bytes (e : TEntry) : List Byte :=
  leBytes 12 (packTime e.stamp) ++ leBytes 10 (ofSigned 80 e.amount) ++ leBytes 6 e.param ++
  leBytes 1 (e.kind + 16 * e.source) ++ leBytes 1 e.flags ++ leBytes 2 e.seq

/-- A HEAD/TAIL ring of 2^log2n entries, whose indices count modulo its size: fill, and full (R73). -/
def ringFill (log2n head tail : Nat) : Nat := (head % 2 ^ log2n + 2 ^ log2n - tail % 2 ^ log2n) % 2 ^ log2n
def ringFull (log2n head tail : Nat) : Bool := decide ((head + 1) % 2 ^ log2n = tail % 2 ^ log2n)

/-- TLY_DRAIN asserts when HEAD − TAIL reaches the level (log 14). -/
def State.drainLevel (s : State) (before : Bool) : State :=
  let now := decide (ringFill (s.rf TLY_DRAIN_SIZE_log2n) (s.rf TLY_DRAIN_HEAD_head) (s.rf TLY_DRAIN_TAIL_tail) ≥ s.rf TLY_DRAIN_THRESH_level)
  if now && !before then s.assertSrc 17 (s.domNow 1) else s

def State.drainAbove (s : State) : Bool :=
  decide (ringFill (s.rf TLY_DRAIN_SIZE_log2n) (s.rf TLY_DRAIN_HEAD_head) (s.rf TLY_DRAIN_TAIL_tail) ≥ s.rf TLY_DRAIN_THRESH_level)

/-- One entry through the Tally drain queue into the drain ring (R73). It takes one credit of queue 392. -/
def State.drainCopy (s : State) : State :=
  let n := s.rf TLY_DRAIN_SIZE_log2n
  let head := s.rf TLY_DRAIN_HEAD_head
  match s.tm.ring with
  | [] => s
  | e :: rest =>
    if s.rb TLY_CTL_drain_en && s.qCredit 392 && !ringFull n head (s.rf TLY_DRAIN_TAIL_tail) then
      let before := s.drainAbove
      let s1 := (s.qPush 392 ⟨s.domNow 1, .tally e⟩).qPop 392
      let s2 := s1.engStore 0 (s1.rf TLY_DRAIN_BASE_base * 64 + 32 * (head % 2 ^ n)) e.bytes
      let s3 := (s2.wf TLY_DRAIN_HEAD_head ((head + 1) % 2 ^ n)).setTm { s2.tm with ring := rest }
      s3.tlyFill.drainLevel before
    else s

/-- A write of TLY_DRAIN_TAIL (R73). -/
def State.drainTailWrite (s : State) (v : Nat) : State :=
  let n := s.rf TLY_DRAIN_SIZE_log2n
  let head := s.rf TLY_DRAIN_HEAD_head
  let tail := s.rf TLY_DRAIN_TAIL_tail
  if v < 2 ^ n ∧ ringFill n v tail ≤ ringFill n head tail then
    let before := s.drainAbove
    (s.wf TLY_DRAIN_TAIL_tail v).drainLevel before
  else s.journal 1 0x0500 0x0506 v

/-- A write of TLY_DRAIN_THRESH: TLY_DRAIN asserts where its condition begins to hold (R75, log 14). -/
def State.drainThreshWrite (s : State) (v : Nat) : State := (s.wf TLY_DRAIN_THRESH_level (v % 65536)).drainLevel s.drainAbove

/-- A write of TLY_DRAIN_BASE or TLY_DRAIN_SIZE (R73, R75): ignored past the end of the commons, and journalled. A new size changes HEAD − TAIL
modulo the size, so TLY_DRAIN asserts where that reaches the level. -/
def State.drainRingWrite (s : State) (size : Bool) (v : Nat) : State :=
  let bad := s.journal 1 0x0500 0x0507 ((if size then 1 else 0) + v % 2 ^ 32 * 2 ^ 32)
  if size then
    let n := v % 32
    if n < 8 ∨ 16 < n then s
    else if s.rf TLY_DRAIN_BASE_base * 64 + 32 * 2 ^ n ≤ 0x800000 then (s.wf TLY_DRAIN_SIZE_log2n n).drainLevel s.drainAbove else bad
  else
    let b := bitsOf v 6 17
    if b * 64 + 32 * 2 ^ s.rf TLY_DRAIN_SIZE_log2n ≤ 0x800000 then s.wf TLY_DRAIN_BASE_base b else bad

/-! ## Meanings -/

/-- SPINE_TICK (R65, R70): one tick of spine time, raw time and the open entries; the output accumulators follow in
`Synth`. Before spine time runs there is no tick. -/
def State.spineTick (s : State) (drift : Int) : State :=
  if s.tm.run then
    s.setTm (s.tm.tick s.active s.word (s.rs 48 SYN_AGEx_NOW_c 0) (s.rs 48 SYN_AGEx_NOW_c 1) drift)
  else s

def execTallyDrainCopy (s : State) : Result := .next (s.whenUp s.drainCopy)
def execTlyDrainTailWrite (_ : Req) (v : BitVec 16) (s : State) : Result := .next (s.whenUp (s.drainTailWrite v.toNat))
def execTlyDrainRingWrite (_ : Req) (size : Bool) (v : BitVec 32) (s : State) : Result :=
  .next (s.whenUp (s.drainRingWrite size v.toNat))
def execSnapshotRequest (_ : Req) (s : State) : Result := .next (s.whenUp s.snapRequest)
def execSnapshotLatch (s : State) : Result := .next (s.whenUp s.snapLatch)

end Sys2Proof.Machine
end

