-- ==== Sys2Proof/Machine/Journal.lean ====
section
/-!
DEFINITION. The Gradebook (R76 to R84), the queue crossings (R33 to R35, R139), the interrupt registers (R41, R462, R463)
and the leap-second table (R56 to R61).
-/

namespace Sys2Proof.Machine
open Sys2Proof Reg

/-! ## The Gradebook -/

/-- One step of CRC-16 with polynomial 0x1021, not reflected (R76). -/
def crc16Bit (c : Nat) : Nat := if c ≥ 0x8000 then ((c * 2) % 0x10000) ^^^ 0x1021 else (c * 2) % 0x10000
def crc16Byte (c : Nat) (b : Byte) : Nat :=
  crc16Bit (crc16Bit (crc16Bit (crc16Bit (crc16Bit (crc16Bit (crc16Bit (crc16Bit (c ^^^ (b.toNat * 256)))))))))
def crc16 (l : List Byte) : Nat := l.foldl crc16Byte 0xFFFF

/-- Bytes of a Gradebook entry (R76). -/
def JEntry.bytes (e : JEntry) : List Byte :=
  let b := leBytes 12 (packTime e.stamp) ++ leBytes 2 e.code ++ leBytes 2 e.source ++ leBytes 1 e.domain ++
    leBytes 1 e.flags ++ leBytes 8 e.payload ++ leBytes 4 e.seq
  b ++ leBytes 2 (crc16 b)

/-- The entries of the stream of domain `d` that wait for the merger, oldest first: those that it took when the domain went OFF (R37), then those
in the queue. -/
def State.stream (s : State) (d : Nat) : List JEntry :=
  s.jnl.taken.filter (fun e => decide (e.domain = d)) ++
  (s.queue (streamOf d)).items.filterMap (fun x => match x.data with | .entry e => some e | _ => none)

/-- The oldest entry of a stream leaves it. -/
def State.streamPop (s : State) (d : Nat) : State :=
  match s.jnl.taken.find? (fun e => decide (e.domain = d)) with
  | some e => { s with jnl := { s.jnl with taken := s.jnl.taken.erase e } }
  | none => s.qPop (streamOf d)

/-- The stream of a domain emptied before the domain goes OFF: the merger takes what waits there and in the output register (R37). -/
def State.streamTake (s : State) (d : Nat) : State :=
  let q := s.queue (streamOf d)
  let l := (q.items ++ q.out.toList).filterMap (fun x => match x.data with | .entry e => some e | _ => none)
  ({ s with jnl := { s.jnl with taken := s.jnl.taken ++ l } } : State).qReset (streamOf d)

/-- Firmware items that may still become entries of the core domain: the stamps of headers without payload and of items not yet taken (R139). -/
def State.headerStamps (s : State) : List Int :=
  (List.finRange 16).flatMap (fun f => ((s.frond f).jhdr.map (·.2)).toList ++ (s.queue (256 + f.val)).items.map (·.stamp))

/-- The watermark of a domain (R80), at its greatest lag: every entry stamped at or below it has been pushed. An entry in the output register
holds it at its stamp, and a firmware header that waits for its payload holds that of the core domain below its stamp, past the lag of the
table (DESIGN CHOICE, log 66). -/
def State.watermark (s : State) (d : Nat) : Int :=
  let w := s.domNow d - domLag d
  let w1 := match (s.queue (streamOf d)).out with
    | some x => min w x.stamp
    | none => w
  if d = 0 then s.headerStamps.foldl (fun w t => min w (t - 1)) w1 else w1

/-- Domains left out of the watermark minimum: OFF or stopped (R80). -/
def State.merging (s : State) (d : Nat) : Bool := s.domValid d

/-- The lowest watermark of all running domains (R80). -/
def State.lowWatermark (s : State) : Option Int :=
  (List.range 44).foldl (fun m d =>
    if s.merging d then
      match m with
      | none => some (s.watermark d)
      | some w => some (min w (s.watermark d))
    else m) none

/-- The next entry in Gradebook order: by stamp, then domain index, then stream order (R80). -/
def State.mergeNext (s : State) : Option (Nat × JEntry) :=
  (List.range 44).foldl (fun m d =>
    match s.stream d with
    | [] => m
    | e :: _ =>
      match m with
      | none => some (d, e)
      | some (d', e') => if e.stamp < e'.stamp then some (d, e) else some (d', e')) none

/-- An entry of another domain has the same stamp: waiting in a stream, or merged before (R81). -/
def State.concurrent (s : State) (d : Nat) (t : Int) : Bool :=
  (List.range 44).any (fun k => decide (k ≠ d) && (s.stream k).any (fun e => decide (e.stamp = t))) ||
  (match s.jnl.last with
   | some (t', l) => decide (t' = t) && l.any (fun k => decide (k ≠ d))
   | none => false)

/-- An entry placed in the Gradebook (R80, R84). -/
def State.bookAdd (s : State) (e : JEntry) : State :=
  let b := s.jnl.book ++ [⟨e, s.now⟩]
  let s1 : State := { s with jnl := { s.jnl with book := b } }
  ((s1.wf JNL_FILL_fill b.length).inc JNL_WRITTEN_count).shared 8 1

def bookSize : Nat := 32768

/-- The Gradebook holds at least JNL_THRESH.level entries (R83). -/
def State.bookAbove (s : State) : Bool := decide (s.rf JNL_THRESH_level ≤ s.jnl.book.length)

/-- JNL_DRAIN asserts when the fill comes to reach the level (R83; log 14). -/
def State.bookLevel (s : State) (before : Bool) : State :=
  if s.bookAbove && !before then s.assertSrc 18 (s.domNow 1) else s

/-- A write of JNL_THRESH: JNL_DRAIN asserts where its condition begins to hold (R83). -/
def State.bookThreshWrite (s : State) (v : Nat) : State :=
  ((s.wf JNL_THRESH_level (v % 65536)).wf JNL_THRESH_wait (v / 65536)).bookLevel s.bookAbove

/-- GRADEBOOK_MERGE_WRITE (R80 to R82). -/
def State.mergeWrite (s : State) : State :=
  match s.mergeNext, s.lowWatermark with
  | some (d, e), some w =>
    if e.stamp ≤ w then
      let conc := s.concurrent d e.stamp
      let s1 := s.streamPop d
      let doms := match s1.jnl.last with
        | some (t, l) => if t = e.stamp then d :: l else [d]
        | none => [d]
      let s2 : State := { s1 with jnl := { s1.jnl with last := some (e.stamp, doms) } }
      let n := s2.jnl.book.length
      let room := if s2.jnl.dropped = 0 then decide (n + 1 ≤ bookSize) else decide (n + 2 ≤ bookSize)
      if room then
        let s3 :=
          if s2.jnl.dropped = 0 then s2
          else
            let seq := tabGet 0 0x0600 s2.jnl.seqs
            let m : JEntry := ⟨e.stamp, 0x0601, 0x0600, 1, 0, s2.jnl.dropped, seq⟩
            ({ s2 with jnl := { s2.jnl with dropped := 0, seqs := tabSet 0x0600 ((seq + 1) % 2 ^ 32) s2.jnl.seqs } } : State).bookAdd m
        let fl := (e.flags ||| (if conc then 1 else 0)) ||| (if d ∈ s3.jnl.bookOvf then 2 else 0)
        let s4 : State := { s3 with jnl := { s3.jnl with bookOvf := s3.jnl.bookOvf.filter (· ≠ d) } }
        (s4.bookAdd { e with flags := fl }).bookLevel s.bookAbove
      else
        let s3 := s2.inc JNL_OVF_BOOK_count
        { s3 with jnl := { s3.jnl with dropped := s3.jnl.dropped + 1,
                                       bookOvf := if d ∈ s3.jnl.bookOvf then s3.jnl.bookOvf else d :: s3.jnl.bookOvf } }
    else s
  | _, _ => s

/-- GRADEBOOK_DMA_COPY (R83, R453). The copy is a posted write of 32 bytes, and counts once as event 0x04 of R154, whose unit is a transfer of 64
bytes (DESIGN CHOICE, log 66). -/
def State.dmaCopy (s : State) : State :=
  let n := s.rf JNL_DMA_SIZE_log2n
  let head := s.rf JNL_DMA_HEAD_head
  match s.jnl.book with
  | [] => s
  | b :: rest =>
    if s.rb JNL_CTL_dma_en && s.pcie.bme && s.pdOn 19 && !ringFull n head (s.rf JNL_DMA_TAIL_tail) then
      let a := s.rf JNL_DMA_BASE_base / 64 * 64 + 32 * (head % 2 ^ n)
      let s0 := s.qPass 499
      let s1 : State := { s0.shared 4 1 with jnl := { (s0.shared 4 1).jnl with book := rest },
                                             pcie := { s.pcie with posted := some (a, b.entry.bytes) } }
      (s1.wf JNL_FILL_fill rest.length).wf JNL_DMA_HEAD_head ((head + 1) % 2 ^ n)
    else s

/-- A write of JNL_DMA_TAIL (R83). -/
def State.dmaTailWrite (s : State) (v : Nat) : State :=
  let n := s.rf JNL_DMA_SIZE_log2n
  let tail := s.rf JNL_DMA_TAIL_tail
  if v < 2 ^ n ∧ ringFill n v tail ≤ ringFill n (s.rf JNL_DMA_HEAD_head) tail then s.wf JNL_DMA_TAIL_tail v else s

/-- JNL_DRAIN_WAIT_EXPIRE: the oldest entry has waited longer than `wait` µs (R83). -/
def State.drainWait (s : State) : State :=
  match s.jnl.book with
  | [] => s
  | b :: _ => if s.now - b.since > (s.rf JNL_THRESH_wait : Int) * uUs then s.assertSrc 18 (s.domNow 1) else s

/-- JNL_HOST_PUSH (R84): the host only; the stamp is that of the PCIe domain. -/
def State.hostPush (s : State) (r : Req) : State :=
  match r with
  | .host => s.journalAt 40 0xFF00 (0xFF00 + s.rf JNL_HOST_CODE_code) (s.rf JNL_HOST_PAYLOAD_payload) 8 (s.domNow 40)
  | q => s.ignoreWrite q

/-! ## Crossings -/

/-- An item is a header: [63] set, [62:16] zero (R139). -/
def headerItem (n : Nat) : Bool := bitOf n 63 && decide (bitsOf n 16 47 = 0)

/-- The engine's side of a Frond's journal queue takes one item (R84, R139). -/
def State.fwJournal (s : State) (f : Fin 16) (x : QItem) : State :=
  match x.data with
  | .word n =>
    let fr := s.frond f
    match fr.jhdr with
    | none =>
      if headerItem n then s.setFrond f { fr with jhdr := some (bitsOf n 0 16, x.stamp) }
      else s.inc JNL_FW_REJECT_count
    | some (code, stamp) =>
      let s1 := s.setFrond f { fr with jhdr := none }
      if code / 256 < 0x80 ∨ code / 256 = 0xFF then s1.inc JNL_FW_REJECT_count
      else s1.journalAt 0 (0x1500 + f.val) code n 8 stamp
  | _ => s

/-- The journal queue of a Frond emptied: the engine takes every item that waits (R37). -/
def State.journalTake (s : State) (f : Fin 16) : State :=
  (s.queue (256 + f.val)).items.foldl (fun s x => (s.qPop (256 + f.val)).fwJournal f x) s

/-- QUEUE_ENTRY_VISIBLE (R33). The journal queues have the engine as receiver: it pops at once. -/
def State.qVisible (s : State) (i : Nat) : State :=
  let q := s.queue i
  if q.vis < q.items.length then
    let s1 := s.setQueue i { q with vis := q.vis + 1 }
    if 256 ≤ i ∧ i < 272 then
      match q.items[q.vis]? with
      | some x => (s1.qPop i).fwJournal (Fin.ofNat 16 (i - 256)) x
      | none => s1
    else s1
  else s

/-- CREDIT_RETURN (R34, R35): one credit reaches the sender; a held item is pushed, into a journal stream in stamp order (R79). -/
def State.creditReturn (s : State) (i : Nat) : State :=
  let q := s.queue i
  if q.a = q.q then s
  else
    let q1 := q.ret (s.domNow 0)
    match q1.out with
    | some x => s.setQueue i { (if 348 ≤ i ∧ i < 392 then q1.pushOrdered x else q1.push x) with out := none }
    | none => s.setQueue i q1

/-! ## Interrupt registers (R41, R462, R463) -/

/-- The host has a message of vector `v` to be sent: a PEND bit of a source routed to it. -/
def State.vecPending (s : State) (v : Nat) : Bool :=
  (List.range 512).any (fun n => s.bit32 SYS_IRQ_PENDw_pend n && decide (s.irqVec n = v))

/-- MSIX_MESSAGE_SEND (R462): one message, and the PEND bits of the vector clear. -/
def State.msixSend (s : State) (v : Nat) : State :=
  if s.vecPending v && s.pcie.msixEn && !s.pcie.fmask && !s.rb MSIX_ENTRY_mask v && s.pcie.bme && s.pdOn 19 then
    let s1 := (List.range 512).foldl (fun s n =>
      if s.bit32 SYS_IRQ_PENDw_pend n && decide (s.irqVec n = v) then s.setBit32 SYS_IRQ_PENDw_pend n false else s) s
    { s1.qPass 499 with pcie := { s1.pcie with posted := some (s.rf MSIX_ENTRY_addr v, leBytes 4 (s.rf MSIX_ENTRY_data v)) } }
  else s

/-- A write of SYS_IRQ_ROUTEn (R41, R459, R461, R463). -/
def State.irqRoute (s : State) (r : Req) (n v : Nat) : State :=
  if ¬ s.hostOrSupF0 r then s.ignoreWrite r
  else if n = 0 ∨ ¬ srcListed n then s
  else
    let s1 := (s.wf SYS_IRQ_ROUTEn_vector (v % 64) n).wf SYS_IRQ_ROUTEn_en (bitsOf v 6 1) n
    if bitOf v 6 then s1 else s1.setBit32 SYS_IRQ_PENDw_pend n false

/-! ## The leap-second table (R56 to R61) -/

def State.leapValid (s : State) (n : Nat) : Bool := s.rb SPN_LEAPn_valid n

/-- The slots that hold an entry. -/
def State.leaps (s : State) : List Nat := (List.range 16).filter s.leapValid

/-- The valid slot with the greatest E. -/
def State.lastLeap (s : State) : Option Nat :=
  s.leaps.foldl (fun m n => match m with
    | none => some n
    | some k => if s.rf SPN_LEAPn_e k < s.rf SPN_LEAPn_e n then some n else some k) none

/-- The applied slot with the greatest E: the latest entry in force. -/
def State.forceLeap (s : State) : Option Nat :=
  (s.leaps.filter (fun n => s.rb SPN_LEAPn_applied n)).foldl (fun m n => match m with
    | none => some n
    | some k => if s.rf SPN_LEAPn_e k < s.rf SPN_LEAPn_e n then some n else some k) none

/-- O: the offset in force, the default while no entry is applied (R60). -/
def State.utcOffset (s : State) : Nat :=
  match s.forceLeap with
  | some n => s.rf SPN_LEAPn_offset n
  | none => s.rf SPN_UTC_DEFAULT_offset

/-- The earliest entry still to come. -/
def State.nextLeap (s : State) : Option Nat :=
  (s.leaps.filter (fun n => !s.rb SPN_LEAPn_applied n)).foldl (fun m n => match m with
    | none => some n
    | some k => if s.rf SPN_LEAPn_e n < s.rf SPN_LEAPn_e k then some n else some k) none

/-- The valid slot with the greatest E at or before second `t`. -/
def State.leapAt (s : State) (t : Int) : Option Nat :=
  (s.leaps.filter (fun n => decide ((s.rf SPN_LEAPn_e n : Int) ≤ t))).foldl (fun m n => match m with
    | none => some n
    | some k => if s.rf SPN_LEAPn_e k < s.rf SPN_LEAPn_e n then some n else some k) none

/-- The offset of spine second `t`: that of the latest entry with E ≤ t. A second before every entry held takes the offset in force, since
the table keeps none from before its first entry (R56, R58; DESIGN CHOICE, log 59). -/
def State.offsetAt (s : State) (t : Int) : Nat :=
  match s.leapAt t with
  | some n => s.rf SPN_LEAPn_offset n
  | none => s.utcOffset

/-- U of R56: the UTC second count of spine second `t`. The second before a positive leap repeats. -/
def State.utcOf (s : State) (t : Int) : Int :=
  let o := (s.offsetAt t : Int)
  let repeats := s.leaps.any (fun n => decide ((s.rf SPN_LEAPn_e n : Int) = t + 1) && decide ((s.rf SPN_LEAPn_offset n : Int) = o + 1))
  if repeats then t - o - 1 else t - o

/-- NTP seconds and fraction of an instant (R57). -/
def State.ntpOf (s : State) (z : Int) : Int × Int :=
  let sub := z % uSec
  (s.utcOf (secsOf z) + 2208988800, sub * 4294967296 / uSec)

def leapPayload (e n : Nat) : Nat := e + n * 2 ^ 48

/-- A leap command answered: result, and the journal entry of R59 when refused. -/
def State.leapRefuse (s : State) (res : Nat) : State :=
  (s.wf SPN_LEAP_RESULT_result res).journal 1 0x0400 0x0404 res

/-- The status flags of R61 for the present second. A pending entry that a cancelled one has left with N = O, or 2 from it, is no leap of
R56 and announces none (DESIGN CHOICE, log 59). -/
def State.leapFlags (s : State) : State :=
  let t := secsOf s.now
  let o := s.utcOffset
  match s.nextLeap with
  | some n =>
    let e := (s.rf SPN_LEAPn_e n : Int)
    let pos := decide (s.rf SPN_LEAPn_offset n = o + 1)
    let neg := decide (s.rf SPN_LEAPn_offset n + 1 = o)
    ((s.wb SPN_UTC_STATUS_leap61 (pos && decide (e - 86401 ≤ t) && decide (t ≤ e - 1))).wb SPN_UTC_STATUS_leap59
      (neg && decide (e - 86399 ≤ t) && decide (t ≤ e - 1))).wb SPN_UTC_STATUS_in_leap (pos && decide (t = e - 1))
  | none => ((s.wf SPN_UTC_STATUS_leap61 0).wf SPN_UTC_STATUS_leap59 0).wf SPN_UTC_STATUS_in_leap 0

/-- Entry `n` takes effect (R58, R59, R61). -/
def State.leapInForce (s : State) (n : Nat) : State :=
  let s1 := s.wf SPN_LEAPn_applied 1 n
  let s2 := ((s1.wf SPN_UTC_STATUS_offset (s1.utcOffset)).wf SPN_UTC_STATUS_valid 1).leapFlags
  s2.journal 1 0x0400 0x0403 (leapPayload (s2.rf SPN_LEAPn_e n) (s2.rf SPN_LEAPn_offset n))

/-- LEAP_ADD (R58): checks in the order of the table; a first entry is applied at once. Of several free slots the entry takes the lowest (DESIGN
CHOICE, log 66). -/
def State.leapAdd (s : State) (r : Req) : State :=
  if ¬ s.hostOrSup r then s.ignoreWrite r
  else
    let e := s.rf SPN_LEAP_STAGE_e
    let n := s.rf SPN_LEAP_STAGE_offset
    let t := secsOf s.now
    let first := decide (s.leaps = [])
    let free := (List.range 16).find? (fun k => !s.leapValid k)
    if !first && decide ((e : Int) < t + 2) then s.leapRefuse 1
    else if (if first then decide ((e : Int) > t)
             else (s.lastLeap.map (fun k => decide (e ≤ s.rf SPN_LEAPn_e k))).getD false) then s.leapRefuse 2
    else if !first && decide (absNat ((n : Int) - ((s.lastLeap.map (fun k => s.rf SPN_LEAPn_offset k)).getD 0 : Nat)) ≠ 1) then
      s.leapRefuse 3
    else if ((e : Int) - n) % 86400 ≠ 0 then s.leapRefuse 4
    else match free with
      | none => s.leapRefuse 5
      | some k =>
        let s1 := ((((s.wf SPN_LEAPn_e e k).wf SPN_LEAPn_offset n k).wf SPN_LEAPn_applied 0 k).wf SPN_LEAPn_valid 1 k)
        let s2 := ((s1.wf SPN_LEAP_RESULT_result 0).wf SPN_LEAP_RESULT_slot k).journal 1 0x0400 0x0401 (leapPayload e n)
        if first then s2.leapInForce k else s2.leapFlags

/-- LEAP_CANCEL (R59). E and N of the slot that it frees read 0 afterwards (DESIGN CHOICE, log 66). -/
def State.leapCancel (s : State) (r : Req) (k : Nat) : State :=
  if ¬ s.hostOrSup r then s.ignoreWrite r
  else
    let e := s.rf SPN_LEAPn_e k
    let n := s.rf SPN_LEAPn_offset k
    if ¬ s.leapValid k ∨ (s.rb SPN_LEAPn_applied k ∧ s.forceLeap = some k) then s.leapRefuse 6
    else if ¬ s.rb SPN_LEAPn_applied k ∧ (e : Int) < secsOf s.now + 2 then s.leapRefuse 1
    else
      let s1 := (((s.wf SPN_LEAPn_valid 0 k).wf SPN_LEAPn_applied 0 k).wf SPN_LEAPn_e 0 k).wf SPN_LEAPn_offset 0 k
      ((s1.wf SPN_LEAP_RESULT_result 0).journal 1 0x0400 0x0402 (leapPayload e n)).leapFlags

/-- LEAP_APPLY (R59, R61): every entry whose E has been reached takes effect. -/
def State.leapApply (s : State) : State :=
  match s.nextLeap with
  | some n => if (s.rf SPN_LEAPn_e n : Int) ≤ secsOf s.now then s.leapInForce n else s
  | none => s

/-! ## Meanings -/

def execJournalStreamPush (d : Fin 44) (src code : BitVec 16) (payload : BitVec 64) (refined : Option Int) (s : State) : Result :=
  .next (s.whenUp (match refined with
    | some t => s.journalAt d.val src.toNat code.toNat payload.toNat 4 t
    | none => s.journal d.val src.toNat code.toNat payload.toNat))
def execGradebookMergeWrite (s : State) : Result := .next (s.whenUp s.mergeWrite)
def execGradebookDmaCopy (s : State) : Result := .next (s.whenUp s.dmaCopy)
def execJnlDmaTailWrite (_ : Req) (v : BitVec 20) (s : State) : Result := .next (s.whenUp (s.dmaTailWrite v.toNat))
def execJnlDrainWaitExpire (s : State) : Result := .next (s.whenUp s.drainWait)
def execJnlHostPush (r : Req) (s : State) : Result := .next (s.whenUp (s.hostPush r))
def execQueueEntryVisible (q : Fin 1792) (s : State) : Result := .next (s.whenUp (s.qVisible q.val))
def execCreditReturn (q : Fin 1792) (s : State) : Result := .next (s.whenUp (s.creditReturn q.val))
def execInterruptSourceAssert (n : Fin 512) (stamp : Int) (s : State) : Result := .next (s.whenUp (s.assertSrc n.val stamp))
def execMsixMessageSend (v : Fin 64) (s : State) : Result := .next (s.whenUp (s.msixSend v.val))
def execIrqRouteWrite (r : Req) (n : Fin 512) (v : BitVec 32) (s : State) : Result := .next (s.whenUp (s.irqRoute r n.val v.toNat))
def execLeapAdd (r : Req) (s : State) : Result := .next (s.whenUp (s.leapAdd r))
def execLeapCancel (r : Req) (slot : Fin 16) (s : State) : Result := .next (s.whenUp (s.leapCancel r slot.val))
def execLeapWarningStart (s : State) : Result := .next (s.whenUp s.leapFlags)
def execLeapSecondStart (s : State) : Result := .next (s.whenUp s.leapFlags)
def execLeapApply (s : State) : Result := .next (s.whenUp s.leapApply)

end Sys2Proof.Machine
end

