-- ==== Sys2Proof/Machine/Key.lean ====
section
/-!
DEFINITION. The KEY block (R352 to R382): identity and statements, the measurement chain, lockers and their uses, update messages
and their commit, unsealing, authorisation, and the pairing of twins.
-/

namespace Sys2Proof.Machine
open Sys2Proof Reg

def State.setKey (s : State) (k : KeyState) : State := { s with key := k }

/-- The first `n` bytes, filled up with zeros. -/
def fitBytes (n : Nat) (l : Bytes) : Bytes := (l ++ List.replicate n 0).take n

/-- The bytes of an ASCII string. -/
def ascii (t : String) : Bytes := t.toList.map (fun c => BitVec.ofNat 8 c.toNat)

def zeros (n : Nat) : Bytes := List.replicate n 0

/-- `n` bytes of a list from `at_`. -/
def slice (l : Bytes) (at_ n : Nat) : Bytes := fitBytes n (l.drop at_)
def sliceNat (l : Bytes) (at_ n : Nat) : Nat := ofLeBytes (slice l at_ n)

/-- Bytes of the DRBG's output, one request (R354). -/
def State.draw (s : State) (n : Nat) : State × Bytes :=
  let k := s.key
  (s.setKey { k with draws := k.draws + n, reqs := k.reqs + 1 }, (List.range n).map (fun i => Config.drbg k.seeds (k.draws + i)))

/-! ## Identity and statements (R355 to R357) -/

/-- The order of the P-384 group. -/
def p384Order : Nat := 0xFFFFFFFFFFFFFFFFFFFFFFFFFFFFFFFFFFFFFFFFFFFFFFFFC7634D81F4372DDF581A0DB248B0A77AECEC196ACCC52973

/-- A private key from octets, by the reduction of R355. -/
def scalarOf (l : Bytes) : Bytes := beBytes 48 (ofBeBytes l % (p384Order - 1) + 1)

def idPriv : Bytes := scalarOf (Config.hkdf Config.root [] (ascii "nyxel identity") 64)
def idPub : Bytes := fitBytes 97 (Config.p384Pub idPriv)
/-- H_id (R355). -/
def idHash : Bytes := fitBytes 48 (Config.sha384 idPub)
/-- The transport key (R357). -/
def transportPriv : Bytes := scalarOf (Config.hkdf Config.root [] (ascii "nyxel transport") 64)
def transportPub : Bytes := fitBytes 97 (Config.p384Pub transportPriv)

/-- ECDSA over a hash; the nonce is formed from bytes of the DRBG (R354). -/
def State.sign (s : State) (d hash : Bytes) : State × Bytes :=
  let r := s.draw 48
  (r.1, fitBytes 96 (Config.ecdsaSign d hash r.2))

/-- A statement of R356 over the given body. -/
def State.statement (s : State) (type : Nat) (body : Bytes) : State × Bytes :=
  let m := ascii "NYXSTMT" ++ [0, BitVec.ofNat 8 type] ++ zeros 7 ++ idHash ++ body ++ leBytes 12 (packTime s.now) ++
    leBytes 4 (s.rf SRV_BOUND_ps)
  let r := s.sign idPriv (Config.sha384 m)
  (r.1, m ++ r.2)

/-! ## Measurement (R358, R359) -/

def State.manifestBytes (s : State) : Bytes := (s.key.manifest.toList.map (fitBytes 48)).flatten

/-- One extension of a chain by Frond `f` and a measurement. -/
def chainExt (c : Bytes) (f : Nat) (m : Bytes) : Bytes := fitBytes 48 (Config.sha384 (c ++ [BitVec.ofNat 8 f] ++ fitBytes 48 m))

/-- B(M) of a manifest of 768 bytes (R358). -/
def bootChain (m : Bytes) : Bytes := (List.range 16).foldl (fun c f => chainExt c f (slice m (48 * f) 48)) (zeros 48)

/-! ## Lockers (R360, R361) -/

def State.locker (s : State) (k : Nat) : Option Locker := tabGet none k (s.key.lockers.map (fun e => (e.1, some e.2)))

/-- The rotating cookie lockers: those that TSV_COOKIE_LOCKg name (R344). -/
def State.cookieLocker (s : State) (k : Nat) : Bool :=
  (List.range 3).any (fun g => decide (s.rf TSV_COOKIE_LOCKg_enc g = k) || decide (s.rf TSV_COOKIE_LOCKg_dec g = k))

/-- The content of a derived locker (R360). -/
def deriveKey (chain km label : Bytes) : Bytes := fitBytes 32 (Config.hkdf (Config.root ++ km) chain label 32)

/-- The content that locker `k` has under a chain: a derived locker's from its master's. A rotating cookie locker, which `held` names, has the content
that it holds (R360). -/
def contentOf (held : Nat → Bool) (chain : Bytes) (ls : Tab Locker) : Nat → Nat → Bytes
  | 0, _ => []
  | fuel + 1, k =>
    match tabGet none k (ls.map (fun e => (e.1, some e.2))) with
    | none => []
    | some x =>
      if x.origin ≠ 2 ∨ held k then x.key
      else match x.master with
        | none => deriveKey chain [] x.label
        | some m => deriveKey chain (contentOf held chain ls fuel m) x.label

/-- Every derived locker but the rotating cookie lockers recomputed (R360, R375): the lockers, and how many. -/
def State.rederive (s : State) (ls : Tab Locker) : Tab Locker × Nat :=
  (ls.map (fun e => if e.2.origin = 2 ∧ ¬ s.cookieLocker e.1 then (e.1, { e.2 with key := contentOf s.cookieLocker s.key.chain ls 1025 e.1 }) else e),
   (ls.filter (fun e => decide (e.2.origin = 2) && !s.cookieLocker e.1)).length)

/-- The lockers without `k` and without those derived from it (R382). -/
def eraseLocker (k : Nat) (ls : Tab Locker) : Tab Locker :=
  (List.range 1024).foldl (fun l _ =>
    l.filter (fun e => match e.2.master with
      | some m => l.any (fun x => decide (x.1 = m))
      | none => true)) (ls.filter (fun e => decide (e.1 ≠ k)))

/-- The records that a slot keeps: definitions of derived and pair lockers without their content (R370, R377). -/
def slotRecords (ls : Tab Locker) : Tab Locker := ls.map (fun e => if e.2.origin = 2 ∨ e.2.origin = 3 then (e.1, { e.2 with key := [] }) else e)

/-- TSV_KEYk.bad: the locker of an entry is not a 256-bit SIGN_ONLY key (R333). Registers that hold nothing are no entry (DEDUCED, log 70). -/
def State.keyEntryCheck (s : State) (k : Nat) : State :=
  let used := decide (s.rf TSV_KEYk_ID_id k ≠ 0) || decide (s.rf TSV_KEYk_CFG_locker k ≠ 0) || decide (s.rf TSV_KEYk_CFG_profs k ≠ 0) ||
    s.rb TSV_KEYk_CFG_alg k || s.rb TSV_KEYk_CFG_tx k || s.rb TSV_KEYk_CFG_rx k
  let good := match s.locker (s.rf TSV_KEYk_CFG_locker k) with
    | some x => decide (x.attr = 5) && !x.p384
    | none => false
  let bad := used && !good
  if bad = s.rb TSV_KEYk_CFG_bad k then s
  else
    let s1 := s.wb TSV_KEYk_CFG_bad bad k
    if bad then s1.journal 0 0x1000 0x1001 k else s1

/-- All key entries checked while the lockers are open. -/
def State.keyEntries (s : State) : State :=
  if s.rf KEY_STATUS_state = 1 then (List.range 32).foldl (fun s k => s.keyEntryCheck k) s else s

/-! ## Commands: who, when, and what they answer (R380) -/

def State.keyJournal (s : State) (code payload : Nat) : State := s.journal 0 0x1100 code payload

/-- The wrap's integrity check failed at reset: FAILED, and 0x1101 with payload 0 (R353, R381). Before spine time runs the entry counts as overflowed
(R30). -/
def State.wrapFailed (s : State) : State := (s.wf KEY_STATUS_state 3).keyJournal 0x1101 0

/-- A command ends with a result; KEY_DONE asserts. -/
def State.keyDone (s : State) (res : Nat) : State :=
  (((s.wf KEY_RESULT_result res).wf KEY_RESULT_done 1).wf KEY_STATUS_busy 0).assertSrc 30 (s.domNow 0)

/-- A command of F0 or the host, run with no other in progress. -/
def State.keyCmd (s : State) (r : Req) (f : State → State) : State :=
  if ¬ reqIsHostOrF0 r then s.ignoreWrite r
  else if ¬ s.rb KEY_RESULT_done then s.wf KEY_RESULT_result 1
  else f s

/-- A command's output at KEY_OUT_BASE. -/
def State.keyOut (s : State) (bs : Bytes) : State :=
  ((s.engStore 0 (s.rf KEY_OUT_BASE_base * 64) bs).wf KEY_OUT_LEN_bytes bs.length).keyDone 0

/-- A command's input from KEY_IN_BASE; none where a word of it is uncorrectable. -/
def State.keyIn (s : State) : State × Option Bytes :=
  let r := s.engLoad 0 (s.rf KEY_IN_BASE_base * 64) (s.rf KEY_IN_LEN_bytes)
  (r.1, if r.2.2 then none else some r.2.1)

/-- The identity key is available (R353). -/
def State.keyAlive (s : State) : Bool := s.key.wrapOk

def State.keyOpen (s : State) : Bool := decide (s.rf KEY_STATUS_state = 1)

/-! ## Shares (R369) -/

def xorBytes (a b : Bytes) : Bytes := a.zipWith (· ^^^ ·) b

/-- Bytes of a locker's key: 48 with P-384, else 32 (R361). -/
def State.keyLen (s : State) (k : Nat) : Nat := if ((s.locker k).map (·.p384)).getD false then 48 else 32

/-- The two shares in which the content of locker `k` is held; their sum is the content. -/
def State.shares (s : State) (k : Nat) : Bytes × Bytes :=
  let key := ((s.locker k).map (·.key)).getD []
  let m := tabGet (zeros (s.keyLen k)) k s.key.masks
  (xorBytes key m, m)

/-- A fresh mask added to both shares of each locker of `ks`. -/
def State.maskLockers (s : State) (ks : List Nat) : State :=
  ks.foldl (fun s k =>
    let r := s.draw (s.keyLen k)
    r.1.setKey { r.1.key with masks := tabSet k (xorBytes (s.shares k).2 r.2) r.1.key.masks }) s

/-- A re-mask of the lockers that `p` names, counted (R369). -/
def State.remask (s : State) (p : Nat → Bool) : State :=
  let s1 := s.maskLockers ((s.key.lockers.map (·.1)).filter p)
  (s1.setKey { s1.key with uses := s1.key.uses.filter (fun e => !p e.1) }).inc KEY_REMASKS_count

/-! ## Unsealing (R371) -/

def State.keySlot (s : State) (k : Nat) : Option KeySlot := if k = 0 then s.key.slot0 else s.key.slot1
def State.putSlot (s : State) (k : Nat) (x : Option KeySlot) : State :=
  if k = 0 then s.setKey { s.key with slot0 := x } else s.setKey { s.key with slot1 := x }

/-- A candidate: its CRC holds and its counters equal antifuse. -/
def State.candidate (s : State) (k : Nat) : Option KeySlot :=
  match s.keySlot k with
  | some x => if x.valid ∧ x.ctrs = s.key.ctrs.toList then some x else none
  | none => none

/-- The better of the slots that pass a test: the higher sequence number. -/
def State.bestKeySlot (s : State) (p : KeySlot → Bool) : Option (Nat × KeySlot) :=
  match (s.candidate 0).filter p, (s.candidate 1).filter p with
  | some x, some y => if x.seq < y.seq then some (1, y) else some (0, x)
  | some x, none => some (0, x)
  | none, some y => some (1, y)
  | none, none => none

/-- Lockers of slot `k` opened: state OPEN, SYS_READY.key, the commit bit and 0x1102. -/
def State.keyOpenSlot (s : State) (k : Nat) (x : KeySlot) : State :=
  let s1 := s.setKey { s.key with lockers := x.lockers, masks := [], owners := x.owners, pin := x.pin, commitBit := if s.pwr.aon then some k else none, mnext := none }
  let s2 := s1.setKey { s1.key with lockers := (s1.rederive s1.key.lockers).1 }
  let s3 := (((s2.wf KEY_STATUS_state 1).wf KEY_STATUS_slot k).wf KEY_SLOT_SEQ_seq x.seq).wf KEY_STATUS_prepared 0
  let s4 := (s3.keyJournal 0x1102 (k + x.seq * 2 ^ 32)).ready 7 true
  (s4.setKey { s4.key with readied := true }).keyEntries

/-- A commit that power cut after step 3 is completed at boot (R368): the commit bit does not name the slot that matches antifuse, and the other
slot, of which one without content counts as 0, is one behind in the counter of the message's owner. The commit bit is then written, and so it is
where the Lichen store was lost. -/
def State.bootCommitFinish (s : State) (k : Nat) (x : KeySlot) : State :=
  if s.key.commitBit = some k then s
  else
    let old := ((s.keySlot (1 - k)).map (·.ctrs)).getD (List.replicate 16 0)
    match (List.range 16).find? (fun o => decide ((old[o]?).getD 0 + 1 = (x.ctrs[o]?).getD 0)) with
    | some o => s.keyJournal 0x1106 (o + (x.ctrs[o]?).getD 0 * 2 ^ 32)
    | none => s

/-- KEY_UNSEAL (R359, R371). -/
def State.keyUnseal (s : State) (r : Req) : State :=
  s.keyCmd r fun s =>
    if s.key.unsealed ∨ ¬ s.keyAlive ∨ s.jtag.unlocked then s.keyDone 14
    else
      let m := s.manifestBytes
      let s1 := s.setKey { s.key with unsealed := true, chain := bootChain m }
      match s1.bestKeySlot (fun x => decide (x.mrun = m) || decide (x.mnext = m)) with
      | some (k, x) => ((s1.bootCommitFinish k x).keyOpenSlot k x).keyDone 0
      | none =>
        match s1.bestKeySlot (fun _ => true) with
        | some (_, x) =>
          let s2 := s1.setKey { s1.key with owners := x.owners, pin := x.pin }
          ((s2.wf KEY_STATUS_state 2).keyJournal 0x1103 1).keyDone 0
        | none => ((s1.wf KEY_STATUS_state 3).keyJournal 0x1101 1).keyDone 0

/-! ## Update messages (R364 to R366) -/

/-- An update message, read from its bytes (R365). -/
structure UpdMsg where
  kind : Nat
  owner : Nat
  counter : Nat
  target : Nat
  attr : Nat
  noexport : Bool
  p384 : Bool
  blen : Nat
  master : Option Nat
  body : Bytes
  sig : Bytes
  id : Bytes
  /-- magic, format, kind, lengths and zero fields hold. -/
  formed : Bool
  /-- SHA-384 of bytes 0 to 127 + blen. -/
  hash : Bytes
  deriving DecidableEq, Repr

/-- The body length that a kind takes (R365). -/
def bodyOk (kind blen : Nat) (p384 : Bool) : Bool :=
  match kind with
  | 1 => decide (blen = 97 + if p384 then 56 else 40)
  | 3 => decide (1 ≤ blen) && decide (blen ≤ 64)
  | 5 => decide (blen = 97)
  | 6 => decide (blen = 768)
  | _ => decide (blen = 0)

def updMsg (m : Bytes) : UpdMsg :=
  let kind := sliceNat m 6 1
  let ow := sliceNat m 7 1
  let tg := sliceNat m 12 2
  let at_ := sliceNat m 14 2
  let blen := sliceNat m 64 4
  let mst := sliceNat m 68 2
  let p384 := bitOf at_ 4
  let formed := decide (sliceNat m 0 4 = 0x4B4C4D55) && decide (sliceNat m 4 2 = 1) && decide (1 ≤ kind) && decide (kind ≤ 7) &&
    decide (ow < 16) && decide (tg < if kind = 5 then 16 else 1024) && decide (at_ < 32) && bodyOk kind blen p384 &&
    decide (m.length = 128 + blen + 96) && (if kind = 3 then decide (bitsOf mst 10 5 = 0) else decide (mst = 0)) &&
    decide (slice m 70 58 = zeros 58)
  { kind := kind, owner := ow % 16, counter := sliceNat m 8 4, target := tg, attr := at_ % 8, noexport := bitOf at_ 3 || p384, p384 := p384,
    blen := blen, master := if bitOf mst 15 then some (mst % 1024) else none, body := slice m 128 blen, sig := slice m (128 + blen) 96,
    id := slice m 16 48, formed := formed, hash := Config.sha384 (m.take (128 + blen)) }

/-- The OWNER messages of R364: the first enrolment, and the recovery of owner 0 when no slot is valid. -/
def State.firstOwner (s : State) (m : UpdMsg) : Bool :=
  decide (m.kind = 5) && decide (m.owner = 0) && decide (m.target = 0) && !s.rb KEY_STATUS_owner0
def State.recoverOwner (s : State) (m : UpdMsg) : Bool :=
  decide (m.kind = 5) && decide (m.owner = 0) && decide (m.target = 0) && decide (s.rf KEY_STATUS_state = 3) && s.keyAlive &&
  decide (s.key.recovery = some (fitBytes 48 (Config.sha384 m.body)))

def State.keyCtr (s : State) (o : Nat) : Nat := (s.key.ctrs[o]?).getD 0

/-- Attribute, size and kind agree (R361, R365). -/
def State.attrOk (s : State) (m : UpdMsg) : Bool :=
  let plain := decide (1 ≤ m.attr) && decide (m.attr ≤ 5) && (!m.p384 || decide (m.attr = 5))
  match m.kind with
  | 1 => plain
  | 2 => plain
  | 3 => plain && !m.p384 && (match m.master with
    | none => true
    | some k => match s.locker k with
      | some x => decide (x.attr = 4) && decide (x.owner = m.owner)
      | none => false)
  | 4 => true
  | 7 => decide (m.attr = 3) && m.noexport && !m.p384
  | _ => decide (m.owner = 0)

/-- The key that an IMPORT carries (R365). -/
def importKey (m : UpdMsg) : Option Bytes :=
  let kek := fitBytes 32 (Config.hkdf (Config.ecdhX transportPriv (slice m.body 0 97)) idHash (ascii "nyxel import" ++ leBytes 4 m.counter) 32)
  (Config.kwUnwrap kek (m.body.drop 97)).map (fitBytes (if m.p384 then 48 else 32))

/-- The checks of R366 in their order: 0 where all hold. -/
def State.updCheck (s : State) (m : UpdMsg) : Nat :=
  let special := s.firstOwner m || s.recoverOwner m
  let reseal := decide (m.kind = 6) && decide (s.rf KEY_STATUS_state = 2) && decide (m.owner = 0) && decide (m.body = s.manifestBytes)
  let key := if special then some m.body else tabGet none m.owner (s.key.owners.map (fun e => (e.1, some e.2)))
  if ¬ s.keyAlive ∨ ¬ (s.keyOpen ∨ special ∨ reseal) then 2
  else if ¬ m.formed then 3
  else if m.id ≠ idHash then 4
  else match key with
    | none => 5
    | some q =>
      if ¬ Config.ecdsaVerify q m.hash m.sig then 6
      else if s.keyCtr m.owner ≥ 16384 then 8
      else if m.counter ≠ s.keyCtr m.owner + 1 then 7
      else if m.kind ≠ 5 ∧ m.kind ≠ 6 ∧ ((s.locker m.target).map (fun x => decide (x.owner = m.owner))).getD true = false then 9
      else if ¬ s.attrOk m then 10
      else if m.kind = 1 ∧ importKey m = none then 11
      else if m.kind = 2 ∧ s.rb KEY_STATUS_trng_fail then 13
      else 0

/-- K_seal(M), bytes of a slot's header and of a locker record, and the records sealed to a manifest (R370; the order of the bytes is the model's,
log 67). -/
def sealKey (m : Bytes) : Bytes := Config.hkdf Config.root (bootChain m) (ascii "locker-seal") 64
def KeySlot.header (x : KeySlot) : Bytes :=
  leBytes 4 x.seq ++ (x.ctrs.map (leBytes 2)).flatten ++ fitBytes 768 x.mrun ++ fitBytes 768 x.mnext ++ fitBytes 48 x.pin ++
  ((List.range 16).map (fun o => fitBytes 97 (tabGet [] o x.owners))).flatten ++ fitBytes 48 (x.recovery.getD [])
def Locker.record (k : Nat) (x : Locker) : Bytes :=
  leBytes 2 k ++ leBytes 1 (x.attr % 8 + (if x.noexport then 8 else 0) + (if x.p384 then 16 else 0) + x.origin % 4 * 32) ++ leBytes 1 x.owner ++
  leBytes 2 (match x.master with | some m => 0x8000 + m | none => 0) ++ leBytes 1 x.label.length ++ fitBytes 64 x.label ++ fitBytes 48 x.key
def KeySlot.sealTo (x : KeySlot) (m : Bytes) : Tab Bytes :=
  x.lockers.map (fun e => (e.1, Config.sivSeal (sealKey m) [x.header] (Locker.record e.1 e.2)))

/-- The contents of a slot with its seals and its check word (R370). -/
def KeySlot.sealed (x : KeySlot) : KeySlot :=
  let y := { x with sealRun := x.sealTo x.mrun, sealNext := x.sealTo x.mnext }
  { y with crc := crc32c (y.header ++ (y.sealRun.map (·.2)).flatten ++ (y.sealNext.map (·.2)).flatten) }

/-- A slot image of the present working state, with the given counters and prepared manifest, not yet sealed. -/
def State.slotImage (s : State) (mnext : Option Bytes) : KeySlot :=
  let m := s.manifestBytes
  { seq := s.rf KEY_SLOT_SEQ_seq + 1, ctrs := s.key.ctrs.toList, mrun := m, mnext := mnext.getD m, pin := s.key.pin, owners := s.key.owners,
    lockers := slotRecords s.key.lockers, recovery := s.key.recovery, sealRun := [], sealNext := [], crc := 0, valid := true }

/-- The locker that a message installs; `none` frees it. -/
def State.newLocker (s : State) (m : UpdMsg) : State × Option Locker :=
  let base : Locker := ⟨m.attr, m.noexport, m.p384, 0, m.owner, none, [], []⟩
  match m.kind with
  | 1 => (s, some { base with key := (importKey m).getD [] })
  | 2 =>
    let r := s.draw (if m.p384 then 48 else 32)
    (r.1, some { base with origin := 1, key := if m.p384 then scalarOf r.2 else r.2 })
  | 3 => (s, some { base with origin := 2, master := m.master, label := m.body })
  | 7 => (s, some { base with origin := 3 })
  | _ => (s, none)

/-- Lockers with one change. -/
def installLocker (t : Nat) (x : Option Locker) (ls : Tab Locker) : Tab Locker :=
  match x with
  | some l => tabSet t l ls
  | none => eraseLocker t ls

/-- APPLY of a message of a kind (R365 to R367): refused, or a commit begins. A message of another kind belongs to another row. -/
def State.keyApply (s : State) (r : Req) (kind : Nat) : State :=
  if ¬ reqIsHostOrF0 r then s.ignoreWrite r
  else
    let i := s.keyIn
    let m := updMsg (i.2.getD [])
    let k := sliceNat (s.keyIn.2.getD []) 6 1
    if 1 ≤ k ∧ k ≤ 7 ∧ k ≠ kind then s
    else
      let s := i.1
      let refuse := fun (s : State) (res : Nat) =>
        (s.inc KEY_REFUSED_count).keyJournal 0x1105 (res + m.owner * 16 + m.counter * 2 ^ 32)
      if ¬ s.rb KEY_RESULT_done ∨ s.fctl.swapping.isSome then (if s.rb KEY_RESULT_done then (refuse s 1).keyDone 1 else refuse (s.wf KEY_RESULT_result 1) 1)
      else
        let res := if s.jtag.unlocked then 14 else s.updCheck m
        if res ≠ 0 then (refuse s res).keyDone res
        else
          let n := s.newLocker m
          let s1 := n.1
          let fresh := !s1.firstOwner m && s1.recoverOwner m
          let lock := if m.kind = 5 ∨ m.kind = 6 then none else some n.2
          let unmatched := decide (s1.rf KEY_STATUS_state = 2)
          let from_ := if unmatched then ((s1.bestKeySlot (fun _ => true)).map (·.2.lockers)).getD [] else s1.key.lockers
          let img := s1.slotImage (if m.kind = 6 ∧ ¬ unmatched then some m.body else s1.key.mnext)
          let ls := if fresh then [] else match lock with
            | some x => installLocker m.target x from_
            | none => from_
          let ow := if m.kind = 5 then tabSet m.target m.body (if fresh then [] else img.owners) else img.owners
          let slot : KeySlot := { img with
            seq := if unmatched then ((s1.bestKeySlot (fun _ => true)).map (·.2.seq)).getD 0 + 1 else img.seq,
            ctrs := img.ctrs.set m.owner (m.counter), lockers := slotRecords ls, owners := ow,
            recovery := if s1.firstOwner m then some (fitBytes 48 (Config.sha384 m.body)) else img.recovery }
          let c : Commit := ⟨m.kind, m.owner, m.target, m.counter, slot.sealed, lock, if m.kind = 5 then some m.body else none, fresh, s1.firstOwner m⟩
          ((s1.setKey { s1.key with commit := some c }).wf KEY_STATUS_busy 1).wf KEY_RESULT_done 0

/-- The slot that the next write takes: never the one that is open, nor, while none is, the candidate that R371 would take (R367, R368). -/
def State.inactiveSlot (s : State) : Nat :=
  if s.keyOpen then 1 - s.rf KEY_STATUS_slot % 2
  else match s.bestKeySlot (fun _ => true) with
    | some (k, _) => 1 - k
    | none => match s.key.commitBit with
      | some k => 1 - k
      | none => 0

/-- A slot write that failed its read-back: FLASH, 0x110D (R367). -/
def State.slotFailed (s : State) (k : Nat) : State :=
  ((s.putSlot k ((s.keySlot k).map (fun x => { x with valid := false }))).keyJournal 0x110D k).keyDone 12

/-- Steps 3 and 4 of a commit (R367): the counter and the commit bit, on the written slot. A recovery of owner 0 leaves the other slot of the pair
without content (R364). Without VDD_AON there is no commit bit to write. -/
def State.commitBits (s : State) (k : Nat) (c : Commit) : State :=
  let s0 := s.putSlot k (some c.slot)
  let s1 := if c.fresh then s0.putSlot (1 - k) none else s0
  let x := s1.key
  s1.setKey { x with ctrs := x.ctrs.set! c.owner (s1.keyCtr c.owner + 1), commitBit := if s1.pwr.aon then some k else none,
                     recovery := if c.enrol then c.ownerKey.map (fun q => fitBytes 48 (Config.sha384 q)) else x.recovery }

/-- KEY_COMMIT_COMPLETE (R367): the slot write ended, well or not; steps 3 to 5 follow. -/
def State.commitComplete (s : State) (ok : Bool) : State :=
  match s.key.commit with
  | none => s
  | some c =>
    let k := s.inactiveSlot
    let s0 := s.setKey { s.key with commit := none }
    if ¬ ok then s0.slotFailed k
    else
      let s1 := s0.commitBits k c
      let s2 := if c.enrol then s1.wf KEY_STATUS_owner0 1 else s1
      let s3 := (s2.wf KEY_STATUS_slot k).wf KEY_SLOT_SEQ_seq c.slot.seq
      let s4 :=
        if c.kind = 6 ∧ s3.rf KEY_STATUS_state = 2 then s3.keyOpenSlot k c.slot
        else if c.kind = 5 ∧ s3.rf KEY_STATUS_state ≠ 1 ∧ s3.key.unsealed then s3.keyOpenSlot k c.slot
        else
          let y := s3.key
          let ls := match c.locker with
            | some x => installLocker c.target x y.lockers
            | none => y.lockers
          let ls1 := match c.locker with
            | some (some x) =>
              if x.origin = 2 ∧ ¬ s3.cookieLocker c.target then
                tabSet c.target { x with key := deriveKey y.chain ((x.master.bind (fun m => (s3.locker m).map (·.key))).getD []) x.label } ls
              else ls
            | _ => ls
          (s3.setKey { y with lockers := ls1, masks := y.masks.filter (fun e => e.1 ≠ c.target && ls1.any (fun x => decide (x.1 = e.1))), owners := c.slot.owners,
                              mnext := if c.kind = 6 then some c.slot.mnext else y.mnext }).wb KEY_STATUS_prepared
            (decide (c.kind = 6) || s3.rb KEY_STATUS_prepared)
      let s5 := ((s4.inc KEY_APPLIED_count).keyJournal 0x1104 (c.owner + c.kind * 16 + c.target * 256 + c.counter * 2 ^ 32))
      let s6 := if c.kind = 6 then s5.keyJournal 0x1109 (1 + c.slot.seq * 2 ^ 32) else s5
      s6.keyEntries.keyDone 0

/-! ## PREPARE, PIN, AUTHORISE (R373, R374, R378) -/

def State.slotWriteStart (s : State) (w : SlotWrite) : State :=
  ((s.setKey { s.key with write := some w }).wf KEY_STATUS_busy 1).wf KEY_RESULT_done 0

def State.keyPrepare (s : State) (r : Req) : State :=
  s.keyCmd r fun s =>
    if ¬ s.keyOpen then s.keyDone 2
    else
      let i := s.keyIn
      match i.2 with
      | some m => if m.length = 768 then i.1.slotWriteStart ⟨false, (i.1.slotImage (some m)).sealed⟩ else i.1.keyDone 3
      | none => i.1.keyDone 3

def State.keyPin (s : State) (r : Req) : State :=
  s.keyCmd r fun s =>
    if s.key.pend = zeros 48 ∨ s.key.pend = [] then s.keyDone 14
    else if ¬ s.keyOpen then s.keyDone 2
    else s.slotWriteStart ⟨true, ({ s.slotImage s.key.mnext with pin := s.key.pend } : KeySlot).sealed⟩

/-- The slot of a PREPARE or a PIN has been written, or not; the pairing that follows a PIN is in `Twin`. -/
def State.slotWritten (s : State) (w : SlotWrite) (ok : Bool) : State :=
  let k := s.inactiveSlot
  let s0 := s.setKey { s.key with write := none }
  if ¬ ok then s0.slotFailed k
  else
    let s1 := ((s0.putSlot k (some w.slot)).wf KEY_STATUS_slot k).wf KEY_SLOT_SEQ_seq w.slot.seq
    let s2 := s1.setKey { s1.key with commitBit := if s1.pwr.aon then some k else none }
    if w.pin then ((s2.setKey { s2.key with pin := w.slot.pin }).wf KEY_STATUS_pin_mismatch 0).keyJournal 0x110B 0 |>.keyDone 0
    else ((s2.setKey { s2.key with mnext := some w.slot.mnext }).wf KEY_STATUS_prepared 1).keyJournal 0x1109 (w.slot.seq * 2 ^ 32) |>.keyDone 0

def State.keyAuthorise (s : State) (r : Req) (f : Nat) : State :=
  s.keyCmd r fun s =>
    match r with
    | .frond _ =>
      let i := s.keyIn
      match i.2 with
      | some m =>
        if m.length = 48 then
          let t := i.1
          ((t.setKey { t.key with auth := tabSet f (m, t.domNow 0 + 10 * uSec) t.key.auth }).keyJournal 0x1108 f).keyDone 0
        else i.1.keyDone 3
      | none => i.1.keyDone 3
    | _ => s.keyDone 15

def State.authExpire (s : State) (f : Nat) : State :=
  s.setKey { s.key with auth := s.key.auth.filter (fun e => !(decide (e.1 = f) && decide (e.2.2 ≤ s.domNow 0))) }

/-- An authorisation for a SWAP of `f` with measurement `m` is in force. -/
def State.authorised (s : State) (f : Nat) (m : Bytes) : Bool :=
  s.key.auth.any (fun e => decide (e.1 = f) && decide (e.2.1 = m) && decide (s.domNow 0 < e.2.2))

/-- Migration at step 2 of SWAP (R375); before UNSEAL there is no chain to extend (R359). -/
def State.migrate (s : State) (f : Nat) (m : Bytes) : State :=
  let s1 := s.setKey { s.key with manifest := s.key.manifest.set! f m, auth := s.key.auth.filter (fun e => decide (e.1 ≠ f)) }
  let s2 := if s1.key.unsealed then s1.setKey { s1.key with chain := chainExt s1.key.chain f m } else s1
  let d := s2.rederive s2.key.lockers
  ((s2.setKey { s2.key with lockers := d.1, maskAt := s2.now }).remask (fun _ => true)).keyJournal 0x1107 (f + d.2 * 16)

/-! ## Statements on command (R356, R357) -/

def State.keyNonce (s : State) (f : State → Bytes → State) : State :=
  let i := s.keyIn
  match i.2 with
  | some m => if m.length = 32 then f i.1 m else i.1.keyDone 3
  | none => i.1.keyDone 3

def State.keyAttest (s : State) (r : Req) (k : Nat) : State :=
  s.keyCmd r fun s =>
    if ¬ s.keyOpen then s.keyDone 2
    else match s.locker k with
      | none => s.keyDone 14
      | some x => s.keyNonce fun s nonce =>
        let flags := (if x.noexport then 1 else 0) + (if x.p384 then 2 else 0)
        let body := leBytes 2 k ++ [BitVec.ofNat 8 x.attr, BitVec.ofNat 8 x.owner, BitVec.ofNat 8 x.origin, BitVec.ofNat 8 flags] ++
          leBytes 4 (s.keyCtr x.owner) ++ (if x.p384 then fitBytes 97 (Config.p384Pub x.key) else zeros 97) ++ nonce ++ fitBytes 48 s.key.chain
        let m := s.statement 1 body
        m.1.keyOut m.2

def State.keyQuote (s : State) (r : Req) : State :=
  s.keyCmd r fun s =>
    if ¬ s.keyAlive then s.keyDone 2
    else s.keyNonce fun s nonce =>
      let m := s.statement 4 (nonce ++ fitBytes 48 s.key.chain ++ s.manifestBytes ++ (s.key.ctrs.toList.map (leBytes 2)).flatten)
      m.1.keyOut m.2

def State.keyCsr (s : State) (r : Req) : State :=
  s.keyCmd r fun s =>
    if ¬ s.keyAlive then s.keyDone 2
    else
      let i := s.keyIn
      match i.2 with
      | some m =>
        if Config.csrKey m = some idPub then
          let g := i.1.sign idPriv (Config.sha384 m)
          g.1.keyOut g.2
        else i.1.keyDone 10
      | none => i.1.keyDone 10

def State.keyTransport (s : State) (r : Req) : State :=
  s.keyCmd r fun s =>
    if ¬ s.keyAlive then s.keyDone 2
    else
      let m := s.statement 2 transportPub
      m.1.keyOut m.2

/-! ## Descriptor rings (R345, R362) -/

/-- Uses of locker `k` counted toward the re-mask (R369). -/
def State.lockerUsed (s : State) (k : Nat) : State := s.setKey { s.key with uses := tabSet k (tabGet 0 k s.key.uses + 1) s.key.uses }

/-- The 64-byte SIV key of a locker (R361). -/
def sivKey (key : Bytes) : Bytes := fitBytes 64 (Config.hkdf key [] (ascii "siv") 64)

/-- The 16-byte authentication code of a SIGN_ONLY key: 0 HMAC-SHA256-128, 1 AES-CMAC (R332, R362). -/
def authCode (alg : Nat) (key msg : Bytes) : Bytes :=
  fitBytes 16 (if alg = 0 then Config.hmacSha256 key msg else Config.aesCmac key msg)

/-- A commons range. -/
def inRange (off n : Nat) : Bool := decide (off + n ≤ 0x800000)

/-- One use descriptor: its status and its output (R362). -/
def State.useOne (s : State) (d : Bytes) : State × Nat × Bytes :=
  let op := sliceNat d 0 1
  let alg := sliceNat d 1 1
  let k := sliceNat d 2 2 % 1024
  let inp := sliceNat d 4 4
  let len := sliceNat d 8 4
  let out := sliceNat d 12 4
  let tgt := sliceNat d 16 2 % 1024
  let need := fun (attr : Nat) (p : Bool) => match (if s.keyOpen then s.locker k else none) with
    | some x => if x.attr = attr ∧ x.p384 = p ∧ x.key ≠ [] then some x else none
    | none => none
  let load := fun (n : Nat) => s.engLoad 0 inp n
  let lenOk := decide (1 ≤ len) && decide (len ≤ 65536)
  if op = 0 ∨ 7 < op ∨ ((op = 4 ∨ op = 5) ∧ 1 < alg) then (s, 1, [])
  else match op with
    | 1 => match need 1 false with
      | none => (s, 2, [])
      | some x =>
        if lenOk && inRange inp len && inRange out (len + 16) then
          let r := load len
          if r.2.2 then (r.1, 4, []) else (r.1.lockerUsed k, 0, fitBytes (len + 16) (Config.sivSeal (sivKey x.key) [] r.2.1))
        else (s, 3, [])
    | 2 => match need 2 false with
      | none => (s, 2, [])
      | some x =>
        if lenOk && decide (16 ≤ len) && inRange inp len && inRange out (len - 16) then
          let r := load len
          match (if r.2.2 then none else Config.sivOpen (sivKey x.key) [] r.2.1) with
          | some p => (r.1.lockerUsed k, 0, fitBytes (len - 16) p)
          | none => (r.1.lockerUsed k, 4, [])
        else (s, 3, [])
    | 3 => match need 3 false with
      | none => (s, 2, [])
      | some x => match s.locker tgt with
        | none => (s, 2, [])
        | some y =>
          if k = tgt then (s, 2, [])
          else if ¬ inRange out 40 then (s, 3, [])
          else if y.noexport then (s, 5, [])
          else (s.lockerUsed k, 0, fitBytes 40 (Config.kwWrap x.key y.key))
    | 4 => match need 5 false with
      | none => (s, 2, [])
      | some x =>
        if lenOk && inRange inp len && inRange out 16 then
          let r := load len
          if r.2.2 then (r.1, 4, []) else (r.1.lockerUsed k, 0, authCode alg x.key r.2.1)
        else (s, 3, [])
    | 5 => match need 5 false with
      | none => (s, 2, [])
      | some x =>
        if lenOk && inRange inp (len + 16) then
          let r := load (len + 16)
          if ¬ r.2.2 ∧ authCode alg x.key (r.2.1.take len) = r.2.1.drop len then (r.1.lockerUsed k, 0, []) else (r.1.lockerUsed k, 4, [])
        else (s, 3, [])
    | 6 => match need 5 true with
      | none => (s, 2, [])
      | some x =>
        if decide (len = 48) && inRange inp 48 && inRange out 96 then
          let r := load 48
          if r.2.2 then (r.1, 4, [])
          else
            let g := r.1.sign x.key r.2.1
            (g.1.lockerUsed k, 0, g.2)
        else (s, 3, [])
    | _ => match (if s.keyOpen then s.locker k else none) with
      | some x =>
        if ¬ x.p384 then (s, 2, [])
        else if inRange out 97 then (s.lockerUsed k, 0, fitBytes 97 (Config.p384Pub x.key))
        else (s, 3, [])
      | none => (s, 2, [])

/-- The use descriptor at CONS, when its op is `op` or none of R362: executed, its status written, CONS advanced. A SWAP holds it (R146). -/
def State.keyUse (s : State) (op : Nat) : State :=
  let n := 2 ^ s.rf KEY_USE_SIZE_log2n
  let c := s.rf KEY_USE_CONS_index
  if c = s.rf KEY_USE_PROD_index % n ∨ s.fctl.swapping.isSome then s
  else
    let off := s.rf KEY_USE_BASE_base * 128 + 128 * c
    let r := s.engLoad 0 off 128
    let o := sliceNat r.2.1 0 1
    if 1 ≤ o ∧ o ≤ 7 ∧ o ≠ op then s
    else
      let u := if r.2.2 then (r.1, 1, []) else r.1.useOne r.2.1
      let s1 := if u.2.1 = 0 then u.1.engStore 0 (sliceNat r.2.1 12 4) u.2.2 else u.1
      let s2 := (s1.engStore 0 (off + 124) (leBytes 4 u.2.1)).wf KEY_USE_CONS_index ((c + 1) % n)
      let s3 := if u.2.1 = 0 then s2 else s2.keyJournal 0x110E (c + u.2.1 * 1024)
      s3.assertSrc 29 (s3.domNow 0)

/-! ## TRNG, re-masking (R354, R369) -/

def State.trngReseed (s : State) : State :=
  if ¬ s.rb KEY_STATUS_trng_fail ∧ (s.key.seedAt + uSec ≤ s.now ∨ 2 ^ 20 ≤ s.key.reqs) then
    s.setKey { s.key with seeds := s.key.seeds + 1, draws := 0, reqs := 0, seedAt := s.now }
  else s

def State.trngFail (s : State) (test : Bool) : State :=
  if s.rb KEY_STATUS_trng_fail then s
  else (s.wf KEY_STATUS_trng_fail 1).keyJournal 0x110C (if test then 1 else 0)

/-- KEY_REMASK (R369): every locker each 10 s, and a locker after 2²⁰ uses. -/
def State.keyRemask (s : State) : State :=
  let due := fun (k : Nat) => decide (2 ^ 20 ≤ tabGet 0 k s.key.uses)
  if s.key.maskAt + 10 * uSec ≤ s.now then (s.setKey { s.key with maskAt := s.now }).remask (fun _ => true)
  else if s.key.uses.any (fun e => due e.1) then s.remask due
  else s

/-! ## Power failure during a commit (R368) -/

/-- PFAIL_N or a loss of power during a commit or a slot write. `step3` says whether the antifuse increment has begun;
`warned`, whether the engine completes steps 3 and 4. -/
def State.commitCut (s : State) (step3 warned : Bool) : State :=
  let k := s.inactiveSlot
  match s.key.commit with
  | some c =>
    let s1 := s.setKey { s.key with commit := none, write := none }
    if ¬ step3 then s1.putSlot k (some { c.slot with valid := !warned })
    else if warned then s1.commitBits k c
    else
      let s2 := s1.commitBits k c
      s2.setKey { s2.key with commitBit := s.key.commitBit }
  | none =>
    match s.key.write with
    | some _ => (s.setKey { s.key with write := none }).putSlot k ((s.keySlot k).map (fun x => { x with valid := false }))
    | none => s

/-! ## Pairing (R376 to R378) -/

/-- The designated pair locker. -/
def State.pairLocker (s : State) : Option (Nat × Locker) := s.key.lockers.find? (fun e => decide (e.2.origin = 3))

/-- A PAIR statement verifies under the identity key it comes with (R356, R377). -/
def pairStmtOk (p : PairMsg) : Bool :=
  let h := fitBytes 48 (Config.sha384 p.pub)
  decide (p.stmt.length = 321) && decide (slice p.stmt 0 8 = ascii "NYXSTMT" ++ [0]) && decide (slice p.stmt 8 8 = 3 :: zeros 7) &&
  decide (slice p.stmt 16 48 = h) && Config.ecdsaVerify p.pub (Config.sha384 (p.stmt.take 225)) (slice p.stmt 225 96)

/-- Lower and higher of two identity hashes, as big-endian numbers. -/
def hashPair (a b : Bytes) : Bytes := if ofBeBytes a ≤ ofBeBytes b then a ++ b else b ++ a

/-- The engine's own ephemeral key and PAIR statement, drawn and sent once at a link-up (R377). -/
def State.pairSend (s : State) : State :=
  if s.key.sent.isSome then s
  else
    let r := s.draw 48
    let d := scalarOf r.2
    let m := r.1.statement 3 (fitBytes 97 (Config.p384Pub d) ++ fitBytes 48 r.1.key.chain)
    m.1.setKey { m.1.key with eph := d, sent := some ⟨idPub, m.2⟩ }

/-- One attempt to pair with the partner's message: 0 paired, 1 pin mismatch, 2 bad statement, 3 no pair locker. -/
def State.pairTry (s : State) (p : PairMsg) : State :=
  let fail := fun (s : State) (c : Nat) => (s.wf KEY_STATUS_pair_ok 0).keyJournal 0x110A c
  match (if s.keyOpen then s.pairLocker else none) with
  | none => fail s 3
  | some (k, x) =>
    let s := s.pairSend
    let h := fitBytes 48 (Config.sha384 p.pub)
    if ¬ pairStmtOk p then fail s 2
    else if h ≠ s.key.pin ∨ s.key.pin = zeros 48 then fail ((s.setKey { s.key with pend := h }).wf KEY_STATUS_pin_mismatch 1) 1
    else
      let kp := fitBytes 32 (Config.hkdf (Config.ecdhX s.key.eph (slice p.stmt 64 97)) (hashPair idHash h) (ascii "nyxel pair") 32)
      let s1 := s.setKey { s.key with lockers := tabSet k { x with key := kp } s.key.lockers }
      ((s1.wf KEY_STATUS_pair_ok 1).wf KEY_STATUS_pin_mismatch 0).keyJournal 0x110A 0

/-! ## Meanings -/

def execKeyUnseal (r : Req) (s : State) : Result := .next (s.whenUp (s.keyUnseal r))
def execKeyUpdateImport (r : Req) (s : State) : Result := .next (s.whenUp (s.keyApply r 1))
def execKeyUpdateGenerate (r : Req) (s : State) : Result := .next (s.whenUp (s.keyApply r 2))
def execKeyUpdateDerive (r : Req) (s : State) : Result := .next (s.whenUp (s.keyApply r 3))
def execKeyUpdateErase (r : Req) (s : State) : Result := .next (s.whenUp (s.keyApply r 4))
def execKeyUpdateOwner (r : Req) (s : State) : Result := .next (s.whenUp (s.keyApply r 5))
def execKeyUpdateReseal (r : Req) (s : State) : Result := .next (s.whenUp (s.keyApply r 6))
def execKeyUpdatePair (r : Req) (s : State) : Result := .next (s.whenUp (s.keyApply r 7))
def execKeyCommitComplete (ok : Bool) (s : State) : Result := .next (s.whenUp (s.commitComplete ok))
def execKeyAuthorise (r : Req) (f : Fin 16) (s : State) : Result := .next (s.whenUp (s.keyAuthorise r f.val))
def execKeyAuthoriseExpire (f : Fin 16) (s : State) : Result := .next (s.whenUp (s.authExpire f.val))
def execKeyPrepare (r : Req) (s : State) : Result := .next (s.whenUp (s.keyPrepare r))
def execKeyAttest (r : Req) (k : Fin 1024) (s : State) : Result := .next (s.whenUp (s.keyAttest r k.val))
def execKeyQuote (r : Req) (s : State) : Result := .next (s.whenUp (s.keyQuote r))
def execKeyCsr (r : Req) (s : State) : Result := .next (s.whenUp (s.keyCsr r))
def execKeyTransport (r : Req) (s : State) : Result := .next (s.whenUp (s.keyTransport r))
def execKeyPin (r : Req) (s : State) : Result := .next (s.whenUp (s.keyPin r))
def execKeyUseSeal (s : State) : Result := .next (s.whenUp (s.keyUse 1))
def execKeyUseOpen (s : State) : Result := .next (s.whenUp (s.keyUse 2))
def execKeyUseWrap (s : State) : Result := .next (s.whenUp (s.keyUse 3))
def execKeyUseMac (s : State) : Result := .next (s.whenUp (s.keyUse 4))
def execKeyUseVerify (s : State) : Result := .next (s.whenUp (s.keyUse 5))
def execKeyUseSign (s : State) : Result := .next (s.whenUp (s.keyUse 6))
def execKeyUsePubkey (s : State) : Result := .next (s.whenUp (s.keyUse 7))
def execKeyRemask (s : State) : Result := .next (s.whenUp s.keyRemask)
def execTrngReseed (s : State) : Result := .next (s.whenUp s.trngReseed)
def execTrngHealthFail (test : Bool) (s : State) : Result := .next (s.whenUp (s.trngFail test))

end Sys2Proof.Machine
end

