-- ==== Sys2Proof/Machine/Filter.lean ====
section
/-!
DEFINITION. The arithmetic of the servo's filter (R237, R238): states with 48 fraction bits, covariance terms with a
64-bit mantissa, products formed exactly and rounded to nearest even.
-/

namespace Sys2Proof.Machine
open Sys2Proof

/-- 2⁴⁸, the scale of the filter's states. -/
def fp48 : Int := 281474976710656

/-- A count of units as ps with 48 fraction bits: exact, since 1 unit is 125/8192 ps. -/
def psOfUnits (u : Int) : Int := u * 125 * 34359738368

/-- The nearest integer to a/b for b > 0, ties to even. -/
def rne (a b : Int) : Int :=
  let q := a / b
  let r := a % b
  if 2 * r < b then q else if 2 * r > b then q + 1 else if q % 2 = 0 then q else q + 1

/-- m × 2ᵉ brought to a mantissa of exactly 64 bits, rounded to nearest even; zero is 0 × 2⁰. -/
def Flt.norm (m e : Int) : Flt :=
  if m = 0 then ⟨0, 0⟩
  else
    let l := Nat.log2 m.natAbs + 1
    if l ≤ 64 then ⟨m * ((2 ^ (64 - l) : Nat) : Int), e - ((64 - l : Nat) : Int)⟩
    else
      let k := l - 64
      let q := rne m.natAbs ((2 ^ k : Nat) : Int)
      let q' : Int := if q = ((2 ^ 64 : Nat) : Int) then ((2 ^ 63 : Nat) : Int) else q
      let e' := e + k + (if q = ((2 ^ 64 : Nat) : Int) then 1 else 0)
      ⟨if m < 0 then -q' else q', e'⟩

def Flt.zero : Flt := ⟨0, 0⟩
def Flt.ofInt (z : Int) : Flt := Flt.norm z 0
/-- A state value with 48 fraction bits. -/
def Flt.ofFp (z : Int) : Flt := Flt.norm z (-48)
/-- a/b for b > 0, to 64 bits. -/
def Flt.ofRat (a : Int) (b : Nat) : Flt :=
  let q : Int := (a.natAbs * 2 ^ (130 + Nat.log2 b)) / b
  let st : Int := if (a.natAbs * 2 ^ (130 + Nat.log2 b)) % b = 0 then 0 else 1
  Flt.norm ((if a < 0 then -1 else 1) * (2 * q + st)) (-(131 + (Nat.log2 b : Int)))

def Flt.add (x y : Flt) : Flt :=
  if x.m = 0 then y else if y.m = 0 then x
  else
    let e := min x.e y.e
    Flt.norm (x.m * ((2 ^ (x.e - e).toNat : Nat) : Int) + y.m * ((2 ^ (y.e - e).toNat : Nat) : Int)) e

def Flt.neg (x : Flt) : Flt := ⟨-x.m, x.e⟩
def Flt.sub (x y : Flt) : Flt := x.add y.neg
def Flt.mul (x y : Flt) : Flt := Flt.norm (x.m * y.m) (x.e + y.e)

/-- Quotient by a positive value; 0 for a zero divisor, which S of R238 never is while R_MIN or u is not 0. -/
def Flt.div (x y : Flt) : Flt :=
  if y.m = 0 then Flt.zero
  else
    let n := x.m.natAbs * 2 ^ 130
    let q : Int := (n / y.m.natAbs : Nat)
    let st : Int := if n % y.m.natAbs = 0 then 0 else 1
    let sgn : Int := if (x.m < 0) = (y.m < 0) then 1 else -1
    Flt.norm (sgn * (2 * q + st)) (x.e - y.e - 131)

/-- Division by a small natural number. -/
def Flt.divNat (x : Flt) (k : Nat) : Flt := x.div (Flt.ofInt k)

/-- m × 2^(e + k), rounded up. -/
def Flt.ceilScale (x : Flt) (k : Int) : Int :=
  let e := x.e + k
  if e ≥ 0 then x.m * ((2 ^ e.toNat : Nat) : Int) else -((-x.m) / ((2 ^ (-e).toNat : Nat) : Int))

/-- g × ν for a state value ν, rounded to nearest even. -/
def Flt.mulFp (g : Flt) (nu : Int) : Int :=
  if g.e ≥ 0 then g.m * nu * ((2 ^ g.e.toNat : Nat) : Int) else rne (g.m * nu) ((2 ^ (-g.e).toNat : Nat) : Int)

/-- √x as a value with 48 fraction bits, rounded up; a negative x reads 0. -/
def Flt.sqrtFp (x : Flt) : Nat := if x.m ≤ 0 then 0 else isqrtUp (x.ceilScale 96).toNat

/-- |ν| > L + (k/16) × √S, decided exactly: ν with 48 fraction bits, L in ps. -/
def exceeds (nu : Int) (l k : Nat) (s : Flt) : Bool :=
  let d : Int := (nu.natAbs : Int) - (l : Int) * fp48
  if d ≤ 0 then false
  else
    let e := s.e + 96
    if e ≥ 0 then decide (d * d * 256 > (k * k : Nat) * s.m * ((2 ^ e.toNat : Nat) : Int))
    else decide (d * d * 256 * ((2 ^ (-e).toNat : Nat) : Int) > (k * k : Nat) * s.m)

/-- A noise register: a 24-bit mantissa and a signed 8-bit exponent (R237). -/
def Flt.ofNoise (m e : Nat) : Flt := Flt.norm m (toSigned 8 e)

/-- The states propagated over `dt` units (R237): the new r and y. -/
def propR (r y a dt : Int) : Int := r + rne (y * dt * 2 * uSec + a * dt * dt) (2 * uSec * uSec)
def propY (y a dt : Int) : Int := y + rne (a * dt) uSec

def Cov.zero : Cov := ⟨Flt.zero, Flt.zero, Flt.zero, Flt.zero, Flt.zero, Flt.zero⟩

/-- P ← F P Fᵀ + Q over `dt` seconds (R237). -/
def Cov.predict (p : Cov) (dt qx qy qa : Flt) : Cov :=
  let h := dt.mul dt
  let c := h.mul dt
  let q4 := c.mul dt
  let q5 := q4.mul dt
  let hh := h.divNat 2
  let p11 := ((((p.p11.add ((p.p12.mul dt).mul (Flt.ofInt 2))).add (p.p13.mul h)).add (p.p22.mul h)).add
    (p.p23.mul c)).add ((p.p33.mul q4).divNat 4)
  let p12 := (((p.p12.add (p.p13.mul dt)).add (p.p22.mul dt)).add ((p.p23.mul h).add (p.p23.mul hh))).add ((p.p33.mul c).divNat 2)
  let p13 := (p.p13.add (p.p23.mul dt)).add (p.p33.mul hh)
  let p22 := (p.p22.add ((p.p23.mul dt).mul (Flt.ofInt 2))).add (p.p33.mul h)
  let p23 := p.p23.add (p.p33.mul dt)
  { p11 := ((p11.add (qx.mul dt)).add ((qy.mul c).divNat 3)).add ((qa.mul q5).divNat 20),
    p12 := (p12.add ((qy.mul h).divNat 2)).add ((qa.mul q4).divNat 8),
    p13 := p13.add ((qa.mul c).divNat 6),
    p22 := (p22.add (qy.mul dt)).add ((qa.mul c).divNat 3),
    p23 := p23.add ((qa.mul h).divNat 2),
    p33 := p.p33.add (qa.mul dt) }

/-- A diagonal term that has become negative is 0 (R238). -/
def Flt.nonneg (x : Flt) : Flt := if x.m < 0 then Flt.zero else x

/-- P − g × (row of the observed state), symmetric (R238). `g` and `row` as (1, 2, 3). -/
def Cov.update (p : Cov) (g row : Flt × Flt × Flt) : Cov :=
  { p11 := (p.p11.sub (g.1.mul row.1)).nonneg,
    p12 := p.p12.sub (g.1.mul row.2.1),
    p13 := p.p13.sub (g.1.mul row.2.2),
    p22 := (p.p22.sub (g.2.1.mul row.2.1)).nonneg,
    p23 := p.p23.sub (g.2.1.mul row.2.2),
    p33 := (p.p33.sub (g.2.2.mul row.2.2)).nonneg }

/-- A value as its 96-bit register holds it: one outside the range is a free value (R238, log 60). -/
def fit96 (z : Int) : Int := if -2 ^ 95 ≤ z ∧ z < 2 ^ 95 then z else (Config.wideState z).toInt

/-- A covariance term with its 32-bit exponent: one outside the range is a free value (R238, log 60). -/
def Flt.fit (x : Flt) : Flt :=
  if -2 ^ 31 ≤ x.e ∧ x.e < 2 ^ 31 then x else ⟨(Config.wideMantissa x.m x.e).toInt, (Config.wideExponent x.m x.e).toInt⟩

def Cov.fit (p : Cov) : Cov := ⟨p.p11.fit, p.p12.fit, p.p13.fit, p.p22.fit, p.p23.fit, p.p33.fit⟩

/-- The row and column of the ageing state held at 0 (R237). -/
def Cov.noAge (p : Cov) : Cov := { p with p13 := Flt.zero, p23 := Flt.zero, p33 := Flt.zero }

end Sys2Proof.Machine
end

