-- ==== Sys2Proof/Machine/Servo.lean ====
section
/-!
DEFINITION. The servo (R232 to R260): its frame, the filter, slews and the budget of a second, step refusal, the word of
each millisecond, the traceable bound and the class state.
-/

namespace Sys2Proof.Machine
open Sys2Proof Reg

def State.setSrv (s : State) (v : SrvState) : State := { s with srv := v }

/-- The mode: 0 FREE, 1 TRACK, 2 FREQ, 3 HOLD. -/
def State.mode (s : State) : Nat := s.rf SRV_STATUS_mode

/-- The slew limit in ps/s: a new value takes effect at a strobe (R244, R259). -/
def State.slewMax (s : State) : Nat := max 1 (min 1000000 s.srv.slewLim)

/-- A rate in ps/s as a rate word (R165). -/
def slewWord (r : Nat) : Nat := 65536 * r

/-- K of R238 in sixteenths. -/
def State.boundK (s : State) : Nat := max 16 (s.rf SRV_BOUND_K_k)

/-- The spine second: the strobe that has just fired is that of a whole second. -/
def State.atSecond (s : State) : Bool := s.tm.run && decide (s.now = s.tm.lastStrobe) && decide (s.now % uSec / uMs = 0)

/-! ## The frame (R233) -/

/-- Steering and foreign sums at an instant by the key `k`: exact at the marks of the history, and on the line between two of them.
An instant ahead of the present takes the present sums. -/
def histAt (k : SumMark → Int) : List SumMark → SumMark → Int → Int × Int
  | [], hi, _ => (hi.steer, hi.foreign)
  | lo :: rest, hi, t =>
    if k hi ≤ t then (hi.steer, hi.foreign)
    else if k lo ≤ t then
      (lo.steer + (hi.steer - lo.steer) * (t - k lo) / (k hi - k lo), lo.foreign + (hi.foreign - lo.foreign) * (t - k lo) / (k hi - k lo))
    else histAt k rest lo t

/-- What the DCO and a slew hold below one unit, in parts of `dcoOne` (R70). -/
def TimeState.frac (t : TimeState) : Int :=
  t.dcoRes + match t.slew with
    | some x => if x.remaining = 0 then 0 else if x.remaining > 0 then (x.acc : Int) else -(x.acc : Int)
    | none => 0

/-- The present point of the history. -/
def State.mark (s : State) : SumMark := ⟨s.now, s.raw, s.tm.steer, s.tm.foreign, s.tm.frac⟩

/-- The present sums join the history: at strobes, at slew ends and at steps. -/
def State.addMark (s : State) : State := s.setSrv { s.srv with sigHist := s.mark :: s.srv.sigHist }

def State.sumsAt (s : State) (t : Int) : Int × Int := histAt SumMark.at_ s.srv.sigHist s.mark t

/-- The Tally sum at a stamp, in the ruler of the present timebase (R209). -/
def State.totalAt (s : State) (t : Int) : Int :=
  let h := s.sumsAt t
  s.tm.total - (s.tm.steer - h.1) - (s.tm.foreign - h.2)

/-- The nearest bin of a raw position, ties toward zero. -/
def binOf (x : Int) : Int := if x < 0 then -((((x.natAbs + 31) / 64 : Nat)) : Int) else (((x.natAbs + 31) / 64 : Nat) : Int)

/-- The two points of the history that raw time `x` lies between; both are the newest one at or below it where there is none above. -/
def histAround : List SumMark → SumMark → Int → SumMark × SumMark
  | [], hi, _ => (hi, hi)
  | lo :: rest, hi, x =>
    if hi.raw ≤ x then (hi, hi)
    else if lo.raw ≤ x then (lo, hi)
    else histAround rest lo x

/-- The sum of a point of the history in parts of `dcoOne`, with the residual below a unit. -/
def SumMark.sum (m : SumMark) : Int := (m.steer + m.foreign) * dcoOne + m.frac

/-- The refined stamp of a past raw instant (R63): by the rates of the present tick while they have been in force since, and on the line between the
two points of the history around it before; rounded once, to the nearest unit, with ties toward the earlier value. -/
def State.spineOf (s : State) (x : Int) : Int :=
  if s.srv.sigHist.head?.any (fun m => decide (x < m.raw)) then
    let r := 64 * binOf x
    let p := histAround s.srv.sigHist s.mark r
    let span := p.2.raw - p.1.raw
    let base := (r + s.tm.total) * dcoOne + s.tm.frac - (s.mark.sum - p.1.sum)
    if span ≤ 0 then roundHalfDown base dcoOne
    else roundHalfDown (base * span + (p.2.sum - p.1.sum) * (r - p.1.raw)) (dcoOne * span)
  else s.refine (binOf x)

/-- σ now, in units. -/
def State.sigma (s : State) : Int := s.tm.steer - s.srv.sigBase

/-- The part of an open SLEW entry of source 1 or 2 that B does not hold yet (R218). -/
def TimeState.openForeign (t : TimeState) : Int := if t.slewSource = 0 then 0 else t.slewAmt

/-- B now, with the open part of a foreign slew. -/
def State.buildout (s : State) : Int := s.rs 64 RCL_BUILDOUT_b + s.tm.openForeign

/-- B at a stamp: every change of B since is foreign (R218). -/
def State.buildoutAt (s : State) (t : Int) : Int := s.buildout - (s.tm.foreign - (s.sumsAt t).2)

/-- r propagated to a time (R237). -/
def State.rAt (s : State) (t : Int) : Int := propR s.srv.r s.srv.y s.srv.a (t - s.srv.sk)

/-- p now, in 2⁻⁴⁸ ps (R233). -/
def State.phase (s : State) : Int := s.rAt s.now + psOfUnits s.sigma

/-- What the running slew of a source class adds in the next millisecond. -/
def State.slewAhead (s : State) (servo : Bool) : Int :=
  match s.tm.slew with
  | some x =>
    if (x.source = 0) = servo then
      let d := min ((min x.rate x.rateCap : Nat) * 1000000 / dcoOne) (absNat x.remaining)
      if x.remaining ≥ 0 then d else -d
    else 0
  | none => 0

/-- p one millisecond ahead, with the word held and the servo's slew going on. -/
def State.phaseAhead (s : State) : Int :=
  s.rAt (s.now + uMs) + psOfUnits (s.sigma + s.word * 1000000 / dcoOne + s.slewAhead true)

/-- 2⁻⁴⁸ ps as whole units, toward minus infinity. -/
def unitsOfFp (z : Int) : Int := z * 8192 / (125 * fp48)

/-! ## The budget of a second (R244); phases in units × 10⁻⁶, that is 2⁻¹⁶ × 10⁻³ ps -/

/-- The millisecond of the present spine second. -/
def State.msOf (s : State) : Int := s.now % uSec / uMs

def State.budget (s : State) : Int := (s.slewMax : Int) * 65536000

/-- Phase of the slews of this second. -/
def State.budSlews (s : State) : Int := (s.tm.slewSum - s.srv.budSlew) * 1000000

/-- φ projected to the next spine second with the word held, and no slew from now on. -/
def State.budProjected (s : State) : Int :=
  s.budSlews + s.srv.budWord + (s.word - s.srv.budW0) * (1000 - s.msOf)

/-- The rate, as a rate word, that the word leaves to a slew of a sign for the rest of the second. -/
def State.rateLeft (s : State) (neg : Bool) : Nat :=
  let head := if neg then s.budget + s.budProjected else s.budget - s.budProjected
  (head * uSec / (1000 * (uSec - s.now % uSec))).toNat

/-! ## Slews -/

/-- A slew of `total` units at the rate word `rate` begins, within the budget; a servo slew that runs ends first (R121, R219, R242). -/
def State.slewStart (s : State) (total : Int) (rate source frond : Nat) : State :=
  let s1 := ((if s.tm.slew.isSome then s.slewCut else s).addMark).slewBegin total rate source frond
  s1.setTm { s1.tm with slew := s1.tm.slew.map (fun x => { x with rateCap := s1.rateLeft (decide (total < 0)) }) }

/-- The servo's slew ends where it stands (R242). -/
def State.servoSlewCut (s : State) : State :=
  if s.rb SRV_STATUS_slewing then (s.slewCut.addMark).wf SRV_STATUS_slewing 0 else s

/-- A slew toward p = 0, by the policy of R242. -/
def State.slewPlan (s : State) : State :=
  let p := s.phase
  let ps := p.natAbs
  if s.mode = 2 ∨ s.mode = 3 ∨ s.rb SRV_STATUS_paused ∨ (ps : Int) < (s.rf SRV_DEADBAND_ps : Int) * fp48 then s
  else
    let u : Int := (ps : Int) * 8192 / (125 * fp48)
    let tc := max 1 (s.rf SRV_PHASE_TC_secs)
    let rate := max (slewWord 1) (min (slewWord s.slewMax) (ps / 2 ^ 32 / tc))
    if u = 0 then s else (s.slewStart (if p > 0 then -u else u) rate 0 0).wf SRV_STATUS_slewing 1

/-! ## The filter (R237 to R239) -/

def State.qx (s : State) : Flt := Flt.ofNoise (s.rf SRV_QX_m) (s.rf SRV_QX_e)
def State.qy (s : State) : Flt := Flt.ofNoise (s.rf SRV_QY_m) (s.rf SRV_QY_e)
def State.qa (s : State) : Flt := Flt.ofNoise (s.rf SRV_QA_m) (s.rf SRV_QA_e)

/-- A span of units in seconds. -/
def secsFlt (u : Int) : Flt := Flt.ofRat u uSec.toNat

/-- The ageing state and the covariance as SRV_CTL.age_est lets them stand (R237). -/
def State.agePart (s : State) (a : Int) (c : Cov) : Int × Cov := if s.rb SRV_CTL_age_est then (fit96 a, c.fit) else (0, c.noAge.fit)

/-- The state and covariance propagated to a stamp. -/
def State.predictTo (s : State) (t : Int) : State :=
  let v := s.srv
  let dt := t - v.sk
  let p := s.agePart v.a (v.cov.predict (secsFlt dt) s.qx s.qy s.qa)
  s.setSrv { v with r := fit96 (s.rAt t), y := fit96 (propY v.y v.a dt), a := p.1, sk := t, cov := p.2 }

/-- max(u, R_MIN) in ps. -/
def State.uncOf (s : State) (u : Nat) : Nat := max u (s.rf SRV_R_MIN_ps)

/-- The initial covariance of R239. -/
def State.covInit (s : State) (u : Nat) : Cov :=
  let n := s.uncOf u
  let ia := s.rf SRV_INIT_A_ppt_d
  let iy := s.rf SRV_INIT_Y_ppt
  let c : Cov := { Cov.zero with p11 := Flt.ofRat ((n * n : Nat) : Int) 9, p22 := Flt.ofInt ((iy * iy : Nat) : Int),
                                 p33 := Flt.ofRat ((ia * ia : Nat) : Int) (86400 * 86400) }
  if s.rb SRV_CTL_age_est then c else c.noAge

/-- The update of R238 by an innovation: `row` is the row of the observed state and `sv` its variance S. -/
def State.gain (s : State) (row : Flt × Flt × Flt) (sv : Flt) (nu : Int) : State :=
  let v := s.srv
  let g : Flt × Flt × Flt := (row.1.div sv, row.2.1.div sv, row.2.2.div sv)
  let p := s.agePart (v.a + g.2.2.mulFp nu) (v.cov.update g row)
  s.setSrv { v with r := fit96 (v.r + g.1.mulFp nu), y := fit96 (v.y + g.2.1.mulFp nu), a := p.1, cov := p.2 }

/-- √x in a register unit, rounded up and saturated: `num/den` register units per unit of √x. -/
def sigmaReg (x : Flt) (num : Nat) : Nat := min 0xFFFFFFFF (ceilDiv (x.sqrtFp * num) (2 ^ 48))

/-- The registers that show the filter (R259). -/
def State.srvShow (s : State) : State :=
  let v := s.srv
  ((((s.ws SRV_FREQ_EST_y (satSigned 48 (rne v.y 4294967296))).ws SRV_AGE_EST_a (satSigned 48 (rne (v.a * 86400) 4294967296))).wf
    SRV_SIGMA_X_ps (sigmaReg v.cov.p11 1)).wf SRV_SIGMA_Y_y (sigmaReg v.cov.p22 65536)).wf
    SRV_SIGMA_A_a (sigmaReg v.cov.p33 (65536 * 86400))

/-! ## The bound (R252 to R255) -/

/-- The advertised bound b_r of a slot (R252, R286, R339). -/
def State.advBound (s : State) (n : Nat) : Nat :=
  let k := s.rf RCLn_CFG_kind n
  let src := s.rf RCLn_CFG_src n
  if k ≤ 3 then s.rf RCLn_ADV_BOUND_ps n
  else if k = 4 then s.rf TSV_UPu_BOUND_ps src
  else if k = 6 then s.rf GNS_SOLa_BOUND_ps src
  else if k = 7 then s.rf GNS_SOLa_BOUND_ps 4
  else 0xFFFFFFFF

/-- G of R253 over `dt` units, in 2⁻⁴⁸ ps, each term rounded up. -/
def State.growth (s : State) (p22 p33 : Flt) (dt : Int) : Int :=
  let k := s.boundK
  let y : Int := ((ceilDiv (p22.sqrtFp * k) 16 : Nat) : Int) + s.rs 48 SRV_Y_FLOOR_y * 4294967296
  let a : Int := ((ceilDiv (p33.sqrtFp * k) 16 : Nat) : Int) - (-(s.rs 48 SRV_A_FLOOR_a * 4294967296)) / 86400
  let d := secsFlt dt
  let c := (d.mul d).mul d
  let q := ((s.qx.mul d).add ((s.qy.mul c).divNat 3)).add (((s.qa.mul c).mul (d.mul d)).divNat 20)
  ((0 - (-(y * dt)) / uSec) - (-(a * dt * dt)) / (2 * uSec * uSec)) + ((ceilDiv (q.sqrtFp * k) 16 : Nat) : Int)

/-- H of R253 at a time, in 2⁻⁴⁸ ps. -/
def State.failoverTerm (s : State) (hits : List Int) (t : Int) : Int :=
  hits.foldl (fun acc f => acc + ((max 5 (s.rf SYN_XMON_WIN_win) : Nat) + 5 : Int) * fp48 - (-(5 * fp48 * (t - f))) / uSec) 0

/-- W of R224 at a raw time, in 2⁻⁴⁸ ps: the largest of the selected slot's disputes. -/
def State.disputeTerm (s : State) (raw : Int) : Int :=
  let win : Int := ((if s.rf RCL_DISPUTE_LIMIT_win = 0 then 100 else s.rf RCL_DISPUTE_LIMIT_win : Nat) : Int)
  s.rcl.disputes.foldl (fun m d =>
    if d.a = s.selected ∨ d.b = s.selected then
      max m (-((-((d.d : Int) * 4294967296 * (win * uSec + (raw - d.since)))) / uSec))
    else m) 0

/-- b of R252 at a time, in 2⁻⁴⁸ ps, for given p (or the larger of two), B and W. -/
def State.boundAt (s : State) (an : Anchor) (t : Int) (ps : List Int) (bs : List Int) (w : Int) : Int :=
  let top : (Int → Int) → List Int → Int := fun f l => l.foldl (fun m x => max m (f x)) 0
  let p := top (fun x => ((x - an.p0).natAbs : Int)) ps
  let b := top (fun x => psOfUnits ((x - an.b0).natAbs : Int)) bs
  an.base + p + b + (if an.rel then max 0 (w - an.w0) else w) + s.growth an.p22 an.p33 (t - an.stamp) + s.failoverTerm an.hits t

/-- 2⁻⁴⁸ ps as the published figure: rounded up, 0xFFFF_FFFF past the range (R12). -/
def boundFig (z : Int) : Nat :=
  let n := (-((-z) / fp48)).toNat
  if n > 4294967294 then 0xFFFFFFFF else n

/-- The bound for the coming millisecond: b at the next strobe, with the larger p and B of the two strobes (R254, R255). -/
def State.boundNext (s : State) : Nat :=
  match s.srv.anchor with
  | none => 0xFFFFFFFF
  | some an =>
    if s.mode = 0 ∨ s.srv.sat ∨ (s.rb SRV_CTL_direct ∧ s.selected = 63) ∨ s.rb SYS_FATAL_clock ∨ s.rb SYS_FATAL_ecc_time then 0xFFFFFFFF
    else
      boundFig (s.boundAt an (s.now + uMs) [s.phase, s.phaseAhead] [s.buildout, s.buildout + s.slewAhead false]
        (s.disputeTerm (s.raw + uMs)))

/-- An anchor set at a stamp: the saturation of holdover ends (R255). -/
def State.setAnchor (s : State) (an : Anchor) : State :=
  (s.setSrv { s.srv with anchor := some an, sat := false }).wf SRV_LAST_FEED_time (packTime an.feedAt)

/-! ## Feeds (R234 to R239, R245, R246) -/

/-- A refused feed (R245, R246). -/
def State.feedRefuse (s : State) (slot : Nat) (nu : Int) (u : Nat) : State :=
  let s1 := ((s.inc SRV_REFUSED_count).wf SRV_STATUS_step_refused 1).journal 1 0x0D00 0x0D01
    ((if slot = 255 then 31 else slot) + ofSigned 48 (satSigned 48 (unitsOfFp nu)) * 2 ^ 16)
  let b := s1.rf SRV_BOUND_ps
  let one : RefRun := ⟨1, nu, nu, nu, u⟩
  let run := match s1.srv.run with
    | none => one
    | some x =>
      let y : RefRun := ⟨x.count + 1, min x.lo nu, max x.hi nu, x.sum + nu, max x.maxU u⟩
      if b = 0xFFFFFFFF ∨ y.hi - y.lo ≤ ((b + 2 * y.maxU : Nat) : Int) * fp48 then y else one
  let s2 := (s1.setSrv { s1.srv with run := some run }).wf SRV_STATUS_run (min 255 run.count)
  let need := max 1 (s2.rf SRV_STEP_CONFIRM_count)
  let j := run.sum * 8192 / (125 * fp48 * run.count)
  if run.count < need then s2
  else
    let s3 := s2.ws SRV_CANDIDATE_j (satSigned 64 j)
    if run.count = need ∨ ¬ s3.rb SRV_STATUS_candidate then
      ((s3.wf SRV_STATUS_candidate 1).alarmBit SRV_ALARM_candidate_step 21).journal 1 0x0D00 0x0D02 (s3.rf SRV_CANDIDATE_j)
    else s3

/-- A used feed's bookkeeping: counts, the end of a refused run, the anchor, and a new slew (R238, R242, R245, R252). -/
def State.feedAccept (s : State) (br u : Nat) (stamp nupost : Int) : State :=
  let s1 := (((s.inc SRV_ACCEPTED_count).wf SRV_STATUS_step_refused 0).wf SRV_STATUS_run 0).wf SRV_STATUS_candidate 0
  let s2 := s1.setSrv { s1.srv with lastFeed := some stamp, timeFed := true, run := none,
                                    switches := s1.srv.switches.filter (fun f => decide (stamp < f)) }
  let s3 := s2.setAnchor ⟨stamp, stamp, ((br + s2.uncOf u : Nat) : Int) * fp48 + (nupost.natAbs : Int), s2.srv.cov.p22, s2.srv.cov.p33,
    s2.srv.switches, false, 0, 0, 0⟩
  (s3.srvShow).servoSlewCut.slewPlan

/-- A time feed that the filter uses (R235, R238, R239): the offset in units, its stamp, its uncertainty in ps. -/
def State.servoTime (s : State) (slot : Nat) (ofs stamp : Int) (u : Nat) : State :=
  if s.srv.lastFeed.any (fun t => decide (stamp < t)) ∨ s.now + uMs < stamp then s.inc SRV_STALE_count
  else
    let h := s.sumsAt stamp
    let f := ofs - (if slot = 255 then 0 else s.buildoutAt stamp)
    let br := if slot = 255 then 0xFFFFFFFF else s.advBound slot
    if ¬ s.srv.inited ∨ s.srv.resetPend then
      let s1 := s.setSrv { s.srv with sigBase := h.1, r := psOfUnits f, a := 0, cov := s.covInit u, sk := stamp, inited := true, resetPend := false }
      s1.feedAccept br u stamp 0
    else
      let p := s.predictTo stamp
      let z := psOfUnits (f - (h.1 - s.srv.sigBase))
      let nu := z - p.srv.r
      let n := s.uncOf u
      let sv := p.srv.cov.p11.add (Flt.ofRat ((n * n : Nat) : Int) 9)
      if s.srv.timeFed && exceeds nu (s.rf SRV_STEP_LIMIT_ps) s.boundK sv then s.feedRefuse slot nu u
      else
        let c := p.srv.cov
        let s1 := p.gain (c.p11, c.p12, c.p13) sv nu
        s1.feedAccept br u stamp (z - s1.srv.r)

/-- A frequency observation at the present second: slope in 2⁻⁴⁸ ppt, and (u_y/3)² in ppt² (R236, R252). -/
def State.servoFreq (s : State) (slope : Int) (var : Flt) : State :=
  let p := s.predictTo s.now
  let c := p.srv.cov
  let s1 := (p.gain (c.p12, c.p22, c.p23) (c.p22.add var) (slope - p.srv.y)).inc SRV_ACCEPTED_count
  match s1.srv.anchor with
  | none => s1.srvShow
  | some an =>
    let w := s1.disputeTerm s1.raw
    let base := s1.boundAt an s1.now [s1.phase] [s1.buildout] w
    (s1.setSrv { s1.srv with
      anchor := some ⟨s1.now, an.feedAt, base, s1.srv.cov.p22, s1.srv.cov.p33, [], true, s1.phase, s1.buildout, w⟩ }).srvShow

/-! ## The strobe (R241, R244, R254, R257) -/

/-- The word of the coming millisecond (R241), and what it leaves the running slew (R244). `fresh`: the strobe is the first of its spine
second. -/
def State.wordUpdate (s : State) (fresh : Bool) : State :=
  let w := s.word
  let v := s.srv
  let j := s.msOf
  let shift := rne v.ruler 4294967296
  let v1 : SrvState :=
    if fresh then { v with slewLim := s.rf SRV_SLEW_MAX_ps_s, budW0 := w - shift, budSlew := s.tm.slewSum, budWord := 0, ruler := 0 }
    else { v with slewLim := s.rf SRV_SLEW_MAX_ps_s, budWord := v.budWord + (w - v.budW0), budW0 := v.budW0 - shift, ruler := 0 }
  let s1 := s.setSrv v1
  let drift := if s.mode = 3 ∧ ¬ s.rb SRV_CTL_hold_age then 0 else rne (v.a * (s.now - v.sk)) uSec
  let req := -(rne (v.y + drift) 4294967296)
  let top : Int := 140737488355328
  let w1 := max (-top) (min (top - 1) req)
  let c := s1.budSlews + v1.budWord
  let left := 1000 - j
  let w2 := max (v1.budW0 - ((s1.budget + c) / left)) (min (v1.budW0 + (s1.budget - c) / left) w1)
  let rate : Int := ((if s.rf SRV_WORD_RATE_rate = 0 then 65536000 else s.rf SRV_WORD_RATE_rate : Nat) : Int)
  let w3 := max (-top) (min (top - 1) (max (w - rate) (min (w + rate) w2)))
  let s2 := (s1.ws SRV_WORD_w w3).wb SRV_STATUS_fclamp (decide (w3 ≠ req))
  let clamped := decide (w1 ≠ req)
  let s3 :=
    if clamped ∧ ¬ v1.clampRun then
      (s2.alarmBit SRV_ALARM_fclamp 21).journal 1 0x0D00 0x0D08 (ofSigned 48 (satSigned 48 req))
    else s2
  let s4 := s3.setSrv { s3.srv with clampRun := clamped }
  s4.setTm { s4.tm with slew := s4.tm.slew.map (fun x =>
    { x with rate := min x.rate (slewWord s4.slewMax), rateCap := s4.rateLeft (decide (x.remaining < 0)) }) }

/-- The bound published for the coming millisecond (R254, R255). -/
def State.boundPublish (s : State) : State :=
  let n := s.boundNext
  (if n = 0xFFFFFFFF ∧ s.mode = 3 ∧ s.srv.anchor.isSome then s.setSrv { s.srv with sat := true } else s).boundSet n

/-- The class state of R257. -/
def State.classOf (s : State) : Nat :=
  let b := s.rf SRV_BOUND_ps
  let age : Int := ((max 1 (s.rf SRV_LOCK_AGE_secs) : Nat) : Int) * uSec
  if s.mode = 0 ∨ b = 0xFFFFFFFF then 0
  else if s.mode = 1 ∧ ¬ s.fatalSet ∧ s.srv.lastFeed.any (fun t => decide (s.now - t ≤ age)) then 1
  else if b ≤ s.rf SRV_HOLD_SPEC_ps then 2
  else if s.mode = 2 then 3 else 4

def State.classEval (s : State) : State :=
  let old := s.rf SRV_STATUS_class
  let c := s.classOf
  if c = old then s
  else (s.wf SRV_STATUS_class c).journal 1 0x0D00 0x0D06 (old + c * 8 + s.rf SRV_BOUND_ps * 2 ^ 32)

/-! ## Changes of the ruler (R240) -/

/-- `d` in R10 units is added to y: p stays where it is, and the word follows at the next strobe outside the budget (R240, R244). -/
def State.rulerShift (s : State) (d : Int) : State :=
  let v := s.srv
  let dy := d * 4294967296
  (s.setSrv { v with r := fit96 (v.r - rne (dy * (s.now - v.sk)) uSec), y := fit96 (v.y + dy), ruler := v.ruler + dy }).srvShow

/-- SRV_CTL.age_est clears: a is 0 from now on, and p and its rate go on from where they stand (R237). -/
def State.ageHold (s : State) : State :=
  let v := s.srv
  let dt := s.now - v.sk
  let y := fit96 (propY v.y v.a dt)
  (s.setSrv { v with r := fit96 (s.rAt s.now - rne (y * dt) uSec), y := y, a := 0, cov := v.cov.noAge }).srvShow

/-- A write of SRV_CTL. -/
def State.srvCtlWrite (s : State) (v : Nat) : State :=
  let s1 := ((s.wf SRV_CTL_direct (bitsOf v 0 1)).wf SRV_CTL_age_est (bitsOf v 1 1)).wf SRV_CTL_hold_age (bitsOf v 2 1)
  if s.rb SRV_CTL_age_est ∧ ¬ s1.rb SRV_CTL_age_est then s1.ageHold else s1

/-- The mean of the last values of SYN_XFREQ (B relative to A), floored. -/
def TimeState.xMean (t : TimeState) : Int := if t.xHist = [] then 0 else t.xHist.foldl (· + ·) 0 / (t.xHist.length : Int)

/-- A timebase switch recorded for H (R240, R253), for the anchor in force and for one whose feed is stamped before the switch and is still to
be taken. -/
def State.anchorHit (s : State) : State :=
  s.setSrv { s.srv with anchor := s.srv.anchor.map (fun a => { a with hits := s.now :: a.hits }), switches := s.now :: s.srv.switches }

/-! ## Initialisation without a time feed, and the commands of R247 -/

/-- On entry to FREQ from FREE (R239): p stays at 0, and P takes its initial value with u = 0. -/
def State.freqInit (s : State) : State :=
  (s.setSrv { s.srv with sigBase := s.tm.steer, r := 0, a := 0, cov := s.covInit 0, sk := s.now, inited := true,
                         timeFed := false, resetPend := false }).srvShow

/-- SRV_CMD RESET (R239, R247). -/
def State.servoReset (s : State) : State :=
  if s.fatalSet then s.wf SRV_RESULT_result 2
  else if s.mode = 0 then s.wf SRV_RESULT_result 3
  else
    let s1 := s.predictTo s.now
    ((s1.setSrv { s1.srv with a := 0, resetPend := true }).srvShow.wf SRV_RESULT_result 0).journal 1 0x0D00 0x0D09 0

/-- SRV_CMD DISMISS (R247). -/
def State.servoDismiss (s : State) : State :=
  if s.fatalSet then s.wf SRV_RESULT_result 2
  else if ¬ s.rb SRV_STATUS_candidate then s.wf SRV_RESULT_result 1
  else
    let s1 := s.setSrv { s.srv with run := none }
    (((s1.wf SRV_STATUS_candidate 0).wf SRV_STATUS_run 0).wf SRV_RESULT_result 0).journal 1 0x0D00 0x0D04 (s.rf SRV_CANDIDATE_j)

/-! ## Meanings -/

def execServoDismiss (_ : Req) (s : State) : Result := .next (s.whenUp s.servoDismiss)
def execServoReset (_ : Req) (s : State) : Result := .next (s.whenUp s.servoReset)

end Sys2Proof.Machine
end

