-- ==== Sys2Proof/Machine/RollCall.lean ====
section
/-!
DEFINITION. Roll call (R206 to R231): tracks, qualification, ranking, switching with build-out, disputes, the return with
a jump, forcing; and the steps it shares with the servo: feeds, slew ends and SRV_CMD ACCEPT.
-/

namespace Sys2Proof.Machine
open Sys2Proof Reg

def State.setRcl (s : State) (r : RclState) : State := { s with rcl := r }

def State.slot (s : State) (n : Nat) : Slot := (s.rcl.slots[n]?).getD Slot.empty
def State.setSlot (s : State) (n : Nat) (x : Slot) : State := s.setRcl { s.rcl with slots := s.rcl.slots.set! n x }

/-- State of a slot: 0 OFF, 1 ABSENT, 2 QUALIFYING, 3 QUALIFIED, 4 SUSPECT. -/
def State.slotState (s : State) (n : Nat) : Nat := s.rf RCLn_STATUS_state n
def State.slotKind (s : State) (n : Nat) : Nat := if n = 23 then 8 else s.rf RCLn_CFG_kind n
/-- Kinds 2 and 5 carry frequency only. -/
def State.freqSlot (s : State) (n : Nat) : Bool := decide (s.slotKind n = 2) || decide (s.slotKind n = 5)

/-! ## Tracks (R209, R210) -/

/-- Sums of a least-squares line over points relative to the newest one. -/
structure Fit where
  x0 : Int
  y0 : Int
  n : Int
  sx : Int
  sy : Int
  sxx : Int
  sxy : Int
  syy : Int
  deriving DecidableEq, Repr

def fitOf (pts : List (Int × Int)) : Fit :=
  match pts with
  | [] => ⟨0, 0, 0, 0, 0, 0, 0, 0⟩
  | p :: _ => pts.foldl (fun f q =>
      let x := q.1 - p.1
      let y := q.2 - p.2
      { f with n := f.n + 1, sx := f.sx + x, sy := f.sy + y, sxx := f.sxx + x * x, sxy := f.sxy + x * y, syy := f.syy + y * y })
      ⟨p.1, p.2, 0, 0, 0, 0, 0, 0⟩

/-- Slope of the line as a quotient; the divisor is 0 where there are not two points. -/
def Fit.num (f : Fit) : Int := f.n * f.sxy - f.sx * f.sy
def Fit.den (f : Fit) : Int := f.n * f.sxx - f.sx * f.sx

/-- The slope in R10 units (2⁻¹⁶ ppt), floored. -/
def Fit.freq (f : Fit) : Int := if f.den = 0 then 0 else f.num * (65536 * dcoOne) / f.den

/-- The line at raw time `x`, in 2⁻⁴⁸ ps, floored; the newest point alone where there are not two. -/
def Fit.at (f : Fit) (x : Int) : Int :=
  if f.den = 0 then psOfUnits f.y0
  else psOfUnits f.y0 + psOfUnits (f.sy * f.den + f.num * (f.n * (x - f.x0) - f.sx)) / (f.n * f.den)

/-- The points of the last `span` units before the newest, and at least two. -/
def trackWindow (span : Int) (l : List (Int × Int)) : List (Int × Int) :=
  match l with
  | [] => []
  | p :: t =>
    let w := t.takeWhile (fun q => decide (p.1 - span ≤ q.1))
    p :: (if w = [] then t.take 1 else w)

def State.qualSpan (s : State) (n : Nat) : Int := ((max 1 (s.rf RCLn_QUAL_secs n) : Nat) : Int) * uSec

/-- The line of a slot's own track over its qualify time. -/
def State.slotFit (s : State) (n : Nat) : Fit := fitOf (trackWindow (s.qualSpan n) (s.slot n).track)

/-- A point joins a track, newest first. -/
def trackAdd (p : Int × Int) : List (Int × Int) → List (Int × Int)
  | [] => [p]
  | q :: t => if q.1 ≤ p.1 then p :: q :: t else q :: trackAdd p t

/-- o_c of R216 now: the track's offset, engine minus reference, in 2⁻⁴⁸ ps. -/
def State.slotOfs (s : State) (n : Nat) : Int := (s.slotFit n).at s.raw + psOfUnits s.tm.total

/-- The domain in which the measurements of a slot are stamped (R26, R207, R208): the ring of a claimed unit, the lane of a session or of
SyncE, the antenna's samples, and the core for feeds from firmware. -/
def State.slotDom (s : State) (n : Nat) : Nat :=
  let src := s.rf RCLn_CFG_src n
  match s.slotKind n with
  | 1 => s.ringDom
  | 2 => s.ringDom
  | 3 => s.ringDom
  | 4 => 4 + s.rf TSV_UPu_CTL_lane src
  | 5 => 4 + src
  | 6 => 36 + src
  | _ => 0

/-- Raw time that the events of a slot's domain have reached (R86); a domain without a copy of spine time is left out (R80). -/
def State.slotMark (s : State) (n : Nat) : Int :=
  let d := s.slotDom n
  (if s.domValid d then min (s.watermark 1) (s.watermark d) else s.watermark 1) - s.tm.total

/-! ## Quality and rank (R213, R214) -/

/-- Limits of the IEEE 1588-2019 clockAccuracy codes 0x17 up, in ps (PRESUMED, log 21). -/
def accLimits : List Nat :=
  [1, 2500 / 1000, 10, 25, 100, 250, 1000, 2500, 10000, 25000, 100000, 250000, 1000000, 2500000, 10000000, 25000000,
   100000000, 250000000, 1000000000, 2500000000]

/-- The smallest code whose limit is at or above a bound in ps. -/
def accCode (b : Nat) : Nat := 0x17 + (accLimits.takeWhile (fun l => decide (l < b))).length

/-- The limit of a code in ps. -/
def accLimit (code : Nat) : Nat := if code < 0x17 then 0xFFFFFFFF else if code = 0x18 then 3 else (accLimits[code - 0x17]?).getD 0xFFFFFFFF

/-- Q of a slot (R213). -/
def State.slotQ (s : State) (n : Nat) : Nat :=
  let src := s.rf RCLn_CFG_src n
  let gnss := fun b : Nat => if b = 0xFFFFFFFF then 0xFFFF else 6 * 256 + accCode b
  match s.slotKind n with
  | 8 => 0xFEFF
  | 1 => s.rf RCLn_QFIX_q n
  | 2 => s.rf RCLn_QFIX_q n
  | 3 => s.rf RCLn_QFIX_q n
  | 4 => (s.rcl.ptpQ[src]?).getD 0xFFFF
  | 5 => s.rf RCL_QLMAPc_q (s.rf MACn_ESMC_RX_ssm src)
  | 6 => gnss (s.rf GNS_SOLa_BOUND_ps src)
  | 7 => gnss (s.rf GNS_SOLa_BOUND_ps 4)
  | _ => 0xFFFF

def State.eligible (s : State) (n : Nat) : Bool :=
  decide (s.slotState n = 3) && (decide (n = 23) || (!s.rb RCLn_CFG_lockout n && decide (s.slotQ n < 0xFEFF)))

/-- The rank of a slot: lower is better (R214). -/
def State.rankKey (s : State) (n : Nat) : Nat :=
  let prio := if n = 23 then 0 else s.rf RCLn_CFG_prio n
  let cur := if n = s.selected ∨ n = s.rf RCL_STATUS_target then 0 else 1
  s.slotQ n * 2 ^ 16 + prio * 2 ^ 8 + cur * 2 ^ 5 + n

/-- The best of a list of slots by rank. -/
def State.bestBy (s : State) (l : List Nat) : Option Nat :=
  l.foldl (fun m n => match m with
    | none => some n
    | some k => if s.rankKey n < s.rankKey k then some n else some k) none

def State.bestSlot (s : State) : Option Nat :=
  let f := s.rf RCL_STATUS_fslot
  if s.rb RCL_STATUS_forced && s.eligible f then some f
  else s.bestBy ((List.range 24).filter s.eligible)

/-! ## Slews of the build-out (R219, R243) -/

def State.rclB (s : State) : Int := s.rs 64 RCL_BUILDOUT_b

/-- A roll-call slew of −B starts, or waits for a running TSLEW (R219, R243). -/
def State.rclSlew (s : State) : State :=
  let b := s.rclB
  if b = 0 ∨ s.tm.slewSource = 2 then s.phaseShow
  else if s.tm.slewSource = 1 then (s.setTm { s.tm with slewWait := some (-b) }).phaseShow
  else
    let s1 := s.servoSlewCut.slewStart (-b) (slewWord s.slewMax) 2 0
    ((s1.setTm { s1.tm with slewWait := none }).wf SRV_STATUS_paused 1).phaseShow

/-- R219 calls for a slew: the old slot of the last commit does, or RCL_CTL.slew. -/
def State.slewCalled (s : State) : Bool := s.rcl.policy || s.rb RCL_CTL_slew

/-- The policy of R219 for the B in force: `byOld` says that the old slot calls for a slew, `called` that one is called for, `limit` is
the |B| beyond which a step is needed. -/
def State.rclPolicy (s : State) (byOld called : Bool) (limit : Int) : State :=
  let s1 := s.setRcl { s.rcl with policy := byOld, needLimit := limit, slewDue := none }
  if (s1.rclB.natAbs : Int) > limit then
    ((s1.wf RCL_STATUS_need_step 1).alarmBit RCL_ALARM_need_step 20).journal 1 0x0C00 0x0C0B (s1.rf RCL_BUILDOUT_b)
  else
    let s2 := s1.wf RCL_STATUS_need_step 0
    if called then s2.rclSlew else s2.phaseShow

/-- After a step, need_step clears within its limit and the slew that R219 calls for starts. -/
def State.needStepCheck (s : State) : State :=
  if s.rb RCL_STATUS_need_step ∧ (s.rclB.natAbs : Int) ≤ s.rcl.needLimit then
    let s1 := s.wf RCL_STATUS_need_step 0
    if s1.slewCalled then s1.rclSlew else s1
  else s

/-- No foreign slew runs: the servo may plan again (R243). -/
def State.foreignDone (s : State) : State :=
  if s.tm.slewSource = 0 ∧ s.rb SRV_STATUS_paused then (s.wf SRV_STATUS_paused 0).slewPlan else s

/-- What the final entry of a slew of a source brings (R219, R242, R243). -/
def State.slewEnded (s : State) (source : Nat) : State :=
  let s2 := s.addMark
  if source = 0 then s2.wf SRV_STATUS_slewing 0
  else if source = 1 then
    if s2.tm.slewWait.isSome then (s2.setTm { s2.tm with slewWait := none }).rclSlew.foreignDone else s2.foreignDone
  else
    let s3 := s2.setRcl { s2.rcl with slewDue := if s2.rclB ≠ 0 ∧ s2.slewCalled then some s2.now else none }
    s3.foreignDone.phaseShow

/-- A closing of slews, with what follows if it wrote the final entry of the running one. -/
def State.endWith (s : State) (close : State → State) : State :=
  let s1 := close s
  match s.tm.slew with
  | none => s1
  | some x => if x.remaining = 0 ∧ ¬ s1.tm.slew.isSome then s1.slewEnded x.source else s1

/-- The closing points of R69, with the end of a slew that they complete. -/
def State.closeAll (s : State) : State := s.endWith (fun t => t.closeOpen 0)

/-- SLEW_END (R71, R219, R243): a slew with nothing left to apply closes with flags.final. -/
def State.slewEnd (s : State) : State :=
  match s.tm.slew with
  | none => s
  | some x => if x.remaining ≠ 0 then s else s.endWith (fun t => t.closeSlew 0)

/-- RCL_SLEW_START (R219): at the strobe after the end of a roll-call slew, a further slew of −B, if the policy still applies, with
the limit of the commit. -/
def State.rclSlewStart (s : State) : State :=
  match s.rcl.slewDue with
  | none => s
  | some t =>
    if s.now = s.tm.lastStrobe ∧ t < s.now ∧ ¬ s.fatalSet ∧ s.slewCalled ∧ s.tm.slewSource ≠ 2 ∧ ¬ s.tm.slewWait.isSome then
      s.rclPolicy s.rcl.policy true s.rcl.needLimit
    else s

/-! ## Switching (R215 to R222, R225) -/

def State.disputed (s : State) (n : Nat) : Bool := s.rcl.disputes.any (fun d => decide (d.a = n) || decide (d.b = n))

/-- The status bits that follow the slots and the disputes (R228, R229). -/
def State.rclFlags (s : State) : State :=
  let s1 := (List.range 24).foldl (fun s n => s.wb RCLn_STATUS_disputed (s.disputed n) n) s
  (s1.wb RCL_STATUS_jump ((List.range 24).any (fun n => decide (s1.slotState n = 4)))).wb RCL_STATUS_dispute
    (!s1.rcl.disputes.isEmpty)

def State.wtrClear (s : State) (keep : Nat) : State :=
  (List.range 24).foldl (fun s n => if n = keep then s else s.wf RCLn_STATUS_wtr 0 n) s

/-- A feed for the filter, or counted as unused (R234, R249). -/
def State.servoFeed (s : State) (x : Feed) : State :=
  let use := if x.slot = 255 then s.rb SRV_CTL_direct && decide (s.selected = 63)
             else decide (s.selected = x.slot) && decide (s.slotState x.slot = 3) &&
               (decide (s.rf RCL_STATUS_target = 63) || s.rb RCL_STATUS_deferred || decide (x.stamp < unpackTime (s.rf RCL_COMMIT_time)))
  if use && decide (s.mode ≠ 3) then s.servoTime x.slot x.ofs x.stamp x.unc else s.inc SRV_UNUSED_count

/-- The mode after a commit to a slot (R239, R248). -/
def State.commitMode (s : State) (new : Nat) : State :=
  if s.rb SRV_STATUS_fatal then s
  else if new = 23 then s.srvMode 3
  else if s.freqSlot new then (if s.mode = 0 then s.freqInit else s).srvMode 2
  else (if s.mode = 0 then s.setSrv { s.srv with inited := false } else s).srvMode 1

/-- The commit of a switch with build-out `b` (R216 to R219). -/
def State.commitTo (s : State) (new : Nat) (bOf : State → Int) : State :=
  let old := s.selected
  let s1 := if s.tm.slewSource = 2 then s.slewCut.addMark else s
  let s2 := (s1.setTm { s1.tm with slewWait := none }).closeAll
  let b := bOf s2
  let b36 := satSigned 36 b
  let s3 := s2.tlyMark 0 (old * 2 ^ 42 + new * 2 ^ 36 + ofSigned 36 b36) 4 2 (if b36 = b then 0 else 2)
  let s4 := (((((s3.ws RCL_BUILDOUT_b b).inc RCL_SWITCHES_count).wf RCL_STATUS_selected new).wf RCL_STATUS_target 63).wf
    RCL_STATUS_deferred 0).wf RCLn_STATUS_readmit 0 new
  let s5 :=
    if new ≠ 23 ∧ s4.slotState 23 = 0 then (s4.wf RCLn_STATUS_state 3 23).journal 1 (0x0C00 + 23) 0x0C01 (23 + 3 * 2 ^ 8)
    else s4
  let s6 := (s5.commitMode new).wtrClear 32
  let s7 := if new = 23 then s6.alarmBit RCL_ALARM_holdover 20 else s6
  let byOld := decide (old = 23) || (decide (old < 23) && s7.freqSlot old) || decide (old = 63)
  let s8 := s7.rclPolicy byOld (byOld || s7.rb RCL_CTL_slew) (if old = 63 then psToUnits (s7.rf SRV_STEP_LIMIT_ps : Int) else uSec - 1)
  s8.foreignDone.refReady

/-- The servo's phase estimate that R216 subtracts. -/
def State.commitPhase (s : State) : Int := if s.selected = 63 then 0 else s.phase

/-- R220: what defers a commit, if anything. -/
def State.deferral (s : State) : Option Nat :=
  if s.rb TLY_RING_FILL_reserve then some 0 else if s.fatalSet then some 1 else none

/-- A target stands from now, with its planned commit point (R215, R221). -/
def State.setTarget (s : State) (n : Nat) : State :=
  let ms := max 1 (min 10000 (s.rf RCL_ALIGN_TIME_ms))
  let tc := s.now + (ms : Int) * uMs
  let s1 := s.wf RCL_STATUS_target n
  ((if n = 23 then s1 else s1.wf RCL_COMMIT_time (packTime tc)).wf RCL_STATUS_deferred 0).phaseShow

/-- Held feeds of a target whose commit does not come now join its track and stay unused. -/
def State.dropHeld (s : State) : State :=
  let join := fun (t : State) (x : Feed) =>
    let sum := t.totalAt x.stamp
    let sl := t.slot x.slot
    t.setSlot x.slot { sl with track := trackAdd (x.stamp - sum, x.ofs - sum) sl.track, gapFrom := max sl.gapFrom (x.stamp - sum) }
  (s.rcl.held.foldl join (s.setRcl { s.rcl with held := [] })).add SRV_UNUSED_count s.rcl.held.length

/-- A commit put off: the pre-phase goes on, and 0x0C05 is journalled once (R220). -/
def State.deferCommit (s : State) (tgt why : Nat) : State :=
  if s.rb RCL_STATUS_deferred then s
  else (s.dropHeld.wf RCL_STATUS_deferred 1).journal 1 0x0C00 0x0C05 (tgt + why * 2 ^ 6)

/-- A switch to slot 23 commits at the same tick, unless R220 defers it (R215). -/
def State.toHoldover (s : State) : State :=
  match s.deferral with
  | some why => s.deferCommit 23 why
  | none => s.commitTo 23 (fun _ => 0)

/-- A switch to `n` begins (R215). -/
def State.switchStart (s : State) (n cause slot : Nat) : State :=
  let s1 := (s.wtrClear 32).journal 1 0x0C00 0x0C02 (s.selected + n * 2 ^ 6 + cause * 2 ^ 12 + slot % 32 * 2 ^ 16)
  let s2 := s1.setTarget n
  if n = 23 then s2.toHoldover else s2

/-- A new best slot before the commit (R221). -/
def State.redirect (s : State) (n : Nat) : State :=
  let s1 := (s.dropHeld.inc RCL_REDIRECTS_count).journal 1 0x0C00 0x0C04 (s.rf RCL_STATUS_target + n * 2 ^ 6)
  let s2 := s1.setTarget n
  if n = 23 then s2.toHoldover else s2

/-- The switch in progress is given up (R221). -/
def State.abandon (s : State) : State :=
  if s.rf RCL_STATUS_target = 63 then s
  else ((s.dropHeld.wf RCL_STATUS_target 63).wf RCL_STATUS_deferred 0).phaseShow

/-- One evaluation of the selection (R214, R215, R221, R222), for an event of cause and slot of 0x0C02; the Bool says
that a switch began. -/
def State.select (s : State) (cause slot : Nat) : State × Bool :=
  let sel := s.selected
  let tgt := s.rf RCL_STATUS_target
  match s.bestSlot with
  | none => ((s.wtrClear 32).abandon, false)
  | some b =>
    if b = sel then ((s.wtrClear 32).abandon, false)
    else if tgt ≠ 63 then (if b = tgt then s else s.redirect b, false)
    else
      let forced := s.rb RCL_STATUS_forced && decide (s.rf RCL_STATUS_fslot = b)
      let lost := decide (sel ≠ 63) && !s.eligible sel
      if sel = 63 ∨ lost ∨ forced ∨ b = 23 ∨ s.slotQ b < s.slotQ sel then
        (if cause ≠ 0 then s.switchStart b cause slot else if lost then s.switchStart b 1 sel
         else s.switchStart b (if forced then 3 else 0) slot, true)
      else if s.rb RCLn_STATUS_wtr b then (s.wtrClear b, false)
      else
        let s1 := (s.wtrClear b).wf RCLn_STATUS_wtr 1 b
        (s1.setSlot b { s1.slot b with wtrEnd := s1.raw + (s1.rf RCL_WTR_secs : Int) * uSec }, false)

/-- A slot changes its state, and selection is evaluated; the change is journalled as 0x0C01 unless it starts a switch (R210, R230). -/
def State.slotMove (s : State) (n new cause : Nat) : State :=
  let old := s.slotState n
  let s1 := (s.wf RCLn_STATUS_state new n).rclFlags
  let r := s1.select cause n
  if r.2 then r.1 else ((s1.journal 1 (0x0C00 + n) 0x0C01 (n + old * 2 ^ 5 + new * 2 ^ 8)).select cause n).1

/-- A disqualification (R210); a fault, of cause 1, clears readmit (R225). -/
def State.disqualify (s : State) (n new cause : Nat) : State :=
  let s1 := s.inc RCLn_DISQ_count n
  (if cause = 1 then s1.wf RCLn_STATUS_readmit 0 n else s1).slotMove n new cause

/-- The jump check fails: the target is SUSPECT and the engine stays (R225). -/
def State.jumpRefuse (s : State) (tgt : Nat) (diff : Int) : State :=
  let s1 := ((s.dropHeld.wf RCL_STATUS_target 63).wf RCL_STATUS_deferred 0).phaseShow
  let s2 := ((s1.inc RCL_JUMPS_count).wf RCL_STATUS_jump 1).alarmBit RCL_ALARM_jump 20
  let s3 := s2.journal 1 (0x0C00 + tgt) 0x0C09 (tgt + ofSigned 48 (satSigned 48 (unitsOfFp diff)) * 2 ^ 16)
  (s3.setSlot tgt { s3.slot tgt with settle := none }).disqualify tgt 4 0

/-! ## Measurements (R207 to R211, R226) -/

/-- A port slot whose port or nominal frequency keeps it ABSENT (R207). -/
def State.slotBarred (s : State) (n : Nat) : Bool :=
  let k := s.slotKind n
  let hz := s.rf RCLn_NOMINAL_hz n
  (decide (1 ≤ k) && decide (k ≤ 3) && decide (s.rf TIOn_CFG_func (s.rf RCLn_CFG_src n) ≠ 5)) ||
  (decide (k = 2) && (decide (hz < 1000) || decide (hz > 500000000)))

/-- The offset of a SUSPECT slot against the holdover prediction, in 2⁻⁴⁸ ps (R226). -/
def State.settleOfs (s : State) (x off : Int) : Int :=
  psOfUnits (off + s.tm.total - s.tm.steer - s.tm.foreign) - s.rAt (x + s.tm.total)

def State.settleMeasure (s : State) (n : Nat) (x off : Int) : State :=
  let d := s.settleOfs x off
  let b := s.rf SRV_BOUND_ps
  let sl := s.slot n
  let fresh : Settle := ⟨x, d, d, b⟩
  let st := match sl.settle with
    | none => fresh
    | some o =>
      let y : Settle := { o with lo := min o.lo d, hi := max o.hi d }
      let allow : Int := ((s.rf RCL_JUMP_CONSIST_ps + (b - o.bound) : Nat) : Int) * fp48
      if b = 0xFFFFFFFF ∨ y.hi - y.lo ≤ allow then y else fresh
  s.setSlot n { sl with settle := some st }

/-- The window checks of R210 for a point against the track before it. -/
def State.windowOk (s : State) (n : Nat) (x off : Int) : Bool :=
  let before := s.slotFit n
  let after := fitOf (trackWindow (s.qualSpan n) (trackAdd (x, off) (s.slot n).track))
  decide ((after.num.natAbs : Int) * 1000000000 ≤ (s.rf RCLn_QUAL_ppb n : Int) * after.den) &&
  (decide (before.n = 0) || decide (((psOfUnits off - before.at x).natAbs : Int) ≤ (s.rf RCLn_PHASE_ps n : Int) * fp48))

/-- A SUSPECT slot is re-admitted (R226, R227). -/
def State.readmit (s : State) (n : Nat) (cmd : Bool) : State :=
  let s1 := (s.wf RCLn_STATUS_readmit 1 n).journal 1 (0x0C00 + n) 0x0C0A (n + (if cmd then 2 ^ 5 else 0))
  (s1.setSlot n { s1.slot n with settle := none, bad := 0 }).slotMove n 3 6

/-- The miss window of a slot, in units (R211). -/
def State.missWindow (s : State) (n : Nat) : Int :=
  let us := s.rf RCLn_MISS_us n
  let d := match s.slotKind n with
    | 1 => 100
    | 3 => 100
    | 2 => 3000
    | 5 => 5000000
    | _ => 3000000
  ((if us = 0 then d else us : Nat) : Int) * uUs

/-- One miss of a slot counts (R210). -/
def State.missOne (s : State) (n : Nat) : State :=
  let sl := s.slot n
  let st := s.slotState n
  if st = 4 then s.setSlot n { sl with settle := none }
  else if st = 2 ∨ st = 3 then
    let c := if sl.badMiss then sl.bad + 1 else 1
    if c ≥ max 1 (s.rf RCLn_MISS_count n) then
      let s1 := s.setSlot n { sl with track := [], bad := 0, badMiss := false, lastAt := none, elapsed := 0 }
      if st = 3 then s1.disqualify n 1 1 else (s1.wf RCLn_STATUS_readmit 0 n).slotMove n 1 1
    else s.setSlot n { sl with bad := c, badMiss := true }
  else s

/-! ## Deadlines of a slot (R85, R86, R210, R211, R226) -/

/-- What a slot waits for. -/
def Due.first (l : List (Int × Nat)) : Option (Int × Nat) :=
  l.foldl (fun m d => match m with
    | none => some d
    | some e => if d.1 < e.1 then some d else some e) none

/-- The earliest deadline of a slot that is not declared, in raw time, with its kind: 0 a missing pulse, 1 the end of the miss window, 2 the
qualify timer, which a dispute's loser does not meet (R223), 3 the end of the settle. On equal times a miss comes first. -/
def State.nextDue (s : State) (n : Nat) : Option (Int × Nat) :=
  let sl := s.slot n
  let k := s.slotKind n
  let st := s.slotState n
  Due.first ((sl.missed.take 1).map (fun t => (t, 0)) ++
    (if k ≠ 1 ∧ k ≠ 3 ∧ k ≠ 8 ∧ 2 ≤ st then [(sl.gapFrom + s.missWindow n, 1)] else []) ++
    (if st = 2 ∧ sl.beaten = none then [(sl.timer, 2)] else []) ++
    (match sl.settle with
     | some o => if st = 4 then [(o.start + (s.rf RCL_JUMP_SETTLE_secs : Int) * uSec, 3)] else []
     | none => []))

/-- A deadline of a slot is declared (R210, R211, R226). -/
def State.declareOne (s : State) (n : Nat) (d : Int × Nat) : State :=
  let sl := s.slot n
  match d.2 with
  | 0 => (s.setSlot n { sl with missed := sl.missed.drop 1 }).missOne n
  | 1 => (s.setSlot n { sl with gapFrom := d.1 }).missOne n
  | 2 => (s.setSlot n { sl with bad := 0 }).slotMove n 3 0
  | _ => s.readmit n false

/-- Every deadline of a slot before raw time `x` is declared, in their order: an event stamped `x` loses against it, and as it comes in its
domain's order it shows that the deadline has passed (R85, R86; DEDUCED, log 66). -/
def State.declareTo (s : State) (n : Nat) (x : Int) : Nat → State
  | 0 => s
  | fuel + 1 =>
    match s.nextDue n with
    | some d => if d.1 < x then (s.declareOne n d).declareTo n x fuel else s
    | none => s

/-- Deadlines that one measurement can pass before its slot leaves the states that have any (R229). -/
def dueFuel : Nat := 64

/-- A measurement of slot `n` at raw time `x` with raw offset `off`, behind the deadlines that lie before it (R85, R209, R210). -/
def State.slotMeasure (s : State) (n : Nat) (x off : Int) : State :=
  let s := s.declareTo n x dueFuel
  let st := s.slotState n
  let sl := s.slot n
  if st = 0 ∨ s.slotBarred n then s
  else if st = 1 then
    (s.setSlot n { sl with track := [(x, off)], gapFrom := x, bad := 0, timer := x + s.qualSpan n }).slotMove n 2 0
  else
    let ok := s.windowOk n x off
    let sl1 := { sl with track := trackAdd (x, off) sl.track, gapFrom := max sl.gapFrom x }
    if st = 4 then (s.setSlot n sl1).settleMeasure n x off
    else if ok then s.setSlot n { sl1 with bad := 0 }
    else if st = 2 then s.setSlot n { sl1 with bad := 0, timer := x + s.qualSpan n }
    else
      let c := if sl.badMiss then 1 else sl.bad + 1
      if c ≥ max 1 (s.rf RCLn_MISS_count n) then
        (s.setSlot n { sl1 with bad := 0, timer := x + s.qualSpan n }).disqualify n 2 1
      else s.setSlot n { sl1 with bad := c, badMiss := false }

/-- A time offset of slot `n`, engine minus reference, at a stamp (R209). -/
def State.slotTime (s : State) (n : Nat) (ofs stamp : Int) : State :=
  let t := s.totalAt stamp
  s.slotMeasure n (stamp - t) (ofs - t)

/-- A feed of a slot joins its track and goes on to the servo (R234). -/
def State.tracked (s : State) (x : Feed) : State := (s.slotTime x.slot x.ofs x.stamp).servoFeed x

/-- A feed of a slot; one of the target that is not stamped before T_c waits for the commit, unless that is deferred (R215, R220, R231). -/
def State.slotFeed (s : State) (x : Feed) : State :=
  if s.rf RCL_STATUS_target = x.slot ∧ ¬ s.rb RCL_STATUS_deferred ∧ unpackTime (s.rf RCL_COMMIT_time) ≤ x.stamp then
    s.setRcl { s.rcl with held := s.rcl.held ++ [x] }
  else s.tracked x

/-- Gate cycles of a FREQ slot: SKIP + 1 (R207). -/
def gateCycles (hz : Nat) : Nat := max 1 ((hz + 500) / 1000)

/-- A frequency sample of slot `n` at raw time `x`, in R10 units: the accumulated phase advances by it over the raw time since the last one
(R209, R210). -/
def State.freqMeasure (s : State) (n : Nat) (x freq : Int) : State :=
  let sl := s.slot n
  let phase := sl.elapsed + freq * (x - sl.lastAt.getD x)
  (s.setSlot n { sl with elapsed := phase, lastAt := some x }).slotMeasure n x (phase / (65536 * dcoOne))

/-- The fractional frequency of raw time against a nominal one, in R10 units, from a gate of `k` cycles that lasted `v` units (R207, R209). -/
def gateFreq (v : Int) (k hz : Nat) : Int := (v * hz - k * uSec) * (65536 * dcoOne) / max 1 (v * hz)

/-- The next measurement of a claimed unit or a lane (R207, R208, R313). The value is the gate length in units (FREQ) or
the frequency in R10 units over one millisecond (SYNCE). -/
def State.rclMeasurement (s : State) (n : Nat) : State :=
  match (s.slot n).due with
  | [] => s
  | (stamp, v) :: rest =>
    let x := stamp - s.totalAt stamp
    let s1 := (s.setSlot n { s.slot n with due := rest }).declareTo n x dueFuel
    let sl := s1.slot n
    match s1.slotKind n with
    | 1 =>
      if s1.rb RCLn_CFG_feed n then s1.setSlot n { sl with bad := if sl.badMiss then 0 else sl.bad }
      else
        let ofs := stamp - (stamp + uSec / 2) / uSec * uSec
        s1.slotFeed ⟨n, ofs, stamp, 0⟩
    | 3 => s1.setSlot n { sl with bad := if sl.badMiss then 0 else sl.bad }
    | 2 =>
      let hz := s1.rf RCLn_NOMINAL_hz n
      s1.freqMeasure n x (gateFreq v (gateCycles hz) hz)
    | 5 => s1.freqMeasure n x v
    | _ => s1

/-- The raw stamps of measurements of a slot that roll call has yet to take: of the unit or the lane, in the feed crossings, and held for a
commit. -/
def State.comingOf (s : State) (n : Nat) : List Int :=
  let feeds := [393, 394, 395].flatMap (fun q => (s.queue q).items.filterMap (fun x => match x.data with
    | .feed f => if f.slot = n then some f.stamp else none
    | _ => none)) ++ (s.rcl.held.filter (fun f => decide (f.slot = n))).map (·.stamp)
  ((s.slot n).due.map (·.1) ++ feeds).map (fun t => t - s.totalAt t)

/-- The deadline of a slot that may be declared now: its domain's watermark has passed it (a missing pulse is an event and waits for none),
and no measurement stamped at or before it is on its way (R85, R86). -/
def State.ripe (s : State) (n : Nat) : Option (Int × Nat) :=
  match s.nextDue n with
  | some d => if (d.2 = 0 ∨ d.1 ≤ s.slotMark n) ∧ (s.comingOf n).all (fun x => decide (d.1 < x)) then some d else none
  | none => none

/-- The ripe deadline of a slot is declared if it is of a kind. -/
def State.declareRipe (s : State) (n : Nat) (kind : Nat → Bool) : State :=
  match s.ripe n with
  | some d => if kind d.2 then s.declareOne n d else s
  | none => s

/-- RCL_QUAL_TIMER_EXPIRE (R210, R223). -/
def State.qualExpire (s : State) (n : Nat) : State := s.declareRipe n (fun k => decide (k = 2))

/-- RCL_MISS (R210, R211). -/
def State.rclMiss (s : State) (n : Nat) : State := s.declareRipe n (fun k => decide (k ≤ 1))

/-- The ripe deadlines of a slot, one after the other. -/
def State.declareAll (s : State) (n : Nat) : Nat → State
  | 0 => s
  | fuel + 1 =>
    match s.ripe n with
    | some d => (s.declareOne n d).declareAll n fuel
    | none => s

/-- Every measurement of a slot's unit or lane that is stamped by now is taken. -/
def State.takeDue (s : State) (n : Nat) : State :=
  ((s.slot n).due.takeWhile (fun p => decide (p.1 ≤ s.now))).foldl (fun s _ => s.rclMeasurement n) s

/-! ## Feeds (R208, R231, R234) -/

/-- A feed's slot takes no feeds (R208). -/
def State.feedBarred (s : State) (n : Nat) : Bool :=
  let k := s.slotKind n
  decide (23 ≤ n) || decide (s.slotState n = 0) || decide (k = 2) || decide (k = 5) || (decide (k = 1) && !s.rb RCLn_CFG_feed n)

/-- One feed through roll call to the servo (R208, R231, R234). -/
def State.feedOne (s : State) (x : Feed) : State :=
  if x.slot = 255 then s.servoFeed x
  else if s.feedBarred x.slot then s.inc RCL_FEED_DROP_count
  else s.slotFeed x

/-- SERVO_FEED_TAKE (R232, R234): once it runs, the servo takes the oldest visible item of a feed crossing. -/
def State.feedTake (s : State) (q : Nat) : State :=
  match (if s.tm.run then s.qFront (393 + q) else none) with
  | some x =>
    let s1 := s.qPop (393 + q)
    match x.data with
    | .feed f => s1.feedOne f
    | _ => s1
  | none => s

/-! ## The commit and the timers (R215 to R226) -/

/-- The feeds of a crossing that are visible and stamped by now are taken. -/
def State.takeFeeds (s : State) (q : Nat) : Nat → State
  | 0 => s
  | fuel + 1 =>
    match s.qFront (393 + q) with
    | some x =>
      match x.data with
      | .feed f => if f.stamp ≤ s.now then (s.feedTake q).takeFeeds q fuel else s
      | _ => s
    | none => s

/-- The measurements and deadlines stamped at or before the present tick take part in a commit's decision (R85, R221); a deadline that its
domain's watermark has not passed is declared after it (R86; DEDUCED, log 66). -/
def State.rclEvents (s : State) : State :=
  let s1 := (List.range 3).foldl (fun s q => s.takeFeeds q (s.queue (393 + q)).items.length) s
  (List.range 23).foldl (fun s n => (s.takeDue n).declareAll n dueFuel) s1

/-- RCL_COMMIT (R215, R216, R220, R221, R225): the switch in progress at T_c or later. -/
def State.rclCommit (s : State) : State :=
  let ready := decide (s.rf RCL_STATUS_target ≠ 63) && (decide (s.rf RCL_STATUS_target = 23) || decide (unpackTime (s.rf RCL_COMMIT_time) ≤ s.now))
  let s0 := ((if ready then s.rclEvents else s).select 0 (s.rf RCL_STATUS_target)).1
  let tgt := s0.rf RCL_STATUS_target
  if s.rf RCL_STATUS_target = 63 ∨ tgt ≠ s.rf RCL_STATUS_target ∨ (tgt ≠ 23 ∧ s0.now < unpackTime (s0.rf RCL_COMMIT_time)) then s0
  else match s0.deferral with
    | some why => s0.deferCommit tgt why
    | none =>
      let old := s0.selected
      if tgt = 23 then s0.commitTo 23 (fun _ => 0)
      else if s0.freqSlot tgt then s0.commitTo tgt (fun _ => 0)
      else
        let diff := s0.slotOfs tgt - s0.commitPhase
        let b := s0.rf SRV_BOUND_ps
        let checked := (decide (old = 23) || (decide (old < 23) && s0.freqSlot old)) && !s0.rb RCLn_STATUS_readmit tgt
        if checked ∧ b ≠ 0xFFFFFFFF ∧ (diff.natAbs : Int) > ((b + s0.rf SRV_STEP_LIMIT_ps : Nat) : Int) * fp48 then
          s0.jumpRefuse tgt diff
        else s0.commitTo tgt (fun x => unitsOfFp (x.slotOfs tgt - x.commitPhase))

/-- The feeds that waited for the commit follow it (R221, R231). -/
def State.rclCommitFed (s : State) : State :=
  let t := s.rclCommit
  if s.rf RCL_STATUS_target ≠ 63 ∧ t.rf RCL_STATUS_target = 63 then t.rcl.held.foldl State.tracked (t.setRcl { t.rcl with held := [] })
  else t

/-- RCL_SETTLE_COMPLETE (R226). -/
def State.settleComplete (s : State) (n : Nat) : State := s.declareRipe n (fun k => decide (k = 3))

/-- RCL_WTR_EXPIRE (R222): the wait is over, and nothing of the slot stamped by its end is still to be decided (R85). -/
def State.wtrExpire (s : State) (n : Nat) : State :=
  if s.rb RCLn_STATUS_wtr n ∧ (s.slot n).wtrEnd ≤ s.slotMark n ∧ (s.comingOf n).all (fun x => decide ((s.slot n).wtrEnd < x)) ∧
     ¬ (s.nextDue n).any (fun d => decide (d.1 ≤ (s.slot n).wtrEnd)) ∧ s.bestSlot = some n ∧ s.rf RCL_STATUS_target = 63 then
    s.switchStart n 5 n
  else s

/-! ## Disputes (R223, R224) -/

def State.disputeWin (s : State) : Int :=
  ((if s.rf RCL_DISPUTE_LIMIT_win = 0 then 100 else s.rf RCL_DISPUTE_LIMIT_win : Nat) : Int) * uSec

/-- The mean frequency of a slot over the dispute window, in R10 units: the change of its raw offset over the change of
raw time; `none` where its track does not reach back that far. -/
def State.meanFreq (s : State) (n : Nat) : Option Int :=
  let from_ := s.raw - s.disputeWin
  let l := (s.slot n).track
  match l, (l.takeWhile (fun q => decide (from_ ≤ q.1))).getLast?, l.getLast? with
  | p :: _, some q, some o =>
    if o.1 ≤ from_ ∧ q.1 < p.1 then some ((p.2 - q.2) * (65536 * dcoOne) / (p.1 - q.1)) else none
  | _, _, _ => none

/-- The mean of SYN_XFREQ over the last `win` units of A, from the comparisons at its ends; `none` where they do not reach back so far (R158). -/
def TimeState.xOver (t : TimeState) (win : Int) : Option Int :=
  match t.xTrack with
  | [] => none
  | p :: rest =>
    match rest.find? (fun q => decide (q.1 ≤ p.1 - win)) with
    | some q => some ((p.2 - q.2) * (65536 * dcoOne) / (p.1 - q.1))
    | none => none

/-- Raw time's frequency against the third timebase of RCL_CTL.third_osc, if it is locked (R158, R223). -/
def State.oscFreq (s : State) : Option Int :=
  let x := s.tm.xOver s.disputeWin
  match s.rf RCL_CTL_third_osc with
  | 1 => if s.rb SYN_STATUS_lock_a then (if s.active = 0 then some 0 else x) else none
  | 2 => if s.rb SYN_STATUS_lock_b then (if s.active = 0 then x.map (fun f => -f) else some 0) else none
  | _ => none

/-- Frequency of a third source: a slot, or 31 for the timebase. -/
def State.thirdFreq (s : State) (t : Nat) : Option Int := if t = 31 then s.oscFreq else s.meanFreq t

/-- The third source for a pair (R223). -/
def State.thirdSource (s : State) (a b : Nat) : Option Nat :=
  match s.bestBy ((List.range 23).filter (fun n => decide (n ≠ a) && decide (n ≠ b) && decide (s.slotState n = 3) && !s.disputed n &&
      (s.meanFreq n).isSome)) with
  | some n => some n
  | none => if s.oscFreq.isSome then some 31 else none

/-- A dispute of a pair whose frequencies differ by `d` is declared and, with a third source, arbitrated (R223). -/
def State.disputeDeclare (s : State) (a b : Nat) (fa fb : Int) : State :=
  let d := absNat (fa - fb)
  let third := s.thirdSource a b
  let s1 := s.journal 1 0x0C00 0x0C06 (a + b * 2 ^ 5 + d / 65536 % 2 ^ 32 * 2 ^ 32)
  let base : Dispute := ⟨a, b, d, s.raw, none, third, none⟩
  match third, third.bind s.thirdFreq with
  | some t, some ft =>
    let da := absNat (fa - ft)
    let db := absNat (fb - ft)
    let loser := if da > db then a else if db > da then b else if s.selected = a then b else if s.selected = b then a else b
    let winner := if loser = a then b else a
    let s2 := (s1.setRcl { s1.rcl with disputes := s1.rcl.disputes ++ [{ base with loser := some loser }] }).journal 1 0x0C00 0x0C07
      (loser + winner * 2 ^ 5 + t * 2 ^ 10)
    let sl := s2.slot loser
    (s2.setSlot loser { sl with beaten := some (winner, none), bad := 0, timer := s2.raw + s2.qualSpan loser }).disqualify loser 2 4
  | _, _ =>
    ((s1.setRcl { s1.rcl with disputes := s1.rcl.disputes ++ [base] }).rclFlags).alarmBit RCL_ALARM_dispute 20

/-- Two frequencies agree within the limit. -/
def State.agreeFreq (s : State) (x y : Option Int) : Bool :=
  match x, y with
  | some a, some b => decide (absNat (a - b) ≤ s.rf RCL_DISPUTE_LIMIT_ppt * 65536)
  | _, _ => false

/-- One dispute at a strobe: its run of agreement, and `none` when it is over (R224). -/
def State.disputeStep (s : State) (d : Dispute) : Option Dispute × Bool :=
  let other : Option Int := match d.loser, d.third with
    | some _, some t => s.thirdFreq t
    | _, _ => s.meanFreq d.b
  let w := match d.loser with
    | some l => if l = d.a then d.b else d.a
    | none => d.a
  let gone := decide (s.slotState w ≠ 3) || (d.loser.isNone && decide (s.slotState d.b ≠ 3))
  if gone then (none, false)
  else if s.agreeFreq (s.meanFreq w) other then
    let from_ := d.agree.getD s.raw
    if s.raw - from_ ≥ s.disputeWin then (none, true) else (some { d with agree := some from_ }, false)
  else (some { d with agree := none }, false)

/-- Disputes at a strobe: clearing, the losers' runs of agreement, and new declarations (R223, R224). -/
def State.disputeEval (s : State) : State :=
  let s1 := s.rcl.disputes.foldl (fun s d =>
    match s.disputeStep d with
    | (some d', _) => s.setRcl { s.rcl with disputes := s.rcl.disputes.map (fun e => if e.a = d.a ∧ e.b = d.b then d' else e) }
    | (none, told) =>
      let s' := s.setRcl { s.rcl with disputes := s.rcl.disputes.filter (fun e => !(decide (e.a = d.a) && decide (e.b = d.b))) }
      if told then s'.journal 1 0x0C00 0x0C08 (d.a + d.b * 2 ^ 5) else s') s
  let s2 := (List.range 23).foldl (fun s n =>
    let sl := s.slot n
    match sl.beaten with
    | none => s
    | some (w, since) =>
      if s.agreeFreq (s.meanFreq n) (s.meanFreq w) then
        let from_ := since.getD s.raw
        s.setSlot n { sl with beaten := if s.raw - from_ ≥ s.disputeWin then none else some (w, some from_) }
      else s.setSlot n { sl with beaten := some (w, none) }) s1
  let s3 := s2.rclFlags
  (List.range 23).foldl (fun s a =>
    (List.range 23).foldl (fun s b =>
      if a < b ∧ s.slotState a = 3 ∧ s.slotState b = 3 ∧ s.slotQ a = s.slotQ b ∧
         ¬ s.rcl.disputes.any (fun e => decide (e.a = a) && decide (e.b = b)) then
        match s.meanFreq a, s.meanFreq b with
        | some fa, some fb => if absNat (fa - fb) > s.rf RCL_DISPUTE_LIMIT_ppt * 65536 then s.disputeDeclare a b fa fb else s
        | _, _ => s
      else s) s) s3

/-! ## Commands (R227) -/

/-- The result of a command, in RCL_RESULT and journalled (R227). -/
def State.rclResult (s : State) (op slot res : Nat) : State :=
  (s.wf RCL_RESULT_result res).journal 1 0x0C00 0x0C0C (op + slot * 2 ^ 3 + res * 2 ^ 8)

/-- A slot number names a slot that is not OFF. -/
def State.hasSlot (s : State) (n : Nat) : Bool := decide (n < 24) && decide (s.slotState n ≠ 0)

def State.rclForce (s : State) (n : Nat) : State :=
  if ¬ s.hasSlot n then s.rclResult 1 n 1
  else if s.rb RCLn_CFG_lockout n then s.rclResult 1 n 2
  else ((((s.rclResult 1 n 0).wf RCL_STATUS_forced 1).wf RCL_STATUS_fslot n).select 3 n).1

def State.rclUnforce (s : State) (n : Nat) : State :=
  if ¬ s.rb RCL_STATUS_forced then s.rclResult 2 n 3
  else ((((s.rclResult 2 n 0).wf RCL_STATUS_forced 0).wf RCL_STATUS_fslot 31).select 0 n).1

def State.rclReadmit (s : State) (n : Nat) : State :=
  if ¬ s.hasSlot n then s.rclResult 3 n 1
  else if s.slotState n ≠ 4 then s.rclResult 3 n 3
  else (s.rclResult 3 n 0).readmit n true

def State.rclSkipWtr (s : State) (n : Nat) : State :=
  if ¬ s.hasSlot n then s.rclResult 4 n 1
  else if ¬ s.rb RCLn_STATUS_wtr n then s.rclResult 4 n 3
  else (s.rclResult 4 n 0).switchStart n 5 n

def State.rclReeval (s : State) (n : Nat) : State := ((s.rclResult 5 n 0).select 0 n).1

/-! ## Slot configuration (R206, R208, R227, R229) -/

/-- How many slots of a kind may be enabled, 0 where the kind cannot be (R206). -/
def kindLimit (k : Nat) : Nat :=
  if k = 0 ∨ 7 < k then 0 else if k ≤ 3 then 32 else if k ≤ 5 then 8 else if k = 6 then 4 else 1

/-- The class of input that a kind names, and the input (R206). -/
def inputOf (k src : Nat) : Nat × Nat := (if k ≤ 3 then 1 else k, if k = 7 then 0 else src)

/-- Enabling slot `n` with a kind and a source breaks R206. -/
def State.enableBad (s : State) (n k src : Nat) : Bool :=
  let others := (List.range 23).filter (fun m => decide (m ≠ n) && s.rb RCLn_CFG_en m)
  decide ((others.filter (fun m => decide (s.rf RCLn_CFG_kind m = k))).length ≥ kindLimit k) ||
  (decide (k = 4) && decide (src > 7)) || (decide (k = 6) && decide (src > 3)) ||
  others.any (fun m => decide (inputOf (s.rf RCLn_CFG_kind m) (s.rf RCLn_CFG_src m) = inputOf k src))

/-- A write of RCLn_CFG (R206, R227, R229). While en = 1, 0x0C0C is journalled for a write that would change kind, src or feed; one that
repeats the values in force, as a write of prio or lockout must, is silent (DESIGN CHOICE, log 66). -/
def State.slotConfig (s : State) (n v : Nat) : State :=
  if n = 23 then s
  else
    let en := s.rb RCLn_CFG_en n
    let k := bitsOf v 0 4
    let src := bitsOf v 8 5
    let feed := if k = 3 ∨ k = 4 ∨ k = 6 ∨ k = 7 then 1 else bitsOf v 5 1
    let refused := s.journal 1 (0x0C00 + n) 0x0C0C (7 + n * 2 ^ 3 + 3 * 2 ^ 8)
    let clash := en && (decide (k ≠ s.rf RCLn_CFG_kind n) || decide (src ≠ s.rf RCLn_CFG_src n) || decide (feed ≠ s.rf RCLn_CFG_feed n))
    let s1 := if clash then refused
      else if en then s
      else ((s.wf RCLn_CFG_kind k n).wf RCLn_CFG_src src n).wf RCLn_CFG_feed feed n
    let s2 := (s1.wf RCLn_CFG_lockout (bitsOf v 6 1) n).wf RCLn_CFG_prio (bitsOf v 16 8) n
    let s3 := if s2.rb RCLn_CFG_lockout n && s2.rb RCL_STATUS_forced && decide (s2.rf RCL_STATUS_fslot = n) then
      (s2.wf RCL_STATUS_forced 0).wf RCL_STATUS_fslot 31 else s2
    let want := bitOf v 4
    if want && !en then
      if s3.enableBad n k src then s3.journal 1 (0x0C00 + n) 0x0C0C (7 + n * 2 ^ 3 + 3 * 2 ^ 8)
      else ((s3.wf RCLn_CFG_en 1 n).setSlot n Slot.empty).slotMove n 1 0
    else if !want && en then
      ((s3.wf RCLn_CFG_en 0 n).setSlot n Slot.empty).slotMove n 0 1
    else if en then (s3.select (if s3.rb RCLn_CFG_lockout n then 2 else 0) n).1
    else s3

/-! ## Frequency observations, ACCEPT and RESTORE (R236, R247, R256) -/

/-- The observation of the selected frequency slot at a spine second (R236): the slope of its track over that second, from three points up. -/
def State.freqObserve (s : State) : State :=
  let n := s.selected
  if n < 23 ∧ s.freqSlot n ∧ s.slotState n = 3 ∧ s.mode = 2 then
    let pts := (s.slot n).track.takeWhile (fun q => decide (s.raw - uSec ≤ q.1))
    let f := fitOf pts
    if f.n < 3 ∨ f.den = 0 then s
    else
      let cyy := f.n * f.syy - f.sy * f.sy
      let e := cyy * f.den - f.num * f.num
      s.servoFreq (rne (f.num * dcoOne * fp48) f.den)
        (Flt.ofRat (max 0 e * dcoOne * dcoOne) ((f.n - 2) * f.den * f.den).toNat)
  else s

/-- SRV_CMD ACCEPT (R247): J joins B, and R219 applies as at a commit whose old slot is the selected one. -/
def State.servoAccept (s : State) : State :=
  if s.fatalSet then s.wf SRV_RESULT_result 2
  else if ¬ s.rb SRV_STATUS_candidate then s.wf SRV_RESULT_result 1
  else
    let j := s.rs 64 SRV_CANDIDATE_j
    let s1 := (s.setSrv { s.srv with run := none }).ws RCL_BUILDOUT_b (s.rclB + j)
    let s2 := ((((s1.wf SRV_STATUS_candidate 0).wf SRV_STATUS_run 0).wf SRV_RESULT_result 0).journal 1 0x0D00 0x0D03
      (s.rf SRV_CANDIDATE_j))
    s2.rclPolicy false (s2.rb RCL_CTL_slew) (uSec - 1)

/-- b₀ of R256 in ps: the checkpointed bound, 30 ppm of the outage and two RTC periods. -/
def restoreBound (bc outage : Nat) : Nat := bc + ceilDiv (30 * outage) 1000000 + 61035157

/-- SERVO_RESTORE (R212, R256): at the first strobe after SYS_READY.spine sets. -/
def State.servoRestore (s : State) : State :=
  match s.srv.restore with
  | none => s
  | some (x, outage) =>
    if ¬ s.isReady 2 ∨ s.now ≠ s.tm.lastStrobe then s
    else
      let b0 := restoreBound x.bound outage
      let s0 := s.setSrv { s.srv with restore := none }
      if x.bound = 0xFFFFFFFF ∨ b0 > 4294967294 then s0
      else
        let rt := s.rf SRV_RETRACE_ppt
        let cov := { x.cov with p22 := x.cov.p22.add (Flt.ofInt ((rt * rt : Nat) : Int)) }
        let p := s.agePart x.a cov
        let s1 := s0.setSrv { s0.srv with r := x.p, y := x.y, a := p.1, cov := p.2, sk := s.now, inited := true, timeFed := true, sigBase := s.tm.steer }
        let s2 := s1.setAnchor ⟨s.now, s.now, (b0 : Int) * fp48, p.2.p22, p.2.p33, [], true, x.p, x.b, 0⟩
        let s3 := (((s2.ws RCL_BUILDOUT_b x.b).wf RCLn_STATUS_state 3 23).wf RCL_STATUS_selected 23).boundSet b0
        (((s3.srvMode 3).journal 1 (0x0C00 + 23) 0x0C01 (23 + 3 * 2 ^ 8)).srvShow.journal 1 0x0D00 0x0D09 (1 + b0 * 2 ^ 32)).alarmBit RCL_ALARM_holdover 20

/-! ## Steps (R120, R218) -/

/-- The planned commit point of a switch follows a step, which has no effect on the switch (R231; DEDUCED, log 60). -/
def State.commitStep (s : State) (d : Int) : State :=
  if s.rf RCL_STATUS_target = 63 ∨ s.rf RCL_STATUS_target = 23 then s
  else s.wf RCL_COMMIT_time (packTime (max 0 (unpackTime (s.rf RCL_COMMIT_time) + d)))

/-- B follows a step (R218). -/
def State.buildoutStep (s : State) (d : Int) : State := (s.ws RCL_BUILDOUT_b (s.rclB + d)).needStepCheck

/-- A change of Q since `before` evaluates selection, for the slot whose Q it is, the lowest if they are several (R214, R230). -/
def State.qChanged (s before : State) : State :=
  (s.select 0 (((List.range 23).find? (fun n => decide (before.slotQ n ≠ s.slotQ n))).getD s.selected)).1

/-! ## Meanings -/

def execSlewEnd (s : State) : Result := .next (s.whenUp s.slewEnd)
def execRclSlotConfigWrite (_ : Req) (n : Fin 24) (v : BitVec 32) (s : State) : Result := .next (s.whenUp (s.slotConfig n.val v.toNat))
def execRclMeasurement (n : Fin 24) (s : State) : Result := .next (s.whenUp (s.rclMeasurement n.val))
def execRclQualTimerExpire (n : Fin 24) (s : State) : Result := .next (s.whenUp (s.qualExpire n.val))
def execRclMiss (n : Fin 24) (s : State) : Result := .next (s.whenUp (s.rclMiss n.val))
def execRclCommit (s : State) : Result := .next (s.whenUp s.rclCommitFed)
def execRclSlewStart (s : State) : Result := .next (s.whenUp s.rclSlewStart)
def execRclWtrExpire (n : Fin 24) (s : State) : Result := .next (s.whenUp (s.wtrExpire n.val))
def execRclSettleComplete (n : Fin 24) (s : State) : Result := .next (s.whenUp (s.settleComplete n.val))
def execRclForce (_ : Req) (n : Fin 32) (s : State) : Result := .next (s.whenUp (s.rclForce n.val))
def execRclUnforce (_ : Req) (n : Fin 32) (s : State) : Result := .next (s.whenUp (s.rclUnforce n.val))
def execRclReadmit (_ : Req) (n : Fin 32) (s : State) : Result := .next (s.whenUp (s.rclReadmit n.val))
def execRclSkipWtr (_ : Req) (n : Fin 32) (s : State) : Result := .next (s.whenUp (s.rclSkipWtr n.val))
def execRclReeval (_ : Req) (n : Fin 32) (s : State) : Result := .next (s.whenUp (s.rclReeval n.val))
def execServoFeedTake (q : Fin 3) (s : State) : Result := .next (s.whenUp (s.feedTake q.val))
def execServoAccept (_ : Req) (s : State) : Result := .next (s.whenUp s.servoAccept)
def execServoRestore (s : State) : Result := .next (s.whenUp s.servoRestore)

end Sys2Proof.Machine
end

