-- ==== Sys2Proof/Machine/Frames.lean ====
section
/-!
DEFINITION. Frames: what the lane reads of a received frame (R297, R298), the layouts of PTP and NTP messages (log 24), checksums
(R310), the answer bound (R325 to R327), and the forming of a timed frame once its departure time is known (R324, R329 to R332).
-/

namespace Sys2Proof.Machine
open Sys2Proof Reg

/-- A big-endian number of `n` bytes at an offset. -/
def beAt (l : Bytes) (at_ n : Nat) : Nat := ofBeBytes (slice l at_ n)

/-- The list with `x` written over the bytes from `at_`. -/
def overwrite (l : Bytes) (at_ : Nat) (x : Bytes) : Bytes :=
  if at_ + x.length ≤ l.length then l.take at_ ++ x ++ l.drop (at_ + x.length) else l

/-! ## Received frames -/

/-- What the lane reads of a frame without FCS. -/
structure EthView where
  dst : Nat
  src : Bytes
  /-- 802.1Q or 802.1ad tag; a second tag follows. -/
  tag : Option Nat
  double : Bool
  etype : Nat
  /-- Offset of the payload after the EtherType. -/
  off : Nat
  deriving DecidableEq, Repr

def isTag (t : Nat) : Bool := decide (t = 0x8100) || decide (t = 0x88A8)

def ethView (l : Bytes) : EthView :=
  let t := beAt l 12 2
  if isTag t then
    let t2 := beAt l 16 2
    ⟨beAt l 0 6, slice l 6 6, some (beAt l 14 2), isTag t2, t2, 18⟩
  else ⟨beAt l 0 6, slice l 6 6, none, false, t, 14⟩

/-- Ones' complement sum of 16-bit words; an odd last byte counts as the high half. -/
def sum16 : Bytes → Nat
  | [] => 0
  | [a] => a.toNat * 256
  | a :: b :: t => a.toNat * 256 + b.toNat + sum16 t

/-- Folding of a sum of 16-bit words. -/
def fold16 (n : Nat) : Nat := if n = 0 then 0 else (n - 1) % 65535 + 1

/-- The IP and UDP view of a frame: IPv6, offset of the IP header, of the UDP header, addresses, and validity. -/
structure IpView where
  v6 : Bool
  ip : Nat
  udp : Nat
  src : Bytes
  dst : Bytes
  isUdp : Bool
  sport : Nat
  dport : Nat
  ulen : Nat
  /-- The IPv4 header checksum holds; true for IPv6. -/
  hdrOk : Bool
  deriving DecidableEq, Repr

def ipView (l : Bytes) : Option IpView :=
  let e := ethView l
  let o := e.off
  if e.double then none
  else if e.etype = 0x0800 ∧ o + 20 ≤ l.length ∧ (beAt l o 1) / 16 = 4 then
    let hl := (beAt l o 1) % 16 * 4
    let frag := beAt l (o + 6) 2 % 0x4000
    let u := o + hl
    some ⟨false, o, u, slice l (o + 12) 4, slice l (o + 16) 4, decide (beAt l (o + 9) 1 = 17) && decide (frag = 0) && decide (u + 8 ≤ l.length),
      beAt l u 2, beAt l (u + 2) 2, beAt l (u + 4) 2, decide (20 ≤ hl) && decide (fold16 (sum16 (slice l o hl)) = 0xFFFF)⟩
  else if e.etype = 0x86DD ∧ o + 40 ≤ l.length ∧ (beAt l o 1) / 16 = 6 then
    let u := o + 40
    some ⟨true, o, u, slice l (o + 8) 16, slice l (o + 24) 16, decide (beAt l (o + 6) 1 = 17) && decide (u + 8 ≤ l.length), beAt l u 2,
      beAt l (u + 2) 2, beAt l (u + 4) 2, true⟩
  else none

/-- The sum over the pseudo-header and the UDP datagram. -/
def udpSum (l : Bytes) (v : IpView) : Nat :=
  sum16 (v.src ++ v.dst) + 17 + v.ulen + sum16 (slice l v.udp v.ulen)

/-- The UDP checksum of a received datagram holds; an IPv4 checksum of 0 is none. -/
def udpOk (l : Bytes) (v : IpView) : Bool :=
  decide (8 ≤ v.ulen) && decide (v.udp + v.ulen ≤ l.length) &&
  ((!v.v6 && decide (beAt l (v.udp + 6) 2 = 0)) || decide (fold16 (udpSum l v) = 0xFFFF))

/-- The UDP payload of a frame. -/
def udpPayload (l : Bytes) (v : IpView) : Bytes := slice l (v.udp + 8) (v.ulen - 8)

/-! ## Checksums on transmit (R310) -/

/-- A checksum field from a folded sum: its complement, with 0 sent as 0xFFFF. -/
def csumOf (n : Nat) : Nat := let x := 0xFFFF - fold16 n; if x = 0 then 0xFFFF else x

/-- The frame carries a PTP message over UDP with two bytes after messageLength. -/
def hasTrailer (l : Bytes) (v : IpView) : Bool :=
  v.v6 && (decide (v.dport = 319) || decide (v.dport = 320)) && decide (v.ulen = 8 + beAt l (v.udp + 10) 2 + 2)

/-- The checksums of a frame made to agree with it (R310). A trailer at an odd offset of the datagram lies across two 16-bit words: its
bytes change places. -/
def fixCsum (l : Bytes) : Bytes :=
  match ipView l with
  | none => l
  | some v =>
    if ¬ v.v6 then
      let hl := v.udp - v.ip
      let l1 := overwrite l (v.ip + 10) [0, 0]
      let l2 := overwrite l1 (v.ip + 10) (beBytes 2 (0xFFFF - fold16 (sum16 (slice l1 v.ip hl))))
      if ¬ v.isUdp ∨ beAt l2 (v.udp + 6) 2 = 0 then l2
      else
        let l3 := overwrite l2 (v.udp + 6) [0, 0]
        overwrite l3 (v.udp + 6) (beBytes 2 (csumOf (udpSum l3 v)))
    else if ¬ v.isUdp then l
    else if hasTrailer l v then
      let at_ := v.udp + v.ulen - 2
      let l1 := overwrite l at_ [0, 0]
      let c := 0xFFFF - fold16 (udpSum l1 v)
      overwrite l1 at_ (beBytes 2 (if v.ulen % 2 = 0 then c else c % 256 * 256 + c / 256))
    else
      let l3 := overwrite l (v.udp + 6) [0, 0]
      overwrite l3 (v.udp + 6) (beBytes 2 (csumOf (udpSum l3 v)))

/-- R310 needs the whole datagram of an IPv6 frame without a trailer: at most 2,048 bytes. -/
def csumTooLong (l : Bytes) : Bool :=
  match ipView l with
  | some v => v.v6 && v.isUdp && !hasTrailer l v && decide (2048 < l.length)
  | none => false

/-! ## PTP messages (log 24) -/

/-- Message types. -/
def ptpSync : Nat := 0
def ptpDelayReq : Nat := 1
def ptpPdelayReq : Nat := 2
def ptpPdelayResp : Nat := 3
def ptpFollowUp : Nat := 8
def ptpDelayResp : Nat := 9
def ptpPdelayRespFU : Nat := 10
def ptpAnnounce : Nat := 11
def ptpSignaling : Nat := 12
def ptpManagement : Nat := 13

def ptpType (m : Bytes) : Nat := beAt m 0 1 % 16
def ptpSdo (m : Bytes) : Nat := beAt m 0 1 / 16
def ptpVersion (m : Bytes) : Nat := beAt m 1 1
def ptpLen (m : Bytes) : Nat := beAt m 2 2
def ptpDomain (m : Bytes) : Nat := beAt m 4 1
def ptpFlags (m : Bytes) : Nat := beAt m 6 2
def ptpCorr (m : Bytes) : Int := toSigned 64 (beAt m 8 8)
def ptpSrc (m : Bytes) : Bytes := slice m 20 10
def ptpSeq (m : Bytes) : Nat := beAt m 30 2
def ptpLog (m : Bytes) : Int := toSigned 8 (beAt m 33 1)
/-- The timestamp field, in units. -/
def ptpTs (m : Bytes) : Int := (beAt m 34 6 : Int) * uSec + (beAt m 40 4 : Int) * uNs
/-- requestingPortIdentity. -/
def ptpReqId (m : Bytes) : Bytes := slice m 44 10

/-- The least length of each message type. -/
def ptpMinLen (t : Nat) : Nat :=
  if t = 0 ∨ t = 1 ∨ t = 8 then 44
  else if t = 2 ∨ t = 3 ∨ t = 9 ∨ t = 10 then 54
  else if t = 11 then 64
  else if t = 12 then 44
  else if t = 13 then 48
  else 34

/-- A TLV: type, value. -/
abbrev Tlv := Nat × Bytes

/-- The TLVs of a message's tail; none where a length runs over. -/
def tlvs : Nat → Bytes → Option (List Tlv)
  | 0, l => if l = [] then some [] else none
  | fuel + 1, l =>
    if l = [] then some []
    else if l.length < 4 then none
    else
      let n := beAt l 2 2
      if l.length < 4 + n then none
      else (tlvs fuel (l.drop (4 + n))).map ((beAt l 0 2, slice l 4 n) :: ·)

def ptpTlvs (m : Bytes) : Option (List Tlv) := tlvs 64 ((m.take (ptpLen m)).drop (ptpMinLen (ptpType m)))

def tlvBytes (t : Tlv) : Bytes := beBytes 2 t.1 ++ beBytes 2 t.2.length ++ t.2

/-- A message with its messageLength set. -/
def ptpFinish (m : Bytes) : Bytes := overwrite m 2 (beBytes 2 m.length)

/-- The timestamp of an instant (R55), and its fraction. -/
def tsBytes (z : Int) : Bytes := beBytes 6 (ofSigned 48 (z / uSec)) ++ beBytes 4 ((z % uSec) / uNs).toNat
def fracOf (z : Int) : Int := z % uNs

def corrBytes (z : Int) : Bytes := beBytes 8 (ofSigned 64 z)

/-- clockIdentity of the engine and portIdentity of a lane. -/
def State.clockId (s : State) : Bytes := beBytes 8 (s.rf TSV_CLOCK_ID_id)
def State.portId (s : State) (n : Nat) : Bytes := s.clockId ++ beBytes 2 (n + 1)

def State.family (s : State) (p : Nat) : Nat := if s.rf TSV_PROFp_CFG_family p ≤ 5 then s.rf TSV_PROFp_CFG_family p else 0

/-- The range of domainNumber of a family, and the nearest value in it (R328). -/
def famDomain (f : Nat) : Nat × Nat := if f = 1 then (24, 43) else if f = 2 then (44, 63) else if f = 5 then (0, 0) else (0, 127)
def State.profDomain (s : State) (p : Nat) : Nat :=
  let r := famDomain (s.family p)
  max r.1 (min r.2 (s.rf TSV_PROFp_CFG_domain p))

/-- Ranges of the log intervals of Sync, Announce and Delay_Req or Pdelay_Req (R328). -/
def famLog (f k : Nat) : Int × Int :=
  match f, k with
  | 1, 0 => (-4, -4) | 1, 1 => (-3, -3) | 1, _ => (-4, -4)
  | 2, 0 => (-7, 0) | 2, 1 => (-3, 0) | 2, _ => (-7, 0)
  | 3, 0 => (-7, -1) | 3, 1 => (-3, 1) | 3, _ => (-7, 0)
  | 4, 0 => (-4, 1) | 4, 1 => (0, 4) | 4, _ => (-3, 5)
  | 5, 0 => (-5, 1) | 5, 1 => (-3, 3) | 5, _ => (-4, 3)
  | _, 0 => (-7, 4) | _, 1 => (-3, 4) | _, _ => (-7, 5)

def State.profLog (s : State) (p k : Nat) : Int :=
  let v := s.rs 8 (if k = 0 then TSV_PROFp_INTV_sync else if k = 1 then TSV_PROFp_INTV_announce else TSV_PROFp_INTV_delay) p
  let r := famLog (s.family p) k
  max r.1 (min r.2 v)

/-- A log interval in units. -/
def logUnits (k : Int) : Int := if k ≥ 0 then uSec * (2 ^ k.toNat : Nat) else uSec / ((2 ^ (-k).toNat : Nat) : Int)

/-- Peer delay: family 5 always, family 0 by `p2p` (R328). -/
def State.profP2p (s : State) (p : Nat) : Bool := decide (s.family p = 5) || (decide (s.family p = 0) && s.rb TSV_PROFp_CFG_p2p p)
/-- Two-step Sync, family 5 only. -/
def State.profTwoStep (s : State) (p : Nat) : Bool := decide (s.family p = 5) && s.rb TSV_PROFp_CFG_twostep p
/-- Unicast negotiation: families 0 and 2; and multicast service: all but family 2 (R328). -/
def State.profNego (s : State) (p : Nat) : Bool := (decide (s.family p = 0) || decide (s.family p = 2)) && s.rb TSV_PROFp_CFG_unicast p
def State.profMulticast (s : State) (p : Nat) : Bool := decide (s.family p ≠ 2) && s.rb TSV_PROFp_CFG_multicast p
/-- The transports that a family allows and the profile enables: 0 L2, 1 UDPv4, 2 UDPv6. -/
def State.profTransports (s : State) (p : Nat) : List Nat :=
  let f := s.family p
  let allow := if f = 1 ∨ f = 5 then [0] else if f = 2 then [1, 2] else if f = 3 ∨ f = 4 then [1] else [0, 1, 2]
  allow.filter (fun t => s.rb (if t = 0 then TSV_PROFp_CFG_l2 else if t = 1 then TSV_PROFp_CFG_ipv4 else TSV_PROFp_CFG_ipv6) p)
def State.profTrailer (s : State) (p : Nat) : Bool :=
  s.rb TSV_PROFp_CFG_trailer p && (decide (s.family p = 0) || decide (s.family p = 2) || decide (s.family p = 3))

/-- A PTP header (log 24): type, flags, correction, source, sequenceId, log interval. -/
def State.ptpHdr (s : State) (p type flags : Nat) (corr : Int) (src : Bytes) (seq : Nat) (log : Int) : Bytes :=
  let ctl := if type = 0 then 0 else if type = 1 then 1 else if type = 8 then 2 else if type = 9 then 3 else if type = 13 then 4 else 5
  beBytes 1 ((if s.family p = 5 then 16 else 0) + type) ++ [0x12, 0, 0] ++ beBytes 1 (s.profDomain p) ++ [0] ++ beBytes 2 flags ++ corrBytes corr ++ zeros 4 ++
  src ++ beBytes 2 seq ++ beBytes 1 ctl ++ beBytes 1 (ofSigned 8 log)

def flagTwoStep : Nat := 0x0200
def flagUnicast : Nat := 0x0400

/-! ## The answer bound (R325, R326) -/

/-- Speed of a lane's mode: 1 for 1 Gb/s, 2 for 10 Gb/s, 3 for 25 Gb/s, 4 for 100 Gb/s, 0 off. -/
def State.laneMode (s : State) (n : Nat) : Nat := if s.rf MACn_CTL_mode n ≤ 4 then s.rf MACn_CTL_mode n else 0

/-- e_lane in ps, with the coarse stamp's share. -/
def State.eLane (s : State) (n : Nat) (coarse : Bool) : Nat :=
  let m := s.laneMode n
  (if m = 1 then 1000 else if m = 2 then 250 else 150) + (if coarse then 2000 + (if m = 1 then 8000 else if m = 2 then 6400 else 2560) else 0)

/-- b_a: 0xFFFF_FFFF where untraceable. -/
def State.answerBound (s : State) (n : Nat) (coarse : Bool) : Nat :=
  let b := s.rf SRV_BOUND_ps
  if b = 0xFFFFFFFF ∨ ¬ s.rb MACn_STATUS_cal_valid n then 0xFFFFFFFF else min 0xFFFFFFFF (b + s.eLane n coarse)

/-- ceil(log2(a / b)) scaled by the exponent already in `a` and `b`: the smallest n with 2ⁿ · b ≥ a. -/
def ceilLog2 (a b : Nat) : Int :=
  let m : Int := (Nat.log2 a : Int) - (Nat.log2 b : Int)
  let ok := fun n : Int => if n ≥ 0 then decide (a ≤ 2 ^ n.toNat * b) else decide (a * 2 ^ (-n).toNat ≤ b)
  if ok (m - 1) then m - 1 else if ok m then m else m + 1

/-- offsetScaledLogVariance (R326): 256 × log2(σ²) is 512 × log2(b_a / (3 × 10¹² ps)). -/
def variance (b : Nat) : Nat :=
  if b = 0xFFFFFFFF then 0xFFFF
  else if b = 0 then 0
  else (max 0 (min 0xFFFE (0x8000 + ceilLog2 (b ^ 512) ((3 * 10 ^ 12) ^ 512)))).toNat

/-- clockAccuracy, and NTP root dispersion. -/
def accuracyOf (b : Nat) : Nat := if b = 0xFFFFFFFF then 0xFE else accCode b
def rootDisp (b : Nat) : Nat := if b = 0xFFFFFFFF then 0xFFFFFFFF else max 1 (ceilDiv (b * 65536) (10 ^ 12))

/-- The kind of the selected slot; none without one. -/
def State.selKind (s : State) : Option Nat := if s.selected < 24 then some (s.slotKind s.selected) else none

/-- SRV_SINCE_FEED (R259). -/
def State.sinceFeed (s : State) : Nat :=
  match s.srv.anchor with
  | some an => min 0xFFFFFFFF (max 0 (secsOf (s.now - an.feedAt))).toNat
  | none => 0xFFFFFFFF

/-- The bound TLV (R327). -/
def State.boundTlv (s : State) (b : Nat) : Tlv :=
  let sel := s.selected
  let fl := (if s.fatalSet then 1 else 0) + (if sel < 24 ∧ s.rb RCLn_STATUS_disputed sel then 2 else 0)
  (3, beBytes 3 (s.rf TSV_BOUND_ORG_org) ++ [0, 0, 1] ++ beBytes 4 b ++ beBytes 4 s.sinceFeed ++
    beBytes 1 (s.rf SRV_STATUS_class) ++ beBytes 1 (s.selKind.getD 0xFF) ++ beBytes 2 fl)

/-! ## Keys of the seal (R332) -/

/-- The window of a key entry holds at a stamp: NOT_BEFORE and NOT_AFTER are inclusive, 0 means none. -/
def State.keyWindow (s : State) (k : Nat) (t : Int) : Bool :=
  let sec := ofSigned 32 (secsOf t)
  let nb := s.rf TSV_KEYk_NB_secs k
  let na := s.rf TSV_KEYk_NA_secs k
  (decide (nb = 0) || decide (nb ≤ sec)) && (decide (na = 0) || decide (sec ≤ na))

/-- The key of an entry: algorithm and locker content; none while the entry is bad or the lockers are not open. -/
def State.entryKey (s : State) (k : Nat) : Option (Nat × Bytes) :=
  if s.rb TSV_KEYk_CFG_bad k ∨ ¬ s.keyOpen then none
  else (s.locker (s.rf TSV_KEYk_CFG_locker k)).bind (fun x =>
    if x.attr = 5 ∧ ¬ x.p384 then some (s.rf TSV_KEYk_CFG_alg k, x.key) else none)

def State.entryFor (s : State) (k p : Nat) (f : Fld) (t : Int) : Bool :=
  s.rb f k && bitOf (s.rf TSV_KEYk_CFG_profs k) p && s.keyWindow k t && (s.entryKey k).isSome

/-- The send entry of a profile at an instant. -/
def State.sendEntry (s : State) (p : Nat) (t : Int) : Option Nat := (List.range 32).find? (fun k => s.entryFor k p TSV_KEYk_CFG_tx t)

/-- The seal that a profile's messages take. -/
def State.profSeal (s : State) (p : Nat) : SealBy := if s.rb TSV_PROFp_CFG_auth p then .profile p else .none

/-- An AUTHENTICATION TLV of key entry `k` on a message, whose messageLength it ends (R332). -/
def State.sealed (s : State) (k : Nat) (m : Bytes) : Bytes :=
  let id := s.rf TSV_KEYk_ID_id k
  let m1 := m ++ beBytes 2 0x8009 ++ beBytes 2 22 ++ beBytes 1 id ++ [0] ++ beBytes 4 id
  let m2 := overwrite m1 2 (beBytes 2 (m1.length + 16))
  match s.entryKey k with
  | some (alg, key) => m2 ++ authCode alg key m2
  | none => m2 ++ zeros 16

/-! ## Forming a frame (R324) -/

/-- The payload in its headers, with checksums (log 23). -/
def frameOf (a : Addr) (payload : Bytes) : Bytes :=
  let tag := match a.tag with
    | some t => [0x81, 0x00] ++ beBytes 2 t
    | none => []
  let eth := fitBytes 6 a.dst ++ fitBytes 6 a.src ++ tag
  let pad := fun (l : Bytes) => l ++ zeros (60 - l.length)
  let udp := fun (body : Bytes) => beBytes 2 a.sport ++ beBytes 2 a.dport ++ beBytes 2 (8 + body.length) ++ [0xFF, 0xFF] ++ body
  match a.transport with
  | 0 => pad (eth ++ [0x88, 0xF7] ++ payload)
  | 1 =>
    let u := udp payload
    pad (fixCsum (eth ++ [0x08, 0x00, 0x45] ++ beBytes 1 (Config.ipFill 0) ++ beBytes 2 (20 + u.length) ++ beBytes 2 (Config.ipFill 1) ++
      beBytes 2 (Config.ipFill 2 % 0x10000 / 0x4000 * 0x4000) ++ beBytes 1 (Config.ipFill 3) ++ [17, 0, 0] ++ fitBytes 4 a.ipSrc ++ fitBytes 4 a.ipDst ++ u))
  | _ =>
    let u := udp (payload ++ if a.trailer then [0, 0] else [])
    pad (fixCsum (eth ++ [0x86, 0xDD] ++ beBytes 4 (6 * 2 ^ 28 + Config.ipFill 0 % 256 * 2 ^ 20 + Config.ipFill 4 % 2 ^ 20) ++
      beBytes 2 u.length ++ [17] ++ beBytes 1 (Config.ipFill 3) ++ fitBytes 16 a.ipSrc ++ fitBytes 16 a.ipDst ++ u))

/-- The state's class of `SRV_CLASSp` for a family (R258, R328). -/
def State.clockClass (s : State) (fam : Nat) : Nat :=
  let p := if fam = 1 then 1 else if fam = 2 then 2 else if fam = 5 then 3 else 0
  match s.rf SRV_STATUS_class with
  | 0 => s.rf SRV_CLASSp_freerun p
  | 1 => s.rf SRV_CLASSp_locked p
  | 2 => s.rf SRV_CLASSp_hold_in p
  | 3 => s.rf SRV_CLASSp_hold_out_freq p
  | _ => s.rf SRV_CLASSp_hold_out p

/-- timeSource by the kind of the selected slot (R330); 0xA0 without one (log 25). -/
def State.timeSource (s : State) : Nat :=
  match s.selKind with
  | some 6 => 0x20
  | some 7 => 0x20
  | some 4 => 0x40
  | some 3 => 0x39
  | some 1 => 0x90
  | some 8 => if s.rb TSV_CTL_atomic then 0x10 else 0xA0
  | _ => 0xA0

/-- An Announce of profile `p` on lane `n` (R330). -/
def State.announceMsg (s : State) (n p seq : Nat) (uni : Bool) : Bytes :=
  let fam := s.family p
  let b := s.answerBound n false
  let cls := s.rf SRV_STATUS_class
  let traceable := decide (b ≠ 0xFFFFFFFF)
  let tt := (decide (cls = 1) || decide (cls = 2)) && traceable
  let ft := decide (cls = 1) || decide (cls = 2) || decide (cls = 3)
  let fl := (if s.rb SPN_UTC_STATUS_leap61 then 1 else 0) + (if s.rb SPN_UTC_STATUS_leap59 then 2 else 0) +
    (if s.rb SPN_UTC_STATUS_valid then 4 else 0) + 8 + (if tt then 16 else 0) + (if ft then 32 else 0) + (if uni then flagUnicast else 0)
  let body := zeros 10 ++ beBytes 2 (s.rf SPN_UTC_STATUS_offset) ++ [0] ++ beBytes 1 (s.rf TSV_PROFp_DS_p1 p) ++
    beBytes 1 (s.clockClass fam) ++ beBytes 1 (accuracyOf b) ++ beBytes 2 (variance b) ++ beBytes 1 (s.rf TSV_PROFp_DS_p2 p) ++
    s.clockId ++ [0, 0] ++ beBytes 1 s.timeSource
  let path := if fam = 5 then tlvBytes (8, s.clockId) else []
  let loc := if fam = 1 then Config.localPrio (s.rf TSV_PROFp_DS_local p) else []
  s.ptpHdr p ptpAnnounce fl 0 (s.portId n) seq (s.profLog p 1) ++ body ++ path ++ loc

/-- What D does to a PTP message (R329). -/
def insertD (m : Bytes) (ins : PtpIns) (d : Int) : Bytes :=
  match ins with
  | .none => m
  | .origin => overwrite (overwrite m 34 (tsBytes d)) 8 (corrBytes (ptpCorr m + fracOf d))
  | .turnaround t => overwrite m 8 (corrBytes (ptpCorr m + (d - t)))

/-- The key entry that a seal uses at an instant: `none` where the message must be withheld. -/
def State.sealEntry (s : State) (by_ : SealBy) (t : Int) : Option (Option Nat) :=
  match by_ with
  | .none => some none
  | .profile p => (s.sendEntry p t).map some
  | .entry k => if (s.entryKey k).isSome then some (some k) else none

/-- The message types that carry the bound TLV (R327). -/
def carriesBound (t : Nat) : Bool :=
  decide (t = ptpSync) || decide (t = ptpFollowUp) || decide (t = ptpDelayResp) || decide (t = ptpPdelayResp) || decide (t = ptpAnnounce)

/-- A PTP message completed with the bound TLV and the AUTHENTICATION TLV. -/
def State.ptpSealed (s : State) (n : Nat) (m : Bytes) (bound coarse : Bool) (by_ : SealBy) : Option Bytes :=
  let m1 := if bound then m ++ tlvBytes (s.boundTlv (s.answerBound n coarse)) else m
  match s.sealEntry by_ s.now with
  | none => none
  | some none => some (ptpFinish m1)
  | some (some k) => some (s.sealed k m1)

/-- Reference ID by the kind of the selected slot (R341). -/
def State.refId (s : State) : Bytes :=
  match s.selKind with
  | some 6 => ascii "GNSS"
  | some 7 => ascii "GNSS"
  | some 4 => ascii "PTP" ++ [0]
  | some 1 => ascii "PPS" ++ [0]
  | some 3 => ascii "TOD" ++ [0]
  | some 8 => ascii "HOLD"
  | some _ => ascii "FREQ"
  | none => ascii "INIT"

def ntpBytes (x : Int × Int) : Bytes := beBytes 4 (ofSigned 32 x.1) ++ beBytes 4 (ofSigned 32 x.2)

/-- The 48 bytes of an NTP answer (R341). -/
def State.ntpAnswer (s : State) (n vn poll org : Nat) (trx : Int) (coarse : Bool) (d : Int) : Bytes :=
  let free := decide (s.rf SRV_STATUS_class = 0)
  let li := if free then 3 else if s.rb SPN_UTC_STATUS_leap61 then 1 else if s.rb SPN_UTC_STATUS_leap59 then 2 else 0
  beBytes 1 (li * 64 + vn * 8 + 4) ++ beBytes 1 (if free then 16 else 1) ++ beBytes 1 poll ++ [0xE0] ++ zeros 4 ++
  beBytes 4 (rootDisp (s.answerBound n coarse)) ++ s.refId ++ ntpBytes (s.ntpOf (unpackTime (s.rf SRV_LAST_FEED_time))) ++
  beBytes 8 org ++ ntpBytes (s.ntpOf trx) ++ ntpBytes (s.ntpOf d)

/-- An NTP extension field. -/
def extField (type : Nat) (body : Bytes) : Bytes := beBytes 2 type ++ beBytes 2 (4 + body.length) ++ body

/-- A PTP message put behind the headers `pre`, whose IP and UDP lengths follow it (R333). -/
def wrapFrame (pre m : Bytes) : Bytes :=
  let l := pre ++ m
  match ipView l with
  | none => l ++ zeros (60 - l.length)
  | some v =>
    let n := l.length
    let l1 := overwrite l (v.udp + 4) (beBytes 2 (n - v.udp))
    let l2 := if v.v6 then overwrite l1 (v.ip + 4) (beBytes 2 (n - v.udp)) else overwrite l1 (v.ip + 2) (beBytes 2 (n - v.ip))
    let l3 := fixCsum l2
    l3 ++ zeros (60 - l3.length)

/-- The frame of a build with departure time `d` on lane `n`; `none` where no key seals it (R324, R332). -/
def State.formFrame (s : State) (n : Nat) (b : Build) (d : Int) : Option Bytes :=
  match b.msg with
  | .raw data ins ofs fmt csum =>
    let x :=
      if ¬ ins then data
      else if fmt = 0 then
        overwrite (overwrite data ofs (tsBytes d)) (ofs - 26) (corrBytes (toSigned 64 (beAt data (ofs - 26) 8) + fracOf d))
      else overwrite data ofs (ntpBytes (s.ntpOf d))
    some (if csum then fixCsum x else x)
  | .ptp data p ins bound coarse by_ =>
    (s.ptpSealed n (insertD data ins d) (bound && s.rb TSV_PROFp_CFG_bound_tlv p && carriesBound (ptpType data)) coarse by_).map (frameOf b.addr)
  | .wrapped pre data ins bound by_ => (s.ptpSealed n (insertD data ins d) bound false by_).map (wrapFrame pre)
  | .announce p seq uni by_ =>
    (s.ptpSealed n (s.announceMsg n p seq uni) (s.rb TSV_PROFp_CFG_bound_tlv p) false by_).map (frameOf b.addr)
  | .ntp vn poll org trx coarse => some (frameOf b.addr (s.ntpAnswer n vn poll org trx coarse d))
  | .nts vn poll org trx coarse uid s2c nonce plain =>
    let head := s.ntpAnswer n vn poll org trx coarse d ++ uid
    let ct := fitBytes (16 + plain.length) (Config.sivSeal s2c [head, nonce] plain)
    some (frameOf b.addr (head ++ extField 0x0404 (beBytes 2 nonce.length ++ beBytes 2 ct.length ++ nonce ++ ct)))
  | .kiss vn poll org code uid =>
    some (frameOf b.addr (beBytes 1 (3 * 64 + vn * 8 + 4) ++ [0] ++ beBytes 1 poll ++ [0xE0] ++ zeros 8 ++ code ++ zeros 8 ++ beBytes 8 org ++
      zeros 16 ++ uid))

/-- Length without FCS of the frame that a build makes. -/
def State.buildLen (s : State) (n : Nat) (b : Build) : Nat :=
  let tail := fun by_ : SealBy => zeros (if by_ = .none then 0 else 26)
  let ptp := fun (m : Option Bytes) (by_ : SealBy) => (frameOf b.addr (m.getD [] ++ tail by_)).length
  match b.msg with
  | .ptp data p _ bound coarse by_ =>
    ptp (s.ptpSealed n data (bound && s.rb TSV_PROFp_CFG_bound_tlv p && carriesBound (ptpType data)) coarse .none) by_
  | .wrapped pre data _ bound by_ => (wrapFrame pre ((s.ptpSealed n data bound false .none).getD [] ++ tail by_)).length
  | .announce p seq uni by_ => ptp (s.ptpSealed n (s.announceMsg n p seq uni) (s.rb TSV_PROFp_CFG_bound_tlv p) false .none) by_
  | _ => ((s.formFrame n b 0).map (·.length)).getD 60

/-- The message waits for the strobe after which the bound of D's millisecond is published (R325). -/
def Build.carriesBa (b : Build) : Bool :=
  match b.msg with
  | .raw _ _ _ _ _ => false
  | .kiss _ _ _ _ _ => false
  | .ptp data _ _ bound _ _ => bound && carriesBound (ptpType data)
  | .wrapped _ _ _ bound _ => bound
  | _ => true

end Sys2Proof.Machine
end

