-- ==== Sys2Proof/Machine/Synth.lean ====
section
/-!
DEFINITION. The raw chains, cross-measurement and failover (R155 to R161), the ageing model (R162), the oscillator trim
(R163) and the output channels (R164 to R172).
-/

namespace Sys2Proof.Machine
open Sys2Proof Reg

/-! ## Chains -/

def lockFld (c : Nat) : Fld := if c = 0 then SYN_STATUS_lock_a else SYN_STATUS_lock_b
def searchFld (c : Nat) : Fld := if c = 0 then SYN_STATUS_search_a else SYN_STATUS_search_b
def detFld (c : Nat) : Fld := if c = 0 then SYN_STATUS_det_a else SYN_STATUS_det_b

def State.locked (s : State) (c : Nat) : Bool := s.rb (lockFld c)

def State.chain (s : State) (c : Nat) : Chain := (s.tm.chains[c]?).getD ⟨0, false, ⟨0, 0, 0, 0, 0, 0, 0, false⟩, 0⟩
def State.setChain (s : State) (c : Nat) (x : Chain) : State := s.setTm { s.tm with chains := s.tm.chains.set! c x }

/-- The accepted input frequencies in Hz, by code (R155). -/
def oscFreqs : List Nat := [5000000, 10000000, 20000000, 25000000, 50000000, 100000000]

/-- Within ±1,000 ppm of each other. -/
def freqNear (m f : Nat) : Bool := decide (absNat ((m : Int) - f) * 1000 ≤ f)

/-- The code that a chain with setting `freq` takes for a measured input; 7 for none (R155). -/
def oscCode (freq m : Nat) : Nat :=
  if freq = 6 then 7
  else if freq = 7 then ((List.range 6).find? (fun k => freqNear m ((oscFreqs[k]?).getD 0))).getD 7
  else if freqNear m ((oscFreqs[freq]?).getD 0) then freq else 7

/-- OSC_FREQ_DETECT (R155): an unlocked chain measures its input. -/
def State.oscDetect (s : State) (c m : Nat) : State :=
  if s.locked c then s
  else
    let code := if s.rb SYN_OSC_CFG_en c then oscCode (s.rf SYN_OSC_CFG_freq c) m else 7
    (s.wf (detFld c) code).wb (searchFld c) (decide (code ≠ 7))

/-- Raw positions kept across a change of raw time by `d`: tracks and timers of roll call, the measurement units (R188), the
last Bell pulses (R175). -/
def Slot.shift (x : Slot) (d : Int) : Slot :=
  { x with track := x.track.map (fun p => (p.1 + d, p.2 + d)), lastAt := x.lastAt.map (· + d),
           elapsed := x.elapsed + (if x.lastAt.isSome then d * (65536 * dcoOne) else 0), timer := x.timer + d, wtrEnd := x.wtrEnd + d, gapFrom := x.gapFrom + d,
           settle := x.settle.map (fun y => { y with start := y.start + d }), missed := x.missed.map (· + d),
           beaten := x.beaten.map (fun y => (y.1, y.2.map (· + d))) }

def TdcUnit.shift (x : TdcUnit) (d : Int) : TdcUnit :=
  { x with armAt := x.armAt + d, start := x.start.map (· + d), stop := x.stop.map (fun y => (y.1 + d, y.2)), pred := x.pred.map (· + d),
           roundAt := x.roundAt + d, switched := x.switched || x.start.isSome || x.stop.isSome }

def State.rawShift (s : State) (d : Int) : State :=
  { s with
    rcl := { s.rcl with slots := s.rcl.slots.map (·.shift d),
                        disputes := s.rcl.disputes.map (fun y => { y with since := y.since + d, agree := y.agree.map (· + d) }) },
    srv := { s.srv with sigHist := s.srv.sigHist.map (fun y => { y with raw := y.raw + d }) },
    tm := { s.tm with tuneAt := s.tm.tuneAt.map (· + d) },
    tdc := s.tdc.map (·.shift d),
    gns := { s.gns with solAt := s.gns.solAt.map (· + d), ports := s.gns.ports.map (fun x => { x with hist := x.hist.map (· + d) }) },
    tios := s.tios.map (fun x => { x with bellRaw := x.bellRaw.map (· + d) }) }

/-- A measured hit in bins, held to a bound in ps (R160, R161). -/
def hitWithin (ps : Nat) (hit : Int) : Int :=
  let b : Int := ((ps * 1024 / 1000 : Nat) : Int)
  max (-b) (min b hit)

/-- The timebase in use changes to `new` (R160, R161): SWITCH entry of source 3, tracks, servo and the measured hit in bins. -/
def State.timebaseSwitch (s : State) (new : Nat) (hit : Int) (cmd : Bool) : State :=
  let old := s.active
  let s1 := s.closeAll
  let amount := s1.tm.rawOf old - s1.tm.rawOf new
  let s2 := s1.tlyMark amount new 4 3 0
  let mean := s2.tm.xMean
  let s3 := ((s2.wf SYN_STATUS_active new).inc SYN_FAILOVERS_count).journal 1 0x0700 0x0701
    (new + (if cmd then 2 else 0) + ofSigned 32 (satSigned 32 hit) * 2 ^ 32)
  let s4 := s3.rawShift (-amount)
  let s5 := if old = new then s4 else s4.rulerShift (if new = 1 then mean else -mean)
  (s5.setTm { s5.tm with lastSwitch := some s5.now, hit := hit }).anchorHit

/-- The cross-monitor window in ps (R157). -/
def State.xmonWin (s : State) : Nat := max 5 (s.rf SYN_XMON_WIN_win)

/-- A chain is lost (R159, R160): 0x0702, its ready bit falls; the active one fails over, or both are lost. The hit is at most 10 ps for a
stopped oscillator, and the window and 5 ps where the lock monitor trips. -/
def State.chainLost (s : State) (c : Nat) (lockMon : Bool) (hit : Int) : State :=
  if ¬ s.locked c then s
  else
    let s1 := (((s.wf (lockFld c) 0).wf (detFld c) 7).wf (searchFld c) 0).journal 1 (0x0700 + c) 0x0702 (c + (if lockMon then 2 else 0))
    let s1b := s1.setTm { s1.tm with relPrev := none, xTrack := [], relock := s1.tm.relock.filter (fun y => decide (y.1 ≠ c)) }
    let s2 := (s1b.setChain c { s1b.chain c with rawOn := decide (c = s1b.active) }).ready c false
    let other := 1 - c
    if s2.locked other then
      if c = s2.active ∧ s2.tm.run then s2.timebaseSwitch other (hitWithin (if lockMon then s2.xmonWin + 5 else 10) hit) false
      else if c = s2.active then s2.wf SYN_STATUS_active other
      else s2
    else s2.fatal 3 0xFF 0x7FF 0

/-- CROSS_MONITOR_TRIP (R159): 1 µs after a departure in bins with no chain to blame. -/
def State.xmonTrip (s : State) (dep : Int) : State :=
  if s.locked 0 ∧ s.locked 1 ∧ absNat dep * 8000 > s.xmonWin * 8192 then
    let s1 := s.setTm { s.tm with xOutAt := s.now }
    if s1.rb SYN_STATUS_xdispute then s1
    else (s1.wf SYN_STATUS_xdispute 1).journal 1 0x0700 0x0704 (ofSigned 64 dep)
  else s

/-- XDISPUTE_CLEAR (R159): the relation has been within the window for 1 s. -/
def State.xdisputeClear (s : State) : State :=
  if s.rb SYN_STATUS_xdispute ∧ s.tm.xOutAt + uSec ≤ s.now then s.wf SYN_STATUS_xdispute 0 else s

/-- SYN_OSC_CONFIG_WRITE (R155, R159): a change of a locked chain's setting takes it out of lock; an unlocked chain measures again under the
new one. -/
def State.oscConfig (s : State) (c v : Nat) (hit : Int) : State :=
  let same := decide (bitsOf v 0 3 = s.rf SYN_OSC_CFG_freq c) && decide (bitsOf v 3 1 = s.rf SYN_OSC_CFG_en c)
  let s1 := (s.wf SYN_OSC_CFG_freq (bitsOf v 0 3) c).wf SYN_OSC_CFG_en (bitsOf v 3 1) c
  if same then s1 else if s.locked c then s1.chainLost c true hit else (s1.wf (detFld c) 7).wf (searchFld c) 0

/-- Less than 1 ms has passed since the last switch (R161). -/
def State.recentSwitch (s : State) : Bool :=
  match s.tm.lastSwitch with
  | some t => decide (s.now < t + uMs)
  | none => false

/-- SYN_CMD.switch (R161). Where both answers apply it is NOTLOCKED (DESIGN CHOICE, log 59). -/
def State.synSwitch (s : State) (hit : Int) : State :=
  let other := 1 - s.active
  if ¬ s.locked other then s.wf SYN_RESULT_result 1
  else if s.rb TLY_RING_FILL_reserve ∨ s.recentSwitch then s.wf SYN_RESULT_result 2
  else (s.wf SYN_RESULT_result 0).timebaseSwitch other (hitWithin 5 hit) true

/-- TIMEBASE_REVERT (R161). -/
def State.timebaseRevert (s : State) (hit : Int) : State :=
  let p := s.rf SYN_CTL_prefer
  if s.rb SYN_CTL_revert ∧ p ≠ s.active ∧ s.locked p ∧ s.locked s.active ∧ ¬ s.rb TLY_RING_FILL_reserve ∧ ¬ s.recentSwitch ∧
     (s.chain p).lockedAt + (s.rf SYN_RESTORE_WAIT_secs : Int) * uSec ≤ s.now then
    s.timebaseSwitch p (hitWithin 5 hit) true
  else s

/-- Comparisons of A and B − A kept over the dispute window, with the one that reaches back to its start (R158, R223). -/
def trackOver (win : Int) (p : Int × Int) (l : List (Int × Int)) : List (Int × Int) :=
  p :: l.take ((l.takeWhile (fun q => decide (p.1 - win < q.1))).length + 1)

/-- The cross-measurement of a strobe (R158). -/
def State.crossMeasure (s : State) : State :=
  if s.locked 0 ∧ s.locked 1 ∧ (s.chain 0).rawOn ∧ (s.chain 1).rawOn then
    let rel := (s.chain 1).raw - (s.chain 0).raw
    let a := (s.chain 0).raw
    let s1 := (s.ws SYN_XPHASE_xphase (rel / 64)).setTm { s.tm with relPrev := some (rel, a), xTrack := trackOver s.disputeWin (a, rel) s.tm.xTrack }
    match s.tm.relPrev with
    | some p =>
      if p.2 < a then
        let f := (rel - p.1) * (65536 * dcoOne) / (a - p.2)
        (s1.ws SYN_XFREQ_xfreq (satSigned 48 f)).setTm { s1.tm with xHist := (f :: s1.tm.xHist).take 1000 }
      else s1
    | none => s1
  else s.setTm { s.tm with relPrev := none, xTrack := [] }

/-! ## The ageing model (R162) -/

/-- atanh(z) of a fixed-point z < 1/2 with 96 fraction bits, as a series of `k` terms from z^(2i+1). -/
def atanhTerms : Nat → Nat → Nat → Nat → Nat → Nat
  | 0, _, _, _, acc => acc
  | k + 1, i, zp, z2, acc => atanhTerms k (i + 1) (zp * z2 / 2 ^ 96) z2 (acc + zp / (2 * i + 1))

def atanh96 (z : Nat) : Nat := atanhTerms 44 0 z (z * z / 2 ^ 96) 0

/-- ln(n/d) for n ≥ d > 0, with 64 fraction bits. -/
def lnFp (n d : Nat) : Nat :=
  let q := n * 2 ^ 96 / d
  let k := Nat.log2 q - 96
  let m := q / 2 ^ k
  let z := (m - 2 ^ 96) * 2 ^ 96 / (m + 2 ^ 96)
  (k * (2 * atanh96 (2 ^ 96 / 3)) + 2 * atanh96 z) / 2 ^ 32

/-- c(t) of a model at a spine time, in 2⁻⁶⁴ of a word. -/
def AgeModel.eval (m : AgeModel) (now : Int) : Int :=
  let t := max 0 (now - (m.epoch : Int) * uSec)
  let ln : Int := if m.tau = 0 then 0 else (lnFp (t.toNat + m.tau * uSec.toNat) (m.tau * uSec.toNat) : Nat)
  m.c0 * 18446744073709551616 + m.c1 * t * 18446744073709551616 / (86400 * uSec) + m.c2 * ln

/-- The ageing model of a timebase at a strobe: a commit, and the word of the coming millisecond (R162, R240). The precision of c(t) before it is
rounded, and that the residual outlives a commit, are the model's (DESIGN CHOICE, log 59). -/
def State.ageStrobe (s : State) (c : Nat) : State :=
  let x := s.chain c
  let m := x.age
  let m1 : AgeModel :=
    if m.commit then
      { m with c0 := s.rs 48 SYN_AGEx_C0_c0 c, c1 := s.rs 48 SYN_AGEx_C1_c1 c, c2 := s.rs 48 SYN_AGEx_C2_c2 c,
               tau := s.rf SYN_AGEx_TAU_tau c, epoch := s.rf SYN_AGEx_EPOCH_epoch c % 2 ^ 48, commit := false }
    else m
  let v := m1.eval s.now + (m1.evalRes : Int)
  let w := v / 18446744073709551616
  let s1 := (s.setChain c { x with age := { m1 with evalRes := (v % 18446744073709551616).toNat } }).ws SYN_AGEx_NOW_c (satSigned 48 w) c
  if m.commit then
    let s2 := s1.journal 1 (0x0700 + c) 0x0705 c
    if c = s2.active then
      s2.rulerShift (m1.eval s.now / 18446744073709551616 - m.eval s.now / 18446744073709551616)
    else s2
  else s1

/-- SYN_AGEx_CMD.commit (R162). -/
def State.ageCommit (s : State) (c : Nat) : State :=
  s.setChain c { s.chain c with age := { (s.chain c).age with commit := true } }

/-! ## The oscillator trim (R163, R249) -/

/-- A second of raw time has passed since the last step of the trim. -/
def State.tuneDue (s : State) : Bool :=
  match s.tm.tuneAt with
  | some t => decide (t + uSec ≤ s.raw)
  | none => true

/-- TUNE_CODE_STEP: one second of movement. In mode 2 SYN_TUNE_NOW keeps the code that was last output (DESIGN CHOICE, log 59). -/
def State.tuneStep (s : State) : State :=
  match s.rf SYN_TUNE_CTL_mode with
  | 1 =>
    if s.mode = 3 ∧ s.active = 0 then s
    else if ¬ s.tuneDue then s
    else
      let now := s.rf SYN_TUNE_NOW_code
      let tgt := s.rf SYN_TUNE_CODE_target
      let r := s.rf SYN_TUNE_SLEW_rate
      let n := if now ≤ tgt then min tgt (now + r) else max tgt (now - r)
      if n = now then s else ((s.wf SYN_TUNE_NOW_code n).setTm { s.tm with tuneAt := some s.raw }).journal 1 0x0700 0x0706 n
  | 2 => s
  | _ => s.wf SYN_TUNE_NOW_code 0x800000

/-! ## Output channels (R164 to R172) -/

def State.out (s : State) (n : Nat) : OutCh := (s.outs[n]?).getD OutCh.empty
def State.setOut (s : State) (n : Nat) (x : OutCh) : State := { s with outs := s.outs.set! n x }

/-- The scale of W: 65,536 × 10¹². -/
def wScale : Int := 65536000000000000

/-- 0 OFF, 1 WAIT_SYNC, 2 RUN, 3 GLIDE, 4 PARK, 5 SEARCH. -/
def State.outState (s : State) (n : Nat) : Nat := s.rf OUTn_STATUS_state n

/-- Power domain of a channel (R164). -/
def outDom (n : Nat) : Nat := if n < 32 then 15 + n / 8 else 0

def State.outInc (s : State) (n : Nat) : Int := (min (s.rf OUTn_INC_inc n) (2 ^ 62) : Nat)

/-- Target frequency, as INC × (65,536 × 10¹² + w_n). -/
def State.outTarget (s : State) (n : Nat) : Int := s.outInc n * (wScale + s.rs 48 OUTn_FREQ_w n)

/-- The spine rate word w_s: the frequency word and the rate of a running slew (R165). -/
def State.spineRate (s : State) : Int :=
  s.word + (match s.tm.slew with
    | some x => let r : Int := ((min x.rate x.rateCap : Nat) : Int)
                if x.remaining = 0 then 0 else if x.remaining > 0 then r else -r
    | none => 0)

/-- W without w_n: c + track × w_s. -/
def State.outW (s : State) (n : Nat) : Int :=
  s.rs 48 SYN_AGEx_NOW_c s.active + (if s.rb OUTn_CTL_track n then s.spineRate else 0)

/-- The frequency in force and whether the ceiling of R170 holds it. -/
def State.outRate (s : State) (n : Nat) : Int × Bool :=
  let x := s.out n
  let t := s.outTarget n
  let f := x.cur + s.outInc n * s.outW n
  let top := (if s.outState n = 3 then max t x.old else t) * (1000000 + (s.rf OUT_FMAX_MARGIN_ppm : Int)) / 1000000
  if f > top then (top, true) else (f, false)

/-- Advance per tick in 2⁻⁶² cycles, at least 1. -/
def State.outAdv (s : State) (n : Nat) : Int := max 1 ((s.outRate n).1 / wScale)

def cycle62 : Int := 4611686018427387904

/-- M of R165: 1 where the MDLL is bypassed. -/
def State.outMul (s : State) (n : Nat) : Int := if s.rf OUTn_CTL_mult n = 0 then 1 else ((s.rf OUTn_CTL_mult n + 1 : Nat) : Int)

/-- Target period in units, at least 1. -/
def State.outPeriod (s : State) (n : Nat) : Int := max 1 (cycle62 * uTick / max 1 (s.outTarget n * s.outMul n / wScale))

/-- What the target frequency gives in `t` units, in 2⁻⁶² cycles of the rotator. -/
def State.outCycles (s : State) (n : Nat) (t : Int) : Int := s.outTarget n * t / (wScale * uTick)

/-- Phase of the output's cycle in 2⁻⁶², for an accumulator value: high in the first half. -/
def State.phaseOf (s : State) (n : Nat) (acc : Int) : Int := acc * s.outMul n % cycle62

/-- One tick of the dither and of the modulator: the rotator code of the next edge (R166; log 61). -/
def State.rotate (s : State) (n : Nat) (x : OutCh) : OutCh :=
  let adv := s.outAdv n
  let left := cycle62 - x.acc % cycle62
  let dither := s.rb OUTn_CTL_dither n
  let lfsr := if dither then (Config.lfsrNext (BitVec.ofNat 32 x.lfsr)).toNat else x.lfsr
  let dsm := Config.dsmNext x.dsm (left * 2048 % adv).toNat (if dither then lfsr else 0)
  { x with lfsr := lfsr, dsm := dsm, code := ((s.raw / 64 + left * 2048 / adv + (Config.dsmMove dsm).val - 2) % 256).toNat }

/-- An advance of `adv` at spine time `now` through M = `m`: a low phase takes what is left of its lengthening first (R171), the last falling edge is
noted, and the first rising edge ends the wait for it (R169). -/
def OutCh.advance (x : OutCh) (m adv now : Int) : OutCh :=
  let half := cycle62 / 2
  let c := min x.hold (max 0 (adv - max 0 (half - x.acc % cycle62)))
  let acc := x.acc + adv - c
  let low := acc * m % cycle62 - half
  { x with acc := acc, hold := x.hold - c,
           idle := x.idle && !(decide (0 ≤ acc) && decide (x.acc * m / cycle62 < acc * m / cycle62)),
           lastFall := if !x.idle && decide (0 ≤ low) && decide (low < (adv - c) * m) then now - (low + c * m) * uTick / max 1 (adv * m) else x.lastFall }

/-- The first rising edge after a band search is journalled as it comes (R169). -/
def State.outFirst (s : State) (n : Nat) : State :=
  let x := s.out n
  if x.resumed ∧ ¬ x.idle then (s.setOut n { x with resumed := false }).journal s.ringDom (0x0800 + n) 0x0802 n else s

/-- One tick of one channel: the accumulator, and the glide at 100 ppm per millisecond (R165, R169, R170). -/
def State.outTick (s : State) (n : Nat) : State :=
  let st := s.outState n
  if st = 2 ∨ st = 3 then
    let x := s.out n
    let r := s.outRate n
    let a := x.wres + r.1
    let t := s.outTarget n
    let stepMax := t / 5000000000
    let cur := if st = 3 then (if x.cur ≤ t then min t (x.cur + stepMax) else max t (x.cur - stepMax)) else x.cur
    let y := s.rotate n (x.advance (s.outMul n) (a / wScale) s.now)
    ((s.setOut n { y with wres := a % wScale, cur := cur }).wb OUTn_STATUS_clamped r.2 n).outFirst n
  else s

/-- The level of a channel `lead` units ahead: of a running one by its phase, of one at rest until its last falling edge (R169). -/
def State.outHigh (s : State) (n : Nat) (lead : Int) : Bool :=
  let x := s.out n
  if s.outState n = 2 ∨ s.outState n = 3 then
    !x.idle && decide (2 * s.phaseOf n (x.acc + s.outAdv n * lead / uTick) < cycle62)
  else decide (s.now + lead < x.lastFall)

/-- Spine time of the falling edge at which a channel that is ended comes to rest: the one ahead while high, the last one while low. -/
def State.outFall (s : State) (n : Nat) : Int :=
  if s.outHigh n 0 then s.now + (cycle62 / 2 - s.phaseOf n (s.out n).acc) * uTick / (s.outAdv n * s.outMul n) else (s.out n).lastFall

/-- The channel is held low: OFF, PARK, SEARCH or WAIT_SYNC. -/
def State.outRest (s : State) (n st : Nat) : State :=
  let x := s.out n
  let s1 := s.setOut n { x with acc := 0, wres := 0, hold := 0, idle := false, lastFall := s.outFall n, nextB := none, resumed := x.resumed && decide (st ≠ 0) }
  ((s1.wf OUTn_STATUS_state st n).wf OUTn_STATUS_aligned 0 n).wf OUTn_STATUS_clamped 0 n

/-- The MDLL's plan lies outside 500 to 2,000 MHz: M × INC against 2⁶² and 2⁶⁴; or INC is above 2⁶² (R168). -/
def State.planBad (s : State) (n : Nat) : Bool :=
  let f := s.outMul n * s.outTarget n
  decide (s.rf OUTn_INC_inc n > 2 ^ 62) ||
  (decide (s.rf OUTn_CTL_mult n ≠ 0) && (decide (f < cycle62 * wScale) || decide (f > 4 * cycle62 * wScale)))

/-- The MDLL needs a band search: in use, and further than 1,000 ppm from the last one. -/
def State.mdllSearch (s : State) (n : Nat) : Bool :=
  let f := s.outMul n * s.outTarget n
  let g := (s.out n).mdll
  decide (s.rf OUTn_CTL_mult n ≠ 0) && decide ((f - g).natAbs * 1000 > g.natAbs)

/-- A channel enters PARK: counted and journalled (R169). -/
def State.parkNow (s : State) (n : Nat) : State :=
  ((s.outRest n 4).inc OUTn_SQUELCH_count n).journal s.ringDom (0x0800 + n) 0x0801 n

/-- The sync period in units (R168). -/
def State.syncPeriod (s : State) (n : Nat) : Int :=
  let ms := s.rf OUTn_CTL_sync_ms n
  ((if ms = 0 ∨ 1000 < ms then 1000 else ms : Nat) : Int) * uMs

/-- The first instant of a grid at or after `t`. -/
def gridFrom (origin period t : Int) : Int := origin - ((origin - t) / period) * period

/-- A channel waits for the first boundary from now on, once spine time runs. -/
def State.outAwait (s : State) (n : Nat) : State :=
  let x := s.out n
  s.setOut n { x with nextB := if s.tm.run then some (gridFrom x.origin (s.syncPeriod n) s.now) else none }

/-- A channel at rest takes its newest plan: parked while the plan is refused, else in the state `st` (R168, R169). -/
def State.outReplan (s : State) (n st : Nat) : State :=
  let s1 := (s.wb OUTn_STATUS_plan_err (s.planBad n) n).setOut n { s.out n with cur := s.outTarget n, old := s.outTarget n }
  if s.planBad n then (if s.outState n = 4 then s1 else s1.parkNow n) else (s1.wf OUTn_STATUS_state st n).outAwait n

/-- A channel leaves OFF once it is enabled, its ring is locked and its domain is ON (R169); with a refused plan it is parked (R168). -/
def State.outWake (s : State) (n : Nat) : State :=
  if s.outState n = 0 ∧ s.rb OUTn_CTL_en n ∧ s.locked s.active ∧ s.pdOn (outDom n) then
    (s.setOut n { s.out n with lfsr := max 1 (s.rf OUTn_SEED_seed n), dsm := 0, nextB := none }).outReplan n 1
  else s

/-- The first spine tick after a lock under the fatal cause clock (R52): spine time and the rotators move to the ring that has locked, from one that
nothing injects. -/
def State.relockMove (s : State) : State :=
  match s.tm.relock with
  | none => s
  | some (c, d, hit) =>
    let s1 := s.setTm { s.tm with relock := none }
    if c ≠ s1.active then (s1.setChain c { s1.chain c with raw := s1.raw + d, rawOn := true }).timebaseSwitch c hit false
    else
      let s2 := s1.closeAll
      let s3 := s2.tlyMark (-d) c 4 3 0
      let s4 := ((s3.setChain c { s3.chain c with raw := s3.raw + d }).inc SYN_FAILOVERS_count).journal 1 0x0700 0x0701
        (c + ofSigned 32 (satSigned 32 hit) * 2 ^ 32)
      let s5 := s4.rawShift d
      (s5.setTm { s5.tm with lastSwitch := some s5.now, hit := hit }).anchorHit

/-- CHAIN_LOCK (R43, R65, R156, R161, R169): lock with the measured relation `ofs` to the running raw time, below 5 ps; the channels that are enabled
leave OFF when the active ring locks. Before spine time runs, the entry 0x0703 and the chain's own count wait for the tick at which it starts
(log 34). -/
def State.chainLock (s : State) (c : Nat) (ofs hit : Int) : State :=
  let code := s.rf (detFld c)
  if s.locked c ∨ code = 7 ∨ ¬ s.rb SYN_OSC_CFG_en c ∨ s.rf SYN_OSC_CFG_freq c = 6 then s
  else
    let d := max (-327) (min 327 ofs)
    let other := 1 - c
    let x := s.chain c
    let running := decide (s.tm.run)
    let lost := running && !s.locked other
    let x1 : Chain := if lost then { x with lockedAt := s.now }
      else { x with raw := if running then s.raw + d else d, rawOn := running, lockedAt := s.now }
    let s1 := ((s.wf (lockFld c) 1).wf (searchFld c) 0).setChain c x1
    let s2 := if running then s1.journal 1 (0x0700 + c) 0x0703 (c + code * 2) else s1
    let s3 := s2.ready c true
    let s4 := if lost then s3.setTm { s3.tm with relock := some (c, d, hit) }
      else if ¬ running ∧ ¬ s.locked other then s3.wf SYN_STATUS_active c else s3
    (List.range 36).foldl State.outWake s4

/-- From PARK, or a change in WAIT_SYNC: a band search where the newest plan needs one, else WAIT_SYNC (R168, R169; a change in WAIT_SYNC is a
DESIGN CHOICE, log 59). -/
def State.outLeavePark (s : State) (n : Nat) : State := s.outReplan n (if s.mdllSearch n then 5 else 1)

/-- A running channel parks (R169). -/
def State.outPark (s : State) (n : Nat) : State := (s.parkNow n).outLeavePark n

/-- A frequency change whose registers are written: `old` is the target before it, `multChanged` says that mult differs (R169). -/
def State.outChange (s : State) (n : Nat) (old : Int) (multChanged : Bool) : State :=
  let st := s.outState n
  let t := s.outTarget n
  let x := s.out n
  if st = 0 then s.wb OUTn_STATUS_plan_err (s.planBad n) n
  else if st = 1 then
    if n ≥ 32 then s.setOut n { x with cur := t, old := t } else s.outLeavePark n
  else if st = 4 then s.outLeavePark n
  else if st = 5 then s.outReplan n 5
  else
    let f := s.outMul n * t
    let band := !multChanged && decide ((t - old).natAbs * 1000000 ≤ s.rf OUT_GLIDE_LIMIT_ppm * old.natAbs) &&
      decide (s.rf OUTn_INC_inc n ≤ 2 ^ 62) && (decide (s.rf OUTn_CTL_mult n = 0) || decide ((f - x.mdll).natAbs * 1000 ≤ x.mdll.natAbs))
    if band ∨ n ≥ 32 then
      if t = x.cur then (s.setOut n { x with old := old }).wf OUTn_STATUS_state 2 n
      else (s.setOut n { x with old := max old x.cur }).wf OUTn_STATUS_state 3 n
    else s.outPark n

/-- A write of INC, FREQ or mult (R165, R168, R169). -/
def State.outPlan (s : State) (n : Nat) (p : OutPlan) : State :=
  let old := s.outTarget n
  match p with
  | .inc v => if n ≥ 32 then s else (s.wf OUTn_INC_inc v.toNat n).outChange n old false
  | .freq v => (s.wf OUTn_FREQ_w v.toNat n).outChange n old false
  | .mult v =>
    if n ≥ 32 then s
    else (s.wf OUTn_CTL_mult v.toNat n).outChange n old (decide (v.toNat ≠ s.rf OUTn_CTL_mult n))

/-- A write of OUTn_CTL (R164, R166 to R169, R172). -/
def State.outCtl (s : State) (n v : Nat) : State :=
  if n ≥ 32 then s
  else
    let old := s.outTarget n
    let multNew := bitsOf v 2 3
    let mc := decide (multNew ≠ s.rf OUTn_CTL_mult n)
    let s1 := ((((((s.wf OUTn_CTL_track (bitsOf v 1 1) n).wf OUTn_CTL_dither (bitsOf v 5 1) n).wf OUTn_CTL_sync_port (bitsOf v 6 5) n).wf
      OUTn_CTL_sync_en (bitsOf v 11 1) n).wf OUTn_CTL_sync_once (bitsOf v 12 1) n).wf OUTn_CTL_sync_ms (bitsOf v 16 10) n).wf
      OUTn_CTL_mult multNew n
    let s1b := if s1.syncPeriod n = s.syncPeriod n then s1 else s1.outAwait n
    let s2 := s1b.wf OUTn_CTL_en (bitsOf v 0 1) n
    if bitOf v 0 then
      let s3 := if mc then s2.outChange n old true else s2
      s3.outWake n
    else (if s2.outState n = 0 then s2 else s2.outRest n 0).wb OUTn_STATUS_plan_err (s2.planBad n) n

/-- GLIDE_TARGET_REACHED (R169). -/
def State.glideDone (s : State) (n : Nat) : State :=
  if s.outState n = 3 ∧ (s.out n).cur = s.outTarget n then s.wf OUTn_STATUS_state 2 n else s

/-- OUT_MDLL_SEARCH_DONE (R169). -/
def State.mdllDone (s : State) (n : Nat) : State :=
  if s.outState n = 5 then
    let x := s.out n
    ((s.setOut n { x with mdll := if s.rf OUTn_CTL_mult n = 0 then x.mdll else s.outMul n * s.outTarget n, resumed := true }).wf OUTn_STATUS_state 1 n).outAwait n
  else s

/-- The boundary that a channel waits for next. -/
def State.outNextB (s : State) (n : Nat) : Int :=
  let x := s.out n
  x.nextB.getD (gridFrom x.origin (s.syncPeriod n) s.now)

/-- Accumulator at spine time `t`, extrapolated at the rate in force, once the lengthening in progress is over. -/
def State.outAccAt (s : State) (n : Nat) (t : Int) : Int := (s.out n).acc - (s.out n).hold + s.outAdv n * (t - s.now) / uTick

/-- PHASE_OFS in units. -/
def State.outOfs (s : State) (n : Nat) : Int := psToUnits (s.rs 32 OUTn_PHASE_OFS_ofs n)

/-- A waiting channel starts at boundary `b`: its first rising edge is the first at or after now of those that fall at the boundary plus the offset
(R167, R169; a negative offset, log 59). -/
def State.outStart (s : State) (n : Nat) (b : Int) (next : Option Int) : State :=
  let x := s.out n
  let acc := s.outAdv n * (s.now - (b + s.outOfs n)) / uTick
  let s1 := s.setOut n { x with acc := acc, wres := 0, hold := 0, idle := decide (acc < 0) || decide (s.outOfs n < 0), cur := s.outTarget n,
                                nextB := next }
  (((s1.wf OUTn_STATUS_state 2 n).wb OUTn_STATUS_aligned (decide (s1.rf OUTn_CYC_cyc n ≠ 0)) n).wf OUTn_STATUS_plan_err 0 n).outFirst n

/-- OUT_SYNC_BOUNDARY (R167, R169). -/
def State.syncBoundary (s0 : State) (n : Nat) : State :=
  let s := s0.outWake n
  let st := s.outState n
  let b := s.outNextB n
  if st = 0 ∨ st = 4 ∨ st = 5 ∨ ¬ s.tm.run then s
  else if s.now < b then s.setOut n { s.out n with nextB := some b }
  else
    let x := s.out n
    let next := some (gridFrom x.origin (s.syncPeriod n) (s.now + 1))
    if st = 1 then
      if x.lastFall + s.outPeriod n / 2 ≤ b then s.outStart n b next else s.setOut n { x with nextB := next }
    else
      let at_ := s.outAccAt n (b + s.outOfs n)
      let cyc := (s.rf OUTn_CYC_cyc n : Int) * cycle62
      let bin := max 1 (s.outAdv n / 2048)
      if cyc = 0 then
        (s.setOut n { x with acc := x.acc - at_ / cycle62 * cycle62, nextB := next }).wf OUTn_STATUS_aligned 0 n
      else if ((at_ - cyc).natAbs : Int) < bin then
        ((s.setOut n { x with acc := x.acc - at_, nextB := next }).wf OUTn_STATUS_aligned 1 n).wf OUTn_STATUS_plan_err 0 n
      else
        let s1 := s.setOut n { x with acc := x.acc - at_ / cycle62 * cycle62, nextB := next }
        ((s1.wf OUTn_STATUS_plan_err 1 n).wf OUTn_STATUS_aligned 0 n).journal s1.ringDom (0x0800 + n) 0x0804 n

/-- A realignment of a running channel by `l` units of low phase, cause 0 step, 1 SYNC (R171). -/
def State.realign (s : State) (n : Nat) (l : Int) (cause : Nat) : State :=
  (s.inc OUTn_REALIGN_count n).journal s.ringDom (0x0800 + n) 0x0803
    (n + cause * 2 ^ 6 + (unitsToPs l).toNat % 2 ^ 32 * 2 ^ 32)

/-- One low phase to come is lengthened by `more` 2⁻⁶² cycles, and whole cycles are recounted so that the accumulator stands at `goal` once that is
over (R171). -/
def OutCh.lengthen (x : OutCh) (more goal : Int) : OutCh :=
  let hold := (x.hold + more) % cycle62
  { x with acc := x.acc + (2 * (goal + hold - x.acc) + cycle62) / (2 * cycle62) * cycle62, hold := hold }

/-- A channel follows a step of `d`, after spine time has moved (R171); the SerDes references do not realign (R304). -/
def State.outStep (s : State) (n : Nat) (d : Int) : State :=
  let st := s.outState n
  let x := s.out n
  let y := { x with lastFall := x.lastFall + d, nextB := none, lastSync := x.lastSync.map (· + d) }
  if st ≠ 2 ∧ st ≠ 3 ∨ 32 ≤ n then (s.setOut n y).outAwait n
  else
    if s.rb OUTn_CTL_track n then
      let f := s.outTarget n * s.outMul n
      let rem := (-d * f) % (cycle62 * wScale * uTick)
      let l := rem / max 1 f
      if s.rf OUTn_CTL_mult n ≠ 0 then ((s.setOut n y).outPark n).realign n l 0
      else
        let b := gridFrom x.origin (s.syncPeriod n) (s.now + 1)
        let goal := x.acc - x.hold + s.outCycles n (d - (b - x.nextB.getD b))
        (s.setOut n { y.lengthen (rem / (wScale * uTick)) goal with nextB := some b }).realign n l 0
    else (s.setOut n y).outAwait n

/-- A channel that listens to a port, and its next SYNC edge there comes less than a period after the last (R172). -/
def State.syncClose (s : State) (n port : Nat) (e : Int) : Bool :=
  s.rb OUTn_CTL_sync_en n && decide (s.rf OUTn_CTL_sync_port n = port) && (s.out n).lastSync.any (fun t => decide (e < t + s.syncPeriod n))

/-- A SYNC edge at one channel (R172). -/
def State.syncEdgeAt (s : State) (n port : Nat) (e : Int) : State :=
  if ¬ s.rb OUTn_CTL_sync_en n ∨ s.rf OUTn_CTL_sync_port n ≠ port ∨ s.syncClose n port e then s
  else
    let x := s.out n
    let origin := e + psToUnits (s.rs 32 OUTn_SYNC_DELAY_delay n)
    let b := gridFrom origin (s.syncPeriod n) (e + 100 * uNs)
    let s1 := if s.rb OUTn_CTL_sync_once n then s.wf OUTn_CTL_sync_en 0 n else s
    let x1 := { x with origin := origin, lastSync := some e, nextB := some b }
    if s1.outState n = 2 ∨ s1.outState n = 3 then
      let at_ := s1.outAccAt n (b + s1.outOfs n)
      let frac := at_ * s1.outMul n % cycle62
      let l := frac * wScale * uTick / max 1 (s1.outTarget n * s1.outMul n)
      if s1.rf OUTn_CTL_mult n ≠ 0 then (((s1.setOut n x1).outPark n).realign n l 1)
      else
        let goal := x.acc - x.hold - at_ + (s1.rf OUTn_CYC_cyc n : Int) * cycle62
        (s1.setOut n (x1.lengthen frac goal)).realign n l 1
    else s1.setOut n x1

/-- The function of a port: 8 to 15 act as 0. -/
def State.tioFunc (s : State) (n : Nat) : Nat := if s.rf TIOn_CFG_func n < 8 then s.rf TIOn_CFG_func n else 0

def tioDom (n : Nat) : Nat := 15 + n / 8

/-- Supply of a port's group: 0 absent, 1 1.8 V, 2 2.5 V, 3 3.3 V. -/
def State.tioVddo (s : State) (n : Nat) : Nat := bitsOf (s.rf TIO_VDDO_level) (2 * (n / 8)) 2

/-- The standard is not supported: by the supply, or in the direction of the function (R178). -/
def State.stdBad (s : State) (n : Nat) : Bool :=
  let std := s.rf TIOn_CFG_std n
  let v := s.tioVddo n
  let f := s.tioFunc n
  decide (v = 0) || decide (6 ≤ std) || (decide (std = 2) && decide (1 ≤ f) && decide (f ≤ 4)) ||
  (decide (3 ≤ std) && decide (std ≤ 5) && decide (v ≠ std - 2))

/-- The pad receiver of a port is enabled: its domain is ON and its standard is supported (R178). -/
def State.tioHears (s : State) (n : Nat) : Bool := s.pdOn (tioDom n) && !s.stdBad n

/-- The spine tick, with a move to a ring that has locked again, and the output channels (R52, R65, R165). -/
def State.spineTickAll (s : State) (drift : Int) : State :=
  if s.tm.run then (List.range 36).foldl State.outTick (s.timeEccCheck.spineTick drift).relockMove else s

/-! ## Meanings -/

def execOscFreqDetect (c : Fin 2) (hz : Nat) (s : State) : Result := .next (s.whenUp (s.oscDetect c.val hz))
def execCrossMonitorTrip (dep : Int) (s : State) : Result := .next (s.whenUp (s.xmonTrip dep))
def execXdisputeClear (s : State) : Result := .next (s.whenUp s.xdisputeClear)
def execSynAgeingCommit (_ : Req) (c : Fin 2) (s : State) : Result := .next (s.whenUp (s.ageCommit c.val))
def execTuneCodeStep (s : State) : Result := .next (s.whenUp s.tuneStep)
def execOutEnableWrite (_ : Req) (n : Fin 36) (v : BitVec 32) (s : State) : Result := .next (s.whenUp (s.outCtl n.val v.toNat))
def execOutFreqChange (_ : Req) (n : Fin 36) (p : OutPlan) (s : State) : Result := .next (s.whenUp (s.outPlan n.val p))
def execGlideTargetReached (n : Fin 36) (s : State) : Result := .next (s.whenUp (s.glideDone n.val))
def execOutMdllSearchDone (n : Fin 36) (s : State) : Result := .next (s.whenUp (s.mdllDone n.val))
def execOutSyncBoundary (n : Fin 36) (s : State) : Result := .next (s.whenUp (s.syncBoundary n.val))

end Sys2Proof.Machine
end

