-- ==== Sys2Proof/Machine/Tio.lean ====
section
/-!
DEFINITION. The TIO ports (R173 to R179): Bell outputs, EDGE pulse programs, ToD serial, pads and loop-back calibration.
-/

namespace Sys2Proof.Machine
open Sys2Proof Reg

def State.tio (s : State) (n : Nat) : TioPort := (s.tios[n]?).getD TioPort.empty
def State.setTio (s : State) (n : Nat) (x : TioPort) : State := { s with tios := s.tios.set! n x }

def State.stdShow (s : State) (n : Nat) : State := s.wb TIOn_STATUS_std_err (s.stdBad n) n

/-- An output function with its pad driver enabled (R178), the gate open (R386). -/
def State.tioDrives (s : State) (n : Nat) : Bool :=
  decide (1 ≤ s.tioFunc n) && decide (s.tioFunc n ≤ 4) && s.pdOn (tioDom n) && !s.stdBad n && s.rb TWN_STATUS_gate

/-- Rates of TIOn_TOD_CFG.baud: 9 to 15 act as 1 (R179). -/
def todBauds : List Int := [4800, 9600, 19200, 38400, 57600, 115200, 230400, 460800, 921600]
def State.todBaud (s : State) (n : Nat) : Int := (todBauds[s.rf TIOn_TOD_CFG_baud n]?).getD 9600

/-- The board delay in units (R179). -/
def State.tioTrace (s : State) (n : Nat) : Int := psToUnits (s.rs 32 TIOn_TRACE_DELAY_delay n)

/-- The line of a ToD output: 8N1 characters, each a start bit at 0, eight data bits from the lowest and a stop bit at 1; idle at 1 (R177). An
edge leaves the pad ahead of its time by the board delay (R179). -/
def State.todLine (s : State) (n : Nat) : Bool :=
  let x := s.tio n
  match x.todAt with
  | none => true
  | some t =>
    let k := (s.now + s.tioTrace n - t) * s.todBaud n / uSec
    let bit := k % 10
    match x.tod[(k / 10).toNat]? with
    | some b => if k < 0 ∨ bit = 9 then true else if bit = 0 then false else b.getLsbD (bit - 1).toNat
    | none => true

/-- The level that the function gives at the pad, before `invert`: an edge leaves the pad ahead of its time by the board delay (R179). -/
def State.tioLevel (s : State) (n : Nat) : Bool :=
  let x := s.tio n
  let t := s.now + s.tioTrace n
  match s.tioFunc n with
  | 1 => s.outHigh (s.rf TIOn_CFG_chan n) (s.tioTrace n)
  | 2 => x.bellAt.any (fun a => decide (a ≤ t)) && x.bellHigh.any (fun e => decide (t < e))
  | 4 => s.todLine n
  | _ => x.drive

/-- The level of the pad (R178, R488). -/
def State.padLevel (s : State) (n : Nat) : Bool :=
  if s.tioDrives n then s.tioLevel n != s.rb TIOn_CFG_invert n else (s.tio n).ext

/-- A port of a clock function whose channel is OFF. -/
def State.noSrc (s : State) (n : Nat) : Bool := decide (s.tioFunc n = 1) && decide (s.outState (s.rf TIOn_CFG_chan n) = 0)

/-- Status fields that follow the present state of a port. -/
def State.tioShow (s : State) (n : Nat) : State :=
  ((s.stdShow n).wb TIOn_STATUS_level (s.padLevel n) n).wb TIOn_STATUS_nosrc (s.noSrc n) n

/-! ## Configuration (R176, R178, R179) -/

/-- The taken edge and the queued ones are discarded, and their credits return (R176). -/
def State.edgeDiscard (s : State) (n : Nat) : State :=
  let q := s.queue (312 + n)
  let k := q.items.length
  let x := s.tio n
  let s1 := s.setQueue (312 + n) { q with items := [], vis := 0, q := (q.q + k) % 2 ^ 32 }
  (s1.setTio n { x with taken := none }).add TIOn_EDGE_LATE_count (k + if x.taken.isSome then 1 else 0) n

/-- TIO_CFG_WRITE (R176 to R179). A port that becomes a ToD output is timed by the Bell edges from then on; with calibration disabled none is in
force. -/
def State.tioCfg (s : State) (n v : Nat) : State :=
  let old := s.tioFunc n
  let s1 := (((((s.wf TIOn_CFG_func (bitsOf v 0 4) n).wf TIOn_CFG_chan (bitsOf v 4 5) n).wf TIOn_CFG_std (bitsOf v 9 3) n).wf
    TIOn_CFG_term (bitsOf v 12 1) n).wf TIOn_CFG_invert (bitsOf v 13 1) n).wf TIOn_CFG_lb_cal (bitsOf v 14 1) n
  let new := s1.tioFunc n
  let s2 := if old = 3 ∧ new ≠ 3 then s1.edgeDiscard n else s1
  let x := s2.tio n
  let s3 := if old = new then s2
    else (s2.setTio n { x with drive := false, lastPlaced := none, bellRaw := none, bellHigh := none, bellAt := none, bells := [], alignAt := none,
                               syncEdges := [], alignEdges := [], bellSched := [], bellFrom := s2.now,
                               todUsed := if new = 4 then some s2.now else none, tod := [], todAt := none }).wf TIOn_STATUS_bell_aligned 0 n
  let s4 := if s3.rb TIOn_CFG_lb_cal n then s3 else (s3.setTio n { s3.tio n with calBusy := false }).wf TIOn_STATUS_cal_valid 0 n
  s4.tioShow n

/-- TIO_VDDO_CHANGE (R178): the supply of a group. -/
def State.vddoChange (s : State) (g level : Nat) : State :=
  let v := s.rf TIO_VDDO_level
  let s1 := s.wf TIO_VDDO_level (v - bitsOf v (2 * g) 2 * 2 ^ (2 * g) + level * 2 ^ (2 * g))
  (List.range 8).foldl (fun s i => s.tioShow (8 * g + i)) s1

/-! ## Bell outputs (R173 to R175) -/

def State.bellPeriod (s : State) (n : Nat) : Int :=
  let ms := s.rf TIOn_BELL_PERIOD_ms n
  ((if ms = 0 then 1000 else ms : Nat) : Int) * uMs

def State.bellWidth (s : State) (n : Nat) : Int :=
  let w := (s.rf TIOn_BELL_WIDTH_ns n : Int) * uNs
  let p := s.bellPeriod n
  if w = 0 ∨ p ≤ w then p / 2 else w

def State.bellOfs (s : State) (n : Nat) : Int := psToUnits (s.rs 32 TIOn_BELL_OFS_ofs n)

def State.bellWindow (s : State) (n : Nat) : Int := (s.rf TIOn_BELL_ALIGN_window n : Int) * 81920

/-- `t` units lie within the window: it counts 10 ps, that is 81,920/125 units. -/
def State.inWindow (s : State) (n : Nat) (t : Int) : Bool := decide (t * 125 ≤ s.bellWindow n)

/-- The input edges of an aligned Bell that are missing by `mark`: each is replaced by its prediction once its window has passed (R174). -/
def State.bellMissed (s : State) (n : Nat) (mark : Int) : TioPort :=
  let x := s.tio n
  match x.alignAt with
  | none => x
  | some a =>
    let p := s.bellPeriod n
    let late := (mark - a - p) * 125 - s.bellWindow n
    let m := if late ≤ 0 then 0 else ((late - 1) / (125 * p) + 1).toNat
    { x with alignAt := some (a + (m : Int) * p),
             bellSched := x.bellSched ++ (List.range m).map (fun k : Nat => a + ((k : Int) + 2) * p + s.bellOfs n) }

/-- Missing input edges are replaced when every edge of their windows has been stamped (R86, R174), up to one that waits to be taken (R85). -/
def State.bellMissing (s : State) (n : Nat) : State :=
  s.setTio n (s.bellMissed n ((s.tio n).alignEdges.foldl min (s.watermark s.ringDom)))

/-- The start of the pulse that is due, if any. -/
def State.bellDue (s : State) (n : Nat) : Option Int :=
  let x := s.tio n
  if s.rb TIOn_BELL_ALIGN_src n ∧ x.alignAt.isSome then x.bellSched.head?
  else
    let b := gridFrom (s.bellOfs n) (s.bellPeriod n) x.bellFrom
    some (if b ≤ s.now then gridFrom (s.bellOfs n) (s.bellPeriod n) (s.now + 1) - s.bellPeriod n else b)

/-- What placement subtracts from an edge's time: the calibrated pad delay in force and the board delay (R179). -/
def State.tioLead (s : State) (n : Nat) : Int := (s.tio n).calNow + s.tioTrace n

/-- The pad delay in force moves toward a calibrated one by at most one bin at an edge (R179). -/
def calStep (now goal : Int) : Int := if now ≤ goal then min goal (now + 64) else max goal (now - 64)

/-- `k` edges are placed, the first of them at `t`: its rotator command, and the pad delay of the next edge, which moves back to none where
calibration is disabled (R179). -/
def State.placed (s : State) (n k : Nat) (t : Int) : State :=
  let x := s.tio n
  let goal := if s.rb TIOn_CFG_lb_cal n then psToUnits (s.rs 32 TIOn_CAL_DELAY_delay n) else 0
  s.setTio n { x with cmdAt := some (t - s.tioLead n), calNow := Nat.repeat (fun c => calStep c goal) k x.calNow }

/-- BELL_PULSE (R173 to R175). -/
def State.bellPulse (s0 : State) (n : Nat) : State :=
  let s := s0.bellMissing n
  if s.tioFunc n ≠ 2 ∨ ¬ s.pdOn (tioDom n) ∨ ¬ s.tm.run ∨ ¬ s.isReady 3 then s
  else match s.bellDue n with
    | none => s
    | some b =>
      if s.now < b - s.tioLead n then s
      else
        let x := s.tio n
        let x1 := { x with bellFrom := b + 1, bellSched := x.bellSched.drop (if s.rb TIOn_BELL_ALIGN_src n ∧ x.alignAt.isSome then 1 else 0) }
        if x.bellRaw.any (fun r => decide (2 * (s.raw + (b - s.now) - r) < s.bellPeriod n)) then
          ((s.setTio n x1).inc TIOn_BELL_SKIP_count n).journal s.ringDom (0x0900 + n) 0x0805 n
        else (s.setTio n { x1 with bellRaw := some (s.raw + (b - s.now)), bellAt := some b,
                                       bells := b :: x.bells.takeWhile (fun y => decide (b - 2 * uSec < y)), bellHigh := some (b + s.bellWidth n) }).placed n 2 b

/-- From now on a Bell takes the first boundary that comes: spine time runs, the outputs are ready, or the domain is back (R173). -/
def State.bellRestart (s : State) (n : Nat) : State := s.setTio n { s.tio n with bellFrom := s.now }

/-- BELL_CONFIG_WRITE (R173, R174). -/
def State.bellConfig (s : State) (n : Nat) (r : BellReg) (v : Nat) : State :=
  match r with
  | .width => s.wf TIOn_BELL_WIDTH_ns (bitsOf v 0 30) n
  | .align =>
    let s1 := ((s.wf TIOn_BELL_ALIGN_src (bitsOf v 0 1) n).wf TIOn_BELL_ALIGN_port (bitsOf v 1 5) n).wf TIOn_BELL_ALIGN_window (bitsOf v 16 16) n
    (s1.setTio n { s1.tio n with alignAt := none, alignEdges := [], bellSched := [], bellFrom := s1.now }).wf TIOn_STATUS_bell_aligned 0 n
  | .period =>
    let s1 := s.wf TIOn_BELL_PERIOD_ms (bitsOf v 0 16) n
    let x := s1.tio n
    s1.setTio n { x with bellFrom := s1.now, bellSched := (x.alignAt.map (fun e => e + s1.bellPeriod n + s1.bellOfs n)).toList }
  | .ofs =>
    let s1 := s.wf TIOn_BELL_OFS_ofs v n
    let x := s1.tio n
    s1.setTio n { x with bellFrom := s1.now, bellSched := (x.alignAt.map (fun e => e + s1.bellPeriod n + s1.bellOfs n)).toList }

/-- BELL_ALIGN_INPUT_EDGE (R174, R183): the next refined rising edge that the unit of the input port has handed to Bell port `n`. Predictions
whose windows end before it are missing; then it lies within the window of its own, or is ignored. -/
def State.bellAlignEdge (s0 : State) (n : Nat) : State :=
  match (s0.tio n).alignEdges with
  | [] => s0
  | e :: rest =>
    let s1 := s0.setTio n { s0.tio n with alignEdges := rest }
    if s1.tioFunc n ≠ 2 ∨ ¬ s1.rb TIOn_BELL_ALIGN_src n then s1
    else
      let s := s1.setTio n (s1.bellMissed n e)
      let x := s.tio n
      let take := (s.setTio n { x with alignAt := some e, bellSched := x.bellSched ++ [e + s.bellPeriod n + s.bellOfs n] }).wf TIOn_STATUS_bell_aligned 1 n
      match x.alignAt with
      | none => take
      | some a => if s.inWindow n ((e - (a + s.bellPeriod n)).natAbs : Int) then take else s.inc TIOn_ALIGN_IGNORED_count n

/-- SYNC_EDGE (R172, R183): the next refined rising edge that the unit of a SYNC input port has handed to it. One that a channel ignores is
counted once. -/
def State.syncEdge (s0 : State) (port : Nat) : State :=
  match (s0.tio port).syncEdges with
  | [] => s0
  | e :: rest =>
    let s := s0.setTio port { s0.tio port with syncEdges := rest }
    if s.tioFunc port = 6 then
      let s1 := if (List.range 32).any (fun n => s.syncClose n port e) then s.inc TIOn_EDGE_CLOSE_count port else s
      (List.range 32).foldl (fun s n => s.syncEdgeAt n port e) s1
    else s

/-- A refined rising edge that the unit of port `p` has stamped goes to the functions that take it: the SYNC input, and every Bell that follows the
port (R172, R174, R183). -/
def State.portEdge (s : State) (p : Nat) (e : Int) : State :=
  let s1 := if s.tioFunc p = 6 then s.setTio p { s.tio p with syncEdges := (s.tio p).syncEdges ++ [e] } else s
  (List.range 32).foldl (fun s m =>
    if s.tioFunc m = 2 ∧ s.rb TIOn_BELL_ALIGN_src m ∧ s.rf TIOn_BELL_ALIGN_port m = p then
      s.setTio m { s.tio m with alignEdges := (s.tio m).alignEdges ++ [e] }
    else s) s1

/-- A Bell follows a step of `d`, after spine time has moved: a pulse that is high keeps its width (R175). -/
def State.bellStep (s : State) (n : Nat) (d : Int) : State :=
  let x := s.tio n
  s.setTio n { x with bellHigh := x.bellHigh.map (· + d), bellFrom := if x.alignAt.isSome then x.bellFrom + d else s.now,
                      bellAt := x.bellAt.map (· + d), bells := x.bells.map (· + d), syncEdges := x.syncEdges.map (· + d),
                      alignEdges := x.alignEdges.map (· + d), todUsed := x.todUsed.map (· + d), todAt := x.todAt.map (· + d), calAt := x.calAt.map (· + d),
                      cmdAt := x.cmdAt.map (· + d),
                      alignAt := x.alignAt.map (· + d), bellSched := x.bellSched.map (· + d) }

/-! ## EDGE (R176) -/

/-- Bits [63:16] of a time, in place (R180). -/
def edgeBits (t : Int) : Nat := packTime t / 2 ^ 16 % 2 ^ 48 * 2 ^ 16

/-- EDGE_TAKE (R176), once the outputs are ready (R45). -/
def State.edgeTake (s : State) (n : Nat) : State :=
  let x := s.tio n
  if s.tioFunc n ≠ 3 ∨ ¬ s.pdOn (tioDom n) ∨ ¬ s.isReady 3 ∨ x.taken.isSome then s
  else match s.qFront (312 + n) with
    | some ⟨_, .edge t l⟩ =>
      let s1 := s.qPop (312 + n)
      if t < s1.now + 20 * uNs then
        (s1.inc TIOn_EDGE_LATE_count n).journal s1.ringDom (0x0900 + n) 0x0901 (n + edgeBits t)
      else if x.lastPlaced.any (fun p => decide (t < p + uNs)) then
        (s1.inc TIOn_EDGE_CLOSE_count n).journal s1.ringDom (0x0900 + n) 0x0902 (n + edgeBits t)
      else s1.setTio n { x with taken := some (t, l) }
    | _ => s

/-- EDGE_PLACE (R176, R179). -/
def State.edgePlace (s : State) (n : Nat) : State :=
  let x := s.tio n
  match x.taken with
  | some (t, l) =>
    if t - s.tioLead n ≤ s.now ∧ s.tioFunc n = 3 ∧ s.isReady 3 then
      (s.setTio n { x with taken := none, lastPlaced := some t, drive := l }).placed n 1 t
    else s
  | none => s

/-! ## ToD serial (R177) -/

def todItem (d : QData) : Nat :=
  match d with
  | .word n => n
  | _ => 0

/-- Bytes of one item: up to seven, the first in [7:0]. -/
def todBytes (n : Nat) : List Byte := leBytes (min 7 (bitsOf n 56 3)) n

/-- The items of a complete message at the front of a queue, if its end is there. -/
def todMessage : List Nat → Option (List Nat)
  | [] => none
  | n :: t => if bitOf n 63 then some [n] else (todMessage t).map (n :: ·)

/-- The message begun last is still being sent. -/
def State.todBusy (s : State) (n : Nat) : Bool :=
  let x := s.tio n
  x.todAt.any (fun t => decide ((s.now - t) * s.todBaud n < 10 * (x.tod.length : Int) * uSec))

/-- The Bell edge that times the next message: the oldest one after the last that has been used (R177). -/
def State.todBell (s : State) (n : Nat) : Option Int :=
  (s.tio (s.rf TIOn_TOD_CFG_pps_port n)).bells.reverse.find? (fun t => (s.tio n).todUsed.all (fun u => decide (u < t)))

/-- TOD_OUT_START (R177). A message that finds the last one still being sent waits too (log 61). -/
def State.todStart (s : State) (n : Nat) : State :=
  let x := s.tio n
  match s.todBell n with
  | none => s
  | some t =>
    if s.tioFunc n ≠ 4 ∨ ¬ s.pdOn (tioDom n) ∨ s.tioFunc (s.rf TIOn_TOD_CFG_pps_port n) ≠ 2 ∨
       s.now < t + (s.rf TIOn_TOD_CFG_start_ms n : Int) * uMs then s
    else
      let i := 1024 + n
      let q := s.queue i
      let items := (q.items.take q.vis).map (fun y => todItem y.data)
      if items = [] then s.setTio n { x with todUsed := some t }
      else match (if s.todBusy n then none else todMessage items) with
        | some l =>
          let s1 := l.foldl (fun s _ => s.qPop i) s
          s1.setTio n { x with todUsed := some t, tod := l.flatMap todBytes, todAt := some (t + (s.rf TIOn_TOD_CFG_start_ms n : Int) * uMs) }
        | none => (s.setTio n { x with todUsed := some t }).inc TIOn_EDGE_LATE_count n

/-- TOD_IN_CHARACTER (R177): a received character with the coarse stamp of its start bit. -/
def State.todIn (s : State) (n byte : Nat) (ferr : Bool) (stamp : Int) : State :=
  if s.tioFunc n ≠ 7 ∨ ¬ s.tioHears n then s
  else
    let t := coarse stamp
    let w := byte + (if ferr then 2 ^ 8 else 0) + (t / uNs % 281474976710656).toNat * 2 ^ 16
    s.qSend (1056 + n) s.ringDom (0x0900 + n) ⟨t, .word w⟩

/-! ## Loop-back calibration (R179) -/

/-- LOOPBACK_CAL_BURST: the port's unit is claimed. -/
def State.calBurst (s : State) (n : Nat) : State :=
  let x := s.tio n
  if s.rb TIOn_CFG_lb_cal n ∧ s.tioDrives n ∧ ¬ x.calBusy ∧
     ¬ x.calAt.any (fun t => decide (s.now < t + (s.rf OUT_CAL_PERIOD_ms : Int) * uMs)) then
    s.setTio n { x with calBusy := true, calAt := some s.now }
  else s

/-! ## Meanings -/

def execBellPulse (n : Fin 32) (s : State) : Result := .next (s.whenUp (s.bellPulse n.val))
def execBellConfigWrite (_ : Req) (n : Fin 32) (r : BellReg) (v : BitVec 32) (s : State) : Result := .next (s.whenUp (s.bellConfig n.val r v.toNat))
def execBellAlignInputEdge (n : Fin 32) (s : State) : Result := .next (s.whenUp (s.bellAlignEdge n.val))
def execSyncEdge (port : Fin 32) (s : State) : Result := .next (s.whenUp (s.syncEdge port.val))
def execTioCfgWrite (_ : Req) (n : Fin 32) (v : BitVec 32) (s : State) : Result := .next (s.whenUp (s.tioCfg n.val v.toNat))
def execTioVddoChange (g : Fin 4) (level : BitVec 2) (s : State) : Result := .next (s.whenUp (s.vddoChange g.val level.toNat))
def execEdgeTake (n : Fin 32) (s : State) : Result := .next (s.whenUp (s.edgeTake n.val))
def execEdgePlace (n : Fin 32) (s : State) : Result := .next (s.whenUp (s.edgePlace n.val))
def execTodOutStart (n : Fin 32) (s : State) : Result := .next (s.whenUp (s.todStart n.val))
def execTodInCharacter (n : Fin 32) (byte : BitVec 8) (ferr : Bool) (stamp : Int) (s : State) : Result :=
  .next (s.whenUp (s.todIn n.val byte.toNat ferr stamp))
def execLoopbackCalBurst (n : Fin 32) (s : State) : Result := .next (s.whenUp (s.calBurst n.val))

end Sys2Proof.Machine
end

