-- ==== Sys2Proof/Machine/Tdc.lean ====
section
/-!
DEFINITION. The measurement units (R181 to R198) and Moss watch on a unit (R199 to R201).
A position is a raw time in units of 2⁻¹⁶ ns, which is 1/64 of a bin: the precision of the calibration tables (R195). How a table follows from its
hits, and what a loop-back burst starts on, are in log 62.
-/

namespace Sys2Proof.Machine
open Sys2Proof Reg

def State.unit (s : State) (n : Nat) : TdcUnit := (s.tdc[n]?).getD TdcUnit.empty
def State.setUnit (s : State) (n : Nat) (x : TdcUnit) : State := { s with tdc := s.tdc.set! n x }

/-- One bin, the 40 ns of R186, and 2⁴⁸ ring cycles (R189), in units. -/
def uBin : Int := 64
def uRearm : Int := 40 * uNs
def uRingMax : Int := 281474976710656 * 16384

/-! ## Claims (R183, R184) -/

/-- The roll-call slot that a unit serves (R207). -/
def State.tdcSlot (s : State) (n : Nat) : Option Nat :=
  if 32 ≤ n then none
  else (List.range 23).find? (fun m => s.rb RCLn_CFG_en m && decide (1 ≤ s.rf RCLn_CFG_kind m) && decide (s.rf RCLn_CFG_kind m ≤ 3) &&
    decide (s.rf RCLn_CFG_src m = n))

/-- The function of a port needs refined edges: reference input, SYNC input, or alignment input of a Bell (R183). -/
def State.portRefined (s : State) (n : Nat) : Bool :=
  decide (s.tioFunc n = 5) || decide (s.tioFunc n = 6) ||
  (List.range 32).any (fun m => decide (s.tioFunc m = 2) && s.rb TIOn_BELL_ALIGN_src m && decide (s.rf TIOn_BELL_ALIGN_port m = n))

/-- The port whose epochs unit `n` stamps (R264). -/
def State.tdcPort (s : State) (n : Nat) : Option Nat :=
  (List.range 4).find? (fun p => s.rb GNS_Pp_STATUS_running p && decide (s.rf GNS_Pp_CTL_tdc p = n))

/-- The units that a standby claims for its comparison: TDC(33 + value), with 7 as 0 and as 1 (R395, R403). -/
def State.cmpPps (s : State) : Nat := 33 + s.rf TWN_CMP_CFG_unit_pps % 7
def State.cmpClk (s : State) : Nat := 33 + (if s.rf TWN_CMP_CFG_unit_clk = 7 then 1 else s.rf TWN_CMP_CFG_unit_clk)

/-- The highest claim present on a unit (R184). -/
def State.claimFor (s : State) (n : Nat) : Nat :=
  if n = 32 then 5
  else if n < 32 then
    if (s.tio n).calBusy then 1
    else if (s.tdcSlot n).isSome then 3
    else if s.portRefined n then 2 else 0
  else if s.rf TWN_STATUS_state = 2 ∧ (s.cmpPps = n ∨ s.cmpClk = n) then 4
  else if (s.tdcPort n).isSome then 6 else 0

def State.claim (s : State) (n : Nat) : Nat := if n = 32 then 5 else s.rf TDCn_STATUS_claim n

/-! ## Settings in force (R185, R186) -/

/-- Mode 0 SINGLE, 1 CONTINUOUS, 2 STAMP, 3 MOSS; sources with their edges; stops skipped; limit in units. -/
structure TdcSet where
  mode : Nat
  start : Nat
  stop : Nat
  startEdge : Nat
  stopEdge : Nat
  skip : Nat
  limit : Int
  count : Nat
  deriving DecidableEq, Repr

/-- Cycles of a channel in one millisecond, to the nearest. -/
def State.outMsCycles (s : State) (n : Nat) : Nat := ((s.outInc n * 500000 + cycle62 / 2) / cycle62).toNat

/-- The settings of a claim on a unit. A loop-back burst measures from the rotator's command to the pad (R179): on a clock output from the edge of its
channel, on the other outputs from the port's own command, which no source of R185 names (log 62). -/
def State.tdcSetOf (s : State) (n claim : Nat) : TdcSet :=
  match claim with
  | 1 => ⟨1, if s.tioFunc n = 1 then 0x21 + s.rf TIOn_CFG_chan n else 0, n + 1, 0, 0, 0, 0, 0⟩
  | 0 => ⟨s.rf TDCn_CTL_mode n, s.rf TDCn_SRC_start n, s.rf TDCn_SRC_stop n, s.rf TDCn_SRC_start_edge n, s.rf TDCn_SRC_stop_edge n,
          s.rf TDCn_SKIP_skip n, (s.rf TDCn_LIMIT_us n : Int) * uUs, s.rf TDCn_CTL_count n⟩
  | 3 =>
    match s.tdcSlot n with
    | none => ⟨2, 0, n + 1, 0, 0, 0, 0, 0⟩
    | some m =>
      if s.rf RCLn_CFG_kind m = 2 then ⟨1, n + 1, n + 1, 0, 0, gateCycles (s.rf RCLn_NOMINAL_hz m) - 1, 0, 0⟩
      else if (s.unit n).pred.isSome then ⟨0, 0x4B, n + 1, 0, 0, 0, 2 * s.missWindow m, 0⟩
      else ⟨2, 0, n + 1, 0, 0, 0, 0, 0⟩
  | 4 =>
    if s.cmpPps = n then ⟨1, 0x4A, s.rf TWN_CMP_CFG_pps_port + 1, 0, 0, 0, 0, 0⟩
    else ⟨1, 0x21 + s.rf TWN_CMP_CFG_clk_chan, s.rf TWN_CMP_CFG_clk_port + 1, 0, 0, s.outMsCycles (s.rf TWN_CMP_CFG_clk_chan) - 1, 0, 0⟩
  | 6 => ⟨2, 0, 0x74 + (s.tdcPort n).getD 0, 0, 0, 0, 0, 0⟩
  | _ => ⟨2, 0, n + 1, 0, 0, 0, 0, 0⟩

/-- The settings that run a unit. -/
def State.tdcSet (s : State) (n : Nat) : TdcSet := s.tdcSetOf n (s.claim n)

/-- Edge selection matters for pad sources alone (R185). -/
def isPad (c : Nat) : Bool := decide (1 ≤ c) && decide (c ≤ 0x20)

/-- Start and stop name one source and edge (R188). -/
def TdcSet.same (x : TdcSet) : Bool :=
  decide (x.start = x.stop) && (!isPad x.start || decide (x.startEdge = x.stopEdge)) && decide (x.start ≠ 0)

/-- An edge of source `src` is the start, or the stop, of these settings; `falling` counts for pads alone (R185). -/
def TdcSet.starts (x : TdcSet) (src : Nat) (falling : Bool) : Bool :=
  decide (src = x.start) && decide (src ≠ 0) && decide (src ≠ 0x4B) && (!isPad src || decide (falling = decide (x.startEdge = 1)))
def TdcSet.stops (x : TdcSet) (src : Nat) (falling : Bool) : Bool :=
  decide (src = x.stop) && decide (src ≠ 0) && (!isPad src || decide (falling = decide (x.stopEdge = 1)))

/-- A source code that R185 allows for a unit. -/
def srcAllowed (n c : Nat) (start : Bool) : Bool :=
  decide (c = 0) ||
  (isPad c && (decide (32 < n) || decide ((c - 1) / 8 = n / 8))) ||
  (decide (0x21 ≤ c) && decide (c ≤ 0x44) && (decide (32 < n) || decide (c ≤ 0x40))) ||
  decide (c = 0x48) || decide (c = 0x49) || decide (c = 0x4A) || (start && decide (c = 0x4B)) ||
  (decide (32 < n) && ((decide (0x50 ≤ c) && decide (c ≤ 0x6F)) || (decide (0x70 ≤ c) && decide (c ≤ 0x77))))

def State.tdcState (s : State) (n : Nat) : Nat := s.rf TDCn_STATUS_state n

/-- PD_TDC is in MOSS, or on its way there from ON (R428). -/
def State.tdcMoss (s : State) : Bool :=
  decide (s.pd 1 = 2) || s.pwr.trans.any (fun t => decide (t.domain = 1) && decide (t.old = 0) && decide (t.target = 2))

/-- The unit watches on in state MOSS: it is in mode MOSS or claimed (R201, R428). -/
def State.tdcWatches (s : State) (n : Nat) : Bool := decide (s.rf TDCn_CTL_mode n = 3) || decide (s.claim n ≠ 0)

/-- The unit runs: its domain is ON, or in MOSS with the unit in mode MOSS or claimed (R201, R428). -/
def State.tdcRuns (s : State) (n : Nat) : Bool := decide (n ≠ 32) && (s.pdOn 1 || (s.tdcMoss && s.tdcWatches n))

/-- Raw time up to which every edge of the rings has been stamped (R80, R86). -/
def State.ringMark (s : State) : Int := s.watermark s.ringDom - s.tm.total

/-- An event of a unit in the Gradebook (R205). -/
def State.tdcJournal (s : State) (n code payload : Nat) : State := s.journal s.ringDom (0x0A00 + n) code payload

/-- A register write ignored (R183, R185, R186). -/
def State.tdcIgnored (s : State) (n ofs : Nat) : State := s.tdcJournal n 0x0A04 (n + ofs * 2 ^ 8)

/-! ## Results (R188 to R192) -/

/-- Δ in units as a result: bins, and whether the edges coincide (R188). -/
def tdcRound (d : Int) : Int × Bool :=
  if d.natAbs < 64 then (0, true) else (if d < 0 then -((((d.natAbs + 31) / 64 : Nat)) : Int) else (((d.natAbs + 31) / 64 : Nat) : Int), false)

/-- Items of the unit carry `degraded`: no valid calibration, or a temperature drift without background calibration (R191, R196). -/
def State.tdcDegraded (s : State) (n : Nat) : Bool :=
  !s.rb TDCn_STATUS_cal_valid n ||
  (!s.rb TDC_CAL_CTL_bg_en && decide (absNat (s.rs 16 TDC_TEMP_now - s.rs 16 TDC_TEMP_cal) > 80))

/-- The low 57 bits of an item and its flag bits (R191). -/
def tdcItem (value : Int) (coin order limit early lost degr moss : Bool) : Nat :=
  ofSigned 57 value + (if coin then 2 ^ 57 else 0) + (if order then 2 ^ 58 else 0) + (if limit then 2 ^ 59 else 0) +
  (if early then 2 ^ 60 else 0) + (if lost then 2 ^ 61 else 0) + (if degr then 2 ^ 62 else 0) + (if moss then 2 ^ 63 else 0)

/-- The value of a STAMP item (R191). -/
def tdcStampValue (t : Int) : Int := t % uSec + (t / uSec % 256) * 70368744177664

/-- The source TDCn_RESULT asserts with a stamp; TDC32 has none (R461). -/
def State.tdcAssert (s : State) (n : Nat) (stamp : Int) : State := if n = 32 then s else s.assertSrc (128 + n) stamp

/-- A completed item: registers, and the routed queue with its drops (R183, R192). -/
def State.tdcOut (s : State) (n : Nat) (item stamp : Int) (value : Int) : State :=
  let u := s.unit n
  let lost := decide (0 < u.dropped) && decide (s.claim n = 0) && s.rb TDCn_CTL_route_en n
  let w := item.toNat + (if lost then 2 ^ 61 else 0)
  let s1 := (((s.wf TDCn_RESULT_item w n).wf TDCn_STOP_TIME_time (packTime stamp) n).inc TDCn_DONE_count n).setUnit n { u with early := false }
  if s.claim n = 1 then
    (s1.setUnit n { s1.unit n with burst := (u.burst.1 + 1, u.burst.2 + value / 64) }).tdcAssert n stamp
  else if s.claim n = 2 ∨ s.claim n = 5 ∨ s.claim n = 6 then s1.tdcAssert n stamp
  else if s.claim n ≠ 0 then (s1.setUnit n { s1.unit n with due := (s1.unit n).due ++ [(stamp, value)] }).tdcAssert n stamp
  else if s.rb TDCn_CTL_route_en n then
    match s1.qProduce (272 + n) ⟨stamp, .word w⟩ with
    | some s2 =>
      let s3 := if lost then (s2.setUnit n { s2.unit n with dropped := 0 }).tdcJournal n 0x0A03 (n + u.dropped % 2 ^ 32 * 2 ^ 32) else s2
      s3.tdcAssert n stamp
    | none => ((s1.inc TDCn_LOST_count n).setUnit n { s1.unit n with dropped := u.dropped + 1 }).tdcAssert n stamp
  else s1

/-! ## Tables in force (R195, R196, R198) -/

/-- Bit `n` of TDC_CAL_VALID and TDCn_STATUS.cal_valid. -/
def State.tdcValid (s : State) (n : Nat) (b : Bool) : State :=
  (s.wb TDCn_STATUS_cal_valid b n).wf TDC_CAL_VALID_valid (setBitOf (s.rf TDC_CAL_VALID_valid) n b)

/-- TDC_TEMP.cal: the temperature at the oldest table in force, valid or not (R196, R198). -/
def State.tdcTempShow (s : State) : State :=
  let l := (List.range 40).filter (fun n => decide ((s.unit n).tab ≠ []))
  let best := l.foldl (fun (m : Option (Int × Nat)) n =>
    let u := s.unit n
    match m with
    | none => some (u.tabAt, u.tabTemp)
    | some (t, _) => if u.tabAt < t then some (u.tabAt, u.tabTemp) else m) none
  match best with
  | some (_, c) => s.wf TDC_TEMP_cal c
  | none => s

/-- A table that waits is installed, at a result boundary. -/
def State.tdcTake (s : State) (n : Nat) : State :=
  match (s.unit n).newTab with
  | none => s
  | some (l, c) => ((s.setUnit n { s.unit n with tab := l, newTab := none, tabAt := s.now, tabTemp := c }).tdcValid n true).tdcTempShow

/-- The calibrated position of a code in 1/64 bin: even spacing before the first table. -/
def TdcUnit.codeAt (u : TdcUnit) (code : Nat) : Nat := (u.tab[code]?).getD (64 * code)

/-- The rising edge of a rotator within the present tick (R165, R185). -/
def State.outRise (s : State) (n : Nat) : Option Int :=
  let x := s.out n
  let left := (-x.acc) % cycle62 + x.hold
  if (s.outState n = 2 ∨ s.outState n = 3) ∧ 0 ≤ x.acc + left ∧ left < s.outAdv n then some (s.raw + left * uTick / s.outAdv n) else none

/-- The raw time of an edge of source `src` in the present tick. A pad, a recovered word clock or a sample clock is captured `cyc` ring cycles into the
tick at a phase code; an internal source lies on the ring by construction, where the machine has it: the tick, the strobe and the second at the tick
itself, a rotator by its accumulator (R185, R195). The epoch strobe comes with its epoch (R264), and the arm instant with the arm. -/
def State.srcAt (s : State) (n src cyc code : Nat) : Option Int :=
  if isPad src then (if s.tioHears (src - 1) then some (s.raw + (16384 * cyc + (s.unit n).codeAt code : Nat)) else none)
  else if 0x21 ≤ src ∧ src ≤ 0x44 then s.outRise (src - 0x21)
  else if src = 0x48 then some s.raw
  else if src = 0x49 then (if s.tm.run ∧ s.now = s.tm.lastStrobe then some s.raw else none)
  else if src = 0x4A then (if s.atSecond then some s.raw else none)
  else if 0x50 ≤ src ∧ src ≤ 0x73 then some (s.raw + (16384 * cyc + (s.unit n).codeAt code : Nat))
  else none

/-! ## Arming (R187) -/

/-- Arms take effect: calibration is complete, or the domain is in MOSS, where tables are kept (R45, R187, R201). -/
def State.tdcArms (s : State) : Bool := s.isReady 4 || decide (s.pd 1 = 2)

/-- The arm takes effect at a raw instant. -/
def State.tdcBegin (s : State) (n : Nat) (x : Int) : State :=
  (s.setUnit n { s.unit n with armAt := x, sched := none, held := false, start := if (s.tdcSet n).start = 0x4B then some x else none,
                               stop := none, skipped := 0, switched := false }).wf TDCn_STATUS_state 2 n

/-- The unit watches for an arm that is to come. -/
def State.tdcWait (s : State) (n : Nat) (u : TdcUnit) : State := (s.setUnit n u).wf TDCn_STATUS_state 1 n

/-- An arm at once: held before SYS_READY.tdc, and while the unit is stopped (R45, R187, R201). -/
def State.tdcArmNow (s : State) (n : Nat) : State :=
  if s.tdcArms ∧ s.tdcRuns n then s.tdcBegin n s.raw else s.tdcWait n { s.unit n with held := true, sched := none, start := none, stop := none }

/-- The run is over: IDLE. -/
def State.tdcIdle (s0 : State) (n : Nat) : State :=
  let s := s0.tdcTake n
  (s.setUnit n { s.unit n with sched := none, held := false, start := none, stop := none, skipped := 0, susp := false, suspEarly := false, switched := false }).wf
    TDCn_STATUS_state 0 n

/-- An armed unit begins: a fresh run. -/
def State.tdcRunStart (s : State) (n : Nat) : State := s.setUnit n { s.unit n with results := 0 }

/-- TDC_ARM (R183, R187). -/
def State.tdcArm (s : State) (n : Nat) : State :=
  if n = 32 ∨ ¬ s.pdServed 1 then s
  else if s.claim n ≠ 0 then s.tdcIgnored n 0
  else if s.rf TDCn_CTL_mode n = 3 ∨ s.tdcState n ≠ 0 then s
  else (s.tdcRunStart n).tdcArmNow n

/-- TARM (R117): result code and state, at a core-domain spine time. -/
def State.tarm (s : State) (f g : Nat) (at_ : Int) : State × Nat :=
  let n := bitsOf g 0 6
  let sched := bitOf g 6
  if n > 39 ∨ g / 128 ≠ 0 ∨ ¬ s.pdOn (if n = 32 then 0 else 1) then (s, 4)
  else if s.claim n ≠ 0 ∨ s.rf TDCn_CTL_mode n = 3 ∨ s.tdcState n ≠ 0 then (s, 1)
  else if ¬ s.rb TDCn_CTL_route_en n ∨ s.rf TDCn_CTL_frond n ≠ f then (s, 2)
  else if sched ∧ at_ < s.domNow 0 + 100 * uNs then (s, 3)
  else
    let s1 := s.tdcRunStart n
    if sched then (s1.tdcWait n { s1.unit n with sched := some at_, held := !s1.isReady 4, start := none, stop := none }, 0)
    else (s1.tdcArmNow n, 0)

/-- TDC_DISARM (R183, R187). -/
def State.tdcDisarm (s : State) (n : Nat) : State :=
  if n = 32 ∨ ¬ s.pdServed 1 then s
  else if s.claim n ≠ 0 then s.tdcIgnored n 0
  else if s.rf TDCn_CTL_mode n = 3 then
    ((s.tdcIdle n).wf TDCn_STATUS_state 3 n).wf MOSSn_STATUS_state 1 n
  else s.tdcIdle n

/-- PD_TDC leaves ON for state `t`: the arms of the units that stop are held (R201). -/
def State.tdcHold (s : State) (t : Nat) : State :=
  (List.range 40).foldl (fun s n =>
    if n ≠ 32 ∧ s.tdcState n = 1 ∧ ¬ (t = 2 ∧ s.tdcWatches n) then s.setUnit n { s.unit n with held := true } else s) s

/-- Held arms take effect when calibration completes (R187). -/
def State.tdcReady (s : State) : State :=
  (List.range 40).foldl (fun s n =>
    let u := s.unit n
    if u.held then
      match u.sched with
      | some t =>
        if t ≤ s.now then
          let s1 := s.tdcBegin n s.raw
          if s.rf TDCn_CTL_mode n = 3 ∧ s.claim n = 0 then s1.setUnit n { s1.unit n with roundAt := s.raw } else s1
        else s.setUnit n { u with held := false }
      | none => s.tdcBegin n s.raw
    else s) s

/-- An arm that is due at position `x` takes effect: a scheduled one, or a re-arm (R186, R187). -/
def State.tdcAuto (s : State) (n : Nat) (x : Int) : State :=
  let u := s.unit n
  if s.tdcState n ≠ 1 ∨ u.held ∨ (s.claim n = 1 ∧ 1024 ≤ u.burst.1) then s
  else match u.sched with
    | some t =>
      if t ≤ s.refine (binOf x) then
        let at_ := binOf (s.raw - (s.now - t)) * 64
        let s1 := s.tdcBegin n at_
        if s.rf TDCn_CTL_mode n = 3 ∧ s.claim n = 0 then s1.setUnit n { s1.unit n with roundAt := at_ } else s1
      else s
    | none => if u.armAt ≤ x then s.tdcBegin n u.armAt else s

/-- TDC_SCHEDULED_ARM (R187). -/
def State.tdcScheduled (s : State) (n : Nat) : State :=
  if s.tdcRuns n ∧ (s.unit n).sched.isSome then s.tdcAuto n s.raw else s

/-- TDC_REARM (R186). -/
def State.tdcRearm (s : State) (n : Nat) : State :=
  if s.tdcRuns n ∧ (s.unit n).sched = none then s.tdcAuto n s.raw else s

/-! ## The end of a measurement -/

/-- Next state of the unit after a result whose later edge, or limit instant, is at `x` (R186, R207). -/
def State.tdcNext (s0 : State) (n : Nat) (x : Int) : State :=
  let s := s0.tdcTake n
  let set := s.tdcSet n
  let u := s.unit n
  let again := fun (t : State) (u : TdcUnit) (at_ : Int) => t.tdcWait n { u with armAt := at_, start := none, stop := none, skipped := 0, switched := false }
  match s.claim n with
  | 3 =>
    match s.tdcSlot n, u.pred with
    | some m, some p => if s.rf RCLn_CFG_kind m = 2 then again s u (x + uRearm) else again s u (max (x + uRearm) (p - s.missWindow m))
    | _, _ => again s u (x + uRearm)
  | 0 =>
    let u1 := { u with results := u.results + 1 }
    if set.mode = 0 ∨ (set.mode ≠ 3 ∧ set.count ≠ 0 ∧ u1.results ≥ set.count) then (s.setUnit n u1).tdcIdle n
    else if set.mode = 3 then again s u1 (if u1.samples.length ≥ max 1 (s.rf MOSSn_CTL_samples n) then u1.roundAt + uSec * 100000 else x + uRearm)
    else again s u1 (x + uRearm)
  | _ => again s u (x + uRearm)

/-- A claimed PPS unit has an edge or a missing pulse: the next prediction (R207). -/
def State.tdcPredict (s : State) (n : Nat) (edge : Option Int) : State :=
  match s.claim n, s.tdcSlot n with
  | 3, some m =>
    if s.rf RCLn_CFG_kind m = 2 then s
    else
      let u := s.unit n
      match edge with
      | some x => s.setUnit n { u with pred := some (x + uSec), misses := 0 }
      | none =>
        let k := u.misses + 1
        s.setUnit n (if k ≥ max 1 (s.rf RCLn_MISS_count m) then { u with pred := none, misses := 0 }
                     else { u with pred := u.pred.map (· + uSec), misses := k })
  | _, _ => s

/-- The results of a claimed unit go to the claimant: roll call's slot takes the measurement, through the queue of the active ring, and the port's
function its refined edge (R49, R183, R184, R207). -/
def State.tdcToSlot (s : State) (n : Nat) (stamp : Int) : State :=
  let s1 := if n < 32 ∧ (s.claim n = 2 ∨ s.claim n = 3) then s.portEdge n stamp else s
  match s1.claim n, s1.tdcSlot n with
  | 3, some m =>
    let u := s1.unit n
    let sl := s1.slot m
    ((s1.setSlot m { sl with due := sl.due ++ u.due }).setUnit n { u with due := [] }).qPass (392 + s1.ringDom)
  | _, _ => s1

/-- A measurement with both edges (R188, R190, R191). -/
def State.tdcComplete (s : State) (n : Nat) (a b stamp : Int) : State :=
  let u := s.unit n
  let set := s.tdcSet n
  let r := tdcRound (b - a)
  let order := decide (b < a) && decide (set.skip = 0) && !set.same
  let degr := s.tdcDegraded n || u.switched
  if set.mode = 3 then
    let s1 := s.setUnit n { u with samples := r.1 :: u.samples, sampleDegr := u.sampleDegr || degr }
    s1.tdcNext n (max a b)
  else
    let s1 := s.tdcOut n (tdcItem r.1 r.2 order false u.early false degr false : Nat) stamp (r.1 * 64)
    ((s1.tdcPredict n (some b)).tdcToSlot n stamp).tdcNext n (max a b)

/-- A STAMP item (R190, R191). -/
def State.tdcStamp (s : State) (n : Nat) (x : Int) : State :=
  let u := s.unit n
  let stamp := s.refine (binOf x)
  let s1 := s.tdcOut n (tdcItem (tdcStampValue stamp) false false false u.early false (s.tdcDegraded n) false : Nat) stamp 0
  ((s1.tdcPredict n (some x)).tdcToSlot n stamp).tdcNext n x

/-- The raw instant at which a measurement ends with `limit`, if any (R189). -/
def State.tdcLimitAt (s : State) (n : Nat) : Option Int :=
  let set := s.tdcSet n
  let u := s.unit n
  if set.mode = 2 then none
  else
    let a := if set.limit = 0 ∨ set.mode = 3 then none else some (u.armAt + set.limit)
    let first := match u.start, u.stop with
      | some x, some y => some (min x y.1)
      | some x, none => some x
      | none, some y => some y.1
      | none, none => none
    match a, first with
    | some x, some y => some (min x (y + uRingMax))
    | some x, none => some x
    | none, some y => some (y + uRingMax)
    | none, none => none

/-- The limit instant lies before position `x` without both edges (R189, R207). TDC_LIMIT_EXPIRE takes it when the ring's watermark has passed it
(R86), and a later edge, which loses against it, before itself (R85). -/
def State.tdcExpire (s : State) (n : Nat) (x : Int) : State :=
  if ¬ s.tdcRuns n ∨ s.tdcState n ≠ 2 then s
  else match s.tdcLimitAt n with
    | none => s
    | some l =>
      if x ≤ l then s
      else
        let u := s.unit n
        let stamp := s.spineOf l
        if (s.tdcSet n).mode = 3 then (s.setUnit n { u with sampleLimit := true, samples := 0 :: u.samples }).tdcNext n l
        else
          let s1 := s.tdcOut n (tdcItem 0 false false true u.early false (s.tdcDegraded n || u.switched) false : Nat) stamp 0
          let s2 := match s1.claim n, s1.tdcSlot n with
            | 3, some m =>
              let sl := s1.slot m
              let t := (s1.setUnit n { s1.unit n with due := [] }).setSlot m { sl with missed := sl.missed ++ [l] }
              t.journalAt t.ringDom (0x0A00 + n) 0x0A05 m 0 stamp
            | _, _ => s1
          (s2.tdcPredict n none).tdcNext n l

/-- An edge of the present settings at position `x`, as a start, a stop, or both (R186 to R190); `told`: it has been counted as ignored already. -/
def State.tdcTakeEdge (s : State) (n : Nat) (isStart isStop told : Bool) (x : Int) : State :=
  let set := s.tdcSet n
  let u := s.unit n
  if s.tdcState n = 0 then s
  else if s.tdcState n ≠ 2 ∨ x < u.armAt then
    if isStop then
      let s1 := s.setUnit n { u with early := true }
      if told then s1 else s1.inc TDCn_IGNORED_count n
    else s
  else if set.mode = 2 then (if isStop then s.tdcStamp n x else s)
  else
    let stamp := s.refine (binOf x)
    let stopAt := fun (t : State) =>
      match u.start with
      | some a => t.tdcComplete n a x stamp
      | none => t.setUnit n { u with stop := some (x, stamp) }
    if isStop then
      if isStart ∧ u.start = none then s.setUnit n { u with start := some x }
      else if u.stop.isSome then s
      else if 0 < set.skip then
        if u.start = none then s
        else if u.skipped < set.skip then s.setUnit n { u with skipped := u.skipped + 1 }
        else stopAt s
      else stopAt s
    else if ¬ isStart ∨ u.start.isSome then s
    else
      match u.stop with
      | some b => s.tdcComplete n x b.1 b.2
      | none => s.setUnit n { u with start := some x }

def State.mossPeriod (s : State) (n : Nat) : Int :=
  ((if s.rf MOSSn_PERIOD_ms n = 0 then 1000 else s.rf MOSSn_PERIOD_ms n : Nat) : Int) * uMs

/-- A stop of a run that is suspended for a burst (R188). -/
def State.tdcSuspStops (s : State) (n src : Nat) (falling : Bool) : Bool :=
  decide (s.claim n = 1) && (s.unit n).susp && (s.tdcSetOf n (s.unit n).under).stops src falling
def State.tdcSuspStop (s : State) (n src : Nat) (falling : Bool) : State :=
  if s.tdcSuspStops n src falling then (s.setUnit n { s.unit n with suspEarly := true }).inc TDCn_IGNORED_count n else s

/-- The rotator command behind an edge that a port drives at its pad, in raw time: the last one of a Bell or an EDGE port, and on a ToD line that of
the bit at whose start the pad moves (R179). -/
def State.portCmd (s : State) (n : Nat) : Option Int :=
  let x := s.tio n
  match s.tioFunc n with
  | 2 => x.cmdAt.map (fun t => s.raw + (t - s.now))
  | 3 => x.cmdAt.map (fun t => s.raw + (t - s.now))
  | 4 => x.todAt.map (fun t =>
      let j := (s.now + s.tioLead n - t) * s.todBaud n / uSec
      s.raw + (t + j * uSec / s.todBaud n - s.tioLead n - s.now))
  | _ => none

/-- In a burst on a port that no channel clocks, an edge at its own pad starts from its command, if that came after the arm (R179). -/
def State.tdcBurstStart (s : State) (n src : Nat) : State :=
  if s.claim n = 1 ∧ src = n + 1 ∧ s.tioFunc n ≠ 1 then
    match s.portCmd n with
    | some t => if (s.unit n).armAt ≤ t then s.setUnit n { s.unit n with start := some t } else s
    | none => s
  else s

/-- The round of a Moss watch is over at raw time `x`: a later edge is none of its own (R199). -/
def State.mossPast (s : State) (n : Nat) (x : Int) : Bool :=
  decide (s.claim n = 0) && decide (s.rf TDCn_CTL_mode n = 3) &&
    decide ((s.unit n).roundAt + (if s.rf TDCn_LIMIT_us n = 0 then s.mossPeriod n / 2 else (s.rf TDCn_LIMIT_us n : Int) * uUs) < x)

/-- An edge of source `src` at raw time `x` reaches a unit that watches. -/
def State.tdcEdgeAt (s0 : State) (n src : Nat) (fall : Bool) (x : Int) : State :=
  if ¬ s0.tdcRuns n ∨ s0.tdcState n = 0 ∨ s0.tdcState n = 3 ∨ s0.mossPast n x then s0
  else
    let s := (((s0.tdcSuspStop n src fall).tdcExpire n x).tdcAuto n x).tdcBurstStart n src
    s.tdcTakeEdge n ((s.tdcSet n).starts src fall) ((s.tdcSet n).stops src fall) (s0.tdcSuspStops n src fall) x

/-- TDC_EDGE_CAPTURE (R178, R183 to R190, R195): an edge of source `src` in the present tick. `falling` is the edge at the pad, before
`invert`. -/
def State.tdcEdge (s : State) (n src : Nat) (falling : Bool) (cyc code : Nat) : State :=
  match s.srcAt n src cyc code with
  | some x => s.tdcEdgeAt n src (falling != (isPad src && s.rb TIOn_CFG_invert (src - 1))) x
  | none => s

/-! ## Configuration (R185, R186, R199) -/

/-- Entering and leaving mode MOSS (R199, R200). -/
def State.tdcMode (s : State) (n m : Nat) : State :=
  let s1 := s.wf TDCn_CTL_mode m n
  if m = 3 then
    if s1.claim n = 0 then
      ((s1.setUnit n { s1.unit n with samples := [], mossFrom := s1.now + (s1.rf MOSSn_PERIOD_lead n + 20 : Nat) * uUs }).wf TDCn_STATUS_state 3 n).wf
        MOSSn_STATUS_state 1 n
    else s1.wf MOSSn_STATUS_state 1 n
  else if s1.claim n = 0 then (s1.wf TDCn_STATUS_state 0 n).wf MOSSn_STATUS_state 0 n
  else s1.wf MOSSn_STATUS_state 0 n

/-- TDC_CONFIG_WRITE (R181, R185, R186). -/
def State.tdcConfig (s : State) (n : Nat) (r : TdcReg) (v : Nat) : State :=
  if n = 32 ∨ ¬ s.pdServed 1 then s
  else
    let idle := decide (s.tdcState n = 0)
    match r with
    | .ctl =>
      let m := bitsOf v 0 2
      let old := s.rf TDCn_CTL_mode n
      let s1 := ((s.wf TDCn_CTL_route_en (bitsOf v 2 1) n).wf TDCn_CTL_frond (bitsOf v 3 4) n).wf TDCn_CTL_count (bitsOf v 16 16) n
      let s2 := if idle then (if m = old then s1 else s1.tdcMode n m)
        else if old = 3 ∧ m ≠ 3 ∧ s.rf MOSSn_STATUS_state n = 1 then s1.tdcMode n m
        else s1.tdcIgnored n 0
      let s3 := if bitOf v 8 then s2.tdcArm n else s2
      if bitOf v 9 && !(bitOf v 8 && decide (s.claim n ≠ 0)) then s3.tdcDisarm n else s3
    | .src =>
      if ¬ idle then s.tdcIgnored n 4
      else
        let a := bitsOf v 0 8
        let b := bitsOf v 8 8
        let s1 := (s.wf TDCn_SRC_start_edge (bitsOf v 16 1) n).wf TDCn_SRC_stop_edge (bitsOf v 17 1) n
        let s2 := if srcAllowed n a true then s1.wf TDCn_SRC_start a n else s1.tdcIgnored n 4
        if srcAllowed n b false then s2.wf TDCn_SRC_stop b n else s2.tdcIgnored n 4
    | .skip => if idle then s.wf TDCn_SKIP_skip (bitsOf v 0 24) n else s.tdcIgnored n 8
    | .limit => if idle then s.wf TDCn_LIMIT_us v n else s.tdcIgnored n 0x10

/-! ## Changes of claim (R184) -/

/-- A measurement is in progress: no change of claim yet. -/
def State.tdcBusy (s : State) (n : Nat) : Bool :=
  let u := s.unit n
  let set := s.tdcSet n
  decide (s.tdcState n = 2) &&
    (decide (set.mode = 0) || u.stop.isSome || (u.start.isSome && decide (set.start ≠ 0x4B)))

/-- The new owner takes the unit from IDLE (R184). A unit in mode MOSS sleeps until its next round; one whose round was abandoned is found IDLE. -/
def State.tdcOwn (s : State) (n : Nat) : State :=
  let u := s.unit n
  let s1 := s.setUnit n { u with results := 0, pred := none, misses := 0, due := [], early := false, armAt := s.raw, burst := (0, 0), gone := u.gone && decide (s.claim n ≠ 0) }
  if s1.claim n ≠ 0 then s1.tdcArmNow n
  else if s1.rf TDCn_CTL_mode n ≠ 3 then s1
  else if u.gone then (s1.tdcMode n 3).wf TDCn_STATUS_state 0 n
  else s1.tdcMode n 3

/-- A Moss round in progress is abandoned to a claim: the watch sleeps, and no result of the round is kept (R184). -/
def State.tdcAbandon (s : State) (n : Nat) : State :=
  if s.rf TDCn_CTL_mode n = 3 ∧ s.rf MOSSn_STATUS_state n = 2 then
    (s.setUnit n { s.unit n with samples := [], gone := true }).wf MOSSn_STATUS_state 1 n
  else s

/-- A run is suspended for a burst, which starts at once; a Moss round that has yet to arm keeps its instant (R183, R184). -/
def State.tdcSuspend (s : State) (n : Nat) : State :=
  ((s.setUnit n { s.unit n with susp := true, under := s.claim n, suspEarly := false, suspSched := (s.unit n).sched, burst := (0, 0) }).wf TDCn_STATUS_claim 1 n).tdcArmNow n

/-- The suspended run resumes (R183, R184). -/
def State.tdcResume (s : State) (n : Nat) : State :=
  let u := s.unit n
  s.tdcWait n { u with susp := false, early := u.suspEarly, suspEarly := false, sched := u.suspSched, suspSched := none, armAt := s.raw, start := none, stop := none, skipped := 0 }

/-- TDC_CLAIM_CHANGE (R183, R184). -/
def State.tdcClaim (s : State) (n : Nat) : State :=
  let old := s.claim n
  let new := s.claimFor n
  if n = 32 ∨ old = new ∨ s.tdcBusy n then s
  else
    let u := s.unit n
    if new = 1 ∧ s.tdcState n ≠ 0 ∧ s.tdcState n ≠ 3 ∧ (s.tdcSet n).mode ≠ 0 ∧ (u.sched.isNone ∨ s.rf TDCn_CTL_mode n = 3) then s.tdcSuspend n
    else
      let s1 := s.wf TDCn_STATUS_claim new n
      if old = 1 ∧ u.susp ∧ new = u.under then s1.tdcResume n else ((s1.tdcAbandon n).tdcIdle n).tdcOwn n

/-- LOOPBACK_CAL_COMPLETE (R179): the mean of the burst's 1,024 measurements, in ps to the nearest, becomes the pad's delay. -/
def State.calDone (s : State) (n : Nat) : State :=
  let x := s.tio n
  let b := (s.unit n).burst
  if ¬ x.calBusy ∨ ¬ s.tioDrives n ∨ s.claim n ≠ 1 ∨ b.1 < 1024 then s
  else
    let delay := (b.2 * 1000 + 524288) / 1048576
    let s1 := s.setTio n { x with calBusy := false }
    if 200 ≤ delay ∧ delay ≤ 3000 then (s1.ws TIOn_CAL_DELAY_delay delay n).wf TIOn_STATUS_cal_valid 1 n
    else (s1.wf TIOn_STATUS_cal_valid 0 n).journal s1.ringDom (0x0900 + n) 0x0903 (n + ofSigned 32 (satSigned 32 delay) * 2 ^ 32)

/-! ## Calibration (R195, R196) -/

/-- Positions of the codes by code density, in 1/64 bin: the running sum of the widths below each code. -/
def codeTable (hits : List Nat) : List Nat :=
  let total := max 1 hits.sum
  (hits.foldl (fun (p : Nat × List Nat) h => (p.1 + h, (p.1 * 16384 / total) :: p.2)) (0, [])).2.reverse

/-- Every code is between 0.25 and 2.5 bins wide (R196). -/
def hitsOk (hits : List Nat) : Bool :=
  let total := hits.sum
  decide (hits.length = 256) && hits.all (fun h => decide (total ≤ 1024 * h) && decide (512 * h ≤ 5 * total))

/-- The code width, in 1/64 bin, that lies furthest outside 0.25 to 2.5 bins. -/
def worstWidth (hits : List Nat) : Nat :=
  let total := max 1 hits.sum
  let out := fun w : Nat => max (16 - w) (w - 160)
  (hits.map (fun h => h * 16384 / total)).foldl (fun m w => if out m < out w then w else m) 64

/-- A table that passed waits for the result boundary of a measurement in progress, and is in force at once where there is none. -/
def State.tdcInstall (s : State) (n : Nat) (hits : List Nat) : State :=
  let s1 := s.setUnit n { s.unit n with fails := 0, newTab := some (codeTable hits, s.rf TDC_TEMP_now) }
  if s.tdcState n = 2 then s1 else s1.tdcTake n

/-- A unit is in an ON domain. -/
def State.tdcOn (s : State) (n : Nat) : Bool := s.pdOn (if n = 32 then 0 else 1)

/-- The ring of the units has been locked for the 2 ms of R44, in which the hits of start-up are taken. -/
def State.tdcRingReady (s : State) : Bool :=
  s.tm.run && s.locked s.active && decide ((s.chain s.active).lockedAt + 2 * uMs ≤ s.now)

/-- TDC_STARTUP_CAL_DONE (R44, R195): the 500,000 hits of each unit give its table, 2 ms or more after the ring locked; when every unit in an ON
domain holds one, `SYS_READY.tdc` sets and held arms take effect. -/
def State.tdcStartCal (s : State) (temp : Nat) (hits : List (List Nat)) : State :=
  let l := (List.range 40).filter s.tdcOn
  if s.tdcRingReady ∧ l.all (fun n => hitsOk ((hits[n]?).getD []) && decide (((hits[n]?).getD []).sum = 500000)) then
    let s1 := l.foldl (fun s n => s.tdcInstall n ((hits[n]?).getD [])) (s.wf TDC_TEMP_now temp)
    (s1.ready 4 true).tdcReady
  else s

/-- Hits of a background table (R198). -/
def State.histHits (s : State) : Nat :=
  let h := s.rf TDC_CAL_CTL_hist
  2 ^ (if 20 ≤ h ∧ h ≤ 26 then h else 24)

/-- TDC_BG_TABLE_READY (R196): the 2^hist hits of a unit's background table, with the array's temperature. -/
def State.tdcTable (s0 : State) (n temp : Nat) (hits : List Nat) : State :=
  let s := s0.wf TDC_TEMP_now temp
  if ¬ s.rb TDC_CAL_CTL_bg_en ∨ hits.sum ≠ s.histHits ∨ s.tdcState n = 3 ∨ (n ≠ 32 ∧ ¬ s.pdOn 1 ∧ s.pd 1 ≠ 2) then s
  else if hitsOk hits then s.tdcInstall n hits
  else
    let k := (s.unit n).fails + 1
    let s1 := ((s.setUnit n { s.unit n with fails := k }).inc TDC_CAL_FAIL_count).tdcJournal n 0x0A01 (n + worstWidth hits * 2 ^ 16)
    if k = 16 ∧ s1.rb TDCn_STATUS_cal_valid n then (s1.tdcValid n false).tdcJournal n 0x0A02 n else s1

/-! ## Moss watch on a unit (R199 to R201) -/

/-- The first B_k that has not passed since the last one taken. -/
def State.mossNext (s : State) (n : Nat) : Int := gridFrom 0 (s.mossPeriod n) (s.unit n).mossFrom

/-- B_k of the next round: one whose arm is still to come. -/
def State.mossAhead (s : State) (n : Nat) : Int :=
  max (s.mossNext n) (gridFrom 0 (s.mossPeriod n) (s.now + (s.rf MOSSn_PERIOD_lead n : Int) * uUs))

/-- The boundaries of every watch count from now: after a step (R199, R202). -/
def State.mossStep (s : State) : State :=
  { s with tdc := s.tdc.map (fun x => { x with mossFrom := s.now }),
           gns := { s.gns with ports := s.gns.ports.map (fun x => { x with mossFrom := s.now }) } }

/-- A write of MOSSn_PERIOD: a boundary of the new grid that has passed takes no round (R199). -/
def State.mossPeriodSet (s : State) (n : Nat) : State := s.setUnit n { s.unit n with mossFrom := max (s.unit n).mossFrom s.now }

def State.mossN (s : State) (n : Nat) : Nat := max 1 (s.rf MOSSn_CTL_samples n)

/-- The unit takes rounds now. -/
def State.mossOn (s : State) (n : Nat) : Bool :=
  decide (s.rf TDCn_CTL_mode n = 3) && decide (s.claim n = 0) && s.tdcRuns n && s.tm.run

/-- MOSS_ROUND_WAKE (R199). -/
def State.mossWake (s : State) (n : Nat) : State :=
  let b := s.mossAhead n
  let lead := (s.rf MOSSn_PERIOD_lead n : Int) * uUs
  if ¬ s.mossOn n then s
  else if s.rf MOSSn_STATUS_state n = 2 then
    if s.mossNext n ≤ s.now then
      ((s.setUnit n { s.unit n with mossFrom := s.mossNext n + 1 }).inc MOSSn_SKIP_count n).journal s.ringDom (0x0B00 + n) 0x0B03 n
    else s
  else if s.rf MOSSn_STATUS_state n = 1 ∧ b - lead - 20 * uUs ≤ s.now then
    (s.tdcWait n { s.unit n with sched := some (b - lead), held := !s.tdcArms, samples := [], sampleDegr := false, sampleLimit := false,
                                 mossFrom := b + 1, start := none, stop := none, roundAt := s.raw + (b - lead - s.now) }).wf MOSSn_STATUS_state 2 n
  else s

/-- A unit whose mode MOSS is restored, at a wake or a restart, sleeps until its next round (R199, R427). -/
def State.mossRestored (s : State) : State :=
  (List.range 40).foldl (fun s n => if s.claim n = 0 ∧ s.rf TDCn_CTL_mode n = 3 ∧ s.rf MOSSn_STATUS_state n = 0 then s.tdcMode n 3 else s) s

/-- The raw instant at which a round ends with fewer results (R199). -/
def State.mossEnd (s : State) (n : Nat) : Int :=
  (s.unit n).roundAt + (if s.rf TDCn_LIMIT_us n = 0 then s.mossPeriod n / 2 else (s.rf TDCn_LIMIT_us n : Int) * uUs)

/-- The mean of a list of results, toward zero (R200). Of a round with fewer than N results it is that of the results taken, and 0 with none
(DESIGN CHOICE, log 66). -/
def mossMean (l : List Int) : Int := if l = [] then 0 else (l.foldl (· + ·) 0).tdiv (l.length : Int)

/-- The largest minus the smallest (R200). -/
def mossSpread : List Int → Int
  | [] => 0
  | x :: t => t.foldl max x - t.foldl min x

/-- The cause of a deviation, 0 for none (R200). -/
def State.mossCause (s : State) (n : Nat) : Nat :=
  let u := s.unit n
  let m := mossMean u.samples
  if u.sampleLimit ∨ u.samples.length < s.mossN n then 3
  else if absNat (m - s.rs 57 MOSSn_EXPECT_expect n) > s.rf MOSSn_WIN_bins n then 1
  else if s.rf MOSSn_SPREAD_bins n ≠ 0xFFFFFFFF ∧ mossSpread u.samples > (s.rf MOSSn_SPREAD_bins n : Int) then 2
  else 0

/-- MOSS_ROUND_END (R199, R200). -/
def State.mossRoundEnd (s : State) (n : Nat) : State :=
  let u := s.unit n
  if ¬ s.mossOn n ∨ s.rf MOSSn_STATUS_state n ≠ 2 ∨ (u.samples.length < s.mossN n ∧ s.ringMark < s.mossEnd n) then s
  else
    let m := mossMean u.samples
    let cause := s.mossCause n
    let item := tdcItem m false false false u.early false u.sampleDegr true
    let back := fun (t : State) => (((t.tdcIdle n).wf TDCn_STATUS_state 3 n).wf MOSSn_STATUS_state 1 n)
    if cause = 0 then
      let s1 := (s.ws MOSSn_MEAN_mean m n).inc MOSSn_ROUNDS_count n
      back (if s1.rb MOSSn_CTL_report n then s1.tdcOut n (item : Nat) s1.now 0 else s1)
    else
      let s1 := ((s.tdcOut n (item : Nat) s.now 0).assertSrc (168 + n) s.now).inc MOSSn_DEV_count n
      let s2 := (s1.wf MOSSn_STATUS_cause cause n).journal s1.ringDom (0x0B00 + n) 0x0B01
        (n + cause * 2 ^ 6 + ofSigned 32 (satSigned 32 m) * 2 ^ 32)
      if s2.rb MOSSn_CTL_rearm n then back s2
      else ((s2.tdcIdle n).wf TDCn_CTL_mode 0 n).wf MOSSn_STATUS_state 3 n

/-! ## Meanings -/

def execTdcArm (_ : Req) (n : Fin 40) (s : State) : Result := .next (s.whenUp (s.tdcArm n.val))
def execTdcDisarm (_ : Req) (n : Fin 40) (s : State) : Result := .next (s.whenUp (s.tdcDisarm n.val))
def execTdcScheduledArm (n : Fin 40) (s : State) : Result := .next (s.whenUp (s.tdcScheduled n.val))
def execTdcConfigWrite (_ : Req) (n : Fin 40) (r : TdcReg) (v : BitVec 32) (s : State) : Result := .next (s.whenUp (s.tdcConfig n.val r v.toNat))
def execTdcEdgeCapture (n : Fin 40) (src : BitVec 8) (falling : Bool) (cyc : Fin 8) (code : Fin 256) (s : State) : Result :=
  .next (s.whenUp (s.tdcEdge n.val src.toNat falling cyc.val code.val))
def execTdcLimitExpire (n : Fin 40) (s : State) : Result := .next (s.whenUp (s.tdcExpire n.val (s.ringMark + 1)))
def execTdcRearm (n : Fin 40) (s : State) : Result := .next (s.whenUp (s.tdcRearm n.val))
def execTdcClaimChange (n : Fin 40) (s : State) : Result := .next (s.whenUp (s.tdcClaim n.val))
def execTdcStartupCalDone (temp : BitVec 16) (hits : List (List Nat)) (s : State) : Result := .next (s.whenUp (s.tdcStartCal temp.toNat hits))
def execTdcBgTableReady (n : Fin 40) (temp : BitVec 16) (hits : List Nat) (s : State) : Result := .next (s.whenUp (s.tdcTable n.val temp.toNat hits))
def execLoopbackCalComplete (n : Fin 32) (s : State) : Result := .next (s.whenUp (s.calDone n.val))
def execMossRoundWake (n : Fin 40) (s : State) : Result := .next (s.whenUp (s.mossWake n.val))
def execMossRoundEnd (n : Fin 40) (s : State) : Result := .next (s.whenUp (s.mossRoundEnd n.val))

end Sys2Proof.Machine
end

