-- ==== Sys2Proof/Machine/Gnss.lean ====
section
/-!
DEFINITION. The GNSS baseband (R262 to R294): ports and epochs, channels, dumps and their rings, latches, bounds, acquisition,
snapshots; and Moss watch on a port (R202, R203).
-/

namespace Sys2Proof.Machine
open Sys2Proof Reg

def State.setGns (s : State) (g : GnsState) : State := { s with gns := g }
def State.gport (s : State) (p : Nat) : GPort := (s.gns.ports[p]?).getD GPort.empty
def State.setGport (s : State) (p : Nat) (x : GPort) : State := s.setGns { s.gns with ports := s.gns.ports.set! p x }

def State.chan (s : State) (c : Nat) : GChan := tabGet GChan.empty c s.gns.chans
def State.setChan (s : State) (c : Nat) (x : GChan) : State := s.setGns { s.gns with chans := tabSet c x s.gns.chans }

/-- An event of the block: the core domain, the port or solution as instance. -/
def State.gnsJournal (s : State) (inst code payload : Nat) : State := s.journal 0 (0x0E00 + inst) code payload

def State.portRuns (s : State) (p : Nat) : Bool := s.rb GNS_Pp_STATUS_running p && s.live

/-! ## Signals (R267) -/

/-- One row of R267: band, chips, chips per dump, secondary chips, least and greatest PRN, its system, and whether the replica is BOC(1,1). -/
structure GSig where
  band : Nat
  chips : Nat
  dump : Nat
  sec : Nat
  prnLo : Nat
  prnHi : Nat
  sys : Nat
  boc : Bool
  deriving DecidableEq, Repr

def gSigs : List GSig :=
  [⟨0, 1023, 1023, 0, 1, 32, 0, false⟩, ⟨1, 10230, 10230, 10, 1, 32, 0, false⟩, ⟨1, 10230, 10230, 20, 1, 32, 0, false⟩,
   ⟨0, 4092, 1023, 0, 1, 50, 1, true⟩, ⟨0, 4092, 1023, 25, 1, 50, 1, true⟩, ⟨1, 10230, 10230, 20, 1, 50, 1, false⟩, ⟨1, 10230, 10230, 100, 1, 50, 1, false⟩,
   ⟨0, 10230, 1023, 0, 1, 63, 2, true⟩, ⟨0, 10230, 1023, 1800, 1, 63, 2, true⟩, ⟨1, 10230, 10230, 5, 1, 63, 2, false⟩, ⟨1, 10230, 10230, 100, 1, 63, 2, false⟩,
   ⟨0, 1023, 1023, 0, 193, 202, 3, false⟩, ⟨1, 10230, 10230, 10, 193, 202, 3, false⟩, ⟨1, 10230, 10230, 20, 193, 202, 3, false⟩]

/-- The row of a signal; an unsupported code reads as a row without chips. -/
def gSig (k : Nat) : GSig := (gSigs[k]?).getD ⟨0, 0, 0, 0, 1, 0, 9, false⟩

def sigOk (k prn : Nat) : Bool := decide (k < 14) && decide ((gSig k).prnLo ≤ prn) && decide (prn ≤ (gSig k).prnHi)

def State.chSig (s : State) (c : Nat) : GSig := gSig (s.rf GNS_CH_ctl_sig c)

/-! ## NCOs (R268, R270) -/

def two48 : Nat := 281474976710656

/-- The NCO `n` samples on: code phase, boundaries passed, code periods passed, and carrier. -/
def ncoAt (g : GSig) (code codeRate : Nat) (car carRate : Int) (n : Nat) : Nat × Nat × Nat × Int :=
  let z := code + n * codeRate
  let l := g.chips * two48
  let b := g.dump * two48
  (z % l, z / b - code / b, z / l, car + n * carRate)

/-- Samples to the next dump boundary; none while the code stands. -/
def nextBound (g : GSig) (code codeRate : Nat) : Option Nat :=
  let b := g.dump * two48
  if codeRate = 0 ∨ g.dump = 0 then none else some (ceilDiv (b * (code / b + 1) - code) codeRate)

def State.carNow (s : State) (c : Nat) : Int := s.rs 32 GNS_CH_50_car_rate_now c
def State.codeNow (s : State) (c : Nat) : Nat := s.rf GNS_CH_48_code_rate_now c

/-- A running channel moved to a later port sample, with no commit between. -/
def State.chanTo (s : State) (c n : Nat) : GChan :=
  let x := s.chan c
  let g := s.chSig c
  let r := ncoAt g x.code (s.codeNow c) x.car (s.carNow c) (n - x.at_)
  { x with at_ := n, code := r.1, bounds := x.bounds + r.2.1, sec := (x.sec + r.2.2.1) % max 1 g.sec, car := r.2.2.2 }

/-! ## Stops (R266, R273, R276) -/

/-- A channel goes to OFF with a cause; 0x0E03 for every cause but a command. -/
def State.chanStop (s : State) (c cause : Nat) : State :=
  if s.rf GNS_CH_status_state c = 0 then s
  else
    let s1 := ((s.wf GNS_CH_status_state 0 c).wf GNS_CH_status_cause cause c).setChan c { s.chan c with commit := none }
    if cause = 1 then s1 else s1.gnsJournal (c / 128) 0x0E03 (c + cause * 2 ^ 9)

/-- The channels of a port that hold a state. -/
def State.portChans (s : State) (p : Nat) : List Nat := (s.gns.chans.map (·.1)).filter (fun c => decide (c / 128 = p))

/-- All channels of a port stop. -/
def State.portChansStop (s : State) (p cause : Nat) : State := (s.portChans p).foldl (fun s c => s.chanStop c cause) s

/-! ## Bounds (R286) -/

/-- SYS_READY.gnss of antenna `a` (R286). -/
def State.gnsReady (s : State) (a : Nat) : State :=
  if a < 4 then s.ready (12 + a) (decide (s.rf GNS_SOLa_BOUND_ps a ≠ 0xFFFFFFFF) && s.portRuns a) else s

/-- A bound takes a value; a change of traceability is journalled, and the change of Q evaluates selection (R214). -/
def State.solBound (s : State) (a v : Nat) : State :=
  let old := s.rf GNS_SOLa_BOUND_ps a
  let s1 := if old = v then s else (s.wf GNS_SOLa_BOUND_ps v a).qChanged s
  let s2 := if decide (old = 0xFFFFFFFF) = decide (v = 0xFFFFFFFF) then s1
    else s1.gnsJournal a 0x0E07 (a + (if v = 0xFFFFFFFF then 0 else 8) + v * 2 ^ 32)
  s2.gnsReady a

/-- The end of a bound's time-out, in raw time (R286). -/
def State.solEnd (s : State) (a : Nat) : Int := (s.gns.solAt[a]?).getD 0 + ((max 1 (s.rf GNS_SOL_TIMEOUT_secs) : Nat) : Int) * uSec

/-- GNSS_SOL_BOUND_WRITE (R286). One that comes after the time-out of the bound before it loses against it (R85, log 66). -/
def State.solWrite (s0 : State) (a v : Nat) : State :=
  let s := if s0.rf GNS_SOLa_BOUND_ps a ≠ 0xFFFFFFFF ∧ s0.solEnd a < s0.raw then s0.solBound a 0xFFFFFFFF else s0
  (s.setGns { s.gns with solAt := s.gns.solAt.set! a s.raw }).solBound a v

/-- GNSS_SOL_BOUND_EXPIRE (R86, R286, R293): the time-out, once the watermark of the core domain has passed it, or a bound of a port that does not
run. -/
def State.solExpire (s : State) (a : Nat) : State :=
  if s.rf GNS_SOLa_BOUND_ps a ≠ 0xFFFFFFFF ∧ (s.solEnd a < s.watermark 0 - s.tm.total ∨ (a < 4 ∧ ¬ s.portRuns a)) then s.solBound a 0xFFFFFFFF
  else s

/-! ## What an acquisition request holds, and its end (R289, R293) -/

def acqBase (slot : Nat) : Nat := 0x220000 + 0x40 * slot
def State.acqWord (s : State) (slot ofs : Nat) : Nat := ofLeBytes (s.bytesAt (acqBase slot + ofs) 4)
def State.acqPut (s : State) (slot ofs k v : Nat) : State := { s with mem := memSetList (acqBase slot + ofs) (leBytes k v) s.mem }

/-- A request finishes with a status (R289). -/
def State.acqFinish (s : State) (slot status code car ratio cn0 ref : Nat) : State :=
  let s1 := (((((s.acqPut slot 0x20 4 status).acqPut slot 0x24 4 code).acqPut slot 0x28 4 car).acqPut slot 0x2C 4 (ratio + cn0 * 2 ^ 16)).acqPut slot 0x30 8 ref)
  let s2 := ((s1.wf GNS_ACQ_STATUS_busy 0).inc GNS_ACQ_DONE_count).assertSrc 22 (s1.domNow 0)
  if s2.rb GNS_ACQ_CTL_route_en then s2.qSend 1089 0 0x0E00 ⟨s2.domNow 0, .word (slot + status * 2 ^ 8)⟩ else s2

/-- Port `p` stops, or starts again: a live request that runs on it ends NOPORT (R293), and it has no more to capture for a snapshot. -/
def State.captureCut (s0 : State) (p : Nat) : State :=
  let s := s0.setGns { s0.gns with snapLeft := setBitOf s0.gns.snapLeft p false, snapMs := s0.gns.snapMs.set! p 0 }
  let slot := s.rf GNS_ACQ_STATUS_slot
  let w := s.acqWord slot 0
  if s.rb GNS_ACQ_STATUS_busy ∧ ¬ bitOf w 14 ∧ bitsOf w 0 2 = p then s.acqFinish slot 3 0 0 0 0 0 else s

/-! ## Ports (R263 to R266) -/

/-- `clk` and `running` shown; GNS_PORT asserts on a change. -/
def State.portShow (s : State) (p : Nat) (clk run : Bool) : State :=
  if s.rb GNS_Pp_STATUS_clk p = clk ∧ s.portRuns p = run then s
  else ((s.wb GNS_Pp_STATUS_clk clk p).wb GNS_Pp_STATUS_running run p).assertSrc 25 (s.domNow 0)

/-- The sample counter and the epochs begin at 0. -/
def State.portReset (s0 : State) (p : Nat) : State :=
  let s := s0.captureCut p
  s.setGport p { s.gport p with epochs := 0, hist := [], dumpDue := false }

/-- The port begins to run if its three conditions hold (R263). -/
def State.portTry (s : State) (p : Nat) : State :=
  if s.live ∧ s.rb GNS_Pp_CTL_en p ∧ s.pdOn (11 + p) ∧ s.rb GNS_Pp_STATUS_clk p ∧ s.domValid (36 + p) ∧ ¬ s.portRuns p then
    (((s.portReset p).portShow p true true).gnsJournal p 0x0E02 p).gnsReady p
  else s

/-- GNSS_PORT_START (R30, R263): the forwarded clock is present; it clocks the domain while that is ON (R423). -/
def State.portStart (s : State) (p : Nat) : State :=
  let d := s.dom (36 + p)
  let s1 := if d.running ∨ ¬ s.pdOn (11 + p) then s else s.setDom (36 + p) { d with running := true, loaded := false }
  (s1.portShow p true (s1.portRuns p)).portTry p

/-- A running port stops: channels, bound, ready bit (R266, R286). -/
def State.portHalt (s : State) (p cause : Nat) (clkLoss : Bool) : State :=
  let was := s.portRuns p
  let s1 := (s.portChansStop p cause).portShow p (s.rb GNS_Pp_STATUS_clk p && !clkLoss) false
  let s2 := s1.solBound p 0xFFFFFFFF
  let s3 := ((s2.wf GNS_Pp_STATUS_stamped 0 p).gnsReady p).captureCut p
  if was then s3.gnsJournal p 0x0E01 (p + if clkLoss then 4 else 0) else s3

/-- GNSS_PORT_STOP (R266): no edge of the forwarded clock for 1 µs. -/
def State.portStop (s : State) (p : Nat) : State :=
  let s1 := s.portHalt p 2 true
  s1.setDom (36 + p) { s1.dom (36 + p) with running := false, loaded := false }

/-- GNSS_PORT_CONFIG_WRITE: a write of GNS_Pp_CTL (R263, R266). -/
def State.portConfig (s : State) (p v : Nat) : State :=
  let change := decide (bitsOf v 1 2 ≠ s.rf GNS_Pp_CTL_l1 p + 2 * s.rf GNS_Pp_CTL_l5 p) || decide (bitsOf v 3 6 ≠ s.rf GNS_Pp_CTL_tdc p)
  let run := s.portRuns p
  let s1 := ((((s.wf GNS_Pp_CTL_en (bitsOf v 0 1) p).wf GNS_Pp_CTL_l1 (bitsOf v 1 1) p).wf GNS_Pp_CTL_l5 (bitsOf v 2 1) p).wf
    GNS_Pp_CTL_tdc (bitsOf v 3 6) p).wf GNS_Pp_CTL_lag (bitsOf v 9 1) p
  if ¬ bitOf v 0 then (if run then s1.portHalt p 1 false else s1)
  else if run ∧ change then ((s1.portChansStop p 1).portReset p).gnsJournal p 0x0E02 p
  else s1.portTry p

/-- The unit named is the port's: its claim is in force (R264). -/
def State.portStamped (s : State) (p : Nat) : Bool :=
  let n := s.rf GNS_Pp_CTL_tdc p
  decide (33 ≤ n) && decide (n ≤ 39) && s.pdOn 1 && decide (s.claim n = 6) && decide (s.tdcPort n = some p)

/-- The epoch strobe of a port, at a raw time, reaches every unit that names it as a source (R185). -/
def State.epochEdge (s : State) (p : Nat) (x : Int) : State :=
  ((List.range 7).map (33 + ·)).foldl (fun s n =>
    if (s.tdcSet n).starts (0x74 + p) false || (s.tdcSet n).stops (0x74 + p) false then s.tdcEdgeAt n (0x74 + p) false x else s) s

/-- The sample clock against raw time from the epoch times, in R10 units (R265). -/
def clockFit (hist : List Int) : Int :=
  let f := fitOf (hist.mapIdx (fun i y => (-(i : Int), y)))
  if f.den = 0 ∨ f.num = 0 then 0 else (uMs * f.den - f.num) * (65536 * dcoOne) / f.num

/-- The words of one latch (R272, R280). -/
def State.latchWrite (s : State) (x : Bool) (c tag : Nat) (t : Int) (y : GChan) : State :=
  let band := (s.chSig c).band
  let delay := psToUnits (if band = 0 then s.rs 32 GNS_Pp_DELAY_L1_ps (c / 128) else s.rs 32 GNS_Pp_DELAY_L5_ps (c / 128))
  let tl := packTime (t - delay)
  if x then
    (((((((s.wf GNS_CH_xlatch_tagA tag c).wf GNS_CH_xlatch_t_lat tl c).wf GNS_CH_xlatch_code y.code c).wf GNS_CH_xlatch_code_ms y.bounds c).wf
      GNS_CH_xlatch_sec y.sec c).ws GNS_CH_xlatch_cycles (y.car / 4294967296) c).wf GNS_CH_xlatch_frac (y.car % 4294967296).toNat c).wf
      GNS_CH_xlatch_tagB tag c
  else
    (((((((s.wf GNS_CH_latch_tagA tag c).wf GNS_CH_latch_t_lat tl c).wf GNS_CH_latch_code y.code c).wf GNS_CH_latch_code_ms y.bounds c).wf
      GNS_CH_latch_sec y.sec c).ws GNS_CH_latch_cycles (y.car / 4294967296) c).wf GNS_CH_latch_frac (y.car % 4294967296).toNat c).wf
      GNS_CH_latch_tagB tag c

/-- The channel enters RUN with the initial phases of its record carried over `n` samples (R273); a commit that waits is kept (R274). -/
def State.chanRun (s : State) (c start n : Nat) (late : Bool) : State :=
  let g := s.chSig c
  let carRate := s.rs 32 GNS_CH_08_car_rate c
  let codeRate := s.rf GNS_CH_10_code_rate c
  let r := ncoAt g (s.rf GNS_CH_28_init_code c % (g.chips * two48)) codeRate (s.rf GNS_CH_30_init_car c : Int) carRate n
  let x : GChan := ⟨start + n, r.1, 0, (s.rf GNS_CH_1C_sec_phase c + r.2.2.1) % max 1 g.sec, r.2.2.2, (s.chan c).commit⟩
  (((((s.setChan c x).wf GNS_CH_48_code_rate_now codeRate c).ws GNS_CH_50_car_rate_now carRate c).wf GNS_CH_44_seq 0 c).wb
    GNS_CH_status_late_start late c).wf GNS_CH_status_state 2 c

/-- I² + Q² of a sample byte, and whether I or Q is at −8 or +7. -/
def sampleStat (b : Byte) : Nat × Bool :=
  let i := toSigned 4 b.toNat
  let q := toSigned 4 (b.toNat / 16)
  ((i * i + q * q).toNat, decide (i = -8) || decide (i = 7) || decide (q = -8) || decide (q = 7))

/-- Sum of powers, clipped samples and samples of band `k` of a capture of `bands` bands (R202, R203). -/
def bandStat (bands k : Nat) (data : List Byte) : Nat × Nat × Nat :=
  (data.zipIdx).foldl (fun a e =>
    if e.2 / 81840 % bands = k then
      let r := sampleStat e.1
      (a.1 + r.1, a.2.1 + (if r.2 then 1 else 0), a.2.2 + 1)
    else a) (0, 0, 0)

/-- Mean power in 1/256 code², and clip fraction in 1/256, each rounded down before any comparison (R203; DESIGN CHOICE, log 66). -/
def bandMean (r : Nat × Nat × Nat) : Nat × Nat := if r.2.2 = 0 then (0, 0) else (min 0xFFFF (r.1 * 256 / r.2.2), min 255 (r.2.1 * 256 / r.2.2))

/-- One millisecond of samples into the captures of a port that are in progress: a snapshot (R292), and the block of a live request, of its signal's
band, into one half of the scratch area after the other (R290). `d1` and `d5` are the bands; the millisecond began at epoch `k`. -/
def State.capture (s : State) (p k : Nat) (d1 d5 : List Byte) : State :=
  let left := (s.gns.snapMs[p]?).getD 0
  let s1 :=
    if left = 0 then s
    else
      let d := (if s.gns.snapL1 then d1 else []) ++ (if s.gns.snapL5 then d5 else [])
      let bands := (if s.gns.snapL1 then 1 else 0) + (if s.gns.snapL5 then 1 else 0)
      let t := s.engStore 0 ((s.gns.snapBase[p]?).getD 0 * 64 + 81840 * bands * (s.gns.snapLen - left)) d
      t.setGns { t.gns with snapMs := t.gns.snapMs.set! p (left - 1) }
  let w := s1.acqWord (s1.rf GNS_ACQ_STATUS_slot) 0
  if s1.rb GNS_ACQ_STATUS_busy ∧ ¬ bitOf w 14 ∧ bitsOf w 0 2 = p ∧ s1.gns.acqRef ≤ 81840 * k ∧ 0 < s1.gns.acqLeft then
    let coh := bitsOf w 15 4
    let j := coh * bitsOf w 19 8 - s1.gns.acqLeft
    let d := if (gSig (bitsOf w 2 4)).band = 0 then d1 else d5
    let t := s1.engStore 0 (s1.rf GNS_ACQ_SCRATCH_base * 64 + j / coh % 2 * 818400 + j % coh * 81840) d
    t.setGns { t.gns with acqLeft := t.gns.acqLeft - 1, acqData := t.gns.acqData ++ d }
  else s1

/-- The channels of a port at the first sample of epoch `k`: one that is pending and due is in RUN (R273), and each that runs is latched (R272). -/
def State.epochChan (s0 : State) (p k tag : Nat) (stamp : Int) (c : Nat) : State :=
  let start := (s0.chan c).at_
  let s := if s0.rf GNS_CH_status_state c = 1 ∧ start ≤ 81840 * k then s0.chanRun c start 0 false else s0
  if c / 128 = p ∧ s.rf GNS_CH_status_state c = 2 ∧ (s.chan c).at_ ≤ 81840 * k then s.latchWrite false c tag stamp (s.chanTo c (81840 * k)) else s

/-- GNSS_EPOCH (R263 to R265, R272): the unit under the port's claim gives the epoch its refined stamp, and without one it is coarse. `ofs` is
the strobe's place in the present tick; `d1` and `d5` are the samples of the past epoch by band, one byte
each in the format of R292. -/
def State.gnsEpoch (s0 : State) (p ofs : Nat) (d1 d5 : List Byte) : State :=
  if ¬ s0.portRuns p then s0
  else
    let k := (s0.gport p).epochs
    let b1 := if s0.rb GNS_Pp_CTL_l1 p then d1.take 81840 else []
    let b5 := if s0.rb GNS_Pp_CTL_l5 p then d5.take 81840 else []
    let s := (if k = 0 then s0 else s0.capture p (k - 1) b1 b5).epochEdge p (s0.raw + ofs)
    let g := s.gport p
    let n := s.rf GNS_Pp_CTL_tdc p
    let fine := s0.portStamped p && decide (s.rf TDCn_DONE_count n ≠ s0.rf TDCn_DONE_count n)
    let stamp := if fine then unpackTime (s.rf TDCn_STOP_TIME_time n) else s.domNow (36 + p)
    let hist := ((if fine then 64 * binOf (s.raw + ofs) else stamp - s.tm.total) :: g.hist).take 1000
    let s1 := s.setGport p { g with epochs := k + 1, hist := hist, stamp := stamp, dumpDue := true }
    let s2 := ((((s1.wb GNS_Pp_STATUS_stamped fine p).wf GNS_Pp_EPOCH_k k p).wf GNS_Pp_EPOCH_TIME_time (packTime stamp) p).wf GNS_Pp_CLK_f
      (ofSigned 48 (satSigned 48 (clockFit hist))) p)
    let m1 := bandMean (bandStat 1 0 b1)
    let m5 := bandMean (bandStat 1 0 b5)
    let s3 := (((s2.wf GNS_Pp_PWR_l1 m1.1 p).wf GNS_Pp_PWR_l5 m5.1 p).wf GNS_Pp_CLIP_l1 m1.2 p).wf GNS_Pp_CLIP_l5 m5.2 p
    let tag := k % 2 ^ 31 + (if fine then 0 else 2 ^ 31)
    (s3.portChans p).foldl (fun s c => s.epochChan p k tag stamp c) s3

/-- A boundary of a running channel precedes the last epoch and has not been dumped. -/
def State.dumpOwed (s : State) (p : Nat) : Bool :=
  (s.portChans p).any (fun c => decide (s.rf GNS_CH_status_state c = 2) &&
    (nextBound (s.chSig c) (s.chan c).code (s.codeNow c)).any (fun j => decide ((s.chan c).at_ + j < 81840 * ((s.gport p).epochs - 1))))

/-- GNSS_DUMP_READY (R278): every dump whose boundary precedes the epoch is in the ring. -/
def State.dumpReady (s : State) (p : Nat) : State :=
  let g := s.gport p
  let q := s.queue (344 + p)
  if g.dumpDue ∧ q.items = [] ∧ q.out.isNone ∧ ¬ s.dumpOwed p then (s.setGport p { g with dumpDue := false }).assertSrc (80 + p) g.stamp else s

/-! ## Channel commands (R273, R274, R276) -/

/-- The present sample of a port, `dt` samples into its epoch. -/
def State.sampleNow (s : State) (p dt : Nat) : Nat := 81840 * ((s.gport p).epochs - 1) + dt

/-- The taps of a record keep R269. -/
def State.tapsOk (s : State) (c : Nat) : Bool :=
  let el := s.rf GNS_CH_taps_el c
  let vel := s.rf GNS_CH_taps_vel c
  decide (el ≠ 0) && decide (el ≤ vel) && decide (vel ≤ 64) &&
    decide (absNat (s.rs 8 GNS_CH_taps_mp1 c) ≤ 64) && decide (absNat (s.rs 8 GNS_CH_taps_mp2 c) ≤ 64)

def State.recordOk (s : State) (c start now : Nat) : Bool :=
  sigOk (s.rf GNS_CH_ctl_sig c) (s.rf GNS_CH_ctl_prn c) && s.tapsOk c && decide (absNat ((start : Int) - now) ≤ 2147483648)

/-- A start refused: OFF with cause 5 (R273). -/
def State.chanRefuse (s : State) (c : Nat) : State :=
  (((s.wf GNS_CH_status_state 0 c).wf GNS_CH_status_cause 5 c).setChan c { s.chan c with commit := none }).gnsJournal (c / 128) 0x0E03 (c + 5 * 2 ^ 9)

/-- One channel starts at `start` (R273). -/
def State.chanStartOne (s : State) (c start now : Nat) : State :=
  if ¬ s.recordOk c start now then s.chanRefuse c
  else if now < start then
    ((s.setChan c ⟨start, 0, 0, 0, 0, (s.chan c).commit⟩).wf GNS_CH_status_state 1 c).wf GNS_CH_status_late_start 0 c
  else s.chanRun c start (now + 1 - start) true

/-- Two channels form a pair (R276). -/
def State.pairOk (s : State) (c d : Nat) : Bool :=
  decide (c ≠ d) && decide (c / 128 = d / 128) && s.rb GNS_CH_ctl_pair_en d && decide (s.rf GNS_CH_ctl_pair d = c) &&
    decide ((s.chSig c).sys = (s.chSig d).sys) && decide (s.rf GNS_CH_ctl_prn c = s.rf GNS_CH_ctl_prn d) &&
    decide ((s.chSig c).band ≠ (s.chSig d).band)

/-- GNSS_CHANNEL_START (R273, R276). -/
def State.chanStart (s : State) (c dt : Nat) : State :=
  let p := c / 128
  let now := s.sampleNow p dt
  if s.rf GNS_CH_status_state c ≠ 0 ∨ ¬ s.portRuns p then s
  else if s.rb GNS_CH_ctl_pair_en c then
    let d := s.rf GNS_CH_ctl_pair c
    if s.pairOk c d then
      let start := s.rf GNS_CH_20_start_sample (min c d)
      let s1 := s.chanStartOne c start now
      if s1.rf GNS_CH_status_state d = 0 then s1.chanStartOne d start now else s1
    else (s.chanRefuse c).chanRefuse d
  else s.chanStartOne c (s.rf GNS_CH_20_start_sample c) now

/-- GNSS_CHANNEL_STOP (R273, R276). -/
def State.chanStopCmd (s : State) (c : Nat) : State :=
  let s1 := s.chanStop c 1
  if s.rf GNS_CH_status_state c ≠ 0 ∧ s.rb GNS_CH_ctl_pair_en c then s1.chanStop (s.rf GNS_CH_ctl_pair c) 4 else s1

/-- GNSS_CHANNEL_COMMIT (R274): it waits for its boundary, whatever the channel's state. -/
def State.chanCommit (s : State) (c : Nat) : State :=
  let m : GCommit := ⟨s.rf GNS_CH_38_for_seq c + 1 + s.rf GNS_Pp_CTL_lag (c / 128), s.rs 32 GNS_CH_08_car_rate c, s.rs 32 GNS_CH_0C_car_step c,
    s.rf GNS_CH_10_code_rate c, s.rs 32 GNS_CH_18_code_step c⟩
  s.setChan c { s.chan c with commit := some m }

/-- GNSS_PENDING_START (R273): the port reaches the start sample. -/
def State.pendingStart (s : State) (c : Nat) : State :=
  let start := (s.chan c).at_
  if s.rf GNS_CH_status_state c = 1 ∧ start < 81840 * (s.gport (c / 128)).epochs then s.chanRun c start 0 false else s

/-! ## Dumps (R275, R277) -/

/-- One accumulation with the secondary chip removed: negated modulo 2³². -/
def wipeTap (neg : Bool) (v : BitVec 32) : BitVec 32 := if neg then -v else v

/-- The replica of a signal at a code phase in 2⁻⁴⁸ chip: ±1, with the square subcarrier of BOC(1,1) (R267; log 63). -/
def replica (g : GSig) (sig prn code : Nat) : Int :=
  let neg := Config.codeChip sig prn (code / two48)
  if neg != (g.boc && decide (two48 ≤ 2 * (code % two48))) then -1 else 1

/-- A tap's offset in samples, to the nearest: 5 per 1/16 chip at 1.023 Mcps, and one per 1/8 chip at 10.23 Mcps; half a sample goes away from P on
both sides, so that E and L stay symmetric (R269; DESIGN CHOICE, log 63). -/
def tapSamples (g : GSig) (o : Int) : Int :=
  if g.dump = 1023 then 5 * o else if o < 0 then -((1 - o) / 2) else (o + 1) / 2

/-- One accumulation over samples from the code and carrier phases `code` and `car`, with the replica `o` samples early (R268 to R270). -/
def correlate (g : GSig) (sig prn code codeRate : Nat) (car carRate o : Int) (data : List Byte) : Int × Int :=
  (data.zipIdx).foldl (fun a e =>
    let i := toSigned 4 e.1.toNat
    let q := toSigned 4 (e.1.toNat / 16)
    let r := replica g sig prn (((code : Int) + codeRate * ((e.2 : Int) + o)) % (max 1 (g.chips * two48) : Nat)).toNat
    let ph := BitVec.ofInt 32 (car + carRate * (e.2 : Int))
    (a.1 + r * (i * Config.carCos ph + q * Config.carSin ph), a.2 + r * (q * Config.carCos ph - i * Config.carSin ph))) (0, 0)

/-- Offsets of VE, E, P, L, VL, MP1 and MP2 in sixteenths of a chip, early positive (R269). -/
def State.tapOffsets (s : State) (c : Nat) : List Int :=
  let el : Int := (s.rf GNS_CH_taps_el c : Nat)
  let vel : Int := (s.rf GNS_CH_taps_vel c : Nat)
  [vel, el, 0, -el, -vel, s.rs 8 GNS_CH_taps_mp1 c, s.rs 8 GNS_CH_taps_mp2 c]

/-- The seven accumulations of a channel over the samples since its last boundary, I then Q. -/
def State.dumpTaps (s : State) (c : Nat) (data : List Byte) : List (BitVec 32) :=
  let x := s.chan c
  (s.tapOffsets c).flatMap (fun o =>
    let r := correlate (s.chSig c) (s.rf GNS_CH_ctl_sig c) (s.rf GNS_CH_ctl_prn c) x.code (s.codeNow c) x.car (s.carNow c) (tapSamples (s.chSig c) o) data
    [BitVec.ofInt 32 r.1, BitVec.ofInt 32 r.2])

/-- The 64 bytes of a dump (R277). -/
def dumpBytes (seq id : Nat) (taps : List (BitVec 32)) : List Byte :=
  leBytes 4 seq ++ leBytes 2 id ++ leBytes 2 0 ++ (taps.flatMap (fun v => leBytes 4 v.toNat))

/-- A commit that is due at boundary `n`: the channel, its rates and cleared steps; and whether it is late (R274). -/
def State.commitAt (s : State) (c n : Nat) : State × Bool :=
  let x := s.chan c
  match x.commit with
  | none => (s, false)
  | some m =>
    if n < m.boundary then (s, false)
    else
      let l : Int := ((s.chSig c).chips * two48 : Nat)
      let code := (((x.code : Int) + m.codeStep * 4294967296) % l).toNat
      let s1 := s.setChan c { x with code := code, car := x.car + m.carStep, commit := none }
      let s2 := (((s1.ws GNS_CH_50_car_rate_now m.carRate c).wf GNS_CH_48_code_rate_now m.codeRate c).wf GNS_CH_0C_car_step 0 c).wf
        GNS_CH_18_code_step 0 c
      if m.boundary < n then
        let p := c / 128
        ((s2.inc GNS_Pp_LATE_count p).setGport p { s2.gport p with late := (s2.gport p).late + 1 }, true)
      else (s2, false)

/-- GNSS_DUMP_BOUNDARY (R268, R269, R274, R275, R277): the next boundary of a running channel; `data` are the samples of its band since the last one. -/
def State.dumpBoundary (s : State) (c : Nat) (data : List Byte) : State :=
  let p := c / 128
  let x := s.chan c
  let g := s.chSig c
  match nextBound g x.code (s.codeNow c) with
  | none => s
  | some j =>
    if ¬ s.live ∨ s.rf GNS_CH_status_state c ≠ 2 ∨ 81840 * (s.gport p).epochs < x.at_ + j then s
    else
      let n := x.bounds
      let wipe := s.rb GNS_CH_ctl_sec_wipe c && decide (g.sec ≠ 0)
      let neg := wipe && Config.secChip (s.rf GNS_CH_ctl_sig c) (s.rf GNS_CH_ctl_prn c) x.sec
      let r := ((s.setChan c { s.chanTo c (x.at_ + j) with bounds := n + 1 }).wf GNS_CH_44_seq n c).commitAt c n
      let b := dumpBytes n (c + (if r.2 then 2 ^ 9 else 0) + (if wipe then 2 ^ 10 else 0)) ((s.dumpTaps c (data.take j)).map (wipeTap neg))
      match r.1.qProduce (344 + p) ⟨r.1.domNow (36 + p), .bytes b⟩ with
      | some s2 => s2
      | none =>
        let s2 := r.1.inc GNS_Pp_LOST_count p
        s2.setGport p { s2.gport p with dropped := (s2.gport p).dropped + 1 }

/-- GNSS_DUMP_RING_WRITE (R277). -/
def State.dumpRingWrite (s : State) (p : Nat) : State :=
  if ¬ s.live then s
  else match s.qFront (344 + p) with
  | some ⟨_, .bytes b⟩ =>
    let s1 := s.qPop (344 + p)
    let n := s1.rf GNS_Pp_RING_SIZE_log2n p
    let head := s1.rf GNS_Pp_RING_HEAD_head p
    let g := s1.gport p
    if ringFull n head (s1.rf GNS_Pp_RING_TAIL_tail p) then
      (s1.inc GNS_Pp_LOST_count p).setGport p { g with dropped := g.dropped + 1 }
    else
      let lost := decide (0 < g.dropped)
      let b1 := if lost then b.set 5 ((b[5]?).getD 0 ||| 8) else b
      let s2 := s1.engStore 0 (s1.rf GNS_Pp_RING_BASE_base p * 64 + 64 * (head % 2 ^ n)) b1
      let s3 := (s2.wf GNS_Pp_RING_HEAD_head ((head + 1) % 2 ^ n) p).inc GNS_Pp_DUMPS_count p
      if lost then (s3.setGport p { s3.gport p with dropped := 0 }).gnsJournal p 0x0E04 (p + g.dropped % 2 ^ 32 * 2 ^ 32) else s3
  | some _ => s.qPop (344 + p)
  | none => s

/-- Late commits of the past second (R294), at the spine second. -/
def State.gnsSecond (s : State) : State :=
  (List.range 4).foldl (fun s p =>
    let g := s.gport p
    if g.late = 0 then s else (s.setGport p { g with late := 0 }).gnsJournal p 0x0E05 (p + g.late % 2 ^ 32 * 2 ^ 32)) s

/-! ## The cross-port latch (R280) -/

def r10One : Int := 65536000000000000

/-- GNSS_XLATCH_ARM. -/
def State.xlatchArm (s : State) : State :=
  let t := unpackTime (s.rf GNS_XLATCH_TIME_time)
  let m := s.rf GNS_XLATCH_CTL_ports
  if t < s.domNow 0 + 20 * uUs then s.wf GNS_XLATCH_STATUS_result 1
  else if (List.range 4).any (fun p => bitOf m p && !s.portRuns p) then s.wf GNS_XLATCH_STATUS_result 2
  else
    let s1 := (s.wf GNS_XLATCH_STATUS_result 0).setGns { s.gns with xPorts := m, xTime := t, xId := s.rf GNS_XLATCH_CTL_id }
    if m = 0 then (s1.wf GNS_XLATCH_STATUS_pending 0).assertSrc 24 (s1.domNow 0) else s1.wf GNS_XLATCH_STATUS_pending 1

/-- GNSS_XLATCH_CAPTURE: port `p` at its first sample at or after T. -/
def State.xlatchCapture (s : State) (p : Nat) : State :=
  let t := s.gns.xTime
  let g := s.gport p
  if ¬ s.rb GNS_XLATCH_STATUS_pending ∨ ¬ bitOf s.gns.xPorts p ∨ s.now < t ∨ g.epochs = 0 then s
  else
    let f := toSigned 48 (s.rf GNS_Pp_CLK_f p)
    let n := -((-((t - g.stamp) * 81840 * (r10One + f))) / (uMs * r10One))
    let at_ := g.stamp + n * uMs * r10One / (81840 * (r10One + f))
    let sample := ((81840 * (g.epochs - 1) : Nat) + n).toNat
    let tag := s.gns.xId + (if s.rb GNS_Pp_STATUS_stamped p then 0 else 2 ^ 31)
    let s1 := (s.portChans p).foldl (fun s c =>
      if s.rf GNS_CH_status_state c = 2 ∧ (s.chan c).at_ ≤ sample then s.latchWrite true c tag at_ (s.chanTo c sample) else s) s
    let left := setBitOf s1.gns.xPorts p false
    let s2 := s1.setGns { s1.gns with xPorts := left }
    if left = 0 then (s2.wf GNS_XLATCH_STATUS_pending 0).assertSrc 24 (s2.domNow 0) else s2

/-! ## Acquisition (R289 to R291) -/

/-- A submission (R289). -/
def State.acqSubmit (s : State) (slot : Nat) : State :=
  if s.gns.acqQ.length ≥ 64 then s.inc GNS_ACQ_REFUSED_count
  else
    let s1 := s.setGns { s.gns with acqQ := s.gns.acqQ ++ [slot] }
    s1.wf GNS_ACQ_STATUS_waiting s1.gns.acqQ.length

/-- What refuses a request: 2 BADREQ, 3 NOPORT, 4 SCRATCH, 0 nothing (R290). -/
def State.acqCheck (s : State) (slot : Nat) : Nat :=
  let w := s.acqWord slot 0
  let sig := bitsOf w 2 4
  let coh := bitsOf w 15 4
  let span := bitsOf (s.acqWord slot 8) 0 16
  let ctr := bitsOf (s.acqWord slot 0xC) 0 16
  let cspan := bitsOf (s.acqWord slot 0xC) 16 16
  let long := decide (sig = 3) || decide (sig = 4) || decide (sig = 7) || decide (sig = 8)
  if ¬ sigOk sig (bitsOf w 6 8) ∨ coh = 0 ∨ coh > 10 ∨ bitsOf w 19 8 = 0 ∨ span > 50000 ∨ ctr ≥ (gSig sig).chips ∨ (long ∧ cspan > 511) then 2
  else if bitOf w 14 then 0
  else if ¬ s.portRuns (bitsOf w 0 2) then 3
  else if s.rf GNS_ACQ_SCRATCH_base * 64 + 1636800 > 0x800000 then 4 else 0

/-- GNSS_ACQ_REQUEST_START (R289, R290): a live request captures from the port's next epoch on. -/
def State.acqStart (s : State) : State :=
  match s.gns.acqQ with
  | [] => s
  | slot :: rest =>
    if s.rb GNS_ACQ_STATUS_busy ∨ ¬ (List.range 4).any (fun p => s.pdOn (11 + p)) then s
    else
      let s1 := ((s.setGns { s.gns with acqQ := rest }).wf GNS_ACQ_STATUS_waiting rest.length).wf GNS_ACQ_STATUS_slot slot
      let st := s1.acqCheck slot
      if st ≠ 0 then s1.acqFinish slot st 0 0 0 0 0
      else
        let w := s1.acqWord slot 0
        let p := bitsOf w 0 2
        let s2 := s1.wf GNS_ACQ_STATUS_busy 1
        if bitOf w 14 then s2.setGns { s2.gns with acqRef := 81840 * s2.rf GNS_SNAP_EPOCHp_k p, acqLeft := 0, acqData := [] }
        else s2.setGns { s2.gns with acqRef := 81840 * (s2.gport p).epochs, acqLeft := bitsOf w 15 4 * bitsOf w 19 8, acqData := [] }

/-- Bin spacing of a request in Hz: 0 means round(667 / coh) (R289). -/
def State.acqBin (s : State) (slot : Nat) : Nat :=
  let hz := bitsOf (s.acqWord slot 8) 16 16
  let coh := max 1 (bitsOf (s.acqWord slot 0) 15 4)
  if hz = 0 then (2 * 667 + coh) / (2 * coh) else hz

/-- Carrier rate of Doppler bin `k` of a request, counted from the lowest; a bin past the last is the last (R289, R291). -/
def State.acqCar (s : State) (slot k : Nat) : Nat :=
  let hz := s.acqBin slot
  let half := ceilDiv (bitsOf (s.acqWord slot 8) 0 16) (max 1 hz)
  let f : Int := (((min k (2 * half) : Nat) : Int) - half) * hz
  ofSigned 32 (toSigned 32 (s.acqWord slot 4) + (2 * f * 4294967296 + 81840000) / (2 * 81840000))

/-- Code phase of a peak `ofs` × 2⁻¹⁶ chip from the code centre, within the window; a whole-code search takes any (R289, R290). -/
def State.acqCode (s : State) (slot : Nat) (ofs : Int) : Nat :=
  let ctr := bitsOf (s.acqWord slot 0xC) 0 16
  let span := bitsOf (s.acqWord slot 0xC) 16 16
  let all : Int := (max 1 ((gSig (bitsOf (s.acqWord slot 0) 2 4)).chips * 65536) : Nat)
  let d : Int := if span = 0xFFFF then ofs else max (-(span * 65536 : Nat)) (min (span * 65536 : Nat) ofs)
  (((ctr * 65536 : Nat) + d) % all).toNat

/-- The samples that a request searches, with the machine after they are read: the blocks captured for a live one, and for src = 1 the milliseconds of
its band from the snapshot at snap_base, whose bands are those of the last `go` (R289, R290, R292). -/
def State.acqSamples (s : State) (slot : Nat) : State × List Byte :=
  let w := s.acqWord slot 0
  if ¬ bitOf w 14 then (s, s.gns.acqData)
  else
    let bands := (if s.gns.snapL1 then 1 else 0) + (if s.gns.snapL5 then 1 else 0)
    let skip := if (gSig (bitsOf w 2 4)).band = 0 ∨ ¬ s.gns.snapL1 then 0 else 81840
    let base := bitsOf (s.acqWord slot 0x10) 6 17 * 64 + skip
    (List.range (bitsOf w 15 4 * bitsOf w 19 8)).foldl (fun r k =>
      let x := r.1.engLoad 0 (base + 81840 * bands * k) 81840
      (x.1, r.2 ++ x.2.1)) (s, [])

/-- GNSS_ACQ_REQUEST_COMPLETE (R289): the search ends with the peak of its samples, by its Doppler bin and its place in the code window; a live request
has captured its blocks. -/
def State.acqComplete (s : State) : State :=
  let slot := s.rf GNS_ACQ_STATUS_slot
  if ¬ s.rb GNS_ACQ_STATUS_busy ∨ 0 < s.gns.acqLeft then s
  else
    let x := s.acqSamples slot
    let pk := Config.acqPeak ([0, 4, 8, 0xC].map (s.acqWord slot)) x.2
    let ratio := pk.2.2.1 % 65536
    x.1.acqFinish slot (if s.rf GNS_ACQ_CTL_thresh ≤ ratio then 0 else 1) (s.acqCode slot pk.2.1) (s.acqCar slot pk.1) ratio (pk.2.2.2 % 65536) s.gns.acqRef

/-! ## Snapshots (R292) -/

def captureBytes (l1 l5 : Bool) (len : Nat) : Nat := 81840 * ((if l1 then 1 else 0) + (if l5 then 1 else 0)) * len
def lenMs (n : Nat) : Nat := if 2 ≤ n ∧ n ≤ 20 then n else 2

/-- GNSS_SNAP_GO. -/
def State.snapGo (s : State) : State :=
  let m := s.rf GNS_SNAP_CTL_ports
  let len := lenMs (s.rf GNS_SNAP_CTL_len_ms)
  let n := captureBytes (s.rb GNS_SNAP_CTL_l1) (s.rb GNS_SNAP_CTL_l5) len
  if (List.range 4).any (fun p => bitOf m p && decide (s.rf GNS_SNAP_BASEp_base p * 64 + n > 0x800000)) then s.wf GNS_SNAP_STATUS_result 1
  else if (List.range 4).any (fun p => bitOf m p && !s.portRuns p) then s.wf GNS_SNAP_STATUS_result 2
  else if s.rf GNS_SNAP_STATUS_state = 1 ∨ s.rf GNS_SNAP_STATUS_state = 2 then s.wf GNS_SNAP_STATUS_result 3
  else
    let s1 := s.setGns { s.gns with snapPorts := m, snapL1 := s.rb GNS_SNAP_CTL_l1, snapL5 := s.rb GNS_SNAP_CTL_l5, snapLen := len, snapLeft := m,
                                    snapAt := unpackTime (s.rf GNS_SNAP_START_time), snapBase := Vector.ofFn (fun p : Fin 4 => s.rf GNS_SNAP_BASEp_base p.val),
                                    snapMs := Vector.replicate 4 0,
                                    snapFrom := s.gns.ports.map (·.epochs) }
    (s1.wf GNS_SNAP_STATUS_result 0).wf GNS_SNAP_STATUS_state 1

/-- The snapshot runs. -/
def State.snapBusy (s : State) : Bool := decide (s.rf GNS_SNAP_STATUS_state = 1) || decide (s.rf GNS_SNAP_STATUS_state = 2)

/-- GNSS_SNAP_ABORT. -/
def State.snapAbort (s : State) : State :=
  if s.snapBusy then
    (((s.wf GNS_SNAP_STATUS_state 3).wf GNS_SNAP_STATUS_result 4).setGns { s.gns with snapLeft := 0, snapMs := Vector.replicate 4 0 }).gnsJournal 0 0x0E06 (s.gns.snapPorts + 4 * 2 ^ 4)
  else s

/-- GNSS_SNAP_CAPTURE_START: port `p` at an epoch at or after the start time; its samples follow epoch by epoch. -/
def State.snapCapture (s : State) (p : Nat) : State :=
  let g := s.gport p
  if s.snapBusy ∧ bitOf s.gns.snapLeft p ∧ s.portRuns p ∧ (s.gns.snapFrom[p]?).getD 0 < g.epochs ∧ s.gns.snapAt ≤ g.stamp then
    let s1 := s.setGns { s.gns with snapLeft := setBitOf s.gns.snapLeft p false, snapMs := s.gns.snapMs.set! p s.gns.snapLen }
    ((s1.wf GNS_SNAP_EPOCHp_k (g.epochs - 1) p).wf GNS_SNAP_Tp_time (packTime g.stamp) p).wf GNS_SNAP_STATUS_state 2
  else s

/-- GNSS_SNAP_COMPLETE: every named port has finished; a port that has stopped has nothing more to capture. -/
def State.snapComplete (s : State) : State :=
  if s.snapBusy ∧ ¬ (List.range 4).any (fun p => (bitOf s.gns.snapLeft p || decide (0 < (s.gns.snapMs[p]?).getD 0)) && s.portRuns p) then
    (((s.wf GNS_SNAP_STATUS_state 3).wf GNS_SNAP_STATUS_result 0).assertSrc 23 (s.domNow 0)).gnsJournal 0 0x0E06 s.gns.snapPorts
  else s

/-! ## Moss watch on a port (R202, R203) -/

/-- `MOSS_Gp_STATUS.state` after a change of the enable or of the domain: HELD stays until it is released. The rounds of wake_every count from each
entry into the watch and each release (R203; DESIGN CHOICE, log 66). -/
def State.mossGShow (s : State) (p : Nat) : State :=
  let on := decide (s.pd (11 + p) = 2) && s.rb MOSS_Gp_CTL_en p
  let st := s.rf MOSS_Gp_STATUS_state p
  if on then
    if st = 0 then (s.wf MOSS_Gp_STATUS_state 1 p).setGport p { s.gport p with mossFrom := s.now, mossRounds := 0 } else s
  else if st = 3 then s else s.wf MOSS_Gp_STATUS_state 0 p

def State.mossGPeriod (s : State) (p : Nat) : Int :=
  ((if s.rf MOSS_Gp_PERIOD_ms p = 0 then 60000 else s.rf MOSS_Gp_PERIOD_ms p : Nat) : Int) * uMs

/-- A write of MOSS_Gp_PERIOD: a boundary of the new grid that has passed takes no round (R202). -/
def State.mossGPeriodSet (s : State) (p : Nat) : State := s.setGport p { s.gport p with mossFrom := max (s.gport p).mossFrom s.now }

/-- MOSS_G_ROUND (R202): a capture and its statistics, at a boundary that has not been taken; `freq` is the clock offset in ppb, none without a clock
edge. Of a round without a clock the registers and the entry show 0 (R203; DESIGN CHOICE, log 66). -/
def State.mossGRound (s0 : State) (p : Nat) (data : List Byte) (freq : Option (BitVec 32)) : State :=
  let s := s0.mossGShow p
  let g := s.gport p
  let b := s.now / s.mossGPeriod p * s.mossGPeriod p
  if s.rf MOSS_Gp_STATUS_state p ≠ 1 ∨ b < g.mossFrom ∨ ¬ s.tm.run then s
  else
    let l1 := s.rb MOSS_Gp_CTL_l1 p
    let l5 := s.rb MOSS_Gp_CTL_l5 p
    let len := lenMs (s.rf MOSS_Gp_CTL_len_ms p)
    let d := if freq.isSome then data.take (captureBytes l1 l5 len) else []
    let bands := if l1 && l5 then 2 else 1
    let a := if l1 then bandStat bands 0 d else (0, 0, 0)
    let c := if l5 then bandStat bands (bands - 1) d else (0, 0, 0)
    let s1 := s.engStore 0 (s.rf MOSS_Gp_BUF_base p * 64) d
    let s2 := ((s1.wf MOSS_Gp_LAST_FREQ_ppb ((freq.map (·.toNat)).getD 0) p).wf MOSS_Gp_LAST_PWR_l1 (bandMean a).1 p).wf MOSS_Gp_LAST_PWR_l5 (bandMean c).1 p
    (s2.setGport p { s2.gport p with mossFrom := b + 1, mossFreq := freq.map (fun f => f.toInt), mossClip1 := a.2, mossClip5 := c.2 }).wf
      MOSS_Gp_STATUS_state 2 p

/-- The cause of a deviation, 0 for none (R203). -/
def State.mossGCause (s : State) (p : Nat) : Nat :=
  let g := s.gport p
  let l1 := s.rb MOSS_Gp_CTL_l1 p
  let l5 := s.rb MOSS_Gp_CTL_l5 p
  match g.mossFreq with
  | none => 5
  | some f =>
    if f.natAbs > s.rf MOSS_Gp_FWIN_ppb p then 1
    else if l1 ∧ (s.rf MOSS_Gp_LAST_PWR_l1 p < s.rf MOSS_Gp_PWR_L1_min p ∨ s.rf MOSS_Gp_LAST_PWR_l1 p > s.rf MOSS_Gp_PWR_L1_max p) then 2
    else if l5 ∧ (s.rf MOSS_Gp_LAST_PWR_l5 p < s.rf MOSS_Gp_PWR_L5_min p ∨ s.rf MOSS_Gp_LAST_PWR_l5 p > s.rf MOSS_Gp_PWR_L5_max p) then 3
    else if (l1 ∧ s.rf MOSS_Gp_CLIP_frac p * g.mossClip1.2 < 256 * g.mossClip1.1) ∨ (l5 ∧ s.rf MOSS_Gp_CLIP_frac p * g.mossClip5.2 < 256 * g.mossClip5.1) then 4
    else 0

/-- MOSS_G_ROUND_END. -/
def State.mossGEnd (s : State) (p : Nat) : State :=
  if s.rf MOSS_Gp_STATUS_state p ≠ 2 then s
  else
    let cause := s.mossGCause p
    let g := s.gport p
    let k := s.rf MOSS_Gp_CTL_wake_every p
    let n := g.mossRounds + 1
    let s1 := (s.inc MOSS_Gp_ROUNDS_count p).setGport p { g with mossRounds := n }
    let s2 := if cause = 0 then s1
      else (((s1.assertSrc (84 + p) (s1.domNow 1)).inc MOSS_Gp_DEV_count p).wf MOSS_Gp_STATUS_cause cause p).journal 1 (0x0B28 + p) 0x0B02
        (p + cause * 2 ^ 2 + s1.rf MOSS_Gp_LAST_FREQ_ppb p * 2 ^ 32)
    let wake := decide (k ≠ 0) && decide (n % k = 0)
    let s3 := if wake then s2.assertSrc (88 + p) (s2.domNow 1) else s2
    s3.wf MOSS_Gp_STATUS_state (if cause ≠ 0 ∨ wake then 3 else 1) p

/-- MOSS_G_RELEASE. -/
def State.mossGRelease (s : State) (p : Nat) : State :=
  if s.rf MOSS_Gp_STATUS_state p = 3 then (s.wf MOSS_Gp_STATUS_state 0 p).mossGShow p else s

/-! ## Meanings -/

def execMossGRound (p : Fin 4) (data : List Byte) (freq : Option (BitVec 32)) (s : State) : Result := .next (s.whenUp (s.mossGRound p.val data freq))
def execMossGRoundEnd (p : Fin 4) (s : State) : Result := .next (s.whenUp (s.mossGEnd p.val))
def execMossGRelease (_ : Req) (p : Fin 4) (s : State) : Result := .next (s.whenUp (s.mossGRelease p.val))
def execGnssPortStart (p : Fin 4) (s : State) : Result := .next (s.whenUp (s.portStart p.val))
def execGnssPortStop (p : Fin 4) (s : State) : Result := .next (s.whenUp (s.portStop p.val))
def execGnssPortConfigWrite (_ : Req) (p : Fin 4) (v : BitVec 32) (s : State) : Result := .next (s.whenUp (s.portConfig p.val v.toNat))
def execGnssEpoch (p : Fin 4) (ofs : Fin 131072) (d1 d5 : List Byte) (s : State) : Result := .next (s.whenUp (s.gnsEpoch p.val ofs.val d1 d5))
def execGnssDumpReady (p : Fin 4) (s : State) : Result := .next (s.whenUp (s.dumpReady p.val))
def execGnssChannelStart (_ : Req) (c : Fin 512) (dt : Fin 81840) (s : State) : Result := .next (s.whenUp (s.chanStart c.val dt.val))
def execGnssChannelStop (_ : Req) (c : Fin 512) (s : State) : Result := .next (s.whenUp (s.chanStopCmd c.val))
def execGnssChannelCommit (_ : Req) (c : Fin 512) (s : State) : Result := .next (s.whenUp (s.chanCommit c.val))
def execGnssPendingStart (c : Fin 512) (s : State) : Result := .next (s.whenUp (s.pendingStart c.val))
def execGnssDumpBoundary (c : Fin 512) (data : List Byte) (s : State) : Result := .next (s.whenUp (s.dumpBoundary c.val data))
def execGnssDumpRingWrite (p : Fin 4) (s : State) : Result := .next (s.whenUp (s.dumpRingWrite p.val))
def execGnssXlatchArm (_ : Req) (s : State) : Result := .next (s.whenUp s.xlatchArm)
def execGnssXlatchCapture (p : Fin 4) (s : State) : Result := .next (s.whenUp (s.xlatchCapture p.val))
def execGnssSolBoundWrite (_ : Req) (a : Fin 5) (v : BitVec 32) (s : State) : Result := .next (s.whenUp (s.solWrite a.val v.toNat))
def execGnssSolBoundExpire (a : Fin 5) (s : State) : Result := .next (s.whenUp (s.solExpire a.val))
def execGnssAcqSubmit (_ : Req) (slot : Fin 64) (s : State) : Result := .next (s.whenUp (s.acqSubmit slot.val))
def execGnssAcqRequestStart (s : State) : Result := .next (s.whenUp s.acqStart)
def execGnssAcqRequestComplete (s : State) : Result := .next (s.whenUp s.acqComplete)
def execGnssSnapGo (_ : Req) (s : State) : Result := .next (s.whenUp s.snapGo)
def execGnssSnapAbort (_ : Req) (s : State) : Result := .next (s.whenUp s.snapAbort)
def execGnssSnapCaptureStart (p : Fin 4) (s : State) : Result := .next (s.whenUp (s.snapCapture p.val))
def execGnssSnapComplete (s : State) : Result := .next (s.whenUp s.snapComplete)

end Sys2Proof.Machine
end

