-- ==== Sys2Proof/Machine/Mac.lean ====
section
/-!
DEFINITION. The Ethernet lanes (R295 to R321): modes and resets, reception, the general ring, receive stamps, launch-time transmit,
descriptors, preemption, ESMC, wake and self-calibration.
-/

namespace Sys2Proof.Machine
open Sys2Proof Reg

def State.lane (s : State) (n : Nat) : Lane := (s.lanes[n]?).getD Lane.empty
def State.setLane (s : State) (n : Nat) (x : Lane) : State := { s with lanes := s.lanes.set! n x }

/-- Counter `i` of R319 of a lane. -/
def State.macCnt (s : State) (n i : Nat) : Nat := s.rf MACn_CNTi_count (26 * n + i)
def State.macInc (s : State) (n i : Nat) : State := s.inc MACn_CNTi_count (26 * n + i)

/-- A bonded member: its registers are ignored and it carries no frames of its own (R296). -/
def State.member (s : State) (n : Nat) : Bool := s.rb MACn_STATUS_bonded_member n

def State.listening (s : State) (n : Nat) : Bool := s.rb MACn_STATUS_listening n
def State.linkUp (s : State) (n : Nat) : Bool := s.rb MACn_STATUS_link n && s.live

/-- The lane's power domain (R295). -/
def laneDom (n : Nat) : Nat := 6 + n / 8

/-- A lane's own entry in the Gradebook (R320): in the core domain for its management, in its receive domain, or in the active
ring's domain for transmit. -/
def State.macJournal (s : State) (dom n code payload : Nat) : State := s.journal dom (0x0F00 + n) code (n + payload)

/-! ## Rates and the block grid (R295, R304) -/

/-- Block period in 1/25 unit. -/
def State.blockP (s : State) (n : Nat) : Int := if s.laneMode n = 1 then 13107200 else if s.laneMode n = 2 then 10485760 else 4194304
/-- The unit interval in 1/4125 unit. -/
def State.uiOf (s : State) (n : Nat) : Int :=
  if s.laneMode n = 1 then 262144 * 825 else if s.laneMode n = 2 then 1048576 * 25 else 2097152 * 5
/-- One byte time in 1/25 unit (R312). -/
def State.byteT (s : State) (n : Nat) : Int :=
  if s.laneMode n = 1 then 13107200 else if s.laneMode n = 2 then 1310720 else if s.laneMode n = 4 then 131072 else 524288

/-- Signed ps in 1/4125 unit. -/
def ps4125 (ps : Int) : Int := ps * 270336

/-- c_tx in 1/4125 unit (R305). -/
def State.cTx (s : State) (n : Nat) : Int :=
  s.blockP n * 165 + 2 * s.uiOf n + ps4125 ((s.rf MACn_TX_LAT_ps n : Int) + s.rs 32 MACn_TRACE_TX_ps n)

/-- D of a slot (R305): the stamp point, to the nearest unit, ties toward the earlier. -/
def State.departure (s : State) (n : Nat) (sigma : Int) : Int := roundHalfDown (sigma * 165 + s.cTx n) 4125

/-- The first block boundary at or after `t`, both in 1/25 unit. -/
def State.boundaryFrom (s : State) (n : Nat) (t : Int) : Int :=
  let p := s.blockP n
  let f := (s.lane n).phase
  f - (f - t) / p * p

/-- Time on the medium of a frame of `len` bytes without FCS, with 20 bytes of preamble and gap, in 1/25 unit. -/
def State.airTime (s : State) (n len : Nat) : Int := ((len + 24 : Nat) : Int) * s.byteT n

def State.frameTime (s : State) (n : Nat) (f : TFrame) : Int := s.airTime n (s.buildLen n f.build)

def State.showPhase (s : State) (n : Nat) : State := s.wf MACn_TX_PHASE_ps (((s.lane n).phase * 125 / 8192) / 25).toNat n

/-- The grid moved by `u` units (R304). -/
def State.gridMove (s : State) (n : Nat) (u : Int) : State :=
  let x := s.lane n
  (s.setLane n { x with phase := (x.phase + u * 25) % s.blockP n }).showPhase n

/-! ## The end of a frame -/

/-- A completion item (R309). -/
def completion (d : Int) (status : Nat) : Nat := (d % uSec).toNat + (d / uSec % 256).toNat * 2 ^ 46 + status * 2 ^ 54

/-- A word that a block in domain `d` sends into a queue (R35). -/
def State.pushItem (s : State) (q d src v : Nat) : State := s.qSend q d src ⟨s.domNow d, .word v⟩

/-- The lane takes timed requests: no bonded member, whose counters stay, and not listening (R296, R315). -/
def State.laneTakes (s : State) (n : Nat) : Bool := !s.member n && !s.listening n

/-- A timed request handed to the lane (R300), which refuses it where it takes none. -/
def State.laneQueue (s : State) (n : Nat) (b : Build) (o : TOwner) : State :=
  if ¬ s.laneTakes n then s
  else
    let s1 := s.macInc n 18
    let x := s1.lane n
    s1.setLane n { x with reqs := x.reqs ++ [⟨b, o⟩] }

/-- The unit holds the token: SOLO or ACTIVE (R348, R384). -/
def State.token (s : State) : Bool := decide (s.rf TWN_STATUS_state = 0) || decide (s.rf TWN_STATUS_state = 3)

/-- A generated message handed to a lane that takes it (R347). -/
def State.generate (s : State) (n : Nat) (b : Build) (o : TOwner) : State :=
  if s.laneTakes n then (s.laneQueue n b o).inc TSV_CNTi_count 19 else s

/-- What the frame's owner hears: a completion, or D (R307, R309, R324, R333). The second step of a two-step message is generated while the
unit holds the token (R348). -/
def State.ownerDone (s : State) (n : Nat) (o : TOwner) (status : Nat) (d : Int) : State :=
  match o with
  | .frond => s.pushItem (1024 + 0xA0 + n) s.ringDom (0x0F00 + n) (completion d status)
  | .sealed => s.pushItem (1024 + 0x102) 0 (0x1000 + n) (completion d status)
  | .plain => s
  | .up _ => s
  | .twoStep b =>
    if status ≠ 0 ∨ ¬ s.token then s
    else
      let m := match b.msg with
        | .ptp data p _ bound coarse by_ => TMsg.ptp (insertD data .origin d) p .none bound coarse by_
        | m => m
      s.generate n { b with msg := m } .plain
  | .upDelay u seq =>
    if status = 0 then { s with tsv := { s.tsv with ups := s.tsv.ups.set! u { (s.tsv.ups[u]?).getD s.tsv.ups[0] with t3 := some (seq, d) } } } else s
  | .peer seq =>
    let p := (s.tsv.peers[n]?).getD s.tsv.peers[0]
    if status = 0 ∧ p.seq = seq then { s with tsv := { s.tsv with peers := s.tsv.peers.set! n { p with t1 := some d } } } else s

/-- Drop causes on transmit. -/
def txDropReset : Nat := 23
def txDropReslot : Nat := 22

/-- A frame dropped before it left. -/
def State.txDrop (s : State) (n cnt status : Nat) (o : TOwner) : State := (s.macInc n cnt).ownerDone n o status 0

/-- The frame's own place of the launch buffer freed; a frame that the lane popped when the queue was reset holds none (R37, R306). -/
def State.launchPop (s : State) (n : Nat) (f : TFrame) : State :=
  let q := s.queue (460 + n)
  match f.held with
  | some (bs, t) =>
    if q.items.contains ⟨t, .bytes bs⟩ then s.setQueue (460 + n) { q.pop with items := q.items.erase ⟨t, .bytes bs⟩ } else s
  | none => s

/-- Who hears of a general frame. -/
def GFrame.owner (g : GFrame) : TOwner := if g.frond then .frond else .plain

/-- Every frame and request that waits dropped with status 2, and the medium free (R37, R321). -/
def State.txFlush (s : State) (n : Nat) : State :=
  let x := s.lane n
  let s1 := s.setLane n { x with reqs := [], sched := [], gens := [], busyFrom := 0, busyEnd := 0, busyPre := false }
  let s2 := x.sched.foldl (fun s f => (s.launchPop n f).txDrop n txDropReset 2 f.owner) s1
  let s3 := x.gens.foldl (fun s g => s.txDrop n txDropReset 2 g.owner) s2
  x.reqs.foldl (fun s r => s.txDrop n txDropReset 2 r.owner) s3

/-! ## Slots (R305 to R308) -/

def State.preemptActive (s : State) (n : Nat) : Bool := decide (s.rf MACn_STATUS_preempt n = 2)

/-- The medium is reserved or in use until then, in 1/25 unit; a preemptable frame gives way (R305, R312), and a general frame that waits
holds nothing. -/
def State.mediumFree (s : State) (n : Nat) : Int :=
  let x := s.lane n
  x.sched.foldl (fun t f => max t (f.sigma + s.frameTime n f)) (if x.busyPre && s.preemptActive n then x.phase else x.busyEnd)

/-- The first slot for a request at `r`, in 1/25 unit. -/
def State.slotFrom (s : State) (n : Nat) (r : Int) : Int :=
  s.boundaryFrom n (max (r + ((max 500 (s.rf MACn_LAUNCH_LEAD_ns n) : Nat) : Int) * uNs * 25) (s.mediumFree n))

/-! ## General frames (R312; log 69) -/

/-- Where a general frame of `dur` that looks for room from `t` starts (R312): at a block boundary, before a slot only where it ends by the
slot, or, preemptable, 160 byte times ahead of it. -/
def State.genStart (s : State) (n : Nat) (pre : Bool) (dur t : Int) : Int :=
  (s.lane n).sched.foldl (fun t f =>
    let e := f.sigma + s.frameTime n f
    if e ≤ t ∨ t + (if pre then 160 * s.byteT n else dur) ≤ f.sigma then t else s.boundaryFrom n e) (s.boundaryFrom n t)

/-- The waiting general frames, in their order: each that can start by the next block boundary has started, at its own start. -/
def State.genTake (s : State) (n : Nat) : List GFrame → State
  | [] => s.setLane n { s.lane n with gens := [] }
  | g :: rest =>
    let x := s.lane n
    let pre := s.preemptActive n && !g.express
    let dur := s.airTime n g.bytes.length
    let sigma := s.genStart n pre dur (max x.genFrom x.busyEnd)
    if s.boundaryFrom n (s.now * 25) < sigma then s.setLane n { x with gens := g :: rest }
    else
      let d := s.departure n sigma
      let s1 := s.setLane n { x with busyFrom := sigma, busyEnd := sigma + dur, busyPre := pre, sent := some (d, g.bytes) }
      ((s1.macInc n 19).ownerDone n g.owner 0 d).genTake n rest

/-- The general frames that wait go on, unless the lane is down or calibrates (R318). -/
def State.genRun (s : State) (n : Nat) : State :=
  if (s.lane n).gens = [] ∨ ¬ s.linkUp n ∨ s.rb MACn_CAL_CTL_busy n then s else s.genTake n (s.lane n).gens

/-- Before the slots change: what could start has started, and the rest looks for room from now. -/
def State.genSettle (s : State) (n : Nat) : State :=
  let t := s.genRun n
  if (t.lane n).gens = [] then t else t.setLane n { t.lane n with genFrom := t.now * 25 }

/-- A general frame submitted. -/
def State.sendGeneral (s : State) (n : Nat) (g : GFrame) : State :=
  let x := s.lane n
  (s.setLane n { x with gens := x.gens ++ [g], genFrom := if x.gens = [] then s.now * 25 else x.genFrom }).genRun n

/-- The slot of a timed frame takes the medium from a preemptable frame (R311, R312): what it had not sent, with what the cut adds and
no less than a fragment of 64 bytes, goes on after the slot. -/
def State.preemptAt (s : State) (n : Nat) (f : TFrame) : State :=
  let x := s.lane n
  let e := f.sigma + s.frameTime n f
  let resume := fun (rest : Int) =>
    let t := s.genStart n true rest e
    s.setLane n { x with busyFrom := t, busyEnd := t + rest }
  if ¬ (x.busyPre ∧ s.preemptActive n ∧ f.sigma < x.busyEnd ∧ x.busyFrom < e) then s
  else if x.busyFrom < f.sigma then (resume (max (x.busyEnd - f.sigma + 24 * s.byteT n) (84 * s.byteT n))).macInc n 25
  else resume (x.busyEnd - x.busyFrom)

/-- A slot reserved for a frame at the end of the schedule. -/
def State.reserve (s : State) (n : Nat) (r : Int) (misses : Nat) (b : Build) (o : TOwner) : State :=
  let sigma := s.slotFrom n r
  let x := s.lane n
  s.setLane n { x with sched := x.sched ++ [⟨sigma, s.departure n sigma, misses, b, o, none, false⟩] }

/-- A message for which its profile has no send key: counted and journalled (R332). -/
def State.noKey (s : State) (b : Build) : State :=
  let s1 := s.inc TSV_CNTi_count 23
  let p : Option Nat := match b.msg with
    | .ptp _ p _ _ _ _ => some p
    | .announce p _ _ _ => some p
    | _ => none
  match p with
  | some p =>
    let sec := secsOf s1.now
    if (s1.tsv.noKeySec[p]?).getD 0 = sec then s1
    else ({ s1 with tsv := { s1.tsv with noKeySec := s1.tsv.noKeySec.set! p sec } } : State).journal 0 0x1000 0x1002 p
  | none => s1

/-- The closed gate discards every timed frame but those of upstream sessions (R386). -/
def TOwner.passesGate : TOwner → Bool
  | .upDelay _ _ => true
  | .up _ => true
  | _ => false

/-- A frame that may still be submitted: without the token the pipeline submits none but those of upstream sessions (R348). -/
def State.maySubmit (s : State) (o : TOwner) : Bool := s.token || o.passesGate || decide (o = .frond)

/-- The seal of a build is a use of its key entry's locker (R332, R369). -/
def State.sealUse (s : State) (b : Build) : State :=
  let e := match b.msg with
    | .ptp _ _ _ _ _ k => s.sealEntry k s.now
    | .announce _ _ _ k => s.sealEntry k s.now
    | .wrapped _ _ _ _ k => s.sealEntry k s.now
    | _ => none
  match e with
  | some (some k) => s.lockerUsed (s.rf TSV_KEYk_CFG_locker k)
  | _ => s

/-- Frame `i` of the schedule formed and pushed into the launch buffer, when its bound is published and the buffer has room
(R306, R325); a message without a send key is withheld (R332), and one of a unit that lost the token is dropped (R348). -/
def State.sealFrame (s : State) (n i : Nat) : State :=
  let x := s.lane n
  match x.sched[i]? with
  | none => s
  | some f =>
    if f.held.isSome ∨ (f.build.carriesBa ∧ s.now / uMs < f.d / uMs) then s
    else if ¬ s.maySubmit f.owner then (s.setLane n { x with sched := x.sched.eraseIdx i }).txDrop n txDropReset 2 f.owner
    else
      match s.formFrame n f.build f.d with
      | none => ((s.setLane n { x with sched := x.sched.eraseIdx i }).noKey f.build).txDrop n txDropReset 2 f.owner
      | some bs =>
        if s.qCredit (460 + n) then
          let s1 := s.qPush (460 + n) ⟨s.domNow 0, .bytes bs⟩
          (s1.setLane n { x with sched := x.sched.set i { f with held := some (bs, s.domNow 0) } }).sealUse f.build
        else s

/-- Every frame that can be sealed is, in the order of the slots. -/
def State.sealAll (s : State) (n : Nat) : State :=
  (s.lane n).sched.foldl (fun s f => s.sealFrame n ((s.lane n).sched.findIdx (fun g => decide (g.sigma = f.sigma)))) s

/-- A frame misses its slot (R307, R308): a new slot from `r`, or the drop after too many misses. The frame has left the schedule. -/
def State.reslot (s : State) (n : Nat) (r : Int) (step : Bool) (f : TFrame) : State :=
  let s0 := s.launchPop n f
  if ¬ s0.maySubmit f.owner then s0.txDrop n txDropReset 2 f.owner
  else if s0.rf MACn_RESLOT_MAX_n n < f.misses + 1 then
    (s0.txDrop n txDropReslot 1 f.owner).macJournal s0.ringDom n 0x0F05 0
  else
    let s1 := s0.macInc n 21
    let sec := secsOf s1.now
    let x := s1.lane n
    let s2 :=
      if x.reslotSec = sec then s1.setLane n { x with reslots := x.reslots + 1 }
      else
        let prev := if x.reslotSec + 1 = sec then x.reslots else 0
        (s1.setLane n { x with reslotSec := sec, reslots := 1 }).macJournal s1.ringDom n 0x0F04 ((if step then 32 else 0) + prev * 2 ^ 32)
    s2.reserve n r (f.misses + 1) f.build f.owner

/-- The frames of the schedule that satisfy `p` reslotted from what `r` gives. -/
def State.reslotWhere (s : State) (n : Nat) (p : TFrame → Bool) (r : TFrame → Int) (step : Bool) : State :=
  let x := s.lane n
  let s1 := s.setLane n { x with sched := x.sched.filter (fun f => !p f) }
  ((x.sched.filter p).foldl (fun s f => s.reslot n (r f) step f) s1).sealAll n

/-- TIMED_REQUEST (R305): the oldest waiting request gets its slot and its D; one that may no longer be submitted, or whose link is down,
is dropped (R321, R348). -/
def State.timedRequest (s0 : State) (n : Nat) : State :=
  let s := s0.genSettle n
  let x := s.lane n
  match (if s.live then x.reqs else []) with
  | [] => s
  | q :: rest =>
    let s1 := s.setLane n { x with reqs := rest }
    if s.linkUp n ∧ s.maySubmit q.owner then (s1.reserve n (s.now * 25) 0 q.build q.owner).sealAll n
    else s1.txDrop n txDropReset 2 q.owner

/-- σ − 300 ns in 1/25 unit. -/
def TFrame.ready (f : TFrame) : Int := f.sigma - 300 * uNs * 25

/-- The frame lies in the launch buffer by its ready line, and no calibration holds the lane (R306, R318, R321). -/
def State.frameReady (s : State) (n : Nat) (f : TFrame) : Bool :=
  !s.rb MACn_CAL_CTL_busy n && (match f.held with
  | some (_, t) => decide (t * 25 ≤ f.ready)
  | none => false)

/-- LAUNCH_READY_LINE (R307). -/
def State.readyLine (s0 : State) (n : Nat) : State :=
  if ¬ s0.live then s0
  else
    let s := s0.genSettle n
    s.reslotWhere n (fun f => !f.started && decide (f.ready ≤ s.now * 25) && !s.frameReady n f) TFrame.ready false

/-- The started frame has left whole: counted, its D reported (R300, R324). -/
def State.launchDone (s : State) (n : Nat) : State :=
  let x := s.lane n
  match x.sched with
  | f :: rest =>
    if f.started ∧ f.sigma + s.frameTime n f ≤ s.now * 25 + 12 * s.byteT n then
      let s1 := s.setLane n { x with sched := rest, sent := f.held.map (fun h => (f.d, h.1)) }
      ((((s1.launchPop n f).macInc n 19).macInc n 20).ownerDone n f.owner 0 f.d).sealAll n
    else s
  | [] => s

/-- FRAME_LAUNCH (R306): a started frame ends; at its σ the next ready frame starts, or the gate discards it; a general frame gives way
to the slot (R312). -/
def State.frameLaunch (s : State) (n : Nat) : State :=
  let s1 := (if s.linkUp n then s.launchDone n else s).genSettle n
  match (s1.lane n).sched with
  | f :: rest =>
    if s.linkUp n ∧ ¬ f.started ∧ f.sigma ≤ s1.now * 25 ∧ s1.frameReady n f then
      let s2 := s1.preemptAt n f
      let x := s2.lane n
      if s2.rb TWN_STATUS_gate ∨ f.owner.passesGate then
        (s2.setLane n { x with sched := { f with started := true } :: rest }).launchDone n
      else ((s2.setLane n { x with sched := rest }).launchPop n f).txDrop n txDropReset 2 f.owner
    else s1
  | [] => s1

/-- A STEP of `d` units that took effect with spine time at `told` before it (R304, R308): the grids move; frames that depart after the
tick are reslotted, and one that is serialising is cut. -/
def State.laneStep (s : State) (told d : Int) : State :=
  (List.range 32).foldl (fun s n =>
    let s1 := s.gridMove n d
    let x := s1.lane n
    let s2 := s1.setLane n { x with busyFrom := x.busyFrom + d * 25, busyEnd := x.busyEnd + d * 25, genFrom := s1.now * 25,
                                    sched := x.sched.map (fun f => if f.started ∧ f.d ≤ told then { f with sigma := f.sigma + d * 25 } else f) }
    let cut := (x.sched.filter (fun f => f.started && decide (told < f.d))).length
    let s3 := (List.range cut).foldl (fun s _ => s.macInc n 24) s2
    s3.reslotWhere n (fun f => !f.started || decide (told < f.d)) (fun _ => s3.now * 25) true) s

/-! ## Resets, modes and the link (R37, R295, R296, R320) -/

/-- The receiver pops what its queue still holds (R37): the frames that a lane handed over are the pipeline's, counted in `TSV_RX`
(R299, R347; log 64), and the queue's counts reset together. -/
def State.laneHandOver (s : State) (n : Nat) : State :=
  let fs := (s.queue (396 + n)).items
  (({ s with tsv := { s.tsv with inbox := s.tsv.inbox ++ fs.map (fun x => (n, x)) } } : State).add TSV_CNTi_count fs.length).qReset (396 + n)

/-- Frames still queued in the lane dropped; its queues reset together (R37). Answers how many. -/
def State.laneDrop (s : State) (n : Nat) : State × Nat :=
  let x := s.lane n
  let desc := (s.queue (1024 + 0x80 + n)).items.length
  let s1 := s.txFlush n
  let s2 := (List.range desc).foldl (fun s _ => (s.macInc n 18).txDrop n txDropReset 2 .frond) s1
  ((((s2.laneHandOver n).qReset (428 + n)).qReset (460 + n)).qReset (1024 + 0x80 + n), x.sched.length + x.gens.length + x.reqs.length + desc)

/-- The link goes down: pending timed frames drop, the receive clock stops (R320, R321). -/
def State.linkDown (s : State) (n : Nat) : State :=
  if ¬ s.linkUp n then s
  else
    let s1 := ((s.wf MACn_STATUS_link 0 n).wf MACn_STATUS_fec_lock 0 n).wf SYS_READY_LANE_lanes
      (setBitOf (s.rf SYS_READY_LANE_lanes) n false)
    let s2 := (s1.macJournal 0 n 0x0F02 0).assertSrc (256 + n) (s1.domNow 0)
    let s3 := if s2.rf MACn_STATUS_preempt n = 0 then s2 else (s2.wf MACn_STATUS_preempt 0 n).macJournal 0 n 0x0F06 0
    (s3.setDom (4 + n) ⟨false, false, 0⟩).txFlush n

/-- A lane reset (R37): 0x0F03 with the frames dropped. -/
def State.laneReset (s : State) (n : Nat) : State :=
  let r := s.laneDrop n
  let s1 := r.1.linkDown n
  let s2 := s1.wf MACn_CAL_CTL_busy 0 n
  s2.macJournal 0 n 0x0F03 (r.2 * 2 ^ 32)

/-- LINK_UP (R295, R302, R318, R320): the latencies found at the lock, and self-calibration. -/
def State.linkRise (s : State) (n rxLat txLat : Nat) : State :=
  let m := s.laneMode n
  if s.linkUp n ∨ m = 0 ∨ s.member n ∨ ¬ s.pdOn (laneDom n) then s
  else
    let fec := decide (m = 4) || (decide (m = 2) && decide (s.rf MACn_CTL_fec n = 1)) || (decide (m = 3) && (decide (s.rf MACn_CTL_fec n = 1) || decide (s.rf MACn_CTL_fec n = 2)))
    let s1 := ((((s.wf MACn_STATUS_link 1 n).wb MACn_STATUS_fec_lock fec n).wf MACn_RX_LAT_ps rxLat n).wf MACn_TX_LAT_ps txLat n).wf
      SYS_READY_LANE_lanes (setBitOf (s.rf SYS_READY_LANE_lanes) n true)
    let s2 := (s1.wf MACn_ESMC_RX_valid 0 n).setDom (4 + n) ⟨true, false, 0⟩
    let s3 := s2.setLane n { s2.lane n with esmcAt := s2.now }
    let s4 := (s3.macJournal 0 n 0x0F01 (m * 32 + rxLat * 2 ^ 32)).assertSrc (256 + n) (s3.domNow 0)
    let s5 := if s4.rb MACn_CTL_preempt_en n then (s4.wf MACn_STATUS_preempt 1 n).macJournal 0 n 0x0F06 32 else s4
    if s5.listening n then s5 else s5.wf MACn_CAL_CTL_busy 1 n

def isLeader (n : Nat) : Bool := decide (n % 8 = 0)

/-- A lane set to a mode: reset while up, its grid offset reduced to the mode's block period, and the members of a bond joined or released
(R295, R296, R304). -/
def State.modeSet (s : State) (n m : Nat) : State :=
  let old := s.rf MACn_CTL_mode n
  let s1 := if old ≠ m ∧ s.linkUp n then s.laneReset n else s
  let s2 := s1.wf MACn_CTL_mode m n
  let x := s2.lane n
  let s2 := (s2.setLane n { x with phase := x.phase % s2.blockP n }).showPhase n
  if m = 4 ∧ old ≠ 4 then
    [n + 1, n + 2, n + 3].foldl (fun s k =>
      let t := if s.linkUp k then s.laneReset k else s.txFlush k
      ((t.wf MACn_CTL_mode 4 k).wf MACn_STATUS_bonded_member 1 k).setDom (4 + k) ⟨false, false, 0⟩) s2
  else if m ≠ 4 ∧ old = 4 ∧ isLeader n then
    [n + 1, n + 2, n + 3].foldl (fun s k => (s.wf MACn_CTL_mode 0 k).wf MACn_STATUS_bonded_member 0 k) s2
  else s2

/-- The state of the verify process (R311); where preemption ends, a general frame that has started runs on, and the slots that it meets
are reserved anew from now (R321; log 69). -/
def State.setPreempt (s : State) (n st : Nat) : State :=
  if s.rf MACn_STATUS_preempt n = st then s
  else
    let s0 := s.genSettle n
    let s1 := (s0.wf MACn_STATUS_preempt st n).macJournal 0 n 0x0F06 (st * 32)
    let x := s1.lane n
    if s0.preemptActive n ∧ x.busyPre then
      s1.reslotWhere n (fun f => !f.started && decide (f.sigma < x.busyEnd) && decide (x.busyFrom < f.sigma + s1.frameTime n f)) (fun _ => s1.now * 25) false
    else s1

/-- A write of `preempt_en` (R311): the verify process of a lane that is up starts with it and ends with it. -/
def State.preemptEn (s : State) (n : Nat) (on : Bool) : State :=
  if s.rb MACn_CTL_preempt_en n = on then s
  else (s.wb MACn_CTL_preempt_en on n).setPreempt n (if on && s.linkUp n then 1 else 0)

/-- MAC_MODE_WRITE: a write of MACn_CTL (R295, R296). -/
def State.macCtl (s : State) (n v : Nat) : State :=
  if s.member n then (if bitsOf v 0 3 = 4 then s.macJournal 0 n 0x0F0A (4 * 32) else s)
  else
    let m := bitsOf v 0 3
    let s1 := (((((s.wf MACn_CTL_fec (bitsOf v 3 2) n).wf MACn_CTL_an (bitsOf v 5 1) n).wf MACn_CTL_lt (bitsOf v 6 1) n).wf MACn_CTL_bcast
      (bitsOf v 7 1) n).preemptEn n (bitOf v 8)).wf MACn_CTL_frond (bitsOf v 9 4) n
    if m = 4 ∧ ¬ isLeader n then s1.macJournal 0 n 0x0F0A (4 * 32) else s1.modeSet n m

/-! ## Reception (R297 to R303) -/

/-- The class of a destination address: `some true` for time (R297). -/
def State.addrClass (s : State) (n dst : Nat) : Option Bool :=
  let uc := (List.range 8).find? (fun k => s.rb MACn_UCk_en (8 * n + k) && decide (s.rf MACn_UCk_addr (8 * n + k) = dst))
  let mc := (List.range 8).find? (fun k => s.rb MACn_MCk_en (8 * n + k) && decide (s.rf MACn_MCk_addr (8 * n + k) = dst))
  match uc, mc with
  | some k, _ => some (s.rb MACn_UCk_cls (8 * n + k))
  | none, some k => some (s.rb MACn_MCk_cls (8 * n + k))
  | none, none => if dst = 0xFFFFFFFFFFFF ∧ s.rb MACn_CTL_bcast n then some false else none

/-- Where an accepted frame goes (R298): 0 pipeline, 1 general ring, 2 ESMC, else the drop counter. -/
def State.rxPlace (s : State) (n : Nat) (l : Bytes) : Nat :=
  let e := ethView l
  let esmc := decide (e.dst = 0x0180C2000002) && decide (e.etype = 0x8809) && decide (beAt l e.off 1 = 0x0A) && s.rb MACn_ESMC_TX_en n
  match (if esmc then some false else s.addrClass n e.dst) with
  | none => 8
  | some time =>
    if e.etype = 0x8808 then 10
    else if esmc then 2
    else if ¬ time then 1
    else if e.double then 9
    else if e.etype = 0x88F7 then 0
    else if e.etype = 0x0800 ∨ e.etype = 0x86DD then
      match ipView l with
      | some v =>
        if v.isUdp ∧ (v.dport = 319 ∨ v.dport = 320 ∨ v.dport = 123) then (if v.hdrOk then 0 else 7) else 1
      | none => 1
    else if e.etype = 0x0806 then 1
    else 9

/-- A byte ring of 64-byte units (R301): the header and the frame written whole, or `none` where they do not fit. -/
def State.byteRing (s : State) (base size head tail : Fld) (n : Nat) (hdr data : Bytes) : Option (State × Nat) :=
  let k := s.rf size n
  let units := 1 + ceilDiv data.length 64
  let h := s.rf head n % 2 ^ k
  let free := 2 ^ k - 1 - ringFill k h (s.rf tail n)
  let wrap := decide (2 ^ k < h + units)
  let need := if wrap then 2 ^ k - h + units else units
  if free < need then none
  else
    let at_ := fun (u : Nat) => s.rf base n * 64 + 64 * u
    let s1 := if wrap then s.engStore 0 (at_ h) (zeros 64) else s
    let u := if wrap then 0 else h
    let s2 := s1.engStore 0 (at_ u) (fitBytes 64 hdr ++ fitBytes (64 * (units - 1)) data)
    some (s2.wf head ((u + units) % 2 ^ k) n, u)

/-- The header of R301. -/
def rxHeader (t : Int) (data : Bytes) (express coarse : Bool) (reason : Nat) : Bytes :=
  let e := ethView data
  leBytes 12 (packTime t) ++ leBytes 2 data.length ++ leBytes 2 (e.tag.getD 0) ++
  leBytes 1 ((if e.tag.isSome then 1 else 0) + (if express then 2 else 0) + (if coarse then 4 else 0)) ++ leBytes 1 reason

/-- A frame for the general ring, with its item for the Frond (R301). -/
def State.rxGeneral (s : State) (n : Nat) (t : Int) (data : Bytes) (express coarse : Bool) : Option State :=
  (s.byteRing MACn_RXG_BASE_base MACn_RXG_SIZE_log2n MACn_RXG_HEAD_head MACn_RXG_TAIL_tail n (rxHeader t data express coarse 0) data).map
    (fun r => (r.1.qPass (428 + n)).pushItem (1024 + 0xC0 + n) 0 (0x0F00 + n) (r.2 % 65536 + data.length * 65536))

/-- Code or timeout of the ESMC handler changed (R313): the Q of its slot with it (R213, R214). A timeout is journalled in domain 0, since the
receive clock may have stopped (log 49). -/
def State.esmcSet (s : State) (n ssm : Nat) (timeout : Bool) : State :=
  if s.rf MACn_ESMC_RX_ssm n = ssm ∧ s.rb MACn_ESMC_RX_timeout n = timeout then s
  else
    let s1 := (s.wf MACn_ESMC_RX_ssm ssm n).wb MACn_ESMC_RX_timeout timeout n
    ((s1.macJournal (if timeout then 0 else 4 + n) n 0x0F07 (ssm * 32 + (if timeout then 512 else 0))).assertSrc (320 + n) (s1.domNow 0)).qChanged s

/-- The ESMC timeout of a lane is declared: a miss at once for the slots of the lane (R211, R313). -/
def State.esmcExpire (s : State) (n : Nat) : State :=
  (List.range 23).foldl (fun s m =>
    if s.rb RCLn_CFG_en m ∧ s.slotKind m = 5 ∧ s.rf RCLn_CFG_src m = n then s.missOne m else s) (s.esmcSet n 15 true)

/-- An ESMC PDU (R313): the SSM of its QL TLV, log 26. One stamped after the 5 s loses against the timeout, which is declared before it (R85,
log 66). -/
def State.esmcRx (s0 : State) (n : Nat) (l : Bytes) (stamp : Int) : State :=
  let o := (ethView l).off
  let late := s0.rb MACn_ESMC_TX_en n && !s0.rb MACn_ESMC_RX_timeout n && decide ((s0.lane n).esmcAt + 5 * uSec < stamp)
  let s := if late then s0.esmcExpire n else s0
  if beAt l (o + 1) 3 = 0x0019A7 ∧ beAt l (o + 4) 2 = 1 ∧ beAt l (o + 6) 1 / 16 = 1 ∧ beAt l (o + 10) 1 = 1 ∧ beAt l (o + 11) 2 = 4 then
    let event := bitOf (beAt l (o + 6) 1) 3
    let s1 := s.wf MACn_ESMC_RX_valid 1 n
    let s2 := if event then s1 else s1.setLane n { s1.lane n with esmcAt := stamp }
    s2.esmcSet n (beAt l (o + 13) 1 % 16) (if event then s2.rb MACn_ESMC_RX_timeout n else false)
  else s

/-- The FCS that a good frame ends with (R299, R315): the CRC-32 of IEEE 802.3, low byte first (PRESUMED, log 69). -/
def fcsOf (l : Bytes) : Bytes :=
  let bit := fun (c : Nat) => if c % 2 = 1 then (c / 2) ^^^ 0xEDB88320 else c / 2
  leBytes 4 (l.foldl (fun c b => (List.range 8).foldl (fun c _ => bit c) (c ^^^ b.toNat)) 0xFFFFFFFF ^^^ 0xFFFFFFFF)

/-- The wake patterns of R315 in a frame with its FCS: 0 magic, 1 programmable. -/
def State.wakeMatch (s : State) (n : Nat) (l : Bytes) : Option Nat :=
  let own := beBytes 6 (s.rf MACn_UCk_addr (8 * n))
  let magic := List.replicate 6 (0xFF : BitVec 8) ++ (List.replicate 16 own).flatten
  let mask := s.rf MACn_WAKE_MASK_mask n
  let pat := ((List.range 16).map (fun i => leBytes 4 (s.rf MACn_WAKE_PATi_bytes (16 * n + i)))).flatten
  if s.rb MACn_PWR_magic n && (List.range l.length).any (fun i => decide ((l.drop i).take 102 = magic)) then some 0
  else if s.rb MACn_PWR_pattern n && (List.range 64).all (fun j => !bitOf mask j || decide (slice l j 1 = slice pat j 1)) then some 1
  else none

/-- A frame on a listening lane (R315). -/
def State.rxListening (s : State) (n : Nat) (x : Rx) : State :=
  match (if x.fcsOk then s.wakeMatch n (x.data ++ fcsOf x.data) else none) with
  | none => s.macInc n 14
  | some k =>
    let s1 := ((s.macInc n 15).macJournal (4 + n) n 0x0F08 (k * 32)).assertSrc (288 + n) (s.domNow 0)
    if s1.rb MACn_PWR_auto_wake n then
      let s2 := (s1.wf MACn_PWR_listen 0 n).wf MACn_STATUS_listening 0 n
      s2.setLane n { s2.lane n with wakeAt := s2.now + 20 * uUs }
    else s1

/-- The receive stamp (R302), and whether it is coarse. -/
def State.rxStamp (s : State) (n : Nat) (x : Rx) : Int × Bool :=
  match x.edge with
  | some ofs =>
    let e := s.refine (binOf (s.raw + ofs.val))
    (roundHalfDown (e * 4125 + x.bit.val * s.uiOf n - ps4125 ((s.rf MACn_RX_LAT_ps n : Int) + s.rs 32 MACn_TRACE_RX_ps n)) 4125, false)
  | none => (s.domNow (4 + n), true)

/-- MACn_MAXLEN (R319). -/
def State.maxLen (s : State) (n : Nat) : Nat :=
  let v := s.rf MACn_MAXLEN_bytes n
  if 64 ≤ v ∧ v ≤ 9216 then v else 1522

/-- FRAME_RECEIVE (R297 to R302, R315, R318): one start, one outcome; the order of the causes is log 27. -/
def State.frameReceive (s0 : State) (n : Nat) (x : Rx) : State :=
  if ¬ s0.linkUp n ∨ s0.member n then s0
  else
    let s := s0.macInc n 0
    let drop := fun (i : Nat) => s.macInc n i
    let len := x.data.length + 4
    if s.rb MACn_CAL_CTL_busy n then drop 16
    else if s.listening n then s.rxListening n x
    else if s.now < (s.lane n).wakeAt then drop 14
    else if ¬ s.domValid (4 + n) then drop 12
    else if ¬ x.codeOk then drop 7
    else if ¬ x.fragOk then drop 11
    else if len < 64 then drop 5
    else if s.maxLen n < len then drop 6
    else if ¬ x.fcsOk then drop 4
    else
      let st := s.rxStamp n x
      match s.rxPlace n x.data with
      | 0 =>
        if s.pdOn 10 ∧ s.qCredit (396 + n) then (s.macInc n 1).qPush (396 + n) ⟨st.1, .frame x.data x.express st.2⟩ else drop 13
      | 1 =>
        match s.rxGeneral n st.1 x.data x.express st.2 with
        | some t => t.macInc n 2
        | none => drop 13
      | 2 =>
        let t := (s.macInc n 3).esmcRx n x.data st.1
        (t.rxGeneral n st.1 x.data x.express st.2).getD t
      | k => drop k

/-! ## Descriptors (R309 to R312) -/

/-- A descriptor's fields keep the table of R309. -/
def State.descOk (s : State) (n w : Nat) : Bool :=
  let len := bitsOf w 23 14
  let mode := bitsOf w 37 2
  let ofs := bitsOf w 39 9
  let fmt := bitsOf w 48 2
  decide (bitsOf w 0 6 = 0) && decide (bitsOf w 52 12 = 0) && decide (60 ≤ len) && decide (len + 4 ≤ s.maxLen n) && decide (mode ≠ 3) && decide (fmt < 2) &&
  (decide (mode ≠ 2) || (decide (fmt = 0) && decide (34 ≤ ofs) && decide (ofs + 10 ≤ len)) || (decide (fmt = 1) && decide (ofs + 8 ≤ len)))

/-- TX_DESCRIPTOR_SUBMIT (R309): the oldest descriptor of queue 0x180 + n. A bonded member sends nothing and counts nothing (R296); during
the self-calibration a general frame waits (R318). -/
def State.txSubmit (s0 : State) (n : Nat) : State :=
  match (if s0.live then s0.qFront (1024 + 0x80 + n) else none) with
  | some ⟨_, .word w⟩ =>
    let s := (s0.genSettle n).qPop (1024 + 0x80 + n)
    let len := bitsOf w 23 14
    let mode := bitsOf w 37 2
    let s1 := s.macInc n 18
    if s0.member n then s.ownerDone n .frond 2 0
    else if s0.rb MACn_CAL_CTL_busy n ∧ mode = 0 then s0
    else if ¬ s1.descOk n w then s1.txDrop n txDropReset 3 .frond
    else
      let r := s1.engLoad 0 (bitsOf w 6 17 * 64) len
      let csum := bitOf w 50
      if r.2.2 ∨ (csum ∧ csumTooLong r.2.1) then r.1.txDrop n txDropReset 3 .frond
      else if ¬ r.1.linkUp n ∨ r.1.listening n then r.1.txDrop n txDropReset 2 .frond
      else if mode = 0 then
        r.1.sendGeneral n ⟨if csum then fixCsum r.2.1 else r.2.1, bitOf w 51, true⟩
      else
        let a : Addr := ⟨0, [], [], none, [], [], 0, 0, false⟩
        ((r.1.reserve n (r.1.now * 25) 0 ⟨a, .raw r.2.1 (decide (mode = 2)) (bitsOf w 39 9) (bitsOf w 48 2) csum⟩ .frond).sealAll n)
  | _ => s0

/-- PREEMPT_STATE_CHANGE (R311): what the verify process of a lane that is up has found. -/
def State.preemptChange (s : State) (n st : Nat) : State :=
  if (st ≠ 0 ∧ ¬ (s.rb MACn_CTL_preempt_en n ∧ s.linkUp n)) ∨ s.member n then s else s.setPreempt n st

/-! ## ESMC (R313, R314) -/

/-- Spine time up to which everything stamped in the lane's domain has arrived (R80, R86); a lane that holds no copy is left out. -/
def State.laneMark (s : State) (n : Nat) : Int :=
  if s.domValid (4 + n) then min (s.watermark 0) (s.watermark (4 + n)) else s.watermark 0

/-- ESMC_TIMEOUT (R313): no information PDU stamped within 5 s of the last one; a miss at once for the slots of the lane. -/
def State.esmcTimeout (s : State) (n : Nat) : State :=
  if s.member n ∨ ¬ s.rb MACn_ESMC_TX_en n ∨ s.rb MACn_ESMC_RX_timeout n ∨ s.laneMark n < (s.lane n).esmcAt + 5 * uSec then s
  else s.esmcExpire n

/-- The code that the lane sends (R314). -/
def State.esmcCode (s : State) (n : Nat) : Nat :=
  if s.rb MACn_ESMC_TX_auto n then bitsOf (s.rf MAC_ESMC_MAP_ssm) (4 * s.rf SRV_STATUS_class) 4 else s.rf MACn_ESMC_TX_ssm n

/-- An ESMC PDU's frame (log 26). -/
def State.esmcFrame (s : State) (n code : Nat) (event : Bool) : Bytes :=
  [0x01, 0x80, 0xC2, 0, 0, 0x02] ++ beBytes 6 (s.rf MACn_UCk_addr (8 * n)) ++
  [0x88, 0x09, 0x0A, 0x00, 0x19, 0xA7, 0, 1, (if event then 0x18 else 0x10), 0, 0, 0, 1, 0, 4] ++ beBytes 1 code ++ zeros 32

/-- ESMC_INFO_TX (R314): an information PDU each second, an event PDU at once on a change of code. -/
def State.esmcTx (s : State) (n : Nat) : State :=
  let x := s.lane n
  let code := s.esmcCode n
  let event := decide (code ≠ x.esmcSent)
  if ¬ s.rb MACn_ESMC_TX_en n ∨ ¬ s.linkUp n ∨ s.listening n ∨ s.member n ∨ s.rb MACn_CAL_CTL_busy n ∨ (¬ event ∧ s.now < x.esmcSentAt + uSec) then s
  else
    let s1 := s.setLane n { x with esmcSent := code, esmcSentAt := if event then x.esmcSentAt else s.now }
    let s2 := s1.macInc n 18
    if s2.rb TWN_STATUS_gate then s2.sendGeneral n ⟨s2.esmcFrame n code event, false, false⟩ else s2.macInc n txDropReset

/-! ## Calibration and snapshots (R300, R318) -/

def State.macCal (s : State) (n : Nat) : State :=
  if s.listening n ∨ s.member n ∨ s.laneMode n = 0 then s else (s.genSettle n).wf MACn_CAL_CTL_busy 1 n

/-- MAC_SELF_CAL_COMPLETE with the mean residual in ps. -/
def State.macCalDone (s : State) (n : Nat) (res : Int) : State :=
  if ¬ s.rb MACn_CAL_CTL_busy n then s
  else
    let s0 := s.setLane n { s.lane n with genFrom := s.now * 25 }
    let s1 := (s0.wf MACn_CAL_CTL_busy 0 n).ws MACn_CAL_RESULT_ps res n
    if res.natAbs ≤ 50 then
      let r := Config.calRxPart res
      ((s1.ws MACn_RX_LAT_ps ((s1.rf MACn_RX_LAT_ps n : Int) + r) n).ws MACn_TX_LAT_ps ((s1.rf MACn_TX_LAT_ps n : Int) + (res - r)) n).wf
        MACn_STATUS_cal_valid 1 n
    else (s1.wf MACn_STATUS_cal_valid 0 n).macJournal 0 n 0x0F09 (ofSigned 32 (satSigned 32 res) * 2 ^ 32)

/-- MAC_CNT_SNAP (R300): 26 counters and the in-flight counts latched, or released. -/
def State.macSnap (s : State) (n : Nat) (on : Bool) : State :=
  let x := s.lane n
  if s.member n then s
  else if on then
    let tx := x.sched.length + x.gens.length + x.reqs.length
    let s1 := (s.wf MACn_CNT_SNAP_snap 1 n).setLane n { x with snap := some ((List.range 26).map (s.macCnt n)) }
    (s1.wf MACn_INFLIGHT_rx 0 n).wf MACn_INFLIGHT_tx tx n
  else (s.wf MACn_CNT_SNAP_snap 0 n).setLane n { x with snap := none }

/-- A write of MACn_PWR (R315): entering or leaving listening. -/
def State.macPwr (s : State) (n v : Nat) : State :=
  if s.member n then s
  else
    let s1 := (((s.wf MACn_PWR_listen (bitsOf v 0 1) n).wf MACn_PWR_auto_wake (bitsOf v 1 1) n).wf MACn_PWR_magic (bitsOf v 2 1) n).wf
      MACn_PWR_pattern (bitsOf v 3 1) n
    let s2 := s1.wf MACn_STATUS_listening (bitsOf v 0 1) n
    if bitOf v 0 ∧ ¬ s.listening n then s2.txFlush n
    else if ¬ bitOf v 0 ∧ s.listening n then s2.setLane n { s2.lane n with wakeAt := s2.now + 20 * uUs }
    else s2

/-! ## Meanings -/

def execMacModeWrite (_ : Req) (n : Fin 32) (v : BitVec 32) (s : State) : Result := .next (s.whenUp (s.macCtl n.val v.toNat))
def execLinkUp (n : Fin 32) (rxLat txLat : BitVec 32) (s : State) : Result := .next (s.whenUp (s.linkRise n.val rxLat.toNat txLat.toNat))
def execLinkDown (n : Fin 32) (s : State) : Result := .next (s.whenUp (s.linkDown n.val))
def execFrameReceive (n : Fin 32) (x : Rx) (s : State) : Result := .next (s.whenUp (s.frameReceive n.val x))
def execMacCntSnap (_ : Req) (n : Fin 32) (on : Bool) (s : State) : Result := .next (s.whenUp (s.macSnap n.val on))
def execTimedRequest (n : Fin 32) (s : State) : Result := .next (s.whenUp (s.timedRequest n.val))
def execLaunchReadyLine (n : Fin 32) (s : State) : Result := .next (s.whenUp (s.readyLine n.val))
def execFrameLaunch (n : Fin 32) (s : State) : Result := .next (s.whenUp (s.frameLaunch n.val))
def execTxDescriptorSubmit (n : Fin 32) (s : State) : Result := .next (s.whenUp (s.txSubmit n.val))
def execPreemptStateChange (n : Fin 32) (st : BitVec 2) (s : State) : Result := .next (s.whenUp (s.preemptChange n.val st.toNat))
def execEsmcTimeout (n : Fin 32) (s : State) : Result := .next (s.whenUp (s.esmcTimeout n.val))
def execEsmcInfoTx (n : Fin 32) (s : State) : Result := .next (s.whenUp (s.esmcTx n.val))
def execMacSelfCal (_ : Req) (n : Fin 32) (s : State) : Result := .next (s.whenUp (s.macCal n.val))
def execMacSelfCalComplete (n : Fin 32) (res : Int) (s : State) : Result := .next (s.whenUp (s.macCalDone n.val res))

end Sys2Proof.Machine
end

