-- ==== Sys2Proof/Machine/Tsv.lean ====
section
/-!
DEFINITION. The time service (R322 to R351): taking and policing packets, NTP and NTS, the PTP grandmaster, sessions, upstream
sessions, cookies and the NTS-KE ring.
-/

namespace Sys2Proof.Machine
open Sys2Proof Reg

def State.setTsv (s : State) (t : TsvState) : State := { s with tsv := t }
def State.tsvInc (s : State) (i : Nat) : State := s.inc TSV_CNTi_count i
def State.tsvJournal (s : State) (lane code payload : Nat) : State := s.journal 0 (0x1000 + lane) code payload

/-- ANSWERED and PROCESSED (R347). -/
def State.answered (s : State) : State := s.tsvInc 1
def State.processed (s : State) : State := s.tsvInc 2

/-! ## The session table (R334, R335) -/

def State.sess (s : State) (i : Nat) : Option Sess := tabGet none i (s.tsv.sess.map (fun e => (e.1, some e.2)))

/-- A kind 1 entry whose content changed joins the satchel's delta (R392). -/
def State.sessMark (s : State) (i : Nat) (k : Nat) : State :=
  if k = 1 ∧ i ∉ s.twn.changed then { s with twn := { s.twn with changed := s.twn.changed ++ [i] } } else s

def State.putSess (s : State) (i : Nat) (x : Sess) : State :=
  if s.sess i = some x then s else (s.setTsv { s.tsv with sess := tabSet i x s.tsv.sess }).sessMark i x.kind

def State.freeSess (s : State) (i : Nat) : State :=
  match s.sess i with
  | none => s
  | some x => (s.setTsv { s.tsv with sess := s.tsv.sess.filter (fun e => decide (e.1 ≠ i)) }).sessMark i x.kind

/-- The lowest index that a table does not list. -/
def lowFree {α : Type} (k : Nat) : Tab α → Nat
  | [] => k
  | (k', _) :: t => if k' = k then lowFree (k + 1) t else k


/-- Entries of kind 1, and of kinds 2 and 3. -/
def State.kind1 (s : State) : Nat := (s.tsv.sess.filter (fun e => decide (e.2.kind = 1))).length
def State.others (s : State) : Nat := (s.tsv.sess.filter (fun e => decide (e.2.kind ≠ 1))).length

/-- An entry allocated at the lowest free index; the room kept for a paired standby (R392). -/
def State.allocSess (s : State) (x : Sess) : Option (State × Nat) :=
  let i := lowFree 0 s.tsv.sess
  let kept := decide (x.kind = 1) && s.isReady 11 && decide (16384 ≤ s.kind1 + 1 + max s.others s.twn.partner.others)
  if 16384 ≤ i ∨ kept then none
  else
    let g := (tabGet 0 i s.tsv.gens + 1) % 2 ^ 32
    let s1 := s.setTsv { s.tsv with gens := tabSet i g s.tsv.gens }
    some (s1.putSess i { x with gen := g }, i)

/-- The 128 bytes of an entry (R334). -/
def Sess.bytes (x : Sess) : Bytes :=
  let b := leBytes 1 (x.kind + 16 * x.state) ++ leBytes 1 (x.lane + 32 * x.prof) ++ leBytes 2 x.flags ++ fitBytes 6 x.mac ++ leBytes 2 x.port ++
    fitBytes 16 x.ip ++ fitBytes 10 x.pid ++ leBytes 1 x.key ++ leBytes 1 x.pcp ++ (x.logs.toList.map (fun z => leBytes 1 (ofSigned 8 z))).flatten ++ [0] ++
    (x.expiry.toList.map (leBytes 4)).flatten ++ (x.seqs.toList.map (leBytes 2)).flatten ++ [0, 0] ++ leBytes 12 (packTime x.next) ++
    leBytes 12 (packTime x.last) ++ fitBytes 32 x.data ++ leBytes 4 x.gen ++ [0, 0]
  b ++ leBytes 2 (crc16 b)

/-- The entry that 128 bytes spell; `none` for kind 0. -/
def Sess.ofBytes (l : Bytes) : Option Sess :=
  let n := fun (at_ k : Nat) => sliceNat l at_ k
  let flags := n 2 2
  if n 0 1 % 16 = 0 then none
  else some {
    kind := n 0 1 % 16, state := n 0 1 / 16, lane := n 1 1 % 32, prof := n 1 1 / 32, flags := flags, mac := slice l 4 6, port := n 10 2,
    ip := slice l 12 (if bitOf flags 0 then 16 else if bitOf flags 1 then 0 else 4), pid := slice l 28 10, key := n 38 1, pcp := n 39 1,
    logs := #v[toSigned 8 (n 40 1), toSigned 8 (n 41 1), toSigned 8 (n 42 1)], expiry := #v[n 44 4, n 48 4, n 52 4], seqs := #v[n 56 2, n 58 2, n 60 2],
    next := unpackTime (n 64 12), last := unpackTime (n 76 12), data := slice l 88 32, gen := n 120 4 }

/-- A byte of the session table at BAR0 0x60_0000. -/
def State.sessByte (s : State) (off : Nat) : Byte :=
  match s.sess (off / 128) with
  | some x => (x.bytes[off % 128]?).getD 0
  | none => 0

/-- Spine seconds bits [31:0]. -/
def sec32 (t : Int) : Nat := ofSigned 32 (secsOf t)

/-- A grant of an entry is live: its expiry second has not passed (R335, R350). -/
def State.grantLive (s : State) (x : Sess) (k : Fin 3) : Bool := decide (x.expiry[k] ≠ 0) && decide (sec32 s.now ≤ x.expiry[k])

/-! ## Addresses -/

def ownMac (s : State) (n : Nat) : Bytes := beBytes 6 (s.rf MACn_UCk_addr (8 * n))

def ipMulticast (v6 : Bool) (a : Bytes) : Bool :=
  let b := beAt a 0 1
  if v6 then decide (b = 0xFF) else decide (224 ≤ b) && decide (b ≤ 239)

/-- The answer's addressing: back to the source of a received frame (log 23). -/
def State.replyAddr (s : State) (n : Nat) (l : Bytes) (sport dport : Nat) (trailer : Bool) : Addr :=
  let e := ethView l
  let src := if (e.dst / 2 ^ 40) % 2 = 0 then beBytes 6 e.dst else ownMac s n
  match ipView l with
  | none => ⟨0, e.src, src, e.tag, [], [], 0, 0, false⟩
  | some v =>
    ⟨if v.v6 then 2 else 1, e.src, src, e.tag, v.src, if ipMulticast v.v6 v.dst then Config.ownIp n v.v6 else v.dst, dport, sport, trailer⟩

/-- The multicast addressing of a PTP message (log 24). -/
def State.groupAddr (s : State) (n p transport : Nat) (pdelay event : Bool) : Addr :=
  let port := if event then 319 else 320
  match transport with
  | 0 =>
    let low := decide (s.family p = 5) || (decide (s.family p = 1) && s.rb TSV_PROFp_CFG_gaddr p) || (pdelay && decide (s.family p ≠ 1))
    ⟨0, if low then [0x01, 0x80, 0xC2, 0, 0, 0x0E] else [0x01, 0x1B, 0x19, 0, 0, 0], ownMac s n, none, [], [], 0, 0, false⟩
  | 1 =>
    ⟨1, if pdelay then [0x01, 0, 0x5E, 0, 0, 0x6B] else [0x01, 0, 0x5E, 0, 0x01, 0x81], ownMac s n, none,
     if pdelay then [224, 0, 0, 107] else [224, 0, 1, 129], Config.ownIp n false, port, port, false⟩
  | _ =>
    ⟨2, if pdelay then [0x33, 0x33, 0, 0, 0, 0x6B] else [0x33, 0x33, 0, 0, 0x01, 0x81], ownMac s n, none,
     if pdelay then [0xFF, 0x02] ++ zeros 13 ++ [0x6B] else [0xFF, 0x0E] ++ zeros 12 ++ [0x01, 0x81], Config.ownIp n true, port, port,
     s.profTrailer p⟩

/-- The transport of a received frame. -/
def transportOf (l : Bytes) : Nat :=
  match ipView l with
  | none => 0
  | some v => if v.v6 then 2 else 1

/-- The PTP message of a received frame. -/
def ptpOf (l : Bytes) : Bytes :=
  match ipView l with
  | none => l.drop (ethView l).off
  | some v => udpPayload l v

/-! ## Policing (R346) -/

def polBytes (l : Bytes) : Bytes :=
  match ipView l with
  | none => (ethView l).src
  | some v => if v.v6 then v.src.take 8 else v.src

/-- The hash key, drawn at the reset (R346, R354). -/
def State.polHashKey (s : State) : Bytes := (List.range 32).map (Config.drbg s.tsv.polKey)

def State.polSlot (s : State) (l : Bytes) : Nat := Config.polHash s.polHashKey (polBytes l) % 65536

/-- One token taken from the bucket of a request, in its slot of the commons; `false` where there is less than one. A slot holds the instant of
its last refill in bytes 0 to 11 (R8) and its level in 2⁻¹⁶ token in bytes 12 to 15; what a refill leaves over stays in the instant
(DESIGN CHOICE, log 70). -/
def State.police (s : State) (l : Bytes) : State × Bool :=
  let off := s.rf TSV_POL_BASE_base * 64 + 16 * s.polSlot l
  let r := s.engLoad 0 off 16
  let now := s.domNow 0
  let last := unpackTime (sliceNat r.2.1 0 12)
  let rate := s.rf TSV_POL_RATE_rate
  let full := s.rf TSV_POL_RATE_burst * 65536
  let due := rate * (now - last).toNat
  let level := sliceNat r.2.1 12 4 + due / 1000000000
  let at_ := if full ≤ level ∨ rate = 0 then now else now - ((due % 1000000000 / rate : Nat) : Int)
  let ok := decide (65536 ≤ min full level)
  (r.1.engStore 0 off (leBytes 12 (packTime at_) ++ leBytes 4 (min full level - if ok then 65536 else 0)), ok)

/-! ## Authentication of received messages (R332) -/

/-- The AUTHENTICATION TLV that ends a message: keyID and ICV. -/
def authTlv (m : Bytes) : Option (Nat × Bytes) :=
  match ptpTlvs m with
  | none => none
  | some l => match l.getLast? with
    | some (t, v) => if t = 0x8009 ∧ v.length = 22 ∧ beAt v 1 1 = 0 then some (beAt v 2 4, slice v 6 16) else none
    | none => none

/-- The entry that verifies a message received at `t` in profile `p`. -/
def State.authEntry (s : State) (p : Nat) (m : Bytes) (t : Int) : Option Nat :=
  (authTlv m).bind (fun a => (List.range 32).find? (fun k => decide (s.rf TSV_KEYk_ID_id k = a.1) && s.entryFor k p TSV_KEYk_CFG_rx t))

/-- The check of a message received at `t` in profile `p`: 0, or the counter of the drop cause. -/
def State.authCheck (s : State) (p : Nat) (m : Bytes) (t : Int) : Nat :=
  if ¬ s.rb TSV_PROFp_CFG_auth p then 0
  else match authTlv m with
    | none => 9
    | some (_, icv) =>
      match s.authEntry p m t with
      | none => 10
      | some k => match s.entryKey k with
        | some (alg, key) => if authCode alg key (m.take (ptpLen m - 16)) = icv then 0 else 11
        | none => 10

/-- A verification is a use of its entry's locker (R369). -/
def State.authUse (s : State) (p : Nat) (m : Bytes) (t : Int) : State :=
  match (if s.rb TSV_PROFp_CFG_auth p then s.authEntry p m t else none) with
  | some k => s.lockerUsed (s.rf TSV_KEYk_CFG_locker k)
  | none => s

/-! ## Taking a packet (R331, R341, R346, R347) -/

/-- NTP extension fields: type and body; none where a length is wrong. -/
def extFields : Nat → Bytes → Option (List (Nat × Bytes × Nat))
  | 0, l => if l = [] then some [] else none
  | fuel + 1, l =>
    if l = [] then some []
    else
      let n := beAt l 2 2
      if l.length < 4 ∨ n < 4 ∨ l.length < n then none
      else (extFields fuel (l.drop n)).map ((beAt l 0 2, slice l 4 (n - 4), n) :: ·)

def ntsField (t : Nat) : Bool := decide (t = 0x0104) || decide (t = 0x0204) || decide (t = 0x0304) || decide (t = 0x0404)

def isNts (m : Bytes) : Bool :=
  match extFields 32 (m.drop 48) with
  | some l => l.any (fun e => ntsField e.1)
  | none => ntsField (beAt m 48 2)

/-- The upstream session that a received message belongs to: lane, master's address and domain (R338). -/
def State.upMatch (s : State) (n : Nat) (l m : Bytes) : Option Nat :=
  (List.range 8).find? (fun u =>
    let a := s.rf TSV_UPu_ADDR_addr u
    decide (s.rf TSV_UPu_STATUS_state u ≠ 0) && decide (s.rf TSV_UPu_CTL_lane u = n) &&
    decide (s.profDomain (s.rf TSV_UPu_CTL_prof u) = ptpDomain m) && (s.profTransports (s.rf TSV_UPu_CTL_prof u)).contains (transportOf l) &&
    (match ipView l with
     | none => decide (beAt (ethView l).src 0 6 = a % 2 ^ 48)
     | some v => if v.v6 then decide (ofBeBytes v.src = a) else decide (ofBeBytes v.src = a % 2 ^ 32)))

/-- Requests are answered by the token's holder alone, and are policed (R346, R348). -/
def Route.request : Route → Bool
  | .ntp => true
  | .nts => true
  | .delayReq => true
  | .pdelayReq => true
  | .signaling => true
  | _ => false

/-- A negotiation TLV. -/
def isNego (t : Nat) : Bool := decide (4 ≤ t) && decide (t ≤ 7)

/-- The majorSdoId of a profile's family (R328). -/
def State.profSdo (s : State) (p : Nat) : Nat := if s.family p = 5 then 1 else 0

/-- The route of a PTP message on a lane, or the counter of the drop cause; one over a transport that the profile does not use is dropped
under NO_SESSION (R328; DESIGN CHOICE, log 70). -/
def State.ptpRoute (s : State) (n : Nat) (l m : Bytes) : Route ⊕ Nat :=
  let t := ptpType m
  let ver := ptpVersion m
  if m.length < 34 ∨ ptpLen m < ptpMinLen t ∨ m.length < ptpLen m ∨ ptpTlvs m = none then .inr 4
  else if ver % 16 ≠ 2 ∨ 1 < ver / 16 then .inr 7
  else match s.upMatch n l m with
    | some u => if ptpSdo m = s.profSdo (s.rf TSV_UPu_CTL_prof u) then .inl (.upstream u) else .inr 6
    | none =>
      let p := s.rf TSV_LANEn_prof n
      if ¬ s.rb TSV_LANEn_ptp n ∨ ¬ (s.profTransports p).contains (transportOf l) then .inr 15
      else if ptpDomain m ≠ s.profDomain p ∨ ptpSdo m ≠ s.profSdo p then .inr 6
      else
        let nego := ((ptpTlvs m).getD []).any (fun x => isNego x.1)
        let own := decide ((ptpSrc m).take 8 = s.clockId)
        if t = ptpDelayReq then .inl .delayReq
        else if t = ptpPdelayReq then .inl .pdelayReq
        else if t = ptpPdelayResp ∨ t = ptpPdelayRespFU then (if ptpReqId m = s.portId n ∧ s.family p = 5 then .inl .pdelayResp else .inr 15)
        else if t = ptpSignaling ∧ nego then (if s.profNego p then .inl .signaling else .inr 15)
        else if t = ptpAnnounce ∨ t = ptpSync ∨ t = ptpFollowUp then (if own then .inr 15 else .inl .foreign)
        else if t = ptpManagement ∨ t = ptpSignaling then .inl .forward
        else .inr 15

/-- The route of a taken frame, or the counter of the drop cause. -/
def State.takeRoute (s : State) (n : Nat) (l : Bytes) : Route ⊕ Nat :=
  match ipView l with
  | none => s.ptpRoute n l (ptpOf l)
  | some v =>
    if ¬ udpOk l v then .inr 5
    else if v.dport = 123 then
      let m := udpPayload l v
      let b := beAt m 0 1
      let ver := b / 8 % 8
      if m.length < 48 then .inr 4
      else if ¬ s.rb TSV_LANEn_ntp n then .inr 15
      else if b % 8 ≠ 3 then .inr 8
      else if ver ≠ 4 ∧ ¬ (ver = 3 ∧ s.rb TSV_LANEn_plain n) then .inr 7
      else .inl (if isNts m then .nts else .ntp)
    else s.ptpRoute n l (ptpOf l)

/-- The profile that checks a routed PTP message: its session's or its lane's (R332). -/
def State.routeProf (s : State) (r : Route) (n : Nat) : Option Nat :=
  match r with
  | .ntp => none
  | .nts => none
  | .upstream u => some (s.rf TSV_UPu_CTL_prof u)
  | _ => some (s.rf TSV_LANEn_prof n)

/-- The check of R332 of a routed message: 0, or the counter of the drop cause; with the use of a key (R369). -/
def State.routeAuth (s : State) (r : Route) (n : Nat) (l : Bytes) (stamp : Int) : State × Nat :=
  match s.routeProf r n with
  | none => (s, 0)
  | some p => (s.authUse p (ptpOf l) stamp, s.authCheck p (ptpOf l) stamp)

/-- The parts of an NTP request that its answer copies: version, poll, transmit timestamp. -/
def ntpParts (m : Bytes) : Nat × Nat × Nat := (beAt m 0 1 / 8 % 8, beAt m 2 1, beAt m 40 8)

def State.ntpAddr (s : State) (n : Nat) (l : Bytes) : Addr :=
  s.replyAddr n l 123 (((ipView l).map (·.sport)).getD 0) false

/-- A frame of lane `n` that the pipeline begins: dropped under its cause; policed, before any crypto (R346); authenticated; and queued for
its route. -/
def State.beginFrame (s0 : State) (n : Nat) (stamp : Int) (l : Bytes) (express coarse : Bool) : State :=
  let s := s0.shared 5 1
  if ¬ s.isReady 8 then s.tsvInc 3
  else match s.takeRoute n l with
    | .inr c => s.tsvInc c
    | .inl r =>
      if r.request && !s.token then s.tsvInc 18
      else
        let pol := if r.request then s.police l else (s, true)
        if pol.2 then
          let a := pol.1.routeAuth r n l stamp
          if a.2 ≠ 0 then a.1.tsvInc a.2
          else a.1.setTsv { a.1.tsv with work := a.1.tsv.work ++ [⟨r, n, stamp, express, coarse, l⟩] }
        else
          let s1 := pol.1
          let k := s1.polSlot l
          if r = .ntp ∧ s1.rb TSV_CTL_kod ∧ ¬ s1.listening n ∧ tabGet (-1) k s1.tsv.kodSec < secsOf s1.now then
            let q := ntpParts (ptpOf l)
            let s2 := s1.setTsv { s1.tsv with kodSec := tabSet k (secsOf s1.now) s1.tsv.kodSec }
            ((s2.laneQueue n ⟨s2.ntpAddr n l, .kiss q.1 q.2.1 q.2.2 (ascii "RATE") []⟩ .plain).answered).tsvInc 21
          else s1.tsvInc 14

/-- The first entry of lane `n`, and the others. -/
def takeOf (n : Nat) : List (Nat × QItem) → Option (QItem × List (Nat × QItem))
  | [] => none
  | (k, x) :: t => if k = n then some (x, t) else (takeOf n t).map (fun r => (r.1, (k, x) :: r.2))

/-- TSV_PACKET_TAKE (R347): one item of lane `n`; what the pipeline popped at a reset of the lane's queue goes first. -/
def State.packetTake (s : State) (n : Nat) : State :=
  if ¬ s.pdOn 10 then s
  else match takeOf n s.tsv.inbox with
    | some (⟨stamp, .frame l express coarse⟩, rest) => (s.setTsv { s.tsv with inbox := rest }).beginFrame n stamp l express coarse
    | _ =>
      match s.qFront (396 + n) with
      | some ⟨stamp, .frame l express coarse⟩ => ((s.qPop (396 + n)).tsvInc 0).beginFrame n stamp l express coarse
      | _ => s

/-- The oldest work that a route test accepts, taken out. -/
def takeFirst (p : Work → Bool) : List Work → Option (Work × List Work)
  | [] => none
  | w :: t => if p w then some (w, t) else (takeFirst p t).map (fun r => (r.1, w :: r.2))

/-- The next work of a kind handled by `f`, while PD_CRYPTO runs (R423). -/
def State.withWork (s : State) (p : Route → Bool) (f : State → Work → State) : State :=
  if ¬ s.pdOn 10 then s
  else match takeFirst (fun w => p w.route) s.tsv.work with
  | some (w, rest) => f (s.setTsv { s.tsv with work := rest }) w
  | none => s

/-- The next request of a kind handled by `f`; after a loss of the token it is dropped (R348). -/
def State.withRequest (s : State) (p : Route → Bool) (f : State → Work → State) : State :=
  s.withWork p fun s w => if s.token then f s w else s.tsvInc 18

/-- An answer, unless its lane listens (R324). -/
def State.answer (s : State) (n : Nat) (b : Build) (o : TOwner) : State :=
  if s.listening n then s.tsvInc 16 else (s.laneQueue n b o).answered

/-! ## NTP and NTS (R341 to R344) -/

def State.ntpRequest (s : State) : State :=
  s.withRequest (fun r => decide (r = .ntp)) fun s w =>
    if ¬ s.rb TSV_LANEn_plain w.lane then s.tsvInc 13
    else
      let q := ntpParts (ptpOf w.data)
      s.answer w.lane ⟨s.ntpAddr w.lane w.data, .ntp q.1 q.2.1 q.2.2 w.stamp w.coarse⟩ .plain

/-- A locker's key if it is open and has the attribute, 256-bit. -/
def State.lockerKey (s : State) (k attr : Nat) : Option Bytes :=
  if s.keyOpen then (s.locker k).bind (fun x => if x.attr = attr ∧ ¬ x.p384 ∧ x.key ≠ [] then some x.key else none) else none

/-- One fresh cookie (R343) under the newest generation. -/
def State.mintCookie (s : State) (c2s s2c : Bytes) : Option (State × Bytes) :=
  let id := s.rf TSV_COOKIE_ID_id
  let g := id % 3
  if (s.tsv.cookies[g]?).getD none ≠ some id then none
  else
    let e := s.rf TSV_COOKIE_LOCKg_enc g
    (s.lockerKey e 1).map (fun key =>
      let r := (s.lockerUsed e).draw 16
      (r.1, beBytes 4 id ++ r.2 ++ fitBytes 84 (Config.sivSeal (sivKey key) [r.2] ([0, 0x0F, 0, 0] ++ fitBytes 32 c2s ++ fitBytes 32 s2c))))

/-- `k` cookies. -/
def State.mintCookies (s : State) (c2s s2c : Bytes) : Nat → Option (State × List Bytes)
  | 0 => some (s, [])
  | k + 1 =>
    match s.mintCookies c2s s2c k with
    | none => none
    | some (s1, l) => (s1.mintCookie c2s s2c).map (fun r => (r.1, l ++ [r.2]))

/-- The locker that opens a cookie under the generation of its identifier. -/
def State.cookieDec (s : State) (c : Bytes) : Option Nat :=
  if c.length ≠ 104 then none
  else ((List.range 3).find? (fun g => decide ((s.tsv.cookies[g]?).getD none = some (beAt c 0 4)))).map (fun g => s.rf TSV_COOKIE_LOCKg_dec g)

/-- A cookie opened under any generation held: its keys C2S and S2C (R342, R343). -/
def State.openCookie (s : State) (c : Bytes) : Option (Bytes × Bytes) :=
  ((s.cookieDec c).bind (fun k => s.lockerKey k 2)).bind (fun key =>
    (Config.sivOpen (sivKey key) [slice c 4 16] (c.drop 20)).bind (fun p =>
      if p.length = 68 ∧ beAt p 0 2 = 0x000F then some (slice p 4 32, slice p 36 32) else none))

/-- An attempt to open a cookie is a use of its locker (R369). -/
def State.cookieUse (s : State) (c : Bytes) : State :=
  match s.cookieDec c with
  | some k => if (s.lockerKey k 2).isSome then s.lockerUsed k else s
  | none => s

/-- The NTS fields of a request in the form of R342. -/
structure NtsReq where
  uid : Bytes
  cookie : Bytes
  holders : Nat
  /-- What the authenticator covers, its nonce and its ciphertext. -/
  head : Bytes
  nonce : Bytes
  ct : Bytes
  deriving DecidableEq, Repr

/-- The fields of a request, in the form of R342. The authenticator field has room for a nonce of 16 bytes, as RFC 8915 pads it, so that the
answer is no larger than the request. -/
def ntsReq (m : Bytes) : Option NtsReq :=
  match extFields 32 (m.drop 48) with
  | none => none
  | some l =>
    let uids := l.filter (fun e => decide (e.1 = 0x0104))
    let cks := l.filter (fun e => decide (e.1 = 0x0204))
    let ph := l.filter (fun e => decide (e.1 = 0x0304))
    let au := l.filter (fun e => decide (e.1 = 0x0404))
    match uids, cks, au, l.getLast? with
    | [u], [c], [a], some z =>
      let nl := beAt a.2.1 0 2
      let cl := beAt a.2.1 2 2
      let pad := fun k : Nat => (k + 3) / 4 * 4
      if z.1 = 0x0404 ∧ l.length = 3 + ph.length ∧ ph.length ≤ 7 ∧ ph.all (fun e => decide (e.2.1.length = 104)) ∧ 32 ≤ u.2.1.length ∧
         4 + max 16 (pad nl) + pad cl ≤ a.2.1.length ∧ 16 ≤ cl then
        some ⟨u.2.1, c.2.1, ph.length, m.take (m.length - a.2.2), slice a.2.1 4 nl, slice a.2.1 (4 + pad nl) cl⟩
      else none
    | _, _, _, _ => none

/-- NTS_REQUEST (R342); one for which no cookie can be sealed is dropped under KEYID (DESIGN CHOICE, log 70). -/
def State.ntsRequest (s : State) : State :=
  s.withRequest (fun r => decide (r = .nts)) fun s w =>
    let m := ptpOf w.data
    let q := ntpParts m
    let a := s.ntpAddr w.lane w.data
    match ntsReq m with
    | none => s.tsvInc 12
    | some x =>
      if s.listening w.lane then s.tsvInc 16
      else
        let s1 := s.cookieUse x.cookie
        match s.openCookie x.cookie with
        | none => ((s1.laneQueue w.lane ⟨a, .kiss q.1 q.2.1 q.2.2 (ascii "NTSN") (extField 0x0104 x.uid)⟩ .plain).answered).tsvInc 20
        | some (c2s, s2c) =>
          if Config.sivOpen c2s [x.head, x.nonce] x.ct = none then s1.tsvInc 11
          else match s1.mintCookies c2s s2c (1 + x.holders) with
            | none => s1.tsvInc 10
            | some r =>
              let d := r.1.draw 16
              let plain := (r.2.map (extField 0x0204)).flatten
              (d.1.laneQueue w.lane ⟨a, .nts q.1 q.2.1 q.2.2 w.stamp w.coarse (extField 0x0104 x.uid) s2c d.2 plain⟩ .plain).answered

/-! ## Delay and peer delay (R329, R331) -/

/-- The third grant of a downstream entry is one of Pdelay_Resp (R336). -/
def Sess.pdGrant (x : Sess) : Bool := decide (sliceNat x.data 0 1 = 1)

/-- The downstream entry of a client: lane and portIdentity. -/
def State.client (s : State) (n : Nat) (pid : Bytes) : Option (Nat × Sess) :=
  s.tsv.sess.find? (fun e => decide (e.2.kind = 1) && decide (e.2.lane = n) && decide (e.2.pid = pid))

/-- The seal and the addressing of an answer to a PTP message. -/
def State.ptpReply (s : State) (w : Work) (p : Nat) (uni pdelay event : Bool) : Addr :=
  let port := if event then 319 else 320
  if uni then s.replyAddr w.lane w.data port port (s.profTrailer p)
  else { s.groupAddr w.lane p (transportOf w.data) pdelay event with tag := (ethView w.data).tag }

def State.delayReq (s : State) : State :=
  s.withRequest (fun r => decide (r = .delayReq)) fun s w =>
    let m := ptpOf w.data
    let p := s.rf TSV_LANEn_prof w.lane
    let cl := s.client w.lane (ptpSrc m)
    let granted : Bool := match cl with
      | some (_, x) => s.grantLive x 2 && decide (x.state ≠ 2) && !x.pdGrant
      | none => false
    if ¬ (s.profMulticast p ∨ granted) then s.tsvInc 15
    else
      let uni := !s.profMulticast p || decide (ptpFlags m / flagUnicast % 2 = 1)
      let log := match cl with
        | some (_, x) => if granted then x.logs[2] else s.profLog p 2
        | none => s.profLog p 2
      let msg := s.ptpHdr p ptpDelayResp (if uni then flagUnicast else 0) (ptpCorr m - fracOf w.stamp) (s.portId w.lane) (ptpSeq m) log ++
        tsBytes w.stamp ++ ptpSrc m
      let s1 := match cl with
        | some (i, x) => s.putSess i { x with last := w.stamp }
        | none => s
      s1.answer w.lane ⟨s1.ptpReply w p uni false false, .ptp msg p .none true w.coarse (s1.profSeal p)⟩ .plain

def State.pdelayReq (s : State) : State :=
  s.withRequest (fun r => decide (r = .pdelayReq)) fun s w =>
    let m := ptpOf w.data
    let p := s.rf TSV_LANEn_prof w.lane
    let two := decide (s.family p = 5)
    let uni := decide (ptpFlags m / flagUnicast % 2 = 1)
    let fl := (if uni then flagUnicast else 0)
    let hdr := fun (t fl : Nat) (c : Int) => s.ptpHdr p t fl c (s.portId w.lane) (ptpSeq m) 0x7F
    let resp := if two then hdr ptpPdelayResp (fl + flagTwoStep) (ptpCorr m - fracOf w.stamp) ++ tsBytes w.stamp ++ ptpSrc m
      else hdr ptpPdelayResp fl (ptpCorr m) ++ zeros 10 ++ ptpSrc m
    let fu := hdr ptpPdelayRespFU fl 0 ++ zeros 10 ++ ptpSrc m
    let sl := s.profSeal p
    let fuBuild : Build := ⟨s.ptpReply w p uni true false, .ptp fu p .none false w.coarse sl⟩
    s.answer w.lane ⟨s.ptpReply w p uni true true, .ptp resp p (if two then .none else .turnaround w.stamp) true w.coarse sl⟩
      (if two then .twoStep fuBuild else .plain)

/-- The peer context of a lane (R334). -/
def State.peerCtx (s : State) (n : Nat) : Option (Nat × Sess) :=
  s.tsv.sess.find? (fun e => decide (e.2.kind = 3) && decide (e.2.lane = n))

def peerDelay (x : Sess) : Int := toSigned 64 (sliceNat x.data 0 8)
def peerRun (x : Sess) : Nat := sliceNat x.data 12 1
def peerData (delay ratio : Int) (run : Nat) : Bytes := leBytes 8 (ofSigned 64 delay) ++ leBytes 4 (ofSigned 32 ratio) ++ leBytes 1 (min 255 run) ++ zeros 19

/-- asCapable: three good exchanges in a row (R331). -/
def State.asCapable (s : State) (n : Nat) : Bool :=
  match s.peerCtx n with
  | some (_, x) => decide (3 ≤ peerRun x)
  | none => false

def State.peer (s : State) (n : Nat) : PeerX := (s.tsv.peers[n]?).getD PeerX.empty
def State.setPeer (s : State) (n : Nat) (x : PeerX) : State := s.setTsv { s.tsv with peers := s.tsv.peers.set! n x }

/-- An exchange is complete: mean link delay, rate ratio in 2⁻⁴¹ and the run of good exchanges (R331, R334). `turn` is the responder's
turnaround, `t3` its departure. -/
def State.peerDone (s : State) (n : Nat) (turn t3 : Int) : State :=
  let x := s.peer n
  match s.peerCtx n, x.t1, x.t4 with
  | some (i, e), some t1, some t4 =>
    let d := (t4 - t1 - turn) / 2
    let ratio := match x.last with
      | some (a, b) => if t4 - b = 0 then 0 else ((t3 - a) - (t4 - b)) * 2199023255552 / (t4 - b)
      | none => 0
    let run := if d ≤ 800 * uNs then peerRun e + 1 else 0
    (s.putSess i { e with data := peerData d ratio run }).setPeer n { x with t1 := none, t2 := none, t4 := none, last := some (t3, t4) }
  | _, _, _ => s

def State.pdelayResp (s : State) : State :=
  s.withWork (fun r => decide (r = .pdelayResp)) fun s w =>
    let m := ptpOf w.data
    let n := w.lane
    let x := s.peer n
    let s0 := match s.peerCtx n with
      | some (i, e) => s.putSess i { e with last := w.stamp, pid := ptpSrc m, mac := (ethView w.data).src }
      | none => s
    if x.seq ≠ ptpSeq m ∨ x.t1 = none then s0.processed
    else if ptpType m = ptpPdelayResp then
      let s1 := s0.setPeer n { x with t2 := some (ptpTs m), t4 := some w.stamp, corr := ptpCorr m }
      if ptpFlags m / flagTwoStep % 2 = 1 then s1.processed
      else (s1.peerDone n (ptpCorr m) (ptpTs m + ptpCorr m)).processed
    else match x.t2 with
      | some t2 => (s0.peerDone n (ptpTs m - t2 + x.corr + ptpCorr m) (ptpTs m + ptpCorr m)).processed
      | none => s0.processed

/-! ## Unicast negotiation (R336) -/

/-- Grant slot of a message type: Sync, Announce, Delay_Resp or Pdelay_Resp. -/
def State.grantSlot (s : State) (p t : Nat) : Option (Fin 3) :=
  if t = ptpSync then some 0 else if t = ptpAnnounce then some 1 else if t = ptpDelayResp then some 2
  else if t = ptpPdelayResp ∧ s.family p = 0 ∧ s.profP2p p then some 2 else none

/-- The least log interval granted; a minimum outside the family's range acts as the nearest value in it (R328). -/
def State.grantMin (s : State) (p : Nat) (k : Fin 3) : Int :=
  let r := famLog (s.family p) k.val
  match k with
  | 0 => max r.1 (min r.2 (s.rs 8 TSV_PROFp_UNI_min_sync p))
  | 1 => max r.1 (min r.2 (s.rs 8 TSV_PROFp_UNI_min_ann p))
  | _ => r.1

/-- Messages per 256 s of a log interval. -/
def rate256 (log : Int) : Nat := if log ≤ 8 then 2 ^ (8 - log).toNat else 0

/-- The granted Sync and Announce rates of an entry. -/
def State.entryRate (s : State) (x : Sess) : Nat :=
  (if s.grantLive x 0 then rate256 x.logs[0] else 0) + (if s.grantLive x 1 then rate256 x.logs[1] else 0)

def State.tableRate (s : State) : Nat := s.tsv.sess.foldl (fun a e => if e.2.kind = 1 then a + s.entryRate e.2 else a) 0

/-- The duration granted: the requested one within the DUR range, and within 60 to 1,000 s in family 2 (R328, R336). -/
def State.grantDur (s : State) (p dur : Nat) : Nat :=
  let d := max (s.rf TSV_PROFp_DUR_min p) (min (s.rf TSV_PROFp_DUR_max p) dur)
  if s.family p = 2 then max 60 (min 1000 d) else d

/-- A refusal counted, and journalled at most once a second with the count of the second before (R336, R351). -/
def State.refuseFull (s : State) : State :=
  let sec := secsOf s.now
  let t := s.tsv
  if t.fullSec = sec then s.setTsv { t with fullCnt := t.fullCnt + 1 }
  else (s.setTsv { t with fullSec := sec, fullCnt := 1 }).tsvJournal 0 0x1009 (if t.fullSec + 1 = sec then t.fullCnt else 0)

def State.refuseBudget (s : State) : State :=
  let sec := secsOf s.now
  let t := s.tsv
  if t.budSec = sec then s.setTsv { t with budCnt := t.budCnt + 1 }
  else (s.setTsv { t with budSec := sec, budCnt := 1 }).tsvJournal 0 0x100A (if t.budSec + 1 = sec then t.budCnt else 0)

/-- The entry's Sync times: k × interval + i × interval / 16,384 (R336). -/
def syncSlot (i : Nat) (log : Int) (after : Int) : Int :=
  let p := max 1 (logUnits log)
  gridFrom ((i : Int) * p / 16384) p after

/-- One negotiation TLV of a client: the new state and the TLV that answers it. -/
def State.negoOne (s : State) (w : Work) (p : Nat) (pid : Bytes) (x : Tlv) : State × Option Tlv :=
  let t := beAt x.2 0 1 / 16
  let grant := fun (log dur : Nat) (r : Nat) => (5, beBytes 1 (t * 16) ++ beBytes 1 log ++ beBytes 4 dur ++ [0] ++ beBytes 1 r)
  match x.1 with
  | 4 =>
    let logB := beAt x.2 1 1
    let log := toSigned 8 logB
    match s.grantSlot p t with
    | none => (s, some (grant logB 0 0))
    | some k =>
      if log < s.grantMin p k then (s, some (grant logB 0 0))
      else
        let have_ := s.client w.lane pid
        let old := match have_ with
          | some (_, e) => if k.val < 2 ∧ s.grantLive e k then rate256 e.logs[k] else 0
          | none => 0
        let add := if k.val < 2 then rate256 log else 0
        if s.rf TSV_UNI_BUDGET_rate * 256 < s.tableRate - old + add then (s.refuseBudget, some (grant logB 0 0))
        else
          let v := ipView w.data
          let e0 := ethView w.data
          let fresh : Sess := { Sess.empty with
            kind := 1, state := 1, lane := w.lane, prof := p,
            flags := (match v with | some v => if v.v6 then 1 else 0 | none => 2) + (if e0.tag.isSome then 4 else 0) +
              (if s.rb TSV_PROFp_CFG_auth p then 8 else 0) + (e0.tag.getD 0 % 4096) * 16,
            mac := e0.src, port := ((v.map (·.sport)).getD 0), ip := ((v.map (·.src)).getD []), pid := pid,
            key := (s.sendEntry p s.now).getD 0, pcp := e0.tag.getD 0 / 8192 }
          match (match have_ with
            | some (i, _) => some (s, i)
            | none => s.allocSess fresh) with
          | none => (s.refuseFull, some (grant logB 0 0))
          | some (s1, i) =>
            let e := (s1.sess i).getD fresh
            let dur := s1.grantDur p (beAt x.2 2 4)
            let e1 := { e with state := 1, last := w.stamp, logs := e.logs.set k log, expiry := e.expiry.set k ((sec32 w.stamp + dur) % 2 ^ 32),
                               next := if k = 0 then syncSlot i log s1.now else e.next,
                               data := if k = 2 then leBytes 1 (if t = ptpPdelayResp then 1 else 0) else e.data }
            (s1.putSess i e1, some (grant logB dur 1))
  | 6 =>
    match s.grantSlot p t, s.client w.lane pid with
    | some k, some (i, e) => (s.putSess i { e with expiry := e.expiry.set k 0 }, some (7, beBytes 1 (t * 16) ++ [0]))
    | _, _ => (s, some (7, beBytes 1 (t * 16) ++ [0]))
  | 7 =>
    match s.grantSlot p t, s.client w.lane pid with
    | some k, some (i, e) => (s.putSess i { e with expiry := e.expiry.set k 0 }, none)
    | _, _ => (s, none)
  | _ => (s, none)

/-- A Signaling message to a portIdentity. -/
def State.signalMsg (s : State) (n p seq : Nat) (target : Bytes) (l : List Tlv) : Bytes :=
  s.ptpHdr p ptpSignaling flagUnicast 0 (s.portId n) seq 0x7F ++ target ++ (l.map tlvBytes).flatten

def State.signaling (s : State) : State :=
  s.withRequest (fun r => decide (r = .signaling)) fun s w =>
    let m := ptpOf w.data
    let p := s.rf TSV_LANEn_prof w.lane
    let pid := ptpSrc m
    if s.listening w.lane then s.tsvInc 16
    else
      let r := ((ptpTlvs m).getD []).foldl (fun (a : State × List Tlv) x =>
        let b := a.1.negoOne w p pid x
        (b.1, a.2 ++ b.2.toList)) (s, [])
      if r.2 = [] then r.1.answered
      else
        let c := r.1.client w.lane pid
        let seq := match c with
          | some (_, e) => e.seqs[2]
          | none => 0
        let s1 := match c with
          | some (i, e) => r.1.putSess i { e with seqs := e.seqs.set 2 ((seq + 1) % 65536) }
          | none => r.1
        (s1.laneQueue w.lane ⟨s1.ptpReply w p true false false, .ptp (s1.signalMsg w.lane p seq pid r.2) p .none false w.coarse (s1.profSeal p)⟩
          .plain).answered

/-- UNICAST_GRANT_EXPIRE (R335): expired grants of entry `i` end, and the entry is freed when none remains. -/
def State.grantExpire (s : State) (i : Nat) : State :=
  match s.sess i with
  | none => s
  | some x =>
    if x.kind ≠ 1 then s
    else
      let e := Vector.ofFn (fun k : Fin 3 => if s.grantLive x k then x.expiry[k] else 0)
      if e.toList.all (· = 0) then s.freeSess i else s.putSess i { x with expiry := e }

/-- A downstream entry's addressing. -/
def State.sessAddr (s : State) (x : Sess) (event : Bool) : Addr :=
  let port := if event then 319 else 320
  let l2 := bitOf x.flags 1
  let v6 := bitOf x.flags 0
  ⟨if l2 then 0 else if v6 then 2 else 1, x.mac, ownMac s x.lane, if bitOf x.flags 2 then some (x.pcp * 8192 + bitsOf x.flags 4 12) else none,
   x.ip, Config.ownIp x.lane v6, port, port, s.profTrailer x.prof⟩

/-- The live grants that satisfy `p` cancelled: CANCEL from the profile as it stood in `s0`, and the entry ends (R336). -/
def State.cancelGrants (s s0 : State) (p : Sess → Bool) : State :=
  s.tsv.sess.foldl (fun s e =>
    let x := e.2
    if x.kind ≠ 1 ∨ ¬ p x ∨ x.state ≠ 1 then s
    else
      let types := ([(0, ptpSync), (1, ptpAnnounce), (2, if x.pdGrant then ptpPdelayResp else ptpDelayResp)] : List (Fin 3 × Nat)).filter
        (fun k => s.grantLive x k.1)
      let m := s0.signalMsg x.lane x.prof x.seqs[2] x.pid (types.map (fun k => (6, beBytes 1 (k.2 * 16) ++ [0])))
      let s1 := s.putSess e.1 { x with state := 2, seqs := x.seqs.set 2 ((x.seqs[2] + 1) % 65536) }
      if s1.token then s1.generate x.lane ⟨s0.sessAddr x false, .ptp m x.prof .none false false (s0.profSeal x.prof)⟩ .plain else s1) s

/-- A change of a profile's fields, and of a lane's profile (R336). -/
def State.profileChanged (s s0 : State) (p : Nat) : State := s.cancelGrants s0 (fun x => decide (x.prof = p))
def State.laneProfile (s s0 : State) (n : Nat) : State :=
  s.cancelGrants s0 (fun x => decide (x.lane = n) && decide (x.prof ≠ s.rf TSV_LANEn_prof n))

/-! ## Forwarding (R331, R333) -/

def State.fwdWrite (s : State) (w : Work) (reason : Nat) : Option State :=
  (s.byteRing TSV_FWD_BASE_base TSV_FWD_SIZE_log2n TSV_FWD_HEAD_head TSV_FWD_TAIL_tail 0 (rxHeader w.stamp w.data w.express w.coarse reason) w.data).map
    (fun r => (r.1.pushItem (1024 + 0x100) 0 (0x1000 + w.lane) (r.2 % 65536 + w.data.length * 65536)).assertSrc 27 (r.1.domNow 0))

def State.foreign (s : State) : State :=
  s.withWork (fun r => decide (r = .foreign)) fun s w =>
    let m := ptpOf w.data
    let sec := secsOf s.now
    let s1 := s.tsvInc 22
    let s2 := if (s1.tsv.foreignSec[w.lane]?).getD 0 = sec then s1
      else (s1.setTsv { s1.tsv with foreignSec := s1.tsv.foreignSec.set! w.lane sec }).tsvJournal w.lane 0x1005 (beAt m 20 8)
    match s2.fwdWrite w (if ptpType m = ptpAnnounce then 1 else 2) with
    | some t => t.processed
    | none => s2.tsvInc 17

def State.forward (s : State) : State :=
  s.withWork (fun r => decide (r = .forward)) fun s w =>
    match s.fwdWrite w (if ptpType (ptpOf w.data) = ptpManagement then 3 else 4) with
    | some t => t.processed
    | none => s.tsvInc 17

/-! ## Generated messages (R330, R331, R336) -/

/-- The Follow_Up information TLV of family 5 (R330). -/
def State.fuInfo (s : State) : Tlv :=
  (3, [0x00, 0x80, 0xC2, 0, 0, 1] ++ zeros 4 ++ beBytes 2 s.tsv.tbInd ++ beBytes 12 (ofSigned 96 s.tsv.tbChange) ++ zeros 4)

/-- A Sync of profile `p`, and its Follow_Up where two-step. -/
def State.syncBuild (s : State) (n p seq : Nat) (uni : Bool) (log : Int) (ev ge : Addr) : Build × TOwner :=
  let two := s.profTwoStep p
  let fl := (if uni then flagUnicast else 0)
  let info := if s.family p = 5 then tlvBytes s.fuInfo else []
  let sl := s.profSeal p
  let sync := s.ptpHdr p ptpSync (fl + if two then flagTwoStep else 0) 0 (s.portId n) seq log ++ zeros 10
  let fu := s.ptpHdr p ptpFollowUp fl 0 (s.portId n) seq log ++ zeros 10 ++ info
  if two then (⟨ev, .ptp sync p .none true false sl⟩, .twoStep ⟨ge, .ptp fu p .none true false sl⟩)
  else (⟨ev, .ptp (sync ++ info) p .origin true false sl⟩, .plain)

/-- A multiple of `period` lies after `last` and at or before now. -/
def State.due (s : State) (period last : Int) : Bool := decide (last < s.now / max 1 period * max 1 period)

/-- A multiple of `period` falls in the tick that ends now, and lies after `last` (R331). -/
def State.dueNow (s : State) (period last : Int) : Bool := s.due period last && decide (s.now % max 1 period < 2 * uTick)

/-- The lane serves PTP and the unit generates (R328, R348). -/
def State.serving (s : State) (n : Nat) : Bool :=
  s.rb TSV_LANEn_ptp n && s.token && s.isReady 8 && s.pdOn 10 && s.linkUp n && !s.listening n

/-- PTP_MULTICAST_TX (R331): Sync and Announce that are due, one per enabled transport. -/
def State.multicastTx (s : State) (n : Nat) : State :=
  let p := s.rf TSV_LANEn_prof n
  if ¬ s.serving n ∨ ¬ s.profMulticast p then s
  else
    let at_ := (s.tsv.mcAt[n]?).getD (0, 0)
    let sq := (s.tsv.mcSeq[n]?).getD (0, 0)
    let syncP := logUnits (s.profLog p 0)
    let annP := logUnits (s.profLog p 1)
    let doS := s.dueNow syncP at_.1 && (decide (s.family p ≠ 5) || s.asCapable n)
    let doA := s.dueNow annP at_.2
    let s1 := s.setTsv { s.tsv with mcAt := s.tsv.mcAt.set! n (if doS then s.now else at_.1, if doA then s.now else at_.2),
                                    mcSeq := s.tsv.mcSeq.set! n ((sq.1 + if doS then 1 else 0) % 65536, (sq.2 + if doA then 1 else 0) % 65536) }
    (s1.profTransports p).foldl (fun s t =>
      let s2 := if doS then
          let b := s.syncBuild n p sq.1 false (s.profLog p 0) (s.groupAddr n p t false true) (s.groupAddr n p t false false)
          s.generate n b.1 b.2
        else s
      if doA then s2.generate n ⟨s2.groupAddr n p t false false, .announce p sq.2 false (s2.profSeal p)⟩ .plain else s2) s1

/-- PTP_PDELAY_REQ_TX (R331): a family 5 lane's next Pdelay_Req, into its peer context. -/
def State.pdelayTx (s : State) (n : Nat) : State :=
  let p := s.rf TSV_LANEn_prof n
  let x := s.peer n
  if ¬ s.serving n ∨ s.family p ≠ 5 ∨ ¬ s.due (logUnits (s.profLog p 2)) x.due then s
  else
    let ctx : Option (State × Nat) := match s.peerCtx n with
      | some (i, _) => some (s, i)
      | none => s.allocSess { Sess.empty with
          kind := 3, lane := n, prof := p, flags := if s.rb TSV_PROFp_CFG_auth p then 10 else 2, key := (s.sendEntry p s.now).getD 0,
          data := peerData 0 0 0 }
    match ctx with
    | none => s
    | some (s1, i) =>
      let e := (s1.sess i).getD Sess.empty
      let s2 := if x.t1.isSome then s1.putSess i { e with data := peerData (peerDelay e) (toSigned 32 (sliceNat e.data 8 4)) 0 } else s1
      let seq := (x.seq + 1) % 65536
      let m := s2.ptpHdr p ptpPdelayReq 0 0 (s2.portId n) seq (s2.profLog p 2) ++ zeros 20
      (s2.setPeer n { x with seq := seq, t1 := none, t2 := none, t4 := none, due := s2.now }).generate n
        ⟨s2.groupAddr n p 0 true true, .ptp m p .none false false (s2.profSeal p)⟩ (.peer seq)

/-- PTP_UNICAST_SYNC_TX (R336): what entry `i` is owed of its Sync and Announce grants; an entry that ENDS is owed nothing (log 50). -/
def State.unicastTx (s : State) (i : Nat) : State :=
  match s.sess i with
  | none => s
  | some x =>
    if x.kind ≠ 1 ∨ x.state = 2 ∨ ¬ s.serving x.lane then s
    else
      let doS := s.grantLive x 0 && decide (x.next ≤ s.now)
      let doA := s.grantLive x 1 && s.due (logUnits x.logs[1]) (tabGet 0 i s.tsv.annAt)
      let x1 := { x with next := if doS then syncSlot i x.logs[0] (s.now + 1) else x.next,
                         seqs := (x.seqs.set 0 ((x.seqs[0] + if doS then 1 else 0) % 65536)).set 1 ((x.seqs[1] + if doA then 1 else 0) % 65536) }
      let s1 := s.putSess i x1
      let s2 := if doS then
          let b := s1.syncBuild x.lane x.prof x.seqs[0] true x.logs[0] (s1.sessAddr x true) (s1.sessAddr x false)
          s1.generate x.lane b.1 b.2
        else s1
      if doA then
        (s2.setTsv { s2.tsv with annAt := tabSet i s2.now s2.tsv.annAt }).generate x.lane
          ⟨s2.sessAddr x false, .announce x.prof x.seqs[1] true (s2.profSeal x.prof)⟩ .plain
      else s2

/-! ## Upstream sessions (R338 to R340) -/

def State.up (s : State) (u : Nat) : UpSess := (s.tsv.ups[u]?).getD s.tsv.ups[0]
def State.setUp (s : State) (u : Nat) (x : UpSess) : State := s.setTsv { s.tsv with ups := s.tsv.ups.set! u x }
def State.upState (s : State) (u : Nat) : Nat := s.rf TSV_UPu_STATUS_state u
def State.upProf (s : State) (u : Nat) : Nat := s.rf TSV_UPu_CTL_prof u

/-- A change of state: 0x1006 and TSV_UP (R340, R349). -/
def State.upMove (s : State) (u new : Nat) : State :=
  let old := s.upState u
  if old = new then s
  else
    let s1 := (s.wf TSV_UPu_STATUS_state new u).tsvJournal (s.rf TSV_UPu_CTL_lane u) 0x1006 (u + old * 8 + new * 64)
    let s2 := s1.assertSrc 28 (s1.domNow 0)
    let i := s2.rf TSV_UPu_ENTRY_i u
    match s2.sess i with
    | some e => if e.kind = 2 ∧ new ≠ 0 then s2.putSess i { e with state := new } else s2
    | none => s2

/-- Enabled roll-call slot of kind PTP with src = u. -/
def State.upSlot (s : State) (u : Nat) : Option Nat :=
  (List.range 23).find? (fun m => s.rb RCLn_CFG_en m && decide (s.slotKind m = 4) && decide (s.rf RCLn_CFG_src m = u))

/-- J of R340, in units. -/
def State.upJump (s : State) (u : Nat) : Int :=
  psToUnits (if s.rf TSV_UPu_JUMP_ps u = 0 then s.rf SRV_STEP_LIMIT_ps else s.rf TSV_UPu_JUMP_ps u)

def State.upAvg (s : State) (u : Nat) : Nat := if s.rf TSV_UPu_CTL_avg u = 0 then 8 else s.rf TSV_UPu_CTL_avg u

/-- m (R339): mean of the last exchanges, in units. -/
def UpSess.mean (x : UpSess) : Int := if x.delays = [] then 0 else (x.delays.foldl (· + ·) 0) / (2 * (x.delays.length : Int))

/-- Path delay and offset runs restarted. -/
def UpSess.restart (x : UpSess) : UpSess := { x with delays := [], sync := none, pend := none, t3 := none, holdFrom := none }

/-- b_r (R339). -/
def State.upBound (s : State) (u : Nat) : State :=
  let x := s.up u
  let asym := s.rf TSV_UPu_ASYM_ps u
  let bm := match x.bm with
    | some b => b
    | none => accLimit x.acc
  let b := if x.acc = 0xFE ∨ asym = 0xFFFFFFFF ∨ bm = 0xFFFFFFFF then 0xFFFFFFFF else min 0xFFFFFFFF (bm + asym)
  s.wf TSV_UPu_BOUND_ps b u

/-- The check that ends UNCALIB: `avg` exchanges complete (R340). `f` is the present offset. -/
def State.upCalibrated (s : State) (u : Nat) (f : Int) : State :=
  let pred : Option Int := (s.upSlot u).bind (fun m => if (s.slot m).track = [] then none else some (unitsOfFp (s.slotOfs m)))
  match pred with
  | some p =>
    if ((f - p).natAbs : Int) ≤ s.upJump u then s.upMove u 4
    else
      let s1 := (s.upMove u 5).wf TSV_UPu_STATUS_jump 1 u
      (s1.setUp u { s1.up u with holdLo := f, holdHi := f, holdFrom := some s1.now }).tsvJournal (s1.rf TSV_UPu_CTL_lane u) 0x1007
        (u + ofSigned 48 (satSigned 48 (f - p)) * 65536)
  | none => s.upMove u 4

/-- The offset of one Sync (R339): a feed in FEED, which a fatal cause refuses (R51, R234); the agreeing run in HOLDJ. -/
def State.upOffset (s : State) (u : Nat) (sync t2 : Int) : State :=
  let s0 := s.setUp u { s.up u with sync := some sync }
  let x := s0.up u
  if x.delays = [] then s0
  else
    let m := x.mean
    let f := sync - m
    let s1 := s0.ws TSV_UPu_DELAY_ps (satSigned 32 (unitsToPs m)) u
    match s1.upState u with
    | 3 => if s1.upAvg u ≤ x.delays.length then s1.upCalibrated u f else s1
    | 4 =>
      match s1.upSlot u with
      | some slot =>
        if s1.fatalSet then s1.inc SYS_FATAL_REFUSED_count
        else s1.qSend 393 0 (0x1000 + s1.rf TSV_UPu_CTL_lane u) ⟨s1.domNow 0, .feed ⟨slot, f, t2, s1.rf TSV_UPu_UNC_ps u⟩⟩
      | none => s1.tsvInc 24
    | 5 =>
      let lo := min x.holdLo f
      let hi := max x.holdHi f
      if hi - lo ≤ s1.upJump u then s1.setUp u { x with holdLo := lo, holdHi := hi, holdFrom := some (x.holdFrom.getD s1.now) }
      else s1.setUp u { x with holdLo := f, holdHi := f, holdFrom := some s1.now }
    | _ => s1

/-- The bound field of a bound TLV with the right organisation (R339). -/
def State.tlvBound (s : State) (m : Bytes) : Option Nat :=
  (((ptpTlvs m).getD []).find? (fun x => decide (x.1 = 3) && decide (x.2.length = 18) && decide (beAt x.2 0 3 = s.rf TSV_BOUND_ORG_org) &&
    decide (beAt x.2 3 3 = 1))).map (fun x => beAt x.2 6 4)

/-- The instant at which session `u` has gone announceReceiptTimeout intervals without an Announce (R340). -/
def State.upDeadline (s : State) (u : Nat) : Int :=
  let x := s.up u
  x.annAt + (s.rf TSV_PROFp_INTV_timeout (s.upProf u) : Int) * logUnits x.annLog

/-- An Announce of the master (R340). One stamped after the announce timeout finds it declared (R85, log 66). The bound TLV counts only
under a verified seal (R339). -/
def State.upAnnounce (s0 : State) (u : Nat) (m : Bytes) (stamp : Int) (verified : Bool) : State :=
  let s := if s0.upState u = 4 ∧ s0.upDeadline u < stamp then s0.upMove u 2 else s0
  let st := s.upState u
  let bm := if verified then s.tlvBound m else none
  let gm := beAt m 53 8
  let src := ptpSrc m
  let x := s.up u
  let cls := beAt m 48 1
  let acc := beAt m 49 1
  let note := fun (s : State) =>
    let y := { s.up u with annAt := stamp, annLog := ptpLog m, cls := cls, acc := acc, srcPid := src }
    let t := ((s.setUp u y).wf TSV_UPu_GM_id gm u).upBound u
    let q := cls * 256 + acc
    let old := t.rcl.ptpQ[u]!
    let t1 : State := { t with rcl := { t.rcl with ptpQ := t.rcl.ptpQ.set! u q } }
    if old = q then t1 else t1.qChanged t
  if st = 2 then (note (s.setUp u { x.restart with bm := bm })).upMove u 3
  else if st < 3 then s
  else if s.rf TSV_UPu_GM_id u ≠ gm ∨ x.srcPid ≠ src then
    let s1 := note (s.setUp u { x.restart with bm := bm })
    let s2 := if st = 4 then (s1.wf TSV_UPu_STATUS_changed 1 u).tsvJournal (s1.rf TSV_UPu_CTL_lane u) 0x1008 (u + gm % 2 ^ 56 * 256) else s1
    s2.upMove u 3
  else note s

/-- A grant of the master (R338, R340). -/
def State.upGrant (s : State) (u : Nat) (x : Tlv) : State :=
  let t := beAt x.2 0 1 / 16
  let dur := beAt x.2 2 4
  match s.grantSlot (s.upProf u) t with
  | none => s
  | some k =>
    let y := s.up u
    let end_ := if dur = 0 then 0 else s.now + (dur : Int) * uSec
    let y1 := { y with grants := y.grants.set k end_, durs := y.durs.set k dur,
                       negoAt := y.negoAt.set k (if dur = 0 then s.now + uSec else s.now + (dur : Int) * uSec / 2) }
    let i := s.rf TSV_UPu_ENTRY_i u
    let s0 := s.setUp u y1
    let s1 : State := match s0.sess i with
      | some e => s0.putSess i { e with logs := e.logs.set k (toSigned 8 (beAt x.2 1 1)), expiry := e.expiry.set k (if dur = 0 then 0 else sec32 end_) }
      | none => s0
    let all := y1.grants.toList.all (fun g => decide (s1.now < g))
    if dur = 0 then (if 3 ≤ s1.upState u ∧ s1.upState u ≤ 4 then s1.upMove u 1 else s1)
    else if s1.upState u = 1 ∧ all then s1.upMove u 2
    else s1

/-- UPSTREAM_MESSAGE (R338 to R340). An Announce whose copy for firmware does not fit is counted under FULL, its one outcome (R333, R347). -/
def State.upMessage (s : State) : State :=
  s.withWork (fun r => match r with | .upstream _ => true | _ => false) fun s w =>
    match w.route with
    | .upstream u =>
      let m := ptpOf w.data
      let t := ptpType m
      if 3 ≤ s.upState u ∧ (s.up u).srcPid ≠ ptpSrc m ∧ t ≠ ptpAnnounce then s.tsvInc 15
      else
      let n := w.lane
      let authed := s.rb TSV_PROFp_CFG_auth (s.upProf u)
      let s0 := s.wb TSV_UPu_STATUS_authed authed u
      let s1 := match s0.sess (s0.rf TSV_UPu_ENTRY_i u) with
        | some e =>
          let r := famLog (s0.family (s0.upProf u)) 0
          s0.putSess (s0.rf TSV_UPu_ENTRY_i u) { e with
            last := w.stamp, mac := (ethView w.data).src, pid := ptpSrc m,
            next := if t = ptpSync then w.stamp + logUnits (max r.1 (min r.2 (ptpLog m))) else e.next }
        | none => s0
      let s2 := match (if authed then s1.tlvBound m else none) with
        | some b => (s1.setUp u { s1.up u with bm := some b }).upBound u
        | none => s1
      let x := s2.up u
      let s3 :=
        if t = ptpAnnounce then s2.upAnnounce u m w.stamp authed
        else if t = ptpSync then
          if ptpFlags m / flagTwoStep % 2 = 1 then s2.setUp u { x with pend := some (ptpSeq m, w.stamp, ptpCorr m) }
          else s2.upOffset u (w.stamp - (ptpTs m + ptpCorr m)) w.stamp
        else if t = ptpFollowUp then
          match x.pend with
          | some (q, t2, c) => if q = ptpSeq m then (s2.setUp u { x with pend := none }).upOffset u (t2 - (ptpTs m + ptpCorr m) - c) t2 else s2
          | none => s2
        else if t = ptpDelayResp then
          match x.t3, x.sync with
          | some (q, t3), some sy =>
            if q = ptpSeq m ∧ ptpReqId m = s2.portId n then
              s2.setUp u { x with t3 := none, delays := ((sy + (ptpTs m - t3 - ptpCorr m)) :: x.delays).take (s2.upAvg u) }
            else s2
          | _, _ => s2
        else if t = ptpSignaling then
          ((ptpTlvs m).getD []).foldl (fun s x => if x.1 = 5 then s.upGrant u x else s) s2
        else s2
      if t = ptpAnnounce then match s3.fwdWrite w 5 with
        | some r => r.processed
        | none => s3.tsvInc 17
      else s3.processed
    | _ => s

/-- The first enabled transport of the session's profile, and the master's addressing (R349). -/
def State.upAddr (s : State) (u : Nat) (event : Bool) : Addr :=
  let p := s.upProf u
  let n := s.rf TSV_UPu_CTL_lane u
  let a := s.rf TSV_UPu_ADDR_addr u
  let port := if event then 319 else 320
  match (s.profTransports p).head?.getD 0 with
  | 0 => ⟨0, beBytes 6 a, ownMac s n, none, [], [], 0, 0, false⟩
  | 1 => let ip := beBytes 4 a; ⟨1, Config.nextHop n ip, ownMac s n, none, ip, Config.ownIp n false, port, port, false⟩
  | _ => let ip := beBytes 16 a; ⟨2, Config.nextHop n ip, ownMac s n, none, ip, Config.ownIp n true, port, port, s.profTrailer p⟩

/-- The kind 2 entry of a session (R334). -/
def State.upEntry (s : State) (u : Nat) : Sess :=
  let a := s.upAddr u false
  { Sess.empty with
    kind := 2, state := 1, lane := s.rf TSV_UPu_CTL_lane u, prof := s.upProf u, key := s.rf TSV_UPu_CTL_key u, data := leBytes 1 u,
    flags := (if a.transport = 2 then 1 else 0) + (if a.transport = 0 then 2 else 0) + (if s.rb TSV_PROFp_CFG_auth (s.upProf u) then 8 else 0),
    mac := a.dst, port := a.dport, ip := a.ipDst }

/-- UPSTREAM_SESSION_ENABLE: a write of TSV_UPu_CTL (R340). -/
def State.upEnable (s : State) (u v : Nat) : State :=
  let was := s.rb TSV_UPu_CTL_en u
  let on := bitOf v 0
  let s1 := (((((s.wf TSV_UPu_CTL_en (bitsOf v 0 1) u).wf TSV_UPu_CTL_lane (bitsOf v 1 5) u).wf TSV_UPu_CTL_prof (bitsOf v 6 3) u).wf
    TSV_UPu_CTL_nego (bitsOf v 9 1) u).wf TSV_UPu_CTL_key (bitsOf v 10 5) u).wf TSV_UPu_CTL_avg (bitsOf v 16 6) u
  let i := s1.rf TSV_UPu_ENTRY_i u
  if on ∧ s1.upState u = 0 then
    match s1.allocSess (s1.upEntry u) with
    | some (t, i) =>
      let x := (t.up u).restart
      let t1 := t.setUp u { x with grants := #v[0, 0, 0], durs := #v[0, 0, 0], reqAt := t.now, negoAt := #v[t.now, t.now, t.now], bm := none, srcPid := [] }
      (t1.wf TSV_UPu_ENTRY_i i u).upMove u (if t1.rb TSV_UPu_CTL_nego u then 1 else 2)
    | none => s1
  else if ¬ on ∧ was ∧ s1.upState u ≠ 0 then
    (((s1.freeSess i).wf TSV_UPu_STATUS_jump 0 u).wf TSV_UPu_STATUS_changed 0 u).upMove u 0
  else s1

/-- The seal of a session's messages: its key entry, in a profile with `auth` (R338). -/
def State.upSeal (s : State) (u : Nat) : SealBy := if s.rb TSV_PROFp_CFG_auth (s.upProf u) then .entry (s.rf TSV_UPu_CTL_key u) else .none

/-- UPSTREAM_DELAY_REQ_TX (R338). -/
def State.upDelayTx (s : State) (u : Nat) : State :=
  let n := s.rf TSV_UPu_CTL_lane u
  let p := s.upProf u
  let x := s.up u
  if s.upState u < 3 ∨ s.now < x.reqAt ∨ s.listening n ∨ ¬ s.pdOn 10 then s
  else
    let m := s.ptpHdr p ptpDelayReq flagUnicast 0 (s.portId n) x.seq 0x7F ++ zeros 10
    (s.setUp u { x with seq := (x.seq + 1) % 65536, reqAt := s.now + logUnits (s.profLog p 2) }).generate n
      ⟨s.upAddr u true, .ptp m p .origin false false (s.upSeal u)⟩ (.upDelay u x.seq)

/-- UPSTREAM_GRANT_RENEW (R338, R340): a request of each grant at half its own duration; a lapsed grant returns the session to NEGOTIATE. -/
def State.upRenew (s : State) (u : Nat) : State :=
  let n := s.rf TSV_UPu_CTL_lane u
  let p := s.upProf u
  if s.upState u = 0 ∨ ¬ s.rb TSV_UPu_CTL_nego u then s
  else
    let x := s.up u
    let lapsed := x.grants.toList.any (fun g => decide (g ≤ s.now))
    let s1 := if lapsed ∧ (s.upState u = 3 ∨ s.upState u = 4) then s.upMove u 1 else s
    let due := ([(1, ptpAnnounce), (0, ptpSync), (2, ptpDelayResp)] : List (Fin 3 × Nat)).filter (fun k => decide (x.negoAt[k.1] ≤ s1.now))
    if due = [] ∨ s1.listening n ∨ ¬ s1.pdOn 10 then s1
    else
      let req := fun (k : Fin 3 × Nat) =>
        ((4, beBytes 1 (k.2 * 16) ++ beBytes 1 (ofSigned 8 (s1.profLog p k.1.val)) ++ beBytes 4 (s1.rf TSV_PROFp_DUR_max p)) : Tlv)
      let i := s1.rf TSV_UPu_ENTRY_i u
      let e := (s1.sess i).getD (s1.upEntry u)
      let m := s1.signalMsg n p e.seqs[2] (if x.srcPid = [] then List.replicate 10 0xFF else x.srcPid) (due.map req)
      let again := due.foldl (fun (v : Vector Int 3) k => v.set k.1 (s1.now + uSec)) x.negoAt
      ((s1.setUp u { x with negoAt := again }).putSess i { e with seqs := e.seqs.set 2 ((e.seqs[2] + 1) % 65536) }).generate n
        ⟨s1.upAddr u false, .ptp m p .none false false (s1.upSeal u)⟩ (.up u)

/-- An Announce of session `u` stamped at or before `t` waits in its lane's queue or in the pipeline (R85). -/
def State.upWaits (s : State) (u : Nat) (t : Int) : Bool :=
  let n := s.rf TSV_UPu_CTL_lane u
  let ann := fun (l : Bytes) => decide (ptpType (ptpOf l) = ptpAnnounce)
  let hit := fun (x : QItem) => match x.data with
    | .frame l _ _ => decide (x.stamp ≤ t) && decide (s.takeRoute n l = .inl (.upstream u)) && ann l
    | _ => false
  (s.queue (396 + n)).items.any hit || s.tsv.inbox.any (fun e => decide (e.1 = n) && hit e.2) ||
    s.tsv.work.any (fun w => decide (w.route = .upstream u) && decide (w.stamp ≤ t) && ann w.data)

/-- UPSTREAM_ANNOUNCE_TIMEOUT (R340), decided on receive stamps (R85, R86). -/
def State.upTimeout (s : State) (u : Nat) : State :=
  let t := s.upDeadline u
  if s.upState u = 4 ∧ t ≤ s.laneMark (s.rf TSV_UPu_CTL_lane u) ∧ ¬ s.upWaits u t then s.upMove u 2 else s

/-- HOLDJ ends (R340): its offsets agreed for SETTLE s, or RESUME. -/
def State.upRelease (s : State) (u : Nat) : State := (s.wf TSV_UPu_STATUS_jump 0 u).upMove u 4

def State.upSettle (s : State) (u : Nat) : State :=
  match (s.up u).holdFrom with
  | some t => if s.upState u = 5 ∧ t + (max 1 (s.rf TSV_UPu_SETTLE_secs u) : Nat) * uSec ≤ s.now then s.upRelease u else s
  | none => s

def State.upResume (s : State) (u : Nat) : State := if s.upState u = 5 then s.upRelease u else s

/-! ## Firmware's sealed messages (R333) -/

/-- SEALED_MESSAGE_SUBMIT: the two items of queue 0x201. Without the token, and on a lane that sends nothing, the message is dropped (R348). -/
def State.sealedSubmit (s0 : State) : State :=
  let q := 1024 + 0x101
  let x := s0.queue q
  match (if 2 ≤ x.vis ∧ s0.pdOn 10 then x.items else []) with
  | ⟨_, .word w⟩ :: ⟨_, .word c⟩ :: _ =>
    let s := (s0.qPop q).qPop q
    let n := c % 32
    let refuse := fun (s : State) => s.ownerDone n .sealed 3 0
    let mode := bitsOf w 37 2
    let ofs := bitsOf w 39 9
    if ¬ s.descOk n w ∨ bitsOf c 12 52 ≠ 0 ∨ (mode = 2 ∧ bitsOf w 48 2 ≠ 0) then refuse s
    else
      let r := s.engLoad 0 (bitsOf w 6 17 * 64) (bitsOf w 23 14)
      let l := r.2.1
      let off := match ipView l with
        | none => (ethView l).off
        | some v => v.udp + 8
      let m := l.drop off
      if r.2.2 ∨ m.length < 34 ∨ m.length < ptpLen m ∨ (mode = 2 ∧ ofs ≠ off + 34) then refuse r.1
      else if ¬ r.1.linkUp n ∨ ¬ r.1.laneTakes n ∨ ¬ r.1.token then r.1.ownerDone n .sealed 2 0
      else
        r.1.generate n ⟨⟨0, [], [], none, [], [], 0, 0, false⟩,
          .wrapped (l.take off) (m.take (ptpLen m)) (if mode = 2 then .origin else .none) (bitOf c 11) (if bitOf c 10 then .entry (bitsOf c 5 5) else .none)⟩ .sealed
  | _ => s0

/-! ## Cookies and NTS-KE (R343 to R345) -/

def State.cookiePeriod (s : State) : Int :=
  ((if s.rf TSV_COOKIE_CTL_hours = 0 then 24 else s.rf TSV_COOKIE_CTL_hours : Nat) : Int) * 3600 * uSec

/-- A new period of the cookies: the next derivation at its next whole multiple (R344). -/
def State.cookieConfig (s0 s : State) : State :=
  if s.cookiePeriod = s0.cookiePeriod then s else s.setTsv { s.tsv with cookieAt := gridFrom 0 s.cookiePeriod (s.now + 1) }

/-- COOKIE_ROTATION (R344): the next generation derived into its locker pair, or the failure retried in a minute. -/
def State.cookieRotate (s : State) : State :=
  if s.now < s.tsv.cookieAt ∨ s.key.commit.isSome ∨ ¬ s.token then s
  else
    let id := (s.rf TSV_COOKIE_ID_id + 1) % 2 ^ 32
    let g := id % 3
    let e := s.rf TSV_COOKIE_LOCKg_enc g
    let d := s.rf TSV_COOKIE_LOCKg_dec g
    let ok := fun (k attr : Nat) => match s.locker k with
      | some x => decide (x.attr = attr) && !x.p384
      | none => false
    match (if s.keyOpen && ok e 1 && ok d 2 then s.lockerKey (s.rf TSV_COOKIE_CTL_master) 4 else none) with
    | some km =>
      let key := deriveKey s.key.chain km (ascii "nts-cookie" ++ leBytes 4 id)
      let put := fun (k : Nat) (ls : Tab Locker) => match tabGet none k (ls.map (fun e => (e.1, some e.2))) with
        | some x => tabSet k { x with key := key } ls
        | none => ls
      let s0 := s.lockerUsed (s.rf TSV_COOKIE_CTL_master)
      let s1 := s0.setKey { s0.key with lockers := put d (put e s0.key.lockers) }
      let s2 := s1.setTsv { s1.tsv with cookies := s1.tsv.cookies.set! g (some id), cookieAt := gridFrom 0 s1.cookiePeriod (s1.now + 1) }
      let s3 : State := { s2 with twn := { s2.twn with keyDue := true } }
      (s3.wf TSV_COOKIE_ID_id id).tsvJournal 0 0x1003 id
    | none => (s.setTsv { s.tsv with cookieAt := s.now + 60 * uSec }).tsvJournal 0 0x1004 id

/-- The TLS 1.3 server CertificateVerify content (R345). -/
def tlsContent (hash : Bytes) : Bytes := List.replicate 64 0x20 ++ ascii "TLS 1.3, server CertificateVerify" ++ [0] ++ hash

/-- One NTS-KE descriptor: status and output. -/
def State.keOne (s : State) (d : Bytes) : State × Nat × Bytes :=
  let out := sliceNat d 4 4
  match sliceNat d 0 1 with
  | 1 =>
    match (if s.keyOpen then s.locker (s.rf TSV_KE_CTL_locker) else none) with
    | some x =>
      if x.attr ≠ 5 ∨ ¬ x.p384 then (s, 2, [])
      else if out % 64 ≠ 0 ∨ ¬ inRange out 96 then (s, 3, [])
      else
        let g := s.sign x.key (Config.sha384 (tlsContent (slice d 8 48)))
        (g.1.lockerUsed (s.rf TSV_KE_CTL_locker), 0, g.2)
    | none => (s, 2, [])
  | 2 =>
    let n := sliceNat d 1 1
    if n < 1 ∨ 8 < n ∨ sliceNat d 2 2 ≠ 15 then (s, 1, [])
    else if out % 64 ≠ 0 ∨ ¬ inRange out (104 * n) then (s, 3, [])
    else match s.mintCookies (slice d 8 32) (slice d 40 32) n with
      | some (s1, l) => (s1, 0, l.flatten)
      | none => (s, 2, [])
  | _ => (s, 1, [])

/-- The descriptor at CONS, when its op is `op` or none of R345. A SWAP holds it (R146). -/
def State.keStep (s : State) (op : Nat) : State :=
  let n := 2 ^ s.rf TSV_KE_SIZE_log2n
  let c := s.rf TSV_KE_CONS_index
  if c = s.rf TSV_KE_PROD_index % n ∨ s.fctl.swapping.isSome ∨ ¬ s.pdOn 10 then s
  else
    let off := s.rf TSV_KE_BASE_base * 128 + 128 * c
    let r := s.engLoad 0 off 128
    let o := sliceNat r.2.1 0 1
    if 1 ≤ o ∧ o ≤ 2 ∧ o ≠ op then s
    else
      let u := if r.2.2 then (r.1, 1, []) else r.1.keOne r.2.1
      let s1 := if u.2.1 = 0 then u.1.engStore 0 (sliceNat r.2.1 4 4) u.2.2 else u.1
      let s2 := ((s1.engStore 0 (off + 8) (zeros 64)).engStore 0 (off + 124) (leBytes 4 u.2.1)).wf TSV_KE_CONS_index ((c + 1) % n)
      let s3 := if u.2.1 = 0 then s2 else s2.tsvJournal 0 0x100B (c + u.2.1 * 1024)
      s3.assertSrc 26 (s3.domNow 0)

/-! ## Snapshots, seconds and steps -/

/-- TSV_CNT_SNAP (R347). -/
def State.tsvSnap (s : State) (on : Bool) : State :=
  if on then
    ((s.wf TSV_CNT_SNAP_snap 1).setTsv { s.tsv with snap := some ((List.range 25).map (fun i => s.rf TSV_CNTi_count i)) }).wf TSV_INFLIGHT_n (s.tsv.work.length + s.tsv.inbox.length)
  else (s.wf TSV_CNT_SNAP_snap 0).setTsv { s.tsv with snap := none }

/-- Once a second: peer contexts of lanes that no longer run family 5 are freed (R335). -/
def State.tsvSecond (s : State) : State :=
  s.tsv.sess.foldl (fun s e =>
    if e.2.kind = 3 ∧ ¬ (s.rb TSV_LANEn_ptp e.2.lane ∧ s.family (s.rf TSV_LANEn_prof e.2.lane) = 5) then s.freeSess e.1 else s) s

/-- A STEP entry of `d` units in family 5 (R330). -/
def State.tsvStep (s : State) (d : Int) : State :=
  s.setTsv { s.tsv with tbInd := (s.tsv.tbInd + 1) % 65536, tbChange := d }

/-! ## Meanings -/

def execTsvPacketTake (n : Fin 32) (s : State) : Result := .next (s.whenUp (s.packetTake n.val))
def execNtpRequest (s : State) : Result := .next (s.whenUp s.ntpRequest)
def execNtsRequest (s : State) : Result := .next (s.whenUp s.ntsRequest)
def execPtpDelayReq (s : State) : Result := .next (s.whenUp s.delayReq)
def execPtpPdelayReq (s : State) : Result := .next (s.whenUp s.pdelayReq)
def execPtpPdelayResp (s : State) : Result := .next (s.whenUp s.pdelayResp)
def execPtpUnicastSignaling (s : State) : Result := .next (s.whenUp s.signaling)
def execPtpForeignMessage (s : State) : Result := .next (s.whenUp s.foreign)
def execPtpForwardMessage (s : State) : Result := .next (s.whenUp s.forward)
def execUpstreamMessage (s : State) : Result := .next (s.whenUp s.upMessage)
def execPtpMulticastTx (n : Fin 32) (s : State) : Result := .next (s.whenUp (s.multicastTx n.val))
def execPtpPdelayReqTx (n : Fin 32) (s : State) : Result := .next (s.whenUp (s.pdelayTx n.val))
def execPtpUnicastSyncTx (i : Fin 16384) (s : State) : Result := .next (s.whenUp (s.unicastTx i.val))
def execUnicastGrantExpire (i : Fin 16384) (s : State) : Result := .next (s.whenUp (s.grantExpire i.val))
def execUpstreamSessionEnable (_ : Req) (u : Fin 8) (v : BitVec 32) (s : State) : Result := .next (s.whenUp (s.upEnable u.val v.toNat))
def execUpstreamDelayReqTx (u : Fin 8) (s : State) : Result := .next (s.whenUp (s.upDelayTx u.val))
def execUpstreamGrantRenew (u : Fin 8) (s : State) : Result := .next (s.whenUp (s.upRenew u.val))
def execUpstreamAnnounceTimeout (u : Fin 8) (s : State) : Result := .next (s.whenUp (s.upTimeout u.val))
def execUpstreamSettleComplete (u : Fin 8) (s : State) : Result := .next (s.whenUp (s.upSettle u.val))
def execUpstreamResume (_ : Req) (u : Fin 8) (s : State) : Result := .next (s.whenUp (s.upResume u.val))
def execSealedMessageSubmit (s : State) : Result := .next (s.whenUp s.sealedSubmit)
def execCookieRotation (s : State) : Result := .next (s.whenUp s.cookieRotate)
def execKeSign (s : State) : Result := .next (s.whenUp (s.keStep 1))
def execKeMint (s : State) : Result := .next (s.whenUp (s.keStep 2))
def execTsvCntSnap (_ : Req) (on : Bool) (s : State) : Result := .next (s.whenUp (s.tsvSnap on))

end Sys2Proof.Machine
end

