-- ==== Sys2Proof/Machine/Twin.lean ====
section
/-!
DEFINITION. Twin operation (R383 to R405): heartbeats, the token, the satchel, the output comparison, and swaps.
-/

namespace Sys2Proof.Machine
open Sys2Proof Reg

/-! ## Roles and silence (R385, R389) -/

/-- The watermark of heartbeats: R80 gives the twin link's domain at most 100 ns, the table after R389 leaves the decision 10 ns (log 64). -/
def State.beatMark (s : State) : Int := s.domNow 41 - 8 * uNs

/-- A path's last heartbeat lies 3 ms or more before `t`; before its first heartbeat it counts from `en`. -/
def State.silentAt (s : State) (last : Option Int) (t : Int) : Bool := decide (last.getD s.twn.enAt + 3 * uMs ≤ t)

/-- A path has been silent for at least 3 ms, and no heartbeat stamped within them can arrive (R85, R86). -/
def State.silent (s : State) (last : Option Int) : Bool := s.silentAt last s.beatMark
def State.linkSilent (s : State) : Bool := s.silent s.twn.lastLink
def State.pinSilent (s : State) : Bool := s.silent s.twn.lastPin

/-- `hb_link` and `hb_pin` as they stand now. -/
def State.hbShow (s : State) : State :=
  (s.wb TWN_STATUS_hb_link (s.twn.lastLink.isSome && !s.linkSilent)).wb TWN_STATUS_hb_pin (s.twn.lastPin.isSome && !s.pinSilent)

/-- Both units carry the same `primary` bit. -/
def State.roleClash (s : State) : Bool := s.twn.heard && (s.twn.partner.primary == s.rb TWN_CTL_primary)

/-- The unit acts as primary (R385). -/
def State.actsPrimary (s : State) : Bool :=
  match s.roleClash, s.key.partner with
  | true, some p => decide (ofBeBytes idHash < ofBeBytes (fitBytes 48 (Config.sha384 p.pub)))
  | _, _ => s.rb TWN_CTL_primary

/-- Bound, untraceable as 0xFFFF_FFFF. -/
def State.ownBound (s : State) : Nat := s.rf SRV_BOUND_ps

/-! ## The token (R384, R389, R397 to R399) -/

/-- What a unit that takes the token starts anew: the changes that the satchel carries, the next cookie rotation at a whole multiple of the
period (R344), and the peer contexts (R405). -/
def State.tokenTaken (s : State) : State :=
  let t := s.setTwn { s.twn with changed := [], map := [] }
  t.setTsv { t.tsv with
    cookieAt := gridFrom 0 t.cookiePeriod (t.now + 1),
    sess := t.tsv.sess.map (fun e => if e.2.kind = 3 then (e.1, { e.2 with data := fitBytes 12 e.2.data }) else e),
    peers := t.tsv.peers.map (fun p => { p with t1 := none, t2 := none, t4 := none, last := none }) }

/-- 0x1206 at a takeover. -/
def State.takeover (s : State) (cause : Nat) : State :=
  let s2 := (s.twnMove 3 cause).tokenTaken
  s2.twnJournal 0x1206 (s2.twn.tlySeq % 2 ^ 16 + ofSigned 32 (satSigned 32 (unitsToPs (s2.rs 64 TWN_DELTA_d))) * 2 ^ 32)

/-- A STANDBY whose partner is lost: the token, or `stuck` (R389). -/
def State.lostDecide (s : State) : State :=
  if s.twnSt = 2 ∧ s.twn.lost then
    if s.pinLow then s.twnAlarm TWN_ALARM_stuck else s.takeover 1
  else s

/-- A unit enters LISTEN; a line that is low makes it STANDBY (R384). The causes of these two changes are open (log 30). -/
def State.twnListen (s : State) (cause : Nat) : State :=
  let s1 := s.twnMove 1 cause
  if s1.twn.partnerLow then (s1.twnMove 2 (Config.twnCause 1 2 % 8)).lostDecide else s1

/-- The partner is lost: the alarm and 0x1202 (R389). -/
def State.losePartner (s : State) : State :=
  let s1 := (s.setTwn { s.twn with lost := true }).twnAlarm TWN_ALARM_partner_lost
  ((s1.twnJournal 0x1202 ((if s1.silentAt s1.twn.lastLink s1.now then 1 else 0) + if s1.silentAt s1.twn.lastPin s1.now then 2 else 0)).hbShow).lostDecide

/-- TWIN_PARTNER_LOST (R389). -/
def State.twnLost (s : State) : State :=
  if s.twnSt = 0 ∨ s.twn.lost ∨ ¬ (s.linkSilent && s.pinSilent) then s else s.losePartner

/-- A heartbeat stamped after both deadlines comes too late: the partner was lost (R85). -/
def State.beatLate (s : State) : State :=
  if s.twnSt = 0 ∨ s.twn.lost ∨ ¬ (s.silentAt s.twn.lastLink (s.now - 1) && s.silentAt s.twn.lastPin (s.now - 1)) then s else s.losePartner

/-- TWIN_FAULT_RECEIVE (R389). -/
def State.twnFaultIn (s : State) : State :=
  if s.twnSt = 0 ∨ ¬ s.rb TWN_STATUS_link then s
  else
    let s1 := s.wf TWN_PARTNER_CLASS_fatal 1
    if s1.twn.lost then s1 else s1.losePartner

/-- TWN_ACTIVE_N_CHANGE (R384, R389): the partner drives the line low, or releases it. -/
def State.twnPin (s : State) (low : Bool) : State :=
  let was := s.pinLow
  let s1 := s.setTwn { s.twn with partnerLow := low }
  let s2 := if was && !s1.pinLow then s1.setTwn { s1.twn with highSince := s1.now } else s1
  (if s2.twnSt = 1 ∧ low then s2.twnMove 2 (Config.twnCause 1 2 % 8) else s2).lostDecide

/-! ## Pairing and resync (R377, R390, R392) -/

/-- TWN_STATUS.current at the active unit: no resync runs and no change waits. -/
def State.currentShow (s : State) : State :=
  s.wb TWN_STATUS_current (s.isReady 11 && !s.twn.resyncing && decide (s.twn.changed = []))

/-- A resync of every kind 1 entry (R392). -/
def State.resync (s : State) : State :=
  let l := (s.tsv.sess.filter (fun e => decide (e.2.kind = 1))).map (·.1)
  (s.setTwn { s.twn with resyncLeft := l, resyncSent := 0, resyncing := true }).wf TWN_STATUS_current 0

/-- SYS_READY.twin follows the link and the pairing (R390). -/
def State.twinReady (s : State) : State := s.ready 11 (s.rb TWN_STATUS_link && s.rb KEY_STATUS_pair_ok)

/-- One attempt to pair over the link, and what follows it. -/
def State.twnPair (s : State) : State :=
  match s.key.partner with
  | some p =>
    let s1 := (s.pairTry p).twinReady
    if s1.rb KEY_STATUS_pair_ok then
      let s2 := s1.setTwn { s1.twn with keyDue := true, rxSeq := none }
      if s2.twnSt = 3 then s2.resync else s2
    else s1
  | none => s.twinReady

/-- The link falls, or the unit leaves twin operation (R390). -/
def State.twnUnlink (s : State) : State :=
  ((s.wf TWN_STATUS_link 0).wf TWN_STATUS_current 0).twinReady

/-- TWIN_LINK_UP (R377), with the partner's message: the recovered clock runs (R30). A SOLO unit ignores the link until `en` (R383). -/
def State.twnLinkUp (s : State) (p : PairMsg) : State :=
  let s0 := if (s.dom 41).running then s else s.setDom 41 ⟨true, false, 0⟩
  let s1 := s0.setKey { s0.key with partner := some p }
  if s1.rb TWN_CTL_en then ((s1.wf TWN_STATUS_link 1).setTwn { s1.twn with heard := false }).twnPair else s1

/-- TWIN_LINK_DOWN (R390): the recovered clock stops (R30). -/
def State.twnLinkDown (s : State) : State :=
  (((s.setDom 41 ⟨false, false, 0⟩).setKey { s.key with partner := none, eph := [], sent := none }).setTwn { s.twn with heard := false }).twnUnlink

/-- TWIN_CONFIG_WRITE: a write of TWN_CTL (R383, R384). -/
def State.twnConfig (s : State) (v : Nat) : State :=
  let s1 := ((((s.wf TWN_CTL_en (bitsOf v 0 1)).wf TWN_CTL_primary (bitsOf v 1 1)).wf TWN_CTL_revert (bitsOf v 2 1)).wf
    TWN_CTL_bound_feed (bitsOf v 3 1)).wf TWN_CTL_ref_slot (bitsOf v 4 5)
  if bitOf v 0 ∧ s.twnSt = 0 then
    let s2 := s1.setTwn { s1.twn with enAt := s.now, lastLink := none, lastPin := none, lost := false, activeBeat := none, heard := false,
                                      beating := true, kickAt := s.now, beatAt := s.now, devRun := 0, missRun := 0, goodRun := 0, arb := none,
                                      yieldAt := none, swapAt := none, checkEnd := none, revertFrom := none }
    let s3 := if s2.key.partner.isSome then (s2.wf TWN_STATUS_link 1).twnPair else s2
    s3.twnListen (Config.twnCause 0 1 % 8)
  else if ¬ bitOf v 0 ∧ s.twnSt ≠ 0 ∧ s.twnSt ≠ 4 then
    let s2 := (s1.twnUnlink.setTwn { s1.twn with swapAt := none, yieldAt := none, checkEnd := none }).wf TWN_STATUS_swap_pending 0
    (s2.twnMove 0 (Config.twnCause s.twnSt 0 % 8)).hbShow
  else s1

/-- KEY_SLOT_WRITE_COMPLETE (R373, R378): after a PIN the engines pair again. -/
def State.keySlotComplete (s : State) (ok : Bool) : State :=
  match s.key.write with
  | some w =>
    let s1 := s.slotWritten w ok
    if w.pin && ok && s1.rb TWN_STATUS_link then s1.twnPair else s1
  | none => s

/-! ## Claims, kicks and heartbeats (R385 to R388) -/

/-- TWN_HB_OUT (R388): a period of 500 µs, high for 250 µs in ACTIVE and for 125 µs else. Its rises count from `en` (DESIGN CHOICE, log 52). -/
def State.hbOut (s : State) : Bool :=
  s.live && decide (1 ≤ s.twnSt) && decide (s.twnSt ≤ 3) && s.twn.beating &&
    decide ((s.now - s.twn.enAt) % (uMs / 2) < if s.twnSt = 3 then uMs / 4 else uMs / 8)

/-- TWIN_CLAIM (R385); a pair that has paired owes its resync (R392). -/
def State.twnClaim (s : State) : State :=
  let t := s.twn
  let from_ := max t.since (max t.highSince (t.activeBeat.getD t.since))
  let wait : Int := if s.actsPrimary then 20 * uMs else 200 * uMs
  let both := s.rb TWN_STATUS_link && t.heard && decide (t.partner.state = 1)
  if s.twnSt ≠ 1 ∨ s.pinLow ∨ ¬ s.isReady 3 ∨ s.fatalSet ∨ s.now < from_ + wait ∨ (both && !s.actsPrimary) then s
  else
    let s2 := (s.twnMove 3 0).tokenTaken
    if s2.isReady 11 then s2.resync else s2

/-- The kick lapses when none is stamped by its deadline, judged at `t` (R85, R388). -/
def State.kickLapseAt (s : State) (t : Int) : State :=
  let ms := s.rf TWN_KICK_MS_ms
  if s.twnSt = 0 ∨ s.twnSt = 4 ∨ ms = 0 ∨ ¬ s.twn.beating ∨ t < s.twn.kickAt + (ms : Int) * uMs then s
  else
    let s1 := s.setTwn { s.twn with beating := false }
    if s1.twnSt = 3 then s1.twnListen 7 else s1

/-- TWIN_KICK_LAPSE (R86, R388). -/
def State.kickLapse (s : State) : State := s.kickLapseAt (s.watermark 0)

/-- TWIN_KICK (R388); one that comes after its deadline follows the lapse (R85); a frozen unit stays silent (R443). -/
def State.twnKick (s : State) (r : Req) : State :=
  if ¬ s.live then s
  else if reqIsHostOrF0 r then
    let s1 := s.kickLapseAt (s.now - 1)
    s1.setTwn { s1.twn with kickAt := s1.now, beating := true }
  else s.ignoreWrite r

/-- TWIN_HEARTBEAT_SEND (R388). -/
def State.beatSend (s : State) : State :=
  if s.twnSt = 0 ∨ s.twnSt = 4 ∨ ¬ s.live ∨ ¬ s.twn.beating ∨ s.now < s.twn.beatAt + uMs / 4 then s
  else
    let fatal := (List.range 5).foldl (fun a i => a + s.rf (fatalFld (i + 1)) * 2 ^ i) 0
    let b : Beat := ⟨s.twnSt, s.ownBound, s.rf SRV_STATUS_class, fatal, s.others, s.rb TWN_CTL_primary⟩
    if s.rb TWN_STATUS_link then (s.setTwn { s.twn with beatAt := s.now, sent := some (.beat b) }).qPass 494
    else s.setTwn { s.twn with beatAt := s.now }

/-- A partner that is ACTIVE too (R387). -/
def State.dualActive (s : State) : State :=
  let s1 := if s.rb TWN_ALARM_dual then s else (s.twnAlarm TWN_ALARM_dual).twnJournal 0x120A 4
  if s1.actsPrimary then s1 else s1.twnMove 2 5

/-- TWIN_HEARTBEAT_RECEIVE (R384, R387, R389). -/
def State.beatIn (s0 : State) (h : HbIn) : State :=
  let onLink := match h with
    | .link _ => true
    | .pin _ => false
  if s0.twnSt = 0 ∨ (onLink && !s0.rb TWN_STATUS_link) then s0
  else
    let s := (if onLink then s0.qPass 495 else s0).beatLate
    let s1 := match h with
      | .link b =>
        let s1 := s.setTwn { s.twn with lastLink := some s.now, partner := b, heard := true }
        let s2 := (s1.wf TWN_PARTNER_CLASS_state b.state).wb TWN_PARTNER_CLASS_fatal (decide (b.fatal ≠ 0))
        if s2.roleClash then s2.twnAlarm TWN_ALARM_role else s2
      | .pin _ => s.setTwn { s.twn with lastPin := some s.now }
    let s2 := if s1.twn.lost then
        ((s1.setTwn { s1.twn with lost := false }).wf TWN_ALARM_partner_lost 0).twnJournal 0x1203 (if onLink then 1 else 2) else s1
    let act : Bool := match h with
      | .link b => decide (b.state = 3)
      | .pin a => a
    let s3 := s2.hbShow
    if act then
      let s4 := s3.setTwn { s3.twn with activeBeat := some s3.now }
      if s4.twnSt = 1 then s4.twnMove 2 (Config.twnCause 1 2 % 8)
      else if s4.twnSt = 3 then s4.dualActive else s4
    else s3

/-! ## The satchel (R391 to R394) -/

/-- The KEY part: the three generations under the pair key, where their lockers can be wrapped (R393). -/
def State.satKeys (s : State) : List (Option SatKey) :=
  (List.range 3).map fun g =>
    match s.pairLocker, (s.tsv.cookies[g]?).getD none, s.locker (s.rf TSV_COOKIE_LOCKg_enc g), s.locker (s.rf TSV_COOKIE_LOCKg_dec g) with
    | some (_, pk), some id, some e, some d =>
      if e.noexport || d.noexport then none
      else some ⟨id, fitBytes 40 (Config.kwWrap pk.key e.key), fitBytes 40 (Config.kwWrap pk.key d.key)⟩
    | _, _, _, _ => none

/-- The parts of a satchel that the active unit forms from its registers (R391): SRV and TLY. R391 names their content and their length; the
places are the table's order (DESIGN CHOICE, log 71). -/
def State.satSrv (s : State) : Bytes :=
  let z := fun (v : Int) => leBytes 8 (ofSigned 64 v)
  let an := match s.srv.anchor with
    | some a => leBytes 4 1 ++ leBytes 12 (packTime a.stamp) ++ z a.base ++ z a.p0 ++ z a.b0 ++ z a.w0 ++ leBytes 4 a.hits.length
    | none => zeros 52
  let cand := s.rb SRV_STATUS_candidate
  fitBytes 128 (leBytes 1 s.mode ++ leBytes 1 (s.rf SRV_STATUS_class) ++ [0, 0] ++ leBytes 4 s.ownBound ++ z s.srv.y ++ z s.srv.a ++ z s.phase ++
    z (s.rs 64 RCL_BUILDOUT_b) ++ an ++ leBytes 4 (if cand then 1 else 0) ++ z (if cand then s.rs 64 SRV_CANDIDATE_j else 0))
def State.satTly (s : State) : Bytes :=
  fitBytes 32 (leBytes 4 (s.rf TLY_SEQ_next) ++ leBytes 12 (ofSigned 96 s.tm.total) ++ leBytes 8 (s.rf TLY_CHECKS_count))

/-- What the standby reads of the two parts. -/
def Satchel.cls (x : Satchel) : Nat := sliceNat x.srv 1 1
def Satchel.bound (x : Satchel) : Nat := sliceNat x.srv 4 4
def Satchel.tlySeq (x : Satchel) : Nat := sliceNat x.tly 0 4

/-- A slot in ten bytes; its settle time is rounded up to 1 ns. -/
def SatSlot.bytes (x : SatSlot) : Bytes :=
  leBytes 2 (x.kind % 16 + x.src % 32 * 16 + x.state % 8 * 512 + if x.disputed then 4096 else 0) ++ leBytes 2 x.q ++
  leBytes 6 ((x.settle + (uNs - 1)) / uNs).toNat
def SatSlot.ofBytes (l : Bytes) : SatSlot :=
  let w := sliceNat l 0 2
  ⟨bitsOf w 0 4, bitsOf w 4 5, bitsOf w 9 3, bitOf w 12, sliceNat l 2 2, (sliceNat l 4 6 : Int) * uNs⟩

/-- The KEY part: the identifier, the three generations, and which of them are there. -/
def satKeyBytes (id : Nat) (l : List (Option SatKey)) : Bytes :=
  let one := fun (k : Option SatKey) => match k with
    | some k => leBytes 4 k.id ++ fitBytes 40 k.enc ++ fitBytes 40 k.dec
    | none => zeros 84
  fitBytes 288 (leBytes 4 id ++ fitBytes 252 (l.map one).flatten ++ leBytes 1 (l.zipIdx.map (fun e => if e.1.isSome then 2 ^ e.2 else 0)).sum)
def satKeysOf (l : Bytes) : List (Option SatKey) :=
  (List.range 3).map (fun g =>
    if bitOf (sliceNat l 256 1) g then some ⟨sliceNat l (4 + 84 * g) 4, slice l (8 + 84 * g) 40, slice l (48 + 84 * g) 40⟩ else none)

/-- A delta entry in 132 bytes; one that was freed spells kind 0. -/
def satDelta (e : Nat × Option Sess) : Bytes :=
  leBytes 2 e.1 ++ [0, 0] ++ (match e.2 with
    | some x => x.bytes
    | none => zeros 128)

/-- The header of 64 bytes with a CRC field. -/
def Satchel.header (x : Satchel) (crc : Nat) : Bytes :=
  fitBytes 64 (leBytes 4 0x54434853 ++ leBytes 4 x.seq ++ leBytes 12 (packTime x.stamp) ++ leBytes 4 (if x.keys.isSome then 768 else 480) ++
    leBytes 4 x.delta.length ++ leBytes 4 ((if x.keys.isSome then 1 else 0) + (if x.resync then 2 else 0) + if x.fatal then 4 else 0) ++ leBytes 4 crc)

/-- The satchel after its header. -/
def Satchel.parts (x : Satchel) : Bytes :=
  fitBytes 128 x.srv ++ fitBytes 32 x.tly ++ fitBytes 256 (leBytes 4 x.rclStatus ++ (x.slots.map SatSlot.bytes).flatten) ++
  (match x.keys with
    | some l => satKeyBytes x.cookieId l
    | none => []) ++ (x.delta.map satDelta).flatten

/-- The satchel as it is sent (R391): its CRC-32C is over all of it with the CRC field 0. -/
def Satchel.bytes (x : Satchel) : Bytes := x.header (crc32c (x.header 0 ++ x.parts)) ++ x.parts

/-- Frames of at most 8,192 bytes. -/
def satFrames : Nat → Bytes → List Bytes
  | 0, _ => []
  | k + 1, l => if l = [] then [] else l.take 8192 :: satFrames k (l.drop 8192)

/-- The satchel that its frames joined spell; `none` where the magic, a length or the CRC-32C fails. -/
def Satchel.read (l : Bytes) : Option Satchel :=
  let fl := sliceNat l 28 4
  let len := if bitOf fl 0 then 768 else 480
  let n := sliceNat l 24 4
  if sliceNat l 0 4 ≠ 0x54434853 ∨ sliceNat l 20 4 ≠ len ∨ 496 < n ∨ l.length ≠ len + 132 * n ∨
     crc32c (overwrite l 32 (zeros 4)) ≠ sliceNat l 32 4 then none
  else some {
    seq := sliceNat l 4 4, stamp := unpackTime (sliceNat l 8 12), resync := bitOf fl 1, fatal := bitOf fl 2, srv := slice l 64 128, tly := slice l 192 32,
    rclStatus := sliceNat l 224 4, slots := (List.range 24).map (fun k => SatSlot.ofBytes (slice l (228 + 10 * k) 10)),
    cookieId := if bitOf fl 0 then sliceNat l 480 4 else 0, keys := if bitOf fl 0 then some (satKeysOf (slice l 480 288)) else none,
    delta := (List.range n).map (fun k => (sliceNat l (len + 132 * k) 2, Sess.ofBytes (slice l (len + 132 * k + 4) 128))) }

/-- Uses of the pair locker: one for each locker wrapped or unwrapped (R369, R393). -/
def State.pairUsed (s : State) (l : List (Option SatKey)) : State :=
  match s.pairLocker with
  | some (k, _) => (l.filter Option.isSome).foldl (fun s _ => (s.lockerUsed k).lockerUsed k) s
  | none => s

/-- One slot of the RCL part. -/
def State.satSlot (s : State) (n : Nat) : SatSlot :=
  let left : Int := match (s.slot n).settle with
    | some o => max 0 (o.start + (s.rf RCL_JUMP_SETTLE_secs : Int) * uSec - s.raw)
    | none => (s.rf RCL_JUMP_SETTLE_secs : Int) * uSec
  ⟨s.slotKind n, s.rf RCLn_CFG_src n, s.slotState n, s.rb RCLn_STATUS_disputed n, s.slotQ n, if s.slotState n = 4 then left else 0⟩

/-- At a strobe the active unit of a pair assembles and sends a satchel (R391, R392). Its number goes on where the pair's last one stood. -/
def State.satchelSend (s : State) : State :=
  if s.twnSt ≠ 3 ∨ ¬ s.isReady 11 then s
  else
    let t := s.twn
    let ch := t.changed.take 496
    let more := (t.resyncLeft.filter (fun i => decide (i ∉ ch))).take (496 - ch.length)
    let entry := fun i => (i, (s.sess i).filter (fun x => decide (x.kind = 1)))
    let left := t.resyncLeft.filter (fun i => decide (i ∉ ch) && decide (i ∉ more))
    let sent := t.resyncSent + more.length + (t.resyncLeft.filter (fun i => decide (i ∈ ch))).length
    let seq := (s.rf TWN_SATCHEL_SEQ_seq + 1) % 2 ^ 32
    let keys := if t.keyDue then some s.satKeys else none
    let sat : Satchel :=
      { seq := seq, stamp := s.now, resync := t.resyncing, fatal := s.fatalSet, srv := s.satSrv, tly := s.satTly, rclStatus := s.getReg RCL_STATUS 0,
        slots := (List.range 24).map s.satSlot, cookieId := if t.keyDue then s.rf TSV_COOKIE_ID_id else 0, keys := keys, delta := (ch ++ more).map entry }
    let frames := satFrames 16 sat.bytes
    let s0 := (frames.foldl (fun s _ => s.qPass 492) s).pairUsed (keys.getD [])
    let s1 := s0.setTwn { t with satOut := frames, rxSeq := some seq, changed := t.changed.drop 496, resyncLeft := left, resyncSent := sent, keyDue := false }
    let s2 := (s1.wf TWN_SATCHEL_SEQ_seq seq).inc TWN_SATCHEL_TX_count
    let s3 := if t.resyncing ∧ left = [] then
        (s2.setTwn { s2.twn with resyncing := false }).twnJournal 0x1208 (sent % 2 ^ 16) else s2
    s3.currentShow

/-- A satchel is refused: counted, journalled, and a resync requested (R392). -/
def State.satRefuse (s : State) (cause : Nat) : State :=
  let s1 := (s.inc TWN_SATCHEL_BAD_count).twnJournal 0x1207 cause
  if cause = 2 then s1 else (s1.wf TWN_STATUS_current 0).setTwn { s1.twn with sent := some .resyncReq }

/-- The settle that a SUSPECT slot of the partner hands on (R394). -/
def State.satSuspect (s : State) (n : Nat) (x : SatSlot) : State :=
  if x.state = 4 ∧ s.slotState n = 3 ∧ x.kind = s.slotKind n ∧ x.src = s.rf RCLn_CFG_src n then
    let start := s.raw + x.settle - (s.rf RCL_JUMP_SETTLE_secs : Int) * uSec
    let d := match (s.slot n).track with
      | q :: _ => s.settleOfs q.1 q.2
      | [] => 0
    (s.setSlot n { s.slot n with settle := some ⟨start, d, d, s.ownBound⟩ }).slotMove n 4 1
  else s

/-- A cookie generation from the satchel into its lockers (R393). -/
def State.satKey (s : State) (g : Nat) (k : SatKey) : State :=
  match s.pairLocker with
  | some (_, pk) =>
    match Config.kwUnwrap pk.key k.enc, Config.kwUnwrap pk.key k.dec with
    | some e, some d =>
      let put := fun (s : State) (n : Nat) (key : Bytes) => match s.locker n with
        | some x => s.setKey { s.key with lockers := tabSet n { x with key := fitBytes 32 key } s.key.lockers }
        | none => s
      let s1 := put (put s (s.rf TSV_COOKIE_LOCKg_enc g) e) (s.rf TSV_COOKIE_LOCKg_dec g) d
      s1.setTsv { s1.tsv with cookies := s1.tsv.cookies.set! g (some k.id) }
    | _, _ => s
  | none => s

/-- One entry of the delta (R392): placed at its index where that is free or holds an entry carried earlier that stands for no other index, else
at the lowest free one; the Bool says that none is free. -/
def State.satEntry (s : State) (i : Nat) (e : Option Sess) : State × Bool :=
  let at_ := tabGet none i (s.twn.map.map (fun e => (e.1, some e.2)))
  match e, at_ with
  | none, some j => (((s.freeSess j)).setTwn { (s.freeSess j).twn with map := s.twn.map.filter (fun e => decide (e.1 ≠ i)) }, false)
  | none, none => (s, false)
  | some x, some j => (s.putSess j x, false)
  | some x, none =>
    let mine : Bool := match s.sess i with
      | none => true
      | some y => decide (y.kind = 1) && !s.twn.map.any (fun e => decide (e.2 = i))
    let j := if mine ∧ i < 16384 then i else lowFree 0 s.tsv.sess
    if 16384 ≤ j then (s, true)
    else
      let s1 := s.putSess j x
      (s1.setTwn { s1.twn with map := tabSet i j s1.twn.map }, false)

/-- A received satchel, where its bytes spell one, is checked and applied (R390, R392 to R394). A change waits at the active unit where the delta is
full (DEDUCED, log 71). -/
def State.satchelTake (s0 : State) (r : Option Satchel) : State :=
  let s := s0.qPass 493
  if s0.twnSt ≠ 2 ∨ ¬ s0.rb TWN_STATUS_link then s0
  else if ¬ s.rb KEY_STATUS_pair_ok then s.satRefuse 2
  else match r with
    | none => (s.setTwn { s.twn with rxSeq := s.twn.rxSeq.map (fun q => (q + 1) % 2 ^ 32) }).satRefuse 0
    | some x =>
      let s1 := s.setTwn { s.twn with rxSeq := some x.seq }
      if s.twn.rxSeq.any (fun q => decide (x.seq ≠ (q + 1) % 2 ^ 32)) then s1.satRefuse 1
      else
        let s1 := ((s1.wf TWN_PARTNER_BOUND_ps x.bound).wf TWN_PARTNER_CLASS_class x.cls).setTwn { s1.twn with tlySeq := x.tlySeq }
        let s2 := if x.fatal then s1.wf TWN_PARTNER_CLASS_fatal 1 else s1
        let s3 := (x.slots.zipIdx.take 23).foldl (fun s e => s.satSuspect e.2 e.1) s2
        let s4 := match x.keys with
          | some l => (((l.zipIdx.take 3).foldl (fun s e => match e.1 with
              | some k => s.satKey e.2 k
              | none => s) s3).wf TSV_COOKIE_ID_id x.cookieId).pairUsed l
          | none => s3
        let r := x.delta.foldl (fun (p : State × Bool) e =>
          let q := p.1.satEntry e.1 e.2
          (q.1, p.2 || q.2)) (s4, false)
        let s5 := ((r.1.wf TWN_SATCHEL_SEQ_seq x.seq).inc TWN_SATCHEL_RX_count).wb TWN_STATUS_current (!x.resync && decide (x.delta.length < 496))
        if r.2 then s5.satRefuse 3 else s5

/-- SATCHEL_APPLY, with the bytes of the satchel's frames. -/
def State.satchelApply (s : State) (l : Bytes) : State := s.satchelTake (Satchel.read l)

/-- TWIN_RESYNC (R392): a write on the active unit, or the standby's request. -/
def State.twnResync (s : State) (_ : TwnBy) : State := if s.twnSt = 3 ∧ s.isReady 11 then s.resync else s

/-! ## The comparison (R395 to R397) -/

def State.cmpCount (s : State) : Nat := max 1 (s.rf TWN_CMP_CFG_count)

/-- δ of a result of the PPS unit, in units: less the delay and the whole second. -/
def State.cmpDelta (s : State) (stamp : Int) : Int :=
  let x := stamp - psToUnits (s.rs 32 TWN_CMP_DELAY_ps)
  x - (x + uSec / 2) / uSec * uSec

/-- The frequency difference of the clock unit's results of a second, engine minus partner, in R10 units (log 31). -/
def State.cmpFreq (s : State) : Option Int :=
  let l := (s.unit s.cmpClk).due
  match l.head?, l.getLast? with
  | some a, some b =>
    if b.1 ≤ a.1 then none
    else
      let p := s.outPeriod (s.rf TWN_CMP_CFG_clk_chan)
      let d := b.2 - a.2
      let e := d - (d + p / 2) / p * p
      some (e * (65536 * dcoOne) / (b.1 - a.1))
  | _, _ => none

/-- ppt of a frequency in R10 units, as a magnitude compared with a window. -/
def freqOver (f : Int) (ppt : Nat) : Bool := decide ((ppt : Int) * 65536 < (f.natAbs : Int))

/-- A measured δ as a feed of the partner's slot, which a fatal cause refuses (R51, R234, R395). -/
def State.cmpFeed (s : State) (stamp : Int) : State :=
  if s.fatalSet then s.inc SYS_FATAL_REFUSED_count
  else s.qSend 393 0 0x1200 ⟨s.domNow 0, .feed ⟨s.rf TWN_CTL_ref_slot, s.cmpDelta stamp, stamp, s.rf TWN_CMP_UNC_ps⟩⟩

/-- TWIN_COMPARE_SECOND (R395, R396): the results of the last second. -/
def State.compare (s : State) : State :=
  if s.twnSt ≠ 2 then s
  else
    let pp := (s.unit s.cmpPps).due
    let f := s.cmpFreq
    let s1 := s.setUnit s.cmpPps { s.unit s.cmpPps with due := [] }
    let s2 := s1.setUnit s.cmpClk { s1.unit s.cmpClk with due := [] }
    let s3 := match f with
      | some y => s2.wf TWN_DFREQ_f (ofSigned 48 y)
      | none => s2
    let d := pp.getLast?.map (fun r => (r.1, s.cmpDelta r.1))
    let s4 := match d with
      | some (_, v) => s3.ws TWN_DELTA_d v
      | none => s3
    let s5 := if s4.rb TWN_CTL_bound_feed then pp.foldl (fun s r => s.cmpFeed r.1) s4 else s4
    let phase : Bool := d.any (fun r => decide ((s.rf TWN_CMP_WIN_ps : Int) * 8192 < (r.2.natAbs : Int) * 125))
    let freq : Bool := f.any (fun y => freqOver y (s.rf TWN_CMP_FWIN_ppt))
    let miss := d.isNone
    if phase || freq || miss then
      let t : TwnState := { s5.twn with devRun := s5.twn.devRun + 1, missRun := s5.twn.missRun + (if miss then 1 else 0), goodRun := 0 }
      let s6 := s5.setTwn t
      if t.devRun = s.cmpCount then
        let kind : Nat := if t.missRun = t.devRun then 2 else if phase || !freq then 0 else 1
        let s7 := (s6.inc TWN_DEVIATIONS_count).twnJournal 0x1204 (kind + ofSigned 32 (satSigned 32 (unitsToPs (s6.rs 64 TWN_DELTA_d))) * 2 ^ 32)
        if kind = 2 then s7.twnAlarm TWN_ALARM_cmp_missing else s7.setTwn { s7.twn with arb := some kind }
      else s6
    else s5.setTwn { s5.twn with devRun := 0, missRun := 0, goodRun := s5.twn.goodRun + 1 }

/-- At a strobe: a persistent deviation is arbitrated (R397). -/
def State.arbitrate (s : State) : State :=
  match s.twn.arb with
  | some _ =>
    let s1 := s.setTwn { s.twn with arb := none }
    let pb := s1.rf TWN_PARTNER_BOUND_ps
    if s1.twnSt ≠ 2 then s1
    else if s1.ownBound < pb then
      (s1.setTwn { s1.twn with sent := some .yieldReq, yieldAt := some s1.now }).twnJournal 0x1205 (1 + pb * 2 ^ 32)
    else (s1.twnAlarm TWN_ALARM_deviation).twnJournal 0x1205 (pb * 2 ^ 32)
  | none => s

/-- At a strobe: the registers of the slot that the partner feeds (R395). -/
def State.twnSlotRegs (s : State) : State :=
  if s.twnSt = 2 ∧ s.rb TWN_CTL_bound_feed ∧ s.rf TWN_CTL_ref_slot < 24 then
    let n := s.rf TWN_CTL_ref_slot
    let b := s.rf TWN_PARTNER_BOUND_ps
    let adv := if b = 0xFFFFFFFF then b else min 0xFFFFFFFF (b + 25 + s.rf TWN_CMP_UNC_ps)
    let c := s.rf TWN_PARTNER_CLASS_class
    let q := if c = 1 ∨ c = 2 then 7 * 256 + accCode adv else 0xFFFF
    let s1 := (s.wf RCLn_ADV_BOUND_ps adv n).wf RCLn_QFIX_q q n
    if s.rf RCLn_QFIX_q n = q then s1 else s1.qChanged s
  else s

/-- TWIN_YIELD_REQUEST_RECEIVE (R397). -/
def State.yieldReqIn (s : State) : State :=
  if s.twnSt ≠ 3 ∨ s.fatalSet then s
  else
    let s1 := s.twnMove 2 2
    s1.setTwn { s1.twn with sent := some .yield_ }

/-- TWIN_YIELD_TIMEOUT (R397). -/
def State.yieldTimeout (s : State) : State :=
  match s.twn.yieldAt with
  | some t => if s.beatMark < t + 10 * uMs then s else (s.setTwn { s.twn with yieldAt := none }).twnAlarm TWN_ALARM_yield_timeout
  | none => s

/-! ## Swaps (R398 to R401) -/

/-- Gated output ports with cal_valid, and lanes of the time service with link (R399). -/
def State.swapPorts (s : State) : List Nat :=
  (List.range 32).filter (fun n => decide (1 ≤ s.tioFunc n) && decide (s.tioFunc n ≤ 4) && s.rb TIOn_STATUS_cal_valid n)
def State.swapLanes (s : State) : List Nat :=
  (List.range 32).filter (fun n => (s.rb TSV_LANEn_ptp n || s.rb TSV_LANEn_ntp n) && s.linkUp n)

/-- The check of R399 starts; `new` on the unit that took the token. -/
def State.checkStart (s : State) (new : Bool) : State :=
  let ms := s.rf TWN_SWAP_CHECK_ms
  s.setTwn { s.twn with checkEnd := if ms = 0 then none else some (s.now + (ms : Int) * uMs), checkNew := new,
                        checkPorts := s.swapPorts, checkLanes := s.swapLanes }

/-- The refusal of a swap: 0 none, or the result of R403. `cmpOk` is what the standby knows of the comparisons. -/
def State.swapRefusal (s : State) (cmpOk : Bool) : Nat :=
  if ¬ s.isReady 11 ∨ s.fatalSet ∨ s.rb TWN_PARTNER_CLASS_fatal ∨ (s.twnSt ≠ 2 ∧ s.twnSt ≠ 3) then 1
  else if ¬ s.rb TWN_STATUS_current then 2
  else if ¬ (if s.twnSt = 2 then decide (s.cmpCount ≤ s.twn.goodRun) else cmpOk) then 3
  else 0

/-- The handover is pending (R398). -/
def State.swapSchedule (s : State) (at_ : Int) (cause : Nat) : State :=
  ((s.setTwn { s.twn with swapAt := some at_, swapCause := cause }).wf TWN_STATUS_swap_pending 1).twnJournal 0x1209 0

/-- The first spine second at least 100 ms away, and the offset. -/
def State.swapTime (s : State) : Int :=
  let ofs := if s.rf TWN_SWAP_OFS_ms > 999 then 500 else s.rf TWN_SWAP_OFS_ms
  gridFrom 0 uSec (s.now + 100 * uMs) + (ofs : Int) * uMs

/-- A pending swap ends. -/
def State.swapClear (s : State) : State := (s.setTwn { s.twn with swapAt := none }).wf TWN_STATUS_swap_pending 0

/-- A swap requested on this unit (R398, R401). -/
def State.swapRequest (s : State) (cause : Nat) (cmpOk : Bool) : State :=
  let why := s.swapRefusal cmpOk
  if why ≠ 0 then s.wf TWN_RESULT_result why
  else if s.twn.swapAt.isSome then s.wf TWN_RESULT_result 4
  else ((s.wf TWN_RESULT_result 0).swapSchedule s.swapTime cause).setTwn
    { ((s.wf TWN_RESULT_result 0).swapSchedule s.swapTime cause).twn with sent := some (.swapReq s.swapTime (decide (cause = 4))) }

/-- TWIN_SWAP (R398): a command on this unit, or the partner's accepted request. -/
def State.twnSwap (s : State) (b : TwnBy) (cmpOk : Bool) : State :=
  match b with
  | .own _ => s.swapRequest 3 cmpOk
  | .partner revert t => if s.twn.swapAt.isSome ∨ s.twnSt = 0 then s else s.swapSchedule t (if revert then 4 else 3)

/-- TWIN_SWAP_ABORT (R398): the command until 1 ms before the swap's time, or the partner's message, at any time before the swap. -/
def State.swapAbort (s : State) (b : TwnBy) : State :=
  let own : Bool := match b with
    | .own _ => true
    | .partner _ _ => false
  match s.twn.swapAt with
  | some t =>
    if ¬ own ∨ s.now < t - uMs then
      let s1 := s.swapClear.twnJournal 0x1209 2
      if own then (s1.wf TWN_RESULT_result 0).setTwn { s1.twn with sent := some .swapAbort } else s1
    else s.wf TWN_RESULT_result 1
  | none => if own then s.wf TWN_RESULT_result 1 else s

/-- TWIN_SWAP_HANDOVER (R398, R405): the time of a pending swap. -/
def State.swapHandover (s : State) (cmpOk : Bool) : State :=
  match s.twn.swapAt with
  | some t =>
    if s.now < t then s
    else if s.swapRefusal cmpOk ≠ 0 then (s.swapClear.setTwn { s.swapClear.twn with sent := some .swapAbort }).twnJournal 0x1209 2
    else if s.twnSt = 3 then
      let s1 := s.swapClear.twnMove 2 s.twn.swapCause
      ((s1.setTwn { s1.twn with sent := some .yield_ }).checkStart false).twnJournal 0x1209 1
    else s
  | none => s

/-- A YIELD later than 10 ms after its request finds the timeout declared (R85, R397). -/
def State.yieldLate (s : State) : State :=
  if s.twn.yieldAt.any (fun t => decide (t + 10 * uMs < s.now)) then s.twnAlarm TWN_ALARM_yield_timeout else s

/-- TWIN_YIELD_RECEIVE (R384, R397 to R399): a swap's from 1 ms before its time on, an earlier one that of a request. -/
def State.yieldIn (s0 : State) : State :=
  if s0.twnSt ≠ 2 then s0
  else
    let s := s0.yieldLate.setTwn { s0.yieldLate.twn with yieldAt := none }
    let back := s.twn.checkEnd.any (fun t => decide (s.now ≤ t)) && !s.twn.checkNew
    if back then
      let s1 := (s.setTwn { s.twn with checkEnd := none }).takeover 3
      (s1.twnAlarm TWN_ALARM_swap_back).twnJournal 0x1209 3
    else if s.twn.swapAt.any (fun t => decide (t - uMs ≤ s.now)) then
      (((s.swapClear.takeover s.twn.swapCause).checkStart true).twnJournal 0x1209 1)
    else s.takeover 2

/-- TWIN_SWAP_BACK (R399). -/
def State.swapBack (s : State) : State :=
  let lost := s.twn.checkPorts.any (fun n => !s.rb TIOn_STATUS_cal_valid n) || s.twn.checkLanes.any (fun n => !s.linkUp n)
  if s.twnSt = 3 ∧ s.twn.checkNew ∧ s.twn.checkEnd.any (fun t => decide (s.now ≤ t)) ∧ lost then
    let s1 := (s.setTwn { s.twn with checkEnd := none, sent := some .yield_ }).twnMove 2 3
    (s1.twnAlarm TWN_ALARM_swap_back).twnJournal 0x1209 3
  else s

/-- The conditions of R401 but its time. -/
def State.revertOk (s : State) : Bool :=
  s.rb TWN_CTL_revert && s.actsPrimary && decide (s.twnSt = 2) && s.isReady 11 && s.rb TWN_STATUS_current &&
  decide (s.cmpCount ≤ s.twn.goodRun) && decide (s.ownBound ≤ s.rf TWN_PARTNER_BOUND_ps)

/-- TWIN_REVERT_WTR_EXPIRE (R401). -/
def State.revertExpire (s : State) : State :=
  match s.twn.revertFrom with
  | some t =>
    if s.revertOk ∧ s.twn.swapAt = none ∧ t + (s.rf TWN_WTR_secs : Int) * uSec ≤ s.now then s.swapRequest 4 true else s
  | none => s

/-- The twin's part of a millisecond strobe: satchel, arbitration, slot registers, the revert time, ports under check. -/
def State.twnStrobe (s : State) : State :=
  let s1 := ((s.satchelSend.arbitrate).twnSlotRegs).hbShow
  let s2 := s1.setTwn { s1.twn with revertFrom := if s1.revertOk then some (s1.twn.revertFrom.getD s1.now) else none }
  if s2.twn.checkEnd.any (fun t => decide (s2.now ≤ t)) then
    s2.setTwn { s2.twn with checkPorts := s2.twn.checkPorts ++ s2.swapPorts.filter (fun n => decide (n ∉ s2.twn.checkPorts)),
                            checkLanes := s2.twn.checkLanes ++ s2.swapLanes.filter (fun n => decide (n ∉ s2.twn.checkLanes)) }
  else s2

/-! ## Meanings -/

def execTwinConfigWrite (_ : Req) (v : BitVec 32) (s : State) : Result := .next (s.whenUp (s.twnConfig v.toNat))
def execTwinLinkUp (p : PairMsg) (s : State) : Result := .next (s.whenUp (s.twnLinkUp p))
def execTwinLinkDown (s : State) : Result := .next (s.whenUp s.twnLinkDown)
def execTwinClaim (s : State) : Result := .next (s.whenUp s.twnClaim)
def execTwinHeartbeatSend (s : State) : Result := .next (s.whenUp s.beatSend)
def execTwinHeartbeatReceive (h : HbIn) (s : State) : Result := .next (s.whenUp (s.beatIn h))
def execTwinPartnerLost (s : State) : Result := .next (s.whenUp s.twnLost)
def execTwinFaultReceive (s : State) : Result := .next (s.whenUp s.twnFaultIn)
def execTwinYieldRequestReceive (s : State) : Result := .next (s.whenUp s.yieldReqIn)
def execTwinYieldReceive (s : State) : Result := .next (s.whenUp s.yieldIn)
def execTwinKick (r : Req) (s : State) : Result := .next (s.whenUp (s.twnKick r))
def execTwinKickLapse (s : State) : Result := .next (s.whenUp s.kickLapse)
def execSatchelApply (l : Bytes) (s : State) : Result := .next (s.whenUp (s.satchelApply l))
def execTwinCompareSecond (s : State) : Result := .next (s.whenUp s.compare)
def execTwinYieldTimeout (s : State) : Result := .next (s.whenUp s.yieldTimeout)
def execTwinSwap (b : TwnBy) (cmpOk : Bool) (s : State) : Result := .next (s.whenUp (s.twnSwap b cmpOk))
def execTwinSwapAbort (b : TwnBy) (s : State) : Result := .next (s.whenUp (s.swapAbort b))
def execTwinResync (b : TwnBy) (s : State) : Result := .next (s.whenUp (s.twnResync b))
def execTwinSwapHandover (cmpOk : Bool) (s : State) : Result := .next (s.whenUp (s.swapHandover cmpOk))
def execTwinSwapBack (s : State) : Result := .next (s.whenUp s.swapBack)
def execTwinRevertWtrExpire (s : State) : Result := .next (s.whenUp s.revertExpire)
def execTwnActiveNChange (low : Bool) (s : State) : Result :=
  .next (if s.supplied then s.twnPin low else s.setTwn { s.twn with partnerLow := low })
def execKeySlotWriteComplete (ok : Bool) (s : State) : Result := .next (s.whenUp (s.keySlotComplete ok))

end Sys2Proof.Machine
end

