-- ==== Sys2Proof/Machine/Memory.lean ====
section
/-!
DEFINITION. The memory block's own commands (R410 to R416): alias writes, doorbells and the background test.
-/

namespace Sys2Proof.Machine
open Sys2Proof Reg

/-- The port of R406 that carries a requester's accesses. -/
def portOf : Req → Nat
  | .frond f => 2 + f.val
  | _ => 18

/-- The place of a requester among the latches, stages and returned values (R457). -/
def reqIx : Req → Fin 18
  | .frond f => ⟨f.val, by omega⟩
  | .spi => 17
  | _ => 16

def State.setRead (s : State) (q : Req) (v : Nat) : State := { s with acc := { s.acc with read := s.acc.read.set (reqIx q) v } }

/-- Alias offsets that exist (R411). -/
def aliasOk (x : Nat) : Bool := inCommons x || inMailbox x

/-- One byte set or cleared. -/
def aliasByte (clear : Bool) (m v : Byte) : Byte := if clear then m &&& ~~~v else m ||| v

/-- One 64-bit word of an alias write: bytes from `a`, none past the word (R410). -/
def State.aliasWord (s : State) (port : Nat) (clear : Bool) (a : Nat) (vs : List Byte) : State :=
  if s.bankWakes a then s.hold (.alias_ port clear a vs)
  else if inCommons a ∧ s.bank (bankOf a) ≠ 0 then s.inc MEM_OFF_ACCESS_count
  else if inMailbox a ∧ ¬ s.pdServed (2 + mailboxOf a) then s.inc PWR_OFF_ACCESS_count
  else
    let r := (if inCommons a then s.shared 1 1 else s).eccRead port a vs.length
    if r.2 then r.1
    else (r.1.eccWrite port a vs.length).rawStore a ((r.1.bytesAt a vs.length).zipWith (aliasByte clear) vs)

/-- The words of an alias write, each on its own. -/
def State.aliasWords (s : State) (port : Nat) (clear : Bool) : Nat → Nat → List Byte → State
  | 0, _, _ => s
  | k + 1, a, vs =>
    if vs = [] then s
    else
      let n := 8 - a % 8
      (s.aliasWord port clear a (vs.take n)).aliasWords port clear k (a + n) (vs.drop n)

/-- An access that waited for a bank (R417). -/
def State.heldGo (s : State) (x : Held) : State :=
  match x with
  | .store port a bs => s.commonsWrite port a bs
  | .load q port a n =>
    if s.waits a n then s.hold x
    else
      let r := s.commonsRead port a n
      r.1.setRead q (if r.2.2 then 2 ^ (8 * n) - 1 else ofLeBytes r.2.1)
  | .alias_ port clear a vs => s.aliasWord port clear a vs

/-- A bank is ON: the accesses that waited for it follow, in their order (R417, R419). -/
def State.heldAll (s : State) : State :=
  s.memx.held.foldl State.heldGo { s with memx := { s.memx with held := [] } }

/-- The requester is a Frond of another cluster than the mailbox at `x`: its store raises BUS, and there is no alias write (R412). -/
def foreignMailbox (r : Req) (x : Nat) : Bool :=
  match r with
  | .frond f => inMailbox x && decide (mailboxOf x ≠ f.val / 4)
  | _ => false

/-- ALIAS_WRITE (R410 to R412): bytes that are not enabled are 0 in `vs`; a write that leaves the valid offsets is discarded whole. -/
def State.aliasWrite (s : State) (r : Req) (clear : Bool) (x : Nat) (vs : List Byte) : State :=
  if foreignMailbox r x then s
  else if aliasOk x && aliasOk (x + vs.length - 1) then s.aliasWords (portOf r) clear (vs.length + 1) x vs else s.inc MEM_ALIAS_ERR_count

/-- The `pending` bit of a doorbell, and its source (R413). -/
def bellFld (f2h : Bool) : Fld := if f2h then MEM_MBc_F2H_pending else MEM_MBc_H2F_pending
def State.doorbellSet (s : State) (c : Nat) (f2h : Bool) : State :=
  (s.wf (bellFld f2h) 1 c).assertSrc ((if f2h then 96 else 92) + c) (s.domNow 0)
def State.doorbellClear (s : State) (c : Nat) (f2h : Bool) : State := s.wf (bellFld f2h) 0 c

/-- Regions of the background test (R415). -/
def testRegions : Nat := 131584
def testBase (r : Nat) : Nat := if r < 131072 then 0x800000 + 64 * r else 0xC8000 + 64 * (r - 131072)

/-- The region is in a bank, or a mailbox, that is ON. -/
def State.testable (s : State) (r : Nat) : Bool :=
  if r < 131072 then decide (s.bank (r / 4096) = 0) else s.pdOn (2 + (r - 131072) / 128)

/-- The next region to test from `r`: whole banks, and mailboxes, are passed over. -/
def State.testNext (s : State) : Nat → Nat → Option Nat
  | 0, _ => none
  | k + 1, r =>
    if testRegions ≤ r then none
    else if s.testable r then some r
    else s.testNext k (if r < 131072 then (r / 4096 + 1) * 4096 else 131072 + ((r - 131072) / 128 + 1) * 128)

/-- A region that failed March C− at its write-back (R416). A mailbox lies in no bank and has no spare (log 32). -/
def State.testFail (s : State) (r : Nat) : State :=
  let s1 := s.inc MEM_TEST_FAIL_count
  if 131072 ≤ r then s1
  else
    let b := r / 4096
    let used := tabGet 0 b s1.memx.spares
    if used < 8 then
      let s2 : State := { s1 with memx := { s1.memx with spares := tabSet b (used + 1) s1.memx.spares } }
      (s2.inc MEM_SPARE_USED_count).journal 0 0x1300 0x1305 (r + b * 2 ^ 18 + (7 - used) * 2 ^ 23)
    else ((s1.setBit32 MEM_NOSPARE_bank b true).journal 0 0x1300 0x1306 b).assertSrc 34 (s1.domNow 0)

/-- MEM_TEST_REGION (R415, R416): the test of one region that is due; `fails` is what March C− finds in its cells. -/
def State.memTest (s : State) (fails : Bool) : State :=
  let ms : Int := (max 1 (s.rf MEM_TEST_CTL_ms) : Nat)
  if ¬ s.rb MEM_TEST_CTL_en ∨ s.now < s.memx.testAt + ms * uMs then s
  else
    let s0 : State := { s with memx := { s.memx with testAt := s.now } }
    let here := s0.testNext 40 (s0.rf MEM_TEST_CURSOR_region)
    let s1 := if here.isNone then s0.inc MEM_TEST_PASSES_count else s0
    match here.or (s0.testNext 40 0) with
    | none => s1
    | some r =>
      let e := s1.eccRead 19 (testBase r) 64
      let s2 := if e.2 then e.1.inc MEM_TEST_SKIP_count else if fails then e.1.testFail r else e.1
      if r + 1 = testRegions then (s2.wf MEM_TEST_CURSOR_region 0).inc MEM_TEST_PASSES_count else s2.wf MEM_TEST_CURSOR_region (r + 1)

/-! ## Meanings -/

def execAliasWrite (r : Req) (clear : Bool) (x : BitVec 24) (vs : List (BitVec 8)) (s : State) : Result :=
  .next (s.whenUp (if s.onBus r then s.aliasWrite r clear x.toNat vs else s))
def execDoorbellSet (_ : Req) (c : Fin 4) (f2h : Bool) (s : State) : Result := .next (s.whenUp (s.doorbellSet c.val f2h))
def execDoorbellClear (_ : Req) (c : Fin 4) (f2h : Bool) (s : State) : Result := .next (s.whenUp (s.doorbellClear c.val f2h))
def execMemTestRegion (fails : Bool) (s : State) : Result := .next (s.whenUp (s.memTest fails))

end Sys2Proof.Machine
end

