-- ==== Sys2Proof/Machine/FrondCtl.lean ====
section
/-!
DEFINITION. Fronds as a whole: their run states, entry to a handler (R123 to R126, R137), images and control (R141 to R148).
-/

namespace Sys2Proof.Machine
open Sys2Proof Reg

/-! ## Run states -/

/-- 0 RUN, 1 HALTED, 2 STOPPED, 3 FAULT (R142). -/
def State.frdState (s : State) (f : Fin 16) : Nat := s.rf FRD_STATUSn_state f.val

/-- The power domain of a Frond's cluster (R422). -/
def clusterDom (f : Fin 16) : Nat := 2 + f.val / 4

/-- The Frond executes: RUN, its cluster ON, and not frozen (R423). -/
def State.frdRuns (s : State) (f : Fin 16) : Bool := decide (s.frdState f = 0) && !(s.frond f).frozen && s.pdOn (clusterDom f)

/-- After the items of a journal queue, a header waits for its payload; `h`: one waits before them (R139). -/
def headerWaits (h : Bool) (l : List QItem) : Bool :=
  l.foldl (fun h x => !h && (match x.data with | .word n => headerItem n | _ => false)) h

/-- The newest item of a queue taken out by the engine. -/
def Queue.dropLast (q : Queue) : Queue :=
  { q with items := q.items.dropLast, vis := min q.vis (q.items.length - 1), q := (q.q + 1) % 2 ^ 32 }

/-- A journal header left without its payload, taken already or still in the queue, is dropped and counted (R139). -/
def State.dropHeader (s : State) (f : Fin 16) : State :=
  let q := s.queue (256 + f.val)
  if ¬ headerWaits (s.frond f).jhdr.isSome q.items then s
  else
    let s1 := s.inc JNL_FW_REJECT_count
    if q.items = [] then s1.setFrond f { s1.frond f with jhdr := none } else s1.setQueue (256 + f.val) q.dropLast

/-- A stop of F0: the Prefect no longer runs (R42). The time service, which needed it to become ready, goes on (R4, R44, R126, R148). -/
def State.prefectStop (s : State) (f : Fin 16) : State := if f = 0 then s.ready 6 false else s

/-- A TSTEP of the Frond has yet to take effect: its g[d] is not written (R120, R490). -/
def State.stepOut (s : State) (f : Fin 16) : Bool := s.tm.steps.any (fun c => decide (c.frond = f.val))

/-- A register that such a TSTEP writes (R127, R490). -/
def State.stepWrites (s : State) (f : Fin 16) (r : BitVec 5) : Bool :=
  decide (r ≠ 0) && s.tm.steps.any (fun c => decide (c.frond = f.val) && decide (BitVec.ofNat 5 c.dreg = r))

/-- The registers of a Frond start afresh: a TSTEP still on its way writes none of them. -/
def State.stepForget (s : State) (f : Fin 16) : State :=
  { s with tm := { s.tm with steps := s.tm.steps.map (fun c => if c.frond = f.val then { c with dreg := 0 } else c) } }

/-- The Frond stops at the boundary; a blocking wait is abandoned (R143). -/
def State.frdStop (s : State) (f : Fin 16) (st : Nat) : State :=
  let s1 := s.dropHeader f
  ((s1.setFrond f { s1.frond f with wait := .none }).wf FRD_STATUSn_state st f.val).prefectStop f

/-- Control words, registers and the branch predictor reset, and the Frond runs from `entry` (R129, R143, R146). A header that the engine has
taken keeps its payload, which still waits in the journal queue (R139). -/
def State.frdStart (s : State) (f : Fin 16) (entry : Nat) : State :=
  let s1 := (s.dropHeader f).stepForget f
  let x := s1.frond f
  (s1.setFrond f { Frond.fresh f.val entry x.evtPend x.lineStamp x.lineObs x.frozen with jhdr := x.jhdr }).wf FRD_STATUSn_state 0 f.val

/-! ## Entry to a handler (R123 to R126) -/

/-- Steps 1 to 5 of R125 for a code, with the resume address, line, trap immediate, fault address and table offset. REASON.trap is 0 after an
entry that is no TRAP (DESIGN CHOICE, log 59). -/
def Frond.enter (x : Frond) (code line trap fault ofs : Nat) (resume : BitVec 64) : Frond :=
  { x with retpc := resume, retMode := x.mode, retIe := x.ie, t7saved := false, code := BitVec.ofNat 8 code, line := BitVec.ofNat 6 line,
           trap := BitVec.ofNat 16 trap, faultAddr := BitVec.ofNat 64 fault, mode := true, ie := false, inh := true,
           pc := BitVec.ofNat 64 (frdBase + x.htable.toNat * 2048 + ofs), wait := .none }

/-- An exception of a Frond: entry, or a double fault while inh = 1 (R125, R126). -/
def State.raiseExc (s : State) (f : Fin 16) (code fault trap : Nat) (resume : BitVec 64) : State :=
  let x := s.frond f
  if x.inh then
    ((s.frdStop f 3).journal 0 (0x1500 + f.val) 0x1501 (code + f.val * 256)).assertSrc (64 + f.val) (s.domNow 0)
  else
    let s1 := s.perf f 0x0E 1
    s1.setFrond f ((s1.frond f).enter code 0 trap fault (0x20 * code) resume)

/-- The lowest line that is pending and enabled. -/
def Frond.nextLine (x : Frond) : Option (Fin 64) := (List.finRange 64).find? (fun l => x.evtPend.getLsbD l.val && x.evtEn.getLsbD l.val)

/-- Event 0x0D of R151, in the mode `m` that was interrupted: an assertion of line 63 that it brings follows the observation (R137). -/
def State.entryCount (s : State) (f : Fin 16) (m : Bool) : State :=
  let s1 := (s.setFrond f { s.frond f with mode := m }).perf f 0x0D 1
  s1.setFrond f { s1.frond f with mode := true }

/-- INTERRUPT_ENTRY (R124, R125, R137): at a boundary, in HALT, or in a blocking wait, once a TSTEP on its way has taken effect. -/
def State.interrupt (s : State) (f : Fin 16) : State :=
  let x := s.frond f
  let awake := decide (s.frdState f ≤ 1) && !x.frozen && s.pdOn (clusterDom f)
  match x.nextLine with
  | some l =>
    if awake && x.ie && !x.inh && !s.stepOut f then
      let y := (x.enter 0x80 l.val 0 0 (0x400 + 0x10 * l.val) x.pc).observe (BitVec.ofNat 64 (2 ^ l.val))
      let s1 := s.setFrond f { y with t7saved := true, t7save := y.t[7], t := y.t.set 7 (BitVec.ofNat 96 (packTime x.lineStamp[l])) }
      (s1.entryCount f x.mode).wf FRD_STATUSn_state 0 f.val
    else s
  | none => s

/-! ## Images (R144, R145, R358) -/

/-- The header of an image: it obeys R144 but for its place in memory. -/
def headerOk (h : Bytes) : Bool :=
  let ilen := sliceNat h 8 4
  let dlen := sliceNat h 12 4
  let entry := sliceNat h 16 4
  decide (sliceNat h 0 4 = 0x5A464E59) && decide (sliceNat h 4 2 = 1) && decide (ilen % 4 = 0) && decide (4 ≤ ilen) && decide (ilen ≤ 65536) &&
  decide (dlen ≤ 65536) && decide (entry % 4 = 0) && decide (entry < ilen) && decide (sliceNat h 24 4 < 16) && decide (sliceNat h 28 4 < 2) &&
  decide (slice h 80 176 = zeros 176)

/-- Bytes of the image that a header announces; 256 where it does not hold. -/
def imageLen (h : Bytes) : Nat := if headerOk h then 256 + sliceNat h 8 4 + sliceNat h 12 4 + 96 else 256

/-- The outcome of the checks of R145: 0 OK, 2 BADSIG, 3 BADHDR, 4 MASK, and 9 where the owner has no key. -/
def checkImage (keyOf : Nat → Option Bytes) (f : Nat) (img : Bytes) : Nat :=
  let ilen := sliceNat img 8 4
  let dlen := sliceNat img 12 4
  if ¬ headerOk img ∨ img.length ≠ imageLen img then 3
  else if ¬ bitOf (sliceNat img 6 2) f ∨ (bitOf (sliceNat img 28 4) 0 ≠ decide (f = 0)) then 4
  else
    let body := slice img 256 (ilen + dlen)
    match keyOf (sliceNat img 24 4) with
    | none => 9
    | some q =>
      if slice img 32 48 ≠ fitBytes 48 (Config.sha384 body) then 2
      else if ¬ Config.ecdsaVerify q (Config.sha384 (slice img 0 (256 + ilen + dlen))) (slice img (256 + ilen + dlen) 96) then 2
      else 0

/-- An image that passed, as it waits in the staging buffer; its measurement is the hash of all its bytes (R358). -/
def stagedOf (f : Nat) (img : Bytes) : Staged :=
  let ilen := sliceNat img 8 4
  { frond := f, code := slice img 256 ilen, dataSec := slice img (256 + ilen) (sliceNat img 12 4), entry := sliceNat img 16 4,
    release := sliceNat img 20 4, owner := sliceNat img 24 4, measure := fitBytes 48 (Config.sha384 img) }

/-- The sections written into a Frond's local memories, the rest of data memory cleared (R146). -/
def State.installImage (s : State) (x : Staged) (f : Fin 16) : State :=
  let s1 : State := { s with mem := memClear (dmemOf f.val) (dmemOf f.val + 0x10000) s.mem }
  let s2 := (s1.rawStore (imemOf f.val) x.code).rawStore (dmemOf f.val) x.dataSec
  let outside := fun (w : Nat) => decide (w < imemOf f.val) || decide (dmemOf f.val + 0x10000 ≤ w) ||
    (decide (imemOf f.val + x.code.length ≤ w) && decide (w < dmemOf f.val))
  { s2 with memx := { s2.memx with ecc1 := s2.memx.ecc1.filter outside, ecc2 := s2.memx.ecc2.filter outside } }

/-- An installed image starts at its entry (R146 steps 4 and 5). -/
def State.imageStart (s : State) (x : Staged) (f : Fin 16) : State :=
  (((s.frdStart f x.entry).wf FRD_STATUSn_loaded 1 f.val).wf FRD_IMGn_release x.release f.val)

/-! ## Commands (R143) -/

/-- A command ends with a result: `done`, FRD_DONE, and 0x1506 where it is not OK. -/
def State.frdDone (s : State) (op f res : Nat) : State :=
  let s1 := ((s.wf FRD_RESULT_result res).wf FRD_RESULT_done 1).assertSrc 37 (s.domNow 0)
  if res = 0 then s1 else s1.journal 0 0x1500 0x1506 (op + f * 16 + res * 256)

/-- A command from F0 or the host, with no other in progress. -/
def State.frdCmd (s : State) (r : Req) (op f : Nat) (body : State → State) : State :=
  if ¬ reqIsHostOrF0 r then s.ignoreWrite r
  else if ¬ s.rb FRD_RESULT_done then
    ((s.wf FRD_RESULT_result 1).inc SYS_FW_WRITE_IGNORED_count).journal 0 0x1500 0x1506 (op + f * 16 + 256)
  else body s

/-- A command that F0 may not give to itself (R143). -/
def selfBad (r : Req) (f : Fin 16) : Bool := decide (f = 0) && !reqIsHost r

def State.frdHalt (s : State) (r : Req) (f : Fin 16) : State :=
  s.frdCmd r 1 f.val fun s =>
    if selfBad r f then s.frdDone 1 f.val 8
    else if s.frdState f ≤ 1 then (s.frdStop f 2).frdDone 1 f.val 0
    else s.frdDone 1 f.val 7

def State.frdRestart (s : State) (r : Req) (f : Fin 16) : State :=
  s.frdCmd r 2 f.val fun s =>
    if selfBad r f then s.frdDone 2 f.val 8
    else if 2 ≤ s.frdState f ∧ s.rb FRD_STATUSn_loaded f.val ∧ s.pdServed (clusterDom f) then
      let s1 := s.frdStart f (s.frond f).entry
      (if f = 0 then s1.ready 6 true else s1).frdDone 2 f.val 0
    else s.frdDone 2 f.val 7

def State.setFctl (s : State) (c : FrdCtl) : State := { s with fctl := c }

/-- FRD_STAGE (R143, R145): the image is copied, and its checks begin. Of one that its length takes past the commons, the part inside is copied, and
its checks end in BADHDR (DESIGN CHOICE, log 66). -/
def State.frdStage (s : State) (r : Req) (f : Fin 16) : State :=
  s.frdCmd r 3 f.val fun s =>
    if s.fctl.staged.isSome then s.frdDone 3 f.val 7
    else
      let off := s.rf FRD_CMD_SRC_base * 64
      let n := min (0x800000 - off) (imageLen (s.bytesAt (commonsBase + off) (min 256 (0x800000 - off))))
      let i := s.engLoad 0 off n
      (i.1.setFctl { i.1.fctl with staging := some (f.val, if i.2.2 then [] else i.2.1) }).wf FRD_RESULT_done 0

/-- The owner keys in the headers of the locker slots (R370). -/
def State.slotOwner (s : State) (o : Nat) : Option Bytes :=
  match s.bestKeySlot (fun _ => true) with
  | some x => tabGet none o (x.2.owners.map (fun e => (e.1, some e.2)))
  | none => none

/-- The enrolled key of an owner; while the key block holds no owner keys, before UNSEAL, as the slots' headers give it (R359, R370). -/
def State.ownerKey (s : State) (o : Nat) : Option Bytes :=
  if s.key.owners ≠ [] then tabGet none o (s.key.owners.map (fun e => (e.1, some e.2))) else s.slotOwner o

/-- STAGE_COMPLETE (R145). -/
def State.stageComplete (s : State) : State :=
  match s.fctl.staging with
  | some (f, img) =>
    let s1 := s.setFctl { s.fctl with staging := none }
    let c := checkImage s1.ownerKey f img
    if c = 0 then ((s1.setFctl { s1.fctl with staged := some (stagedOf f img) }).wf FRD_STATUSn_staged 1 f).frdDone 3 f 0
    else s1.frdDone 3 f (if c = 9 then 2 else c)
  | none => s

/-- FRD_SWAP (R146, R147): steps 1 and 2. -/
def State.frdSwap (s : State) (r : Req) (f : Fin 16) : State :=
  s.frdCmd r 4 f.val fun s =>
    if selfBad r f then s.frdDone 4 f.val 8
    else
      match s.fctl.staged with
      | some x =>
        if x.frond ≠ f.val then s.frdDone 4 f.val 6
        else if s.frdState f ≤ 1 ∨ ¬ s.pdServed (clusterDom f) then s.frdDone 4 f.val 7
        else if s.key.readied ∧ ¬ s.authorised f.val x.measure then s.frdDone 4 f.val 5
        else
          let s1 := s.migrate f.val x.measure
          (s1.setFctl { s1.fctl with swapping := some f.val }).wf FRD_RESULT_done 0
      | none => s.frdDone 4 f.val 6

/-- SWAP_COMPLETE (R146): steps 3 to 5. -/
def State.swapComplete (s : State) : State :=
  match s.fctl.swapping, s.fctl.staged with
  | some n, some x =>
    if h : n < 16 then
      let f : Fin 16 := ⟨n, h⟩
      let s1 := ((s.installImage x f).imageStart x f).wf FRD_STATUSn_staged 0 n
      let s2 := (s1.setFctl ⟨none, none, none⟩).journal 0 (0x1500 + n) 0x1505 (n + x.release * 2 ^ 32)
      let s3 := s2.frdDone 4 n 0
      if n = 0 then s3.ready 6 true else s3
    else s
  | _, _ => s

def State.frdUnstage (s : State) (r : Req) (f : Fin 16) : State :=
  s.frdCmd r 5 f.val fun s =>
    match s.fctl.staged with
    | some x => ((s.setFctl { s.fctl with staged := none }).wf FRD_STATUSn_staged 0 x.frond).frdDone 5 f.val 0
    | none => s.frdDone 5 f.val 6

/-! ## Meanings -/

def execInterruptEntry (f : Fin 16) (s : State) : Result := .next (s.whenUp (s.interrupt f))
def execFrdHalt (r : Req) (f : Fin 16) (s : State) : Result := .next (s.whenUp (s.frdHalt r f))
def execFrdRestart (r : Req) (f : Fin 16) (s : State) : Result := .next (s.whenUp (s.frdRestart r f))
def execFrdStage (r : Req) (f : Fin 16) (s : State) : Result := .next (s.whenUp (s.frdStage r f))
def execStageComplete (s : State) : Result := .next (s.whenUp s.stageComplete)
def execFrdSwap (r : Req) (f : Fin 16) (s : State) : Result := .next (s.whenUp (s.frdSwap r f))
def execSwapComplete (s : State) : Result := .next (s.whenUp s.swapComplete)
def execFrdUnstage (r : Req) (f : Fin 16) (s : State) : Result := .next (s.whenUp (s.frdUnstage r f))

end Sys2Proof.Machine
end

