-- ==== Sys2Proof/Machine/Map.lean ====
section
/-!
DEFINITION. The address map of BAR0 (R454, R466): which register and which word an address names, the power domain that an address
lies in (R422), and the save list of a domain (R427).
-/

namespace Sys2Proof.Machine
open Sys2Proof Reg

/-- A word of a register: its definition, instance and word index. -/
structure RegWord where
  reg : RegDef
  inst : Nat
  word : Nat
  deriving DecidableEq, Repr

/-- The word of `r` that address `a` names. -/
def RegDef.find (r : RegDef) (a : Nat) : Option RegWord :=
  if a < r.base ∨ a % 4 ≠ 0 then none
  else
    let rel := a - r.base
    let outer := if r.stride = 0 then 0 else rel / r.stride
    let rest := rel - outer * r.stride
    let inner := if r.substride = 0 then 0 else min (r.sub - 1) (rest / r.substride)
    let w := (rest - inner * r.substride) / 4
    let n := outer * r.sub + inner
    if w < r.words ∧ n < r.count then some ⟨r, n, w⟩ else none

def allRegs : List RegDef := tableA ++ tableB ++ tableC

/-- The register word at an address. -/
def regAt (a : Nat) : Option RegWord := allRegs.findSome? (fun r => r.find a)

/-- The field that a key of the register file belongs to, with its instance. -/
def fldAt (key : Nat) : Option (Fld × Nat) :=
  allRegs.findSome? (fun r =>
    match r.find (key / 32 * 4) with
    | some x => (r.flds.find? (fun f => decide (f.key x.inst = key))).map (fun f => (f, x.inst))
    | none => none)

/-! ## Power domains of addresses (R422, R454) -/

/-- The power domain, 0 to 19, that an address lies in; a bank of the commons has its own state (R417). -/
def domainOf (a : Nat) : Nat :=
  if 0x8000 ≤ a ∧ a < 0xA000 then 19
  else if 0x41000 ≤ a ∧ a < 0x41900 then (if (a - 0x41000) / 64 < 32 then 15 + (a - 0x41000) / 512 else 0)
  else if 0x44000 ≤ a ∧ a < 0x45000 then 15 + (a - 0x44000) / 1024
  else if 0x50000 ≤ a ∧ a < 0x50A00 then (if (a - 0x50000) / 64 = 32 then 0 else 1)
  else if 0x50C00 ≤ a ∧ a < 0x50C18 then 1
  else if 0x58000 ≤ a ∧ a < 0x58A00 then (if (a - 0x58000) / 64 = 32 then 0 else 1)
  else if 0x59000 ≤ a ∧ a < 0x59100 then 11 + (a - 0x59000) / 64
  else if 0x80100 ≤ a ∧ a < 0x80300 then 11 + (a - 0x80100) / 128
  else if 0x90000 ≤ a ∧ a < 0x91000 then 10
  else if 0xC8000 ≤ a ∧ a < 0xD0000 then 2 + (a - 0xC8000) / 0x2000
  else if a = 0x1FFFF0 then 0
  else if 0x100000 ≤ a ∧ a < 0x200000 then 6 + (a - 0x100000) / 0x40000
  else if 0x200000 ≤ a ∧ a < 0x220000 then 11 + (a - 0x200000) / 0x8000
  else if 0x400000 ≤ a ∧ a < 0x600000 then 2 + (a - 0x400000) / 0x80000
  else if 0x600000 ≤ a ∧ a < 0x800000 then 10
  else 0

/-- Read-only fields of 64 bits that count nothing. -/
def notCounter : List Nat :=
  [0x9000, 0x1001C, 0x10038, 0x40020, 0x40028, 0x40128, 0x50014, 0x5801C, 0x60034, 0x60124, 0x6012C] ++
  [0x70078, 0x70080, 0x70088, 0x7009C, 0x700A4, 0x80050, 0x80118, 0x8012C, 0x200060, 0x2000A0, 0x90830, 0xB0030, 0xB0038, 0xC0068]

/-- A 64-bit counter (R15). -/
def Fld.counts (f : Fld) : Bool := decide (f.acc = .ro) && decide (f.width = 64) && !notCounter.contains f.base

/-- A key belongs to the save list of domain `d`: an RW field or a 64-bit counter of its blocks (R427). PD_TIME has
none, and the channel records are memory. -/
def inSaveList (d key : Nat) : Bool :=
  decide (1 ≤ d) && decide (domainOf (key / 8) = d) && decide (key / 8 < 0x200000) &&
  (match fldAt key with
   | some (f, _) => decide (f.acc = .rw) || f.counts
   | none => false)

/-- A key is a 64-bit counter. -/
def isCounterKey (key : Nat) : Bool :=
  match fldAt key with
  | some (f, _) => f.counts
  | none => false

/-- The entries of a register file with a property of their key. -/
def regsPick (p : Nat → Bool) (l : RegFile) : RegFile := l.filter (fun e => p e.1)

/-- The keys that have the property take the values of `from_`; those that it does not list, their reset values. -/
def regsLoad (p : Nat → Bool) (from_ l : RegFile) : RegFile :=
  (regsPick p from_).foldl (fun t e => tabSet e.1 e.2 t) (l.filter (fun e => !p e.1))

end Sys2Proof.Machine
end

