-- ==== Sys2Proof/Machine/Power.lean ====
section
/-!
DEFINITION. Power domains and their commands (R422 to R429), checkpoints (R440 to R443), the states of the chip and its resets
(R430 to R433, R444), and the restart (R445, R446).
-/

namespace Sys2Proof.Machine
open Sys2Proof Reg

def State.setPwr (s : State) (p : PwrState) : State := { s with pwr := p }

/-! ## States of domains and banks -/

/-- State of index `d` of R422 as a code of PWR_CMD; 5 for a bank that wakes. -/
def State.pwrOf (s : State) (d : Nat) : Nat :=
  if d < 20 then s.pd d
  else
    match s.bank (d - 20) with
    | 0 => 0
    | 1 => 3
    | 2 => 4
    | _ => 5

/-- Index `d` takes a state; `moving` is the transition bit, and a bank that leaves RETAIN or OFF shows WAKING. -/
def State.setPwrOf (s : State) (d st : Nat) (moving : Bool) : State :=
  if d < 20 then
    let old := s.rf PWR_STATEk_state (d / 8)
    let sh := 2 ^ (4 * (d % 8))
    s.wf PWR_STATEk_state (old - bitsOf old (4 * (d % 8)) 4 * sh + (st + if moving then 8 else 0) * sh) (d / 8)
  else
    let old := s.rf MEM_BANK_STATE_state
    let sh := 2 ^ (2 * (d - 20))
    let code := if st = 3 then 1 else if st = 4 then 2 else if st = 5 then 3 else 0
    s.wf MEM_BANK_STATE_state (old - bitsOf old (2 * (d - 20)) 2 * sh + code * sh)

/-- The states that a command may ask of an index (R422). -/
def pwrColumn (d : Nat) : List Nat :=
  if d = 0 ∨ d = 2 then [0]
  else if d = 1 then [0, 1, 2, 4]
  else if d ≤ 5 then [0, 1, 3, 4]
  else if d ≤ 9 then [0, 4]
  else if d = 10 then [0, 1, 4]
  else if d ≤ 14 then [0, 1, 2, 3, 4]
  else if d ≤ 19 then [0, 4]
  else if d ≤ 51 then [0, 3, 4]
  else []

/-- The target lies outside the column, or the domain cannot go there from where it is (R422, R423, R428; log 36). -/
def pwrDenied (d old target : Nat) : Bool :=
  !(pwrColumn d).contains target || (decide (old = 4) && decide (target ≠ 0)) ||
  (decide (old = 3) && (decide (target = 1) || decide (target = 2)))

/-! ## INUSE (R417, R426) -/

/-- Bytes [a, a + n) of the commons meet bank `b`. -/
def meetsBank (b a n : Nat) : Bool := decide (0 < n) && decide (a < (b + 1) * 262144) && decide (b * 262144 < a + n)

/-- The areas of the commons that enabled base registers of hardware writers and readers name: offset and length (log 33). -/
def State.hwAreas (s : State) : List (Nat × Nat) :=
  let serving := (List.range 32).any (fun n => s.rb TSV_LANEn_ptp n || s.rb TSV_LANEn_ntp n)
  let snap := decide (s.rf GNS_SNAP_STATUS_state = 1) || decide (s.rf GNS_SNAP_STATUS_state = 2)
  (if s.rb TLY_CTL_drain_en then [(s.rf TLY_DRAIN_BASE_base * 64, 32 * 2 ^ s.rf TLY_DRAIN_SIZE_log2n)] else []) ++
  (List.range 4).flatMap (fun p =>
    (if s.rb GNS_Pp_CTL_en p then [(s.rf GNS_Pp_RING_BASE_base p * 64, 64 * 2 ^ s.rf GNS_Pp_RING_SIZE_log2n p)] else []) ++
    (if snap ∧ bitOf s.gns.snapPorts p then
      [(s.rf GNS_SNAP_BASEp_base p * 64, 81840 * s.gns.snapLen * ((if s.gns.snapL1 then 1 else 0) + if s.gns.snapL5 then 1 else 0))] else []) ++
    (if s.rb MOSS_Gp_CTL_en p then
      [(s.rf MOSS_Gp_BUF_base p * 64, 81840 * 2 * (if 2 ≤ s.rf MOSS_Gp_CTL_len_ms p ∧ s.rf MOSS_Gp_CTL_len_ms p ≤ 20 then s.rf MOSS_Gp_CTL_len_ms p else 2))] else [])) ++
  (List.range 32).flatMap (fun n =>
    if s.laneMode n ≠ 0 then [(s.rf MACn_RXG_BASE_base n * 64, 64 * 2 ^ s.rf MACn_RXG_SIZE_log2n n)] else []) ++
  (if serving then
    [(s.rf TSV_POL_BASE_base * 64, 1048576), (s.rf TSV_FWD_BASE_base * 64, 64 * 2 ^ s.rf TSV_FWD_SIZE_log2n),
     (s.rf TSV_KE_BASE_base * 128, 128 * 2 ^ s.rf TSV_KE_SIZE_log2n)] else []) ++
  (if s.rf KEY_STATUS_state = 1 then [(s.rf KEY_USE_BASE_base * 128, 128 * 2 ^ s.rf KEY_USE_SIZE_log2n)] else []) ++
  (if s.rb GNS_ACQ_STATUS_busy then [(s.rf GNS_ACQ_SCRATCH_base * 64, 1636800)] else []) ++
  (match s.cfg.cmd with
   | some c => [(c.buf, c.len)]
   | none => [])

/-- A Frond of cluster `c` is the target of a STAGE or SWAP in progress. -/
def State.clusterBusy (s : State) (c : Nat) : Bool :=
  (match s.fctl.staging with
   | some (f, _) => decide (f / 4 = c)
   | none => false) ||
  (match s.fctl.swapping with
   | some f => decide (f / 4 = c)
   | none => false)

/-- The command is refused with INUSE (R426). -/
def State.pwrInUse (s : State) (d old target : Nat) : Bool :=
  decide (old = 0) && decide (target ≠ 0) &&
  (if 20 ≤ d then s.hwAreas.any (fun x => meetsBank (d - 20) x.1 x.2)
   else if d = 10 then s.rb KEY_STATUS_busy
   else decide (2 ≤ d) && decide (d ≤ 5) && s.clusterBusy (d - 2))

/-! ## Quiesce (R37, R424) -/

def State.each (s : State) (l : List Nat) (f : State → Nat → State) : State := l.foldl f s

/-- The ready bits that fall when a domain leaves ON (R433). -/
def State.readyFalls (s : State) (d : Nat) : State :=
  if d = 1 then s.ready 4 false
  else if d = 10 then s.ready 8 false
  else if 11 ≤ d ∧ d ≤ 14 then s.ready (12 + (d - 11)) false
  else if 15 ≤ d ∧ d ≤ 18 then
    if (List.range 4).any (fun k => s.pdOn (15 + k)) then s else s.ready 3 false
  else if d = 19 then s.ready 10 false
  else s

/-- The message and journal queues of the Fronds of cluster `c`. -/
def clusterQueues (c : Nat) : List Nat :=
  (List.range 4).flatMap (fun i =>
    let f := 4 * c + i
    (256 + f) :: (List.range 16).flatMap (fun m => [16 * m + f, 16 * f + m]))

/-- Lane `n` at the switch-off of its domain: frames queued drop, the link goes, and its queues are emptied: completions that no Frond takes drop,
and the merger takes its journal stream (R37, R49, R300). -/
def State.laneOff (s : State) (n : Nat) : State :=
  (((((s.laneDrop n).1).linkDown n).wf MACn_CAL_CTL_busy 0 n).qReset (1184 + n)).streamTake (4 + n)

/-- Every frame that waits for the pipeline handed over (R37, R347). -/
def State.handAll (s : State) : State := s.each (List.range 32) State.laneHandOver

/-- The result queues of the units of PD_TDC, and the launch queues that PD_CRYPTO feeds (R37, R49). -/
def resultQueues : List Nat := ((List.range 40).filter (· ≠ 32)).map (272 + ·)
def launchQueues : List Nat := (List.range 32).map (460 + ·)

/-- Output channel `n` ends as for en = 0, and port `n` with it (R169, R422). -/
def State.tioOff (s : State) (n : Nat) : State :=
  let s1 := if s.outState n = 0 then s else s.outRest n 0
  (((s1.setTio n { TioPort.empty with ext := (s1.tio n).ext }).qReset (312 + n)).qReset (1024 + n)).qReset (1024 + 0x20 + n)

/-- The first phase of a transition of domain `d` to `t`. -/
def State.quiesce (s : State) (d t : Nat) : State :=
  let s1 :=
    if d = 1 then (if t = 4 then s.each resultQueues State.qReset else s.tdcHold t)
    else if d ≤ 5 then
      let fs := (List.finRange 16).filter (fun f => decide (clusterDom f = d))
      if t = 1 then fs.foldl (fun s f => s.setFrond f { s.frond f with frozen := true }) s
      else
        let s1 := fs.foldl (fun s f => if (s.journalTake f).frdState f ≤ 1 then (s.journalTake f).frdStop f 2 else (s.journalTake f).dropHeader f) s
        s1.each (clusterQueues (d - 2)) (fun s q => s.qReset q)
    else if d ≤ 9 then s.each ((List.range 8).map (fun i => 8 * (d - 6) + i)) State.laneOff
    else if d = 10 then
      if t = 1 then s
      else
        let s1 := s.handAll
        let s2 := s1.add PWR_TSV_ABANDON_count (s1.tsv.work.length + s1.tsv.inbox.length)
        let s3 : State := { s2 with tsv := { s2.tsv with work := [], inbox := [] } }
        (((s3.each launchQueues State.qReset).qReset (1024 + 0x100)).qReset (1024 + 0x101)).qReset (1024 + 0x102)
    else if d ≤ 14 then
      let s1 := (s.portHalt (d - 11) 3 false).setDom (36 + (d - 11)) ⟨false, false, 0⟩
      if t = 1 ∨ t = 2 then s1 else (s1.qReset (344 + (d - 11))).streamTake (36 + (d - 11))
    else if d ≤ 18 then s.each ((List.range 8).map (fun i => 8 * (d - 15) + i)) State.tioOff
    else if d = 19 then
      ((s.each [498, 499] (fun s q => s.qReset q)).streamTake 40).setDom 40 ⟨false, false, 0⟩
    else s
  if t = 4 ∧ d < 20 ∧ s1.pwr.aon then
    s1.setPwr { s1.pwr with saves := tabSet d (regsPick (inSaveList d) s1.regs) s1.pwr.saves, offSeq := tabSet d s1.pwr.nextSeq s1.pwr.offSeq }
  else s1

/-! ## Completion (R423, R427) -/

/-- Bytes [lo, hi) lose their content, with their ECC marks. -/
def State.memLost (s : State) (lo hi : Nat) : State :=
  let out := fun (w : Nat) => decide (w < lo) || decide (hi ≤ w)
  { s with mem := memClear lo hi s.mem,
           memx := { s.memx with ecc1 := s.memx.ecc1.filter out, ecc2 := s.memx.ecc2.filter out, wst := tabClear (fun w => !out w) s.memx.wst } }

/-- The local memories of cluster `c` cleared: its Fronds hold no image, so none runs and none is measured (R358, R418, R423). -/
def State.clusterLost (s : State) (c : Nat) : State :=
  ((List.finRange 16).filter (fun f => decide (f.val / 4 = c))).foldl (fun s f =>
    let s1 := (s.wf FRD_STATUSn_state 2 f.val).wf FRD_STATUSn_loaded 0 f.val
    s1.setKey { s1.key with manifest := s1.key.manifest.set! f.val (zeros 48) })
    (s.memLost (0x400000 + 0x80000 * c) (0x480000 + 0x80000 * c))

/-- What an index loses when its supply is gone. -/
def State.contentLost (s : State) (d : Nat) : State :=
  if 20 ≤ d then s.memLost (commonsBase + (d - 20) * 262144) (commonsBase + (d - 19) * 262144)
  else
    let s1 : State := { s with regs := regsLoad (fun k => decide (domainOf (k / 8) = d)) (regsPick (fun k => decide (domainOf (k / 8) = d)) regsReset) s.regs }
    if d = 1 then { s1 with tdc := s1.tdc.mapIdx (fun i u => if i = 32 then u else TdcUnit.empty) }
    else if d ≤ 5 then
      let c := d - 2
      let s2 := s1.memLost (0xC8000 + 0x2000 * c) (0xCA000 + 0x2000 * c)
      (((List.finRange 16).filter (fun f => decide (clusterDom f = d))).foldl (fun s f => s.setFrond f (Frond.atReset f.val)) s2).clusterLost c
    else if d ≤ 9 then { s1 with lanes := s1.lanes.mapIdx (fun i x => if i / 8 = d - 6 then Lane.empty else x) }
    else if d = 10 then { s1 with tsv := { TsvState.empty with cookies := s1.tsv.cookies, cookieAt := s1.tsv.cookieAt, polKey := s1.tsv.polKey } }
    else if d ≤ 14 then
      { s1 with gns := { s1.gns with chans := tabClear (fun c => decide (c / 128 = d - 11)) s1.gns.chans } }
    else if d ≤ 18 then
      { s1 with outs := s1.outs.mapIdx (fun i x => if i / 8 = d - 15 then OutCh.empty else x) }
    else { s1 with pcie := PcieState.empty }

/-- The valid checkpoint copies, the newest one first (R441). -/
def PwrState.copies (p : PwrState) : List Ckpt :=
  (if p.newest = 0 then [p.copy0, p.copy1] else [p.copy1, p.copy0]).filterMap (fun c => c.filter (fun x => x.valid))
def hasSave (d : Nat) (c : Ckpt) : Bool := c.saves.any (fun e => decide (e.1 = d))
/-- A copy that holds the save area of the time in OFF that domain `d` is in: one taken before it entered OFF is none (R427). -/
def PwrState.holds (p : PwrState) (d : Nat) (c : Ckpt) : Bool := c.valid && hasSave d c && decide (tabGet 0 d p.offSeq ≤ c.seq)
def PwrState.savedCopy (p : PwrState) (d : Nat) : Option RegFile := (p.copies.find? (p.holds d)).map (fun c => tabGet [] d c.saves)

/-- The save list of `d` loaded into its registers. -/
def State.loadSave (s : State) (d : Nat) (r : RegFile) : State :=
  let s1 : State := { s with regs := regsLoad (inSaveList d) r s.regs }
  s1.setPwr { s1.pwr with saves := tabClear (fun k => decide (k = d)) s1.pwr.saves, badSave := s1.pwr.badSave.filter (· ≠ d) }

/-- What index `d` does once it is ON again: its blocks run as their registers say (R199, R263, R296, R340, R423). -/
def State.woken (s : State) (d : Nat) : State :=
  if d = 0 then s
  else if d = 1 then s.mossRestored
  else if d ≤ 5 then
    ((List.finRange 16).filter (fun f => decide (clusterDom f = d))).foldl (fun s f => s.setFrond f { s.frond f with frozen := false }) s
  else if d ≤ 9 then
    let n := 8 * (d - 6)
    if s.rf MACn_CTL_mode n = 4 then s.each [n + 1, n + 2, n + 3] (fun s k => s.wf MACn_STATUS_bonded_member 1 k) else s
  else if d = 10 then s.each (List.range 8) (fun s u => s.upEnable u (s.getReg TSV_UPu_CTL u))
  else if d ≤ 14 then
    let p := d - 11
    let s1 := if s.rb GNS_Pp_STATUS_clk p then s.setDom (36 + p) ⟨true, false, 0⟩ else s
    (s1.mossGShow p).portTry p
  else if d ≤ 18 then s.each ((List.range 8).map (fun i => 8 * (d - 15) + i)) (fun s n => (s.outWake n).bellRestart n)
  else if d = 19 then s.setDom 40 ⟨true, false, 0⟩
  else s.heldAll

/-! ## RETAIN (R418, R423) -/

/-- What keeps its content in RETAIN under a CRC-32C: a bank, or the local memories of a cluster: first address and bytes. -/
def retArea (d : Nat) : Option (Nat × Nat) :=
  if 20 ≤ d then some (commonsBase + (d - 20) * 262144, 262144)
  else if 2 ≤ d ∧ d ≤ 5 then some (0x400000 + 0x80000 * (d - 2), 0x80000)
  else none

/-- The signature of what stands in an area. -/
def State.signature (s : State) (x : Nat × Nat) : Nat := crc32c (s.bytesAt x.1 x.2)

/-- Entry into RETAIN: the signature is kept (R418). -/
def State.retain (s : State) (d : Nat) : State :=
  match retArea d with
  | some x => s.setPwr { s.pwr with sigs := tabSet d (s.signature x) s.pwr.sigs }
  | none => s

/-- The wake from RETAIN recomputes the CRC. `flips`: bytes of the area that changed meanwhile, by offset; the records of a GNSS port are under a
signature too, whose mismatch any change stands for (log 67). -/
def State.retFlip (s : State) (d : Nat) (flips : List (Nat × Byte)) : State :=
  match retArea d with
  | some x => flips.foldl (fun s e => if e.1 < x.2 then { s with mem := memSet (x.1 + e.1) e.2 s.mem } else s) s
  | none => s

def State.retFails (s : State) (d : Nat) (flips : List (Nat × Byte)) : Bool :=
  match retArea d with
  | some x => !flips.isEmpty && decide ((s.retFlip d flips).signature x ≠ tabGet 0 d s.pwr.sigs)
  | none => !flips.isEmpty

/-- A signature that does not match: the memory is cleared, and the failure shown (R418). Of the records of a GNSS port the rules say only that they
are kept under the signature: they are cleared as memory is (DESIGN CHOICE, log 67). -/
def State.retLost (s : State) (d : Nat) : State :=
  if 20 ≤ d then
    let b := d - 20
    let s1 := s.memLost (commonsBase + b * 262144) (commonsBase + (b + 1) * 262144)
    ((s1.wf MEM_RET_STATUS_fail (setBitOf (s1.rf MEM_RET_STATUS_fail) b true)).assertSrc 33 (s1.domNow 0)).journal 0 0x1300 0x1304 b
  else if 2 ≤ d ∧ d ≤ 5 then (s.clusterLost (d - 2)).journal 0 0x1300 0x1304 (d - 2 + 256)
  else if 11 ≤ d ∧ d ≤ 14 then
    { s with regs := tabClear (fun k => decide (0x200000 ≤ k / 8) && decide (domainOf (k / 8) = d)) s.regs,
             gns := { s.gns with chans := tabClear (fun c => decide (c / 128 = d - 11)) s.gns.chans } }
  else s

/-- What stood in RETAIN, at the wake: as it was, or lost. -/
def State.retWake (s : State) (d : Nat) (flips : List (Nat × Byte)) : State :=
  if s.retFails d flips then s.retLost d else s.retFlip d flips

/-- The end of a transition: result, `done`, PWR_DONE. -/
def State.pwrDone (s : State) (res : Nat) : State :=
  ((s.wf PWR_RESULT_result res).wf PWR_RESULT_done 1).assertSrc 35 (s.domNow 0)

def State.pwrJournal (s : State) (code payload : Nat) : State := s.journal 0 0x0200 code payload

/-- A refusal (R425, R426). -/
def State.pwrRefuse (s : State) (d target res : Nat) : State :=
  ((s.wf PWR_RESULT_result res).pwrJournal 0x0202 (d + target * 2 ^ 6 + res * 2 ^ 9)).assertSrc 35 (s.domNow 0)

/-- A transition begins with its quiesce. -/
def State.pwrBegin (s : State) (d old target : Nat) : State :=
  let s1 := s.setPwr { s.pwr with trans := some ⟨d, old, target, false, false⟩ }
  let shown := if 20 ≤ d ∧ target = 0 then 5 else old
  let s2 := (((s1.wf PWR_RESULT_done 0).wf PWR_RESULT_held 0).wf PWR_RESULT_domain d).setPwrOf d shown true
  if target = 0 then s2 else (s2.quiesce d target).readyFalls d

/-- PWR_CMD (R424 to R426). `past`: the running transition has passed its commit point. A frozen engine takes no command: a transition stands where
it is (R448). -/
def State.pwrCmd (s : State) (r : Req) (d target : Nat) (past : Bool) : State :=
  if ¬ reqIsHostOrF0 r then s.ignoreWrite r
  else if ¬ s.live then s
  else
    match s.pwr.trans with
    | some t =>
      if target = 0 ∧ d = t.domain then
        let s1 := s.inc PWR_CMDS_count
        if past ∨ t.committed ∨ t.target = 0 then
          (s1.setPwr { s1.pwr with trans := some { t with committed := true, held := true } }).wf PWR_RESULT_held 1
        else
          let s2 := (s1.setPwr { s1.pwr with trans := none, saves := tabClear (fun k => decide (k = d)) s1.pwr.saves }).setPwrOf d 0 false
          ((s2.woken d).pwrJournal 0x0203 (d + t.target * 2 ^ 6)).pwrDone 5
      else (s.inc PWR_BUSY_count).pwrRefuse d target 1
    | none =>
      let old := s.pwrOf d
      if pwrColumn d = [] then s.pwrRefuse d target 2
      else if old = target then s.pwrRefuse d target 4
      else if pwrDenied d old target then s.pwrRefuse d target 2
      else if s.pwrInUse d old target then s.pwrRefuse d target 3
      else (s.inc PWR_CMDS_count).pwrBegin d old target

/-- Both checkpoint copies hold the save area of `d` (R427). -/
def PwrState.savedTwice (p : PwrState) (d : Nat) : Bool := [p.copy0, p.copy1].all (fun x => x.any (p.holds d))

/-- The wake of `t` ends: what was retained is checked (R418), a save list is loaded, or the wake is refused (R427). `flips`: what changed meanwhile in
a memory in RETAIN, or in a save area, whose CRC then fails. -/
def State.wakeEnd (s : State) (t : PwrTrans) (flips : List (Nat × Byte)) : State :=
  let d := t.domain
  let ok := fun (x : State) =>
    (((x.setPwrOf d 0 false).woken d).pwrJournal 0x0201 (d + t.old * 2 ^ 6)).pwrDone 0
  if t.old = 3 then ok (s.retWake d flips)
  else if t.old ≠ 4 ∨ 20 ≤ d then ok s
  else if ¬ s.pwr.badSave.contains d ∧ flips = [] then ok (s.loadSave d (tabGet [] d s.pwr.saves))
  else
    match s.pwr.savedCopy d with
    | some r => ok (((s.loadSave d r).wf PWR_RESTART_save_fail 1).pwrJournal 0x0204 d)
    | none => (((s.setPwrOf d 4 false).pwrJournal 0x0204 (d + 256)).pwrRefuse d 0 6).wf PWR_RESULT_done 1

/-- PWR_TRANSITION_COMPLETE (R424, R425, R427). In a frozen engine a transition stands where it is (R448). -/
def State.pwrComplete (s : State) (flips : List (Nat × Byte)) : State :=
  match s.pwr.trans with
  | none => s
  | some t =>
    let d := t.domain
    if ¬ s.live ∨ (t.target = 4 ∧ d < 20 ∧ ¬ s.pwr.savedTwice d) then s
    else
      let s0 := s.setPwr { s.pwr with trans := none }
      if t.target = 0 then (s0.wakeEnd t flips).wf PWR_RESULT_held 0
      else
        let s1 := s0.setPwrOf d t.target false
        let s2 := if t.target = 4 then s1.contentLost d else if t.target = 3 then s1.retain d
          else if 11 ≤ d ∧ d ≤ 14 then s1.mossGShow (d - 11) else s1
        let s3 := (s2.pwrJournal 0x0201 (d + t.old * 2 ^ 6 + t.target * 2 ^ 9)).pwrDone 0
        if t.held then s3.pwrBegin d t.target 0 else s3

/-! ## Checkpoints (R440 to R443) -/

/-- Regions of the Lichen store (R441): offset and bytes of its head, of the save areas, and of the two checkpoint copies. No register and no command
reads the store by offset. -/
def lichenRegions : List (Nat × Nat) := [(0x00000, 256), (0x00100, 32512), (0x08000, 0xC000), (0x14000, 0xC000)]

/-- Bytes of the save list of a domain, and the place of its save area: the areas lie in index order (R422, R441; log 67). -/
def saveBytes (d : Nat) : Nat := [0, 4096, 1024, 1024, 1024, 1024, 3840, 3840, 3840, 3840, 1536, 512, 512, 512, 512, 1280, 1280, 1280, 1280, 256].getD d 0
def saveOfs (d : Nat) : Nat := 0x100 + ((List.range d).map saveBytes).sum

/-- The keys that an image holds: every counter, and the save lists (R440). -/
def inImage (k : Nat) : Bool := isCounterKey k || inSaveList (domainOf (k / 8)) k

/-- SYS_FATAL [4:0]. -/
def State.fatalBits (s : State) : Nat :=
  s.rf SYS_FATAL_tally + 2 * s.rf SYS_FATAL_credit + 4 * s.rf SYS_FATAL_clock + 8 * s.rf SYS_FATAL_stamp + 16 * s.rf SYS_FATAL_ecc_time

/-- What a checkpoint keeps of the servo (R256). -/
def State.srvSave (s : State) : Option SrvSave :=
  if s.mode = 0 ∨ ¬ s.srv.inited then none
  else
    let v := (s.predictTo s.now).srv
    some ⟨v.y, v.a, v.cov, s.phase, s.buildout, v.anchor, s.rf SRV_BOUND_ps⟩

/-- The save areas as a checkpoint copies them: an area that fails its CRC is taken from the other copy, or not at all (R427). -/
def PwrState.goodSaves (p : PwrState) : Tab RegFile :=
  p.saves.filterMap (fun e => if p.badSave.contains e.1 then (p.savedCopy e.1).map (fun r => (e.1, r)) else some e)

/-- The image of the engine at the present tick (R440). A frame that waits for the pipeline counts as taken and in flight there, so that R300,
R347 and R446 hold in it; a frame is received whole by one command, so a lane has none of its own (log 64). -/
def State.image (s : State) (final : Bool) : Ckpt :=
  let h := s.handAll
  { seq := s.pwr.nextSeq, final := final, time := s.now, rtc := s.rtcNow, regs := regsPick inImage h.regs, total := s.tm.total,
    srv := s.srvSave, fatal := s.fatalBits, rxIn := List.replicate 32 0,
    txIn := (List.range 32).map (fun n => (s.lane n).sched.length + (s.lane n).reqs.length), tsvIn := h.tsv.work.length + h.tsv.inbox.length,
    jnlFill := s.jnl.book.length, tlyFill := s.tm.ring.length,
    drops := s.queues.filterMap (fun e => if e.2.drops = 0 then none else some (e.1, e.2.drops)), saves := s.pwr.goodSaves, valid := true }

/-- An image goes to the copy that does not hold the newest one (R441). -/
def State.ckptStore (s : State) (c : Ckpt) : State :=
  let k := 1 - s.pwr.newest
  let p : PwrState := if k = 0 then { s.pwr with copy0 := some c } else { s.pwr with copy1 := some c }
  s.setPwr { p with writing := none }

/-- A write that ends whole: the pointer moves; save areas that failed are rewritten from the copy (R427, R441). -/
def State.ckptWritten (s : State) (c : Ckpt) : State :=
  let s1 := s.ckptStore c
  let bad := s1.pwr.badSave.filter (fun d => !(s1.pwr.savedCopy d).isSome)
  let saves := s1.pwr.saves.map (fun e => if s1.pwr.badSave.contains e.1 then (e.1, (s1.pwr.savedCopy e.1).getD e.2) else e)
  s1.setPwr { s1.pwr with newest := 1 - s.pwr.newest, saves := saves, badSave := bad }

def State.ckptBegin (s : State) (final : Bool) : State :=
  s.setPwr { s.pwr with writing := some (s.image final), nextSeq := s.pwr.nextSeq + 1 }

/-- PERIODIC_CHECKPOINT (R442): at a strobe on a multiple of 10 ms. `bad`: the save areas whose CRC it finds wrong (R427). Without VDD_AON there is no
Lichen store to write (R431). -/
def State.periodic (s : State) (bad : List (Fin 20)) : State :=
  let t := s.tm.lastStrobe
  if s.live ∧ s.pwr.aon ∧ s.tm.run ∧ 0 ≤ t ∧ s.now = t ∧ t % uSec / uMs % 10 = 0 ∧ s.pwr.writing.isNone then
    let found := (bad.map (·.val)).filter (fun d => s.pwr.saves.any (fun e => decide (e.1 = d)) && !s.pwr.badSave.contains d)
    (s.setPwr { s.pwr with badSave := s.pwr.badSave ++ found }).ckptBegin false
  else s

/-- CHECKPOINT_WRITE_COMPLETE (R442). -/
def State.ckptComplete (s : State) : State :=
  match s.pwr.writing with
  | some c => if c.final then s else (s.ckptWritten c).inc PWR_CKPTS_count
  | none => s

/-- The freeze of R443: entries closed, the locker commit settled, the image taken, and the blocks stopped. Before spine time runs there is no
freeze tick, so no image is taken and the Lichen store keeps the one it has (log 55); without VDD_AON there is no store. -/
def State.freeze (s : State) (step3 : Bool) : State :=
  let s1 := (if s.tm.run then s.closeAll else s).commitCut step3 true
  let s2 := if s.tm.run ∧ s.pwr.aon then s1.ckptBegin true else s1
  let s3 := s2.setPwr { s2.pwr with chip := .frozen }
  ({ s3 with twn := { s3.twn with beating := false } } : State).gateShow

/-- PFAIL_WARNING (R443). -/
def State.pfailWarn (s : State) (step3 : Bool) : State :=
  if s.pwr.pfail then s
  else
    let s1 := if s.live then s.freeze step3 else s
    s1.setPwr { s1.pwr with pfail := true }

/-! ## Resets and supplies (R430 to R433) -/

/-- What outlives a reset: the Lichen store, the flash, the antifuses, what the board drives, and commands that wait. -/
def State.afterReset (s : State) : State :=
  let r := State.reset
  let prev := match s.pwr.chip with
    | .run => s.fatalBits
    | .frozen => s.fatalBits
    | _ => s.pwr.prevFatal
  let prev := if s.pwr.aon then prev else 0
  { r with
    pending := s.pending,
    free := s.free,
    tios := s.tios.map (fun x => { TioPort.empty with ext := x.ext }),
    twn := { r.twn with partnerLow := s.twn.partnerLow },
    tsv := { r.tsv with polKey := s.key.seeds + 1 },
    cfg := { r.cfg with flash := s.cfg.flash },
    pwr := { r.pwr with copy0 := s.pwr.copy0, copy1 := s.pwr.copy1, newest := s.pwr.newest, nextSeq := s.pwr.nextSeq, prevFatal := prev,
                        rtcValid := s.pwr.rtcValid, aon := s.pwr.aon, core := s.pwr.core, rtc := s.rtcNow, saves := [], pfail := s.pwr.pfail,
                        resetCause := s.pwr.resetCause },
    key := { r.key with ctrs := s.key.ctrs, recovery := s.key.recovery, slot0 := s.key.slot0, slot1 := s.key.slot1,
                        commitBit := s.key.commitBit, seeds := s.key.seeds + 1 },
    jtag := { s.jtag with nonceSeed := s.key.seeds + 1, noncePos := 0, unlocked := false } }

/-- The chip held in reset: it is in LICHEN, or without VDD_AON dark (R430). -/
def State.heldReset (s : State) : State :=
  let r := s.afterReset
  { r with pwr := { r.pwr with chip := if s.pwr.aon then .lichen else .dark } }

/-- A frozen engine whose reset is due is held in reset once no checkpoint is being written (R432, R444). -/
def State.resetDue (s : State) : State := if s.pwr.chip = .frozen ∧ s.pwr.resetCause ≠ 0 ∧ s.pwr.writing.isNone then s.heldReset else s

/-- FINAL_CHECKPOINT_COMPLETE (R443), with the causes set while it was written (R53). -/
def State.finalDone (s : State) : State :=
  match s.pwr.writing with
  | some c => if c.final ∧ s.pwr.chip = .frozen then (s.ckptWritten { c with fatal := s.fatalBits }).resetDue else s
  | none => s

/-- PFAIL_RELEASE (R444): PFAIL_N has been high for 10 ms; a frozen engine is due for a reset of cause 4. -/
def State.pfailRelease (s : State) : State :=
  if ¬ s.pwr.pfail then s
  else
    let cause := if s.pwr.chip = .frozen ∧ s.pwr.resetCause = 0 then 4 else s.pwr.resetCause
    (s.setPwr { s.pwr with pfail := false, resetCause := cause }).resetDue

/-- RESET_N_ASSERT (R432): a checkpoint as for PFAIL_N, and a reset of cause 3. -/
def State.resetAssert (s : State) (step3 : Bool) : State :=
  let s1 := if s.live then s.freeze step3 else s
  let cause := match s1.pwr.chip with
    | .frozen => 3
    | _ => s1.pwr.resetCause
  let s2 := s1.setPwr { s1.pwr with resetCause := cause }
  ({ s2 with jtag := { s2.jtag with resetLow := true }, alarm := false } : State).resetDue

/-- VDD_CORE_LOSS (R430): a checkpoint that was being written fails its CRC (R448); the chip is in LICHEN, or dark where VDD_AON is gone too. -/
def State.coreLoss (s : State) (step3 : Bool) : State :=
  if ¬ s.pwr.core then s
  else
    let s1 := if s.live then s.commitCut step3 false else s
    let s2 := match s1.pwr.writing with
      | some c => s1.ckptStore { c with valid := false }
      | none => s1
    let s3 := s2.heldReset
    { s3 with pwr := { s3.pwr with core := false, resetCause := 0 }, jtag := { s3.jtag with resetLow := true } }

/-- VDD_CORE_RETURN (R432): cause 2, unless VDD_AON has just come up. -/
def State.coreReturn (s : State) : State :=
  if s.pwr.core then s
  else s.setPwr { s.pwr with core := true, resetCause := if s.pwr.chip = .lichen ∧ s.pwr.resetCause = 0 then 2 else s.pwr.resetCause }

/-- VDD_AON_POWER_ON (R432): a reset of cause 1, with no checkpoint before it. -/
def State.aonOn (s : State) : State :=
  if s.pwr.aon then s
  else
    let r := (s.setPwr { s.pwr with aon := true }).heldReset
    r.setPwr { r.pwr with resetCause := 1, rtc := 0, prevFatal := 0 }

/-- VDD_AON_LOSS (R431, R471): the RTC and the Lichen store are lost. A running chip runs on without them, and one that is held in reset is dark. -/
def State.aonLoss (s : State) : State :=
  if ¬ s.pwr.aon then s
  else
    let chip := if s.pwr.chip = .lichen then ChipState.dark else s.pwr.chip
    let s1 := s.setPwr { s.pwr with copy0 := none, copy1 := none, newest := 0, nextSeq := 0, writing := none, saves := [], badSave := [], offSeq := [],
                                    prevFatal := 0, rtcValid := false, aon := false, rtc := 0, chip := chip,
                                    resetCause := if chip = .dark then 0 else s.pwr.resetCause }
    ({ s1 with key := { s1.key with commitBit := none } } : State).resetDue

/-- CHIP_RESET (R433): a reset that is due ends, with both supplies present and, after a warning, PFAIL_N high (R444). `wrapOk`: the root secret
unwraps (R353); `ran`: how far the RTC ran while spine time stood, in 1/32,768 s (R431). -/
def State.chipReset (s : State) (wrapOk : Bool) (ran : Nat) : State :=
  if s.pwr.resetCause = 0 ∨ s.supplied ∨ ¬ s.pwr.core ∨ ¬ s.pwr.aon ∨ (3 ≤ s.pwr.resetCause ∧ s.pwr.pfail) then s
  else
    let r := s.afterReset
    let r1 : State := { r with pwr := { r.pwr with chip := .run, resetCause := 0, rtc := (r.pwr.rtc + ran) % 2 ^ 63 }, key := { r.key with wrapOk := wrapOk },
                               jtag := { r.jtag with resetLow := false, pins := .none } }
    let r2 := (((r1.wf PWR_RESET_CAUSE_cause s.pwr.resetCause).wb PWR_RESET_CAUSE_rtc_valid s.pwr.rtcValid).wf SYS_FATAL_prev r.pwr.prevFatal).wb
      KEY_STATUS_owner0 r.key.recovery.isSome
    if wrapOk then r2 else r2.wrapFailed

/-! ## Restart (R445, R446) -/

/-- Every domain whose clock runs holds spine time from its start (log 34). -/
def DomCopy.start (c : DomCopy) : DomCopy := { c with loaded := c.running, dev := 0 }

/-- Spine time starts at `t`, with an EPOCH entry (R65, R66, R68) and the locks of R180. Raw time counts on both locked rings, the standby's
at its measured relation (R65, R158), and the Bells of ports that are ready count from here (R173). -/
def State.spineStart (s : State) (t : Int) (param : Nat) : State :=
  let c : Chain := { s.chain s.active with raw := 0, rawOn := true, lockedAt := t }
  let o := 1 - s.active
  let s0 := if s.locked o then s.setChain o { s.chain o with rawOn := true, lockedAt := t } else s
  let s1 := s0.setChain s.active c
  let s2 := s1.setTm { s1.tm with run := true, time := t, freqStamp := t, lastStrobe := -1, strobeFrom := t }
  let s3 := s2.setTsv { s2.tsv with cookieAt := gridFrom 0 s2.cookiePeriod (t + 1) }
  let s4 : State := { s3 with doms := s3.doms.map DomCopy.start }
  let s5 := (s4.tlyMark t param 5 4 0).each (List.range 2) (fun s c =>
    if s.locked c then s.journal 1 (0x0700 + c) 0x0703 (c + s.rf (detFld c) * 2) else s)
  let s6 := s5.ready 2 true
  let s7 := s6.each (List.range 36) (fun s n => if s.outState n = 1 then s.outAwait n else s)
  if s7.isReady 3 then s7.each (List.range 32) State.bellRestart else s7

/-- The counts in flight of an image join the drop counters (R446). -/
def State.abandonFold (s : State) (c : Ckpt) : State :=
  let lane := fun (s : State) (n : Nat) =>
    (s.add MACn_CNTi_count ((c.rxIn[n]?).getD 0) (26 * n + 17)).add MACn_CNTi_count ((c.txIn[n]?).getD 0) (26 * n + txDropReset)
  let s1 := s.each (List.range 32) lane
  ((s1.add PWR_TSV_ABANDON_count c.tsvIn).add PWR_ABANDON_RX_count (c.rxIn.foldl (· + ·) 0)).add PWR_ABANDON_TX_count (c.txIn.foldl (· + ·) 0)

/-- Payload of 0x0205. -/
def State.restartEntry (s : State) (kind outage : Nat) (fatal : Bool) : State :=
  s.pwrJournal 0x0205 (kind + s.rf PWR_RESET_CAUSE_cause * 4 + (if fatal then 32 else 0) + satNat 32 outage * 2 ^ 32)

/-- RESTART_RESTORE (R445, R446): spine time starts once a raw timebase is locked. `ran`: how far the RTC ran since the reset, in 1/32,768 s. -/
def State.restart (s : State) (ran : Nat) : State :=
  if s.tm.run ∨ ¬ s.live ∨ ¬ s.locked s.active then s
  else
    let rtc := (s.pwr.rtc + ran) % 2 ^ 63
    let s0 := s.setPwr { s.pwr with rtc := rtc }
    match s.pwr.copies with
    | c :: _ =>
      let out := rtc - c.rtc
      let t := c.time + (out : Int) * 2000000000
      let kind := if c.final then 1 else 2
      let s1 : State := { s0 with regs := regsLoad inImage c.regs s0.regs }
      let s1 := c.drops.foldl (fun s e => s.setQueue e.1 { s.queue e.1 with drops := e.2 }) s1
      let s2 := c.saves.foldl (fun s e => { s with regs := regsLoad (inSaveList e.1) e.2 s.regs }) s1
      let s3 := ((((((s2.wf PWR_RESTART_kind kind).wf PWR_OUTAGE_ticks out).wf PWR_CKPT_TIME_time (packTime c.time)).wf PWR_LOST_jnl
        c.jnlFill).wf PWR_LOST_tly c.tlyFill).wb PWR_RESET_CAUSE_ckpt_fatal (decide (c.fatal ≠ 0))).abandonFold c
      let restore := if c.fatal = 0 then c.srv.map (fun x => (x, out * 1000000000000 / 32768)) else none
      let s4 := ((s3.setSrv { s3.srv with restore := restore }).spineStart t 1).each (List.range 19) (fun s d => s.woken d)
      s4.restartEntry kind out (decide (c.fatal ≠ 0))
    | [] =>
      let t : Int := if s.pwr.rtcValid then (rtc : Int) * 2000000000 else 0
      ((s0.spineStart t 0).wf PWR_RESTART_kind 0).restartEntry 0 0 false

/-! ## PD_HOST resets (R432, R463, R485) -/

/-- The endpoint's own reset: MSI-X table, PBA and PEND. -/
def State.hostReset (s : State) : State :=
  let s1 : State := { s with regs := tabClear (fun k => decide (0x8000 ≤ k / 8) && decide (k / 8 < 0xA000)) s.regs,
                             pcie := { PcieState.empty with posted := s.pcie.posted } }
  s1.each (List.range 16) (fun s w => s.wf SYS_IRQ_PENDw_pend 0 w)

/-- PCIE_FUNCTION_RESET (R463): a hot reset also takes the link down. -/
def State.pcieReset (s : State) (hot : Bool) : State := if hot then s.hostReset.ready 10 false else s.hostReset

/-! ## Meanings -/

def execPwrOn (r : Req) (d : Fin 64) (past : Bool) (s : State) : Result := .next (s.whenUp (s.pwrCmd r d.val 0 past))
def execPwrIdle (r : Req) (d : Fin 64) (s : State) : Result := .next (s.whenUp (s.pwrCmd r d.val 1 false))
def execPwrMoss (r : Req) (d : Fin 64) (s : State) : Result := .next (s.whenUp (s.pwrCmd r d.val 2 false))
def execPwrRetain (r : Req) (d : Fin 64) (s : State) : Result := .next (s.whenUp (s.pwrCmd r d.val 3 false))
def execPwrOff (r : Req) (d : Fin 64) (s : State) : Result := .next (s.whenUp (s.pwrCmd r d.val 4 false))
def execPwrTransitionComplete (flips : List (Nat × BitVec 8)) (s : State) : Result := .next (s.whenUp (s.pwrComplete flips))
def execPeriodicCheckpoint (bad : List (Fin 20)) (s : State) : Result := .next (s.whenUp (s.periodic bad))
def execCheckpointWriteComplete (s : State) : Result := .next (s.whenUp s.ckptComplete)
def execPfailWarning (step3 : Bool) (s : State) : Result := .next (s.pfailWarn step3)
def execFinalCheckpointComplete (s : State) : Result := .next s.finalDone
def execPfailRelease (s : State) : Result := .next s.pfailRelease
def execResetNAssert (step3 : Bool) (s : State) : Result := .next (s.resetAssert step3)
def execVddAonPowerOn (s : State) : Result := .next s.aonOn
def execVddAonLoss (s : State) : Result := .next s.aonLoss
def execVddCoreLoss (step3 : Bool) (s : State) : Result := .next (s.coreLoss step3)
def execVddCoreReturn (s : State) : Result := .next s.coreReturn
def execChipReset (wrapOk : Bool) (ran : BitVec 63) (s : State) : Result := .next (s.chipReset wrapOk ran.toNat)
def execRestartRestore (ran : BitVec 63) (s : State) : Result := .next (s.restart ran.toNat)
def execPcieFunctionReset (hot : Bool) (s : State) : Result := .next (s.whenUp (s.pcieReset hot))
def execPerstNAssert (s : State) : Result := .next (s.whenUp (s.pcieReset true))

end Sys2Proof.Machine
end

