-- ==== Sys2Proof/Machine/Chain.lean ====
section
/-!
DEFINITION. Changes of the timebase in use, with the block grids of the lanes (R156, R159 to R161, R304), and the tick.
-/

namespace Sys2Proof.Machine
open Sys2Proof Reg

/-- After a change that may have switched the timebase: every lane's block grid moves by its hit, in bins, and by nothing else (R304). -/
def State.gridsAfter (before after : State) : State :=
  if after.rf SYN_FAILOVERS_count = before.rf SYN_FAILOVERS_count then after
  else (List.range 32).foldl (fun s n => s.gridMove n (64 * after.tm.hit)) after

/-- A chain locks only while the chip runs. -/
def State.lockChain (s : State) (c : Nat) (ofs hit : Int) : State := if s.live then s.chainLock c ofs hit else s

/-- At each tick the general frames that wait go on (R312; log 69). -/
def State.lanesRun (s : State) : State :=
  if s.live ∧ s.lanes.any (fun x => decide (x.gens ≠ [])) then (List.range 32).foldl State.genRun s else s

/-! ## Meanings -/

def execSpineTick (drift : Int) (s : State) : Result := .next (s.whenUp ((s.gridsAfter (s.spineTickAll drift)).lanesRun))
def execChainLock (c : Fin 2) (ofs hit : Int) (s : State) : Result := .next (s.whenUp (s.lockChain c.val ofs hit))
def execChainLost (c : Fin 2) (lockMon : Bool) (hit : Int) (s : State) : Result := .next (s.whenUp (s.gridsAfter (s.chainLost c.val lockMon hit)))
def execSynOscConfigWrite (_ : Req) (c : Fin 2) (v : BitVec 32) (hit : Int) (s : State) : Result :=
  .next (s.whenUp (s.gridsAfter (s.oscConfig c.val v.toNat hit)))
def execSynSwitch (_ : Req) (hit : Int) (s : State) : Result := .next (s.whenUp (s.gridsAfter (s.synSwitch hit)))
def execTimebaseRevert (hit : Int) (s : State) : Result := .next (s.whenUp (s.gridsAfter (s.timebaseRevert hit)))

end Sys2Proof.Machine
end

