-- ==== Sys2Proof/Machine/Flash.lean ====
section
/-!
DEFINITION. The QSPI flash: its bytes, and the commands of R434 and R439.
-/

namespace Sys2Proof.Machine
open Sys2Proof Reg

def State.setCfg (s : State) (c : CfgState) : State := { s with cfg := c }

/-- What an erased flash byte reads (log 40). -/
def flashErased : Byte := 0xFF

/-- A byte of a list of flash cells. -/
def flashGet (a : Nat) : List Host.Cell → Byte
  | [] => flashErased
  | (k, v) :: t => if k = a then v else if a < k then flashErased else flashGet a t

/-- The cells with byte `v` at `a`: an erased byte is not listed. -/
def flashSet (a : Nat) (v : Byte) : List Host.Cell → List Host.Cell
  | [] => if v = flashErased then [] else [(a, v)]
  | (k, w) :: t =>
    if a < k then (if v = flashErased then (k, w) :: t else (a, v) :: (k, w) :: t)
    else if k = a then (if v = flashErased then t else (a, v) :: t)
    else (k, w) :: flashSet a v t

def flashSetList (a : Nat) : List Byte → List Host.Cell → List Host.Cell
  | [], m => m
  | b :: t, m => flashSetList (a + 1) t (flashSet a b m)

/-- The flash regions of the locker slots (R434). -/
def inSlots (a : Nat) : Bool := decide (0x800000 ≤ a) && decide (a < 0x880000)

def State.flashByte (s : State) (a : Nat) : Byte :=
  if inSlots a then
    let k := (a - 0x800000) / 0x40000
    Config.slotByte (match s.keySlot k with | some x => x.seq + 1 | none => 0) ((a - 0x800000) % 0x40000)
  else flashGet a s.cfg.flash

/-- `n` flash bytes from offset `a`. -/
def State.flashBytes (s : State) (a n : Nat) : List Byte := (List.range n).map (fun i => s.flashByte (a + i))

/-- The refusal of a command, 0 where it starts: PROTECT and RANGE of R439. -/
def flashRefusal (c : FlashCmd) : Nat :=
  let n := if c.op = 3 then 0x10000 else c.len
  let touches := decide (c.op ≠ 1) && decide (c.addr < 0x880000) && decide (0x800000 < c.addr + n)
  if touches then 2
  else if c.op = 3 then (if c.addr % 0x10000 ≠ 0 then 3 else 0)
  else if c.len = 0 ∨ 65536 < c.len ∨ 0x800000 < c.buf + c.len then 3
  else 0

/-- A command ends; CFG_FLASH asserts (R461). -/
def State.flashDone (s : State) (res : Nat) : State :=
  ((s.wf CFG_FLASH_RESULT_result res).wf CFG_FLASH_RESULT_done 1).assertSrc 36 (s.domNow 0)

/-- A write of CFG_FLASH_CMD (R439). -/
def State.flashCmd (s : State) (r : Req) (op : Nat) : State :=
  if ¬ reqIsHostOrF0 r then s.ignoreWrite r
  else if ¬ s.rb CFG_FLASH_RESULT_done then s.wf CFG_FLASH_RESULT_result 1
  else
    let c : FlashCmd := ⟨op, s.rf CFG_FLASH_ADDR_addr, s.rf CFG_FLASH_BUF_base * 64, s.rf CFG_FLASH_LEN_bytes⟩
    let res := flashRefusal c
    if res ≠ 0 then s.flashDone res
    else (s.setCfg { s.cfg with cmd := some c }).wf CFG_FLASH_RESULT_done 0

/-- FLASH_COMPLETE: the transfer, and its result. After an error of a program or an erase the bytes hold free values. -/
def State.flashComplete (s : State) (ok : Bool) : State :=
  match s.cfg.cmd with
  | none => s
  | some c =>
    let s0 := s.setCfg { s.cfg with cmd := none }
    let n := if c.op = 3 then 0x10000 else c.len
    if ok then
      match c.op with
      | 1 => (s0.engStore 0 c.buf (s0.flashBytes c.addr n)).flashDone 0
      | 2 =>
        let r := s0.engLoad 0 c.buf n
        if r.2.2 then r.1.flashDone 4
        else (r.1.setCfg { r.1.cfg with flash := flashSetList c.addr r.2.1 r.1.cfg.flash }).flashDone 0
      | _ => (s0.setCfg { s0.cfg with flash := s0.cfg.flash.filter (fun x => decide (x.1 < c.addr) || decide (c.addr + n ≤ x.1)) }).flashDone 0
    else if c.op = 1 then s0.flashDone 4
    else
      let bad := (List.range n).map (fun i => Config.flashBad s.free (c.addr + i))
      let s1 : State := { s0 with free := s0.free + 1 }
      (s1.setCfg { s1.cfg with flash := flashSetList c.addr bad s1.cfg.flash }).flashDone 4

/-! ## Meanings -/

def execFlashRead (r : Req) (s : State) : Result := .next (s.whenUp (s.flashCmd r 1))
def execFlashProgram (r : Req) (s : State) : Result := .next (s.whenUp (s.flashCmd r 2))
def execFlashErase (r : Req) (s : State) : Result := .next (s.whenUp (s.flashCmd r 3))
def execFlashComplete (ok : Bool) (s : State) : Result := .next (s.whenUp (s.flashComplete ok))

end Sys2Proof.Machine
end

