-- ==== Sys2Proof/Machine/Access.lean ====
section
/-!
DEFINITION. What a write of a register does (R13, R14, R141, R459), block by block, and what a read of it returns.
-/

namespace Sys2Proof.Machine
open Sys2Proof Reg

/-! ## Field access (R13) -/

/-- A write of `v` to a field: RW takes it, W1C clears, RO and WO keep (R13). -/
def State.putFld (s : State) (f : Fld) (n v : Nat) : State :=
  let b := bitsOf v f.pos f.width
  match f.acc with
  | .rw => s.wf f b n
  | .w1c => s.wf f (s.rf f n - (s.rf f n &&& b)) n
  | _ => s

/-- A write of a register's whole value: its RW and W1C fields (R13). -/
def State.putReg (s : State) (r : RegDef) (n v : Nat) : State := r.flds.foldl (fun s f => s.putFld f n v) s

/-- Byte `i` of a list of bytes taken as 32-bit words: word `w`. -/
def wordOf (l : Bytes) (w : Nat) : Nat := sliceNat l (4 * w) 4

/-! ## What a read returns now -/

/-- Seconds of a slot that remain until a raw time, rounded up (log 38). -/
def State.secsLeft (s : State) (n : Nat) (t : Int) : Nat := if t ≤ s.slotMark n then 0 else ((t - s.slotMark n + uSec - 1) / uSec).toNat

/-- RCLn_TIMER: qualify, wait-to-restore or settle time left (R229). -/
def State.slotTimer (s : State) (n : Nat) : Nat :=
  let x := s.slot n
  if s.rb RCLn_STATUS_wtr n then s.secsLeft n x.wtrEnd
  else if s.slotState n = 2 then s.secsLeft n x.timer
  else if s.slotState n = 4 then (match x.settle with | some o => s.secsLeft n (o.start + (s.rf RCL_JUMP_SETTLE_secs : Int) * uSec) | none => 0)
  else 0

/-- KEY_LOCKi (R380). -/
def State.lockWord (s : State) (i : Nat) : Nat :=
  match s.locker i with
  | some x => x.attr % 8 + (if x.noexport then 8 else 0) + (if x.p384 then 16 else 0) + x.origin % 4 * 32 + x.owner % 16 * 128 +
      (x.master.getD 0) % 1024 * 2048
  | none => 0

/-- RW registers of roll-call slot 23, which keep nothing (R229). -/
def rclFixed (b : Nat) : Bool := [0x60104, 0x60108, 0x6010C, 0x60110, 0x60114, 0x60118].contains b

/-- What a read of a register returns (R13): its fields, and the values that follow the engine's state. -/
def State.regValue (s : State) (r : RegDef) (n : Nat) : Nat :=
  if r.base = 0x0 then s.getReg r n + (if Config.grade then 2 ^ 24 else 0)
  else if r.base = 0x1000 ∧ n = 0 then 0x40
  else if r.base = 0x9000 then ((List.range 64).filter s.vecPending).foldl (fun x v => x + 2 ^ v) 0
  else if r.base = 0x10034 then s.rtcNow % 32768
  else if r.base = 0x10038 then s.rtcNow / 32768 % 2 ^ 48
  else if r.base = 0x31020 then ofSigned 96 s.tm.total
  else if r.base = 0x44020 then (s.tioShow n).getReg r n
  else if r.base = 0x50000 ∧ n = 32 ∨ 0x50000 < r.base ∧ r.base < 0x50040 ∧ n = 32 then 0
  else if 0x58000 ≤ r.base ∧ r.base < 0x58040 ∧ n = 32 then 0
  else if r.base = 0x60100 ∧ n = 23 then 0x18
  else if rclFixed r.base ∧ n = 23 then 0
  else if r.base = 0x60120 then s.slotQ n % 65536
  else if r.base = 0x60124 then ofSigned 64 (satSigned 64 (unitsOfFp (s.slotOfs n)))
  else if r.base = 0x6012C then ofSigned 48 (satSigned 48 (s.slotFit n).freq)
  else if r.base = 0x60134 then s.slotTimer n % 2 ^ 32
  else if r.base = 0x70078 then ofSigned 64 (satSigned 64 (unitsOfFp s.phase))
  else if r.base = 0x700AC then s.sinceFeed
  else if r.base = 0xA0040 then wordOf (fitBytes 48 s.key.chain) n
  else if r.base = 0xA0070 then wordOf idHash n
  else if r.base = 0xA00A0 then wordOf (fitBytes 48 s.key.pin) n
  else if r.base = 0xA00D0 then wordOf (fitBytes 48 s.key.pend) n
  else if r.base = 0xA0100 then (s.key.ctrs.toList[n]?).getD 0 % 32768
  else if r.base = 0xA0148 then Config.cert.length % 2048
  else if r.base = 0xA0400 then wordOf s.manifestBytes n
  else if r.base = 0xA1000 then wordOf (fitBytes 2048 Config.cert) n
  else if r.base = 0xA2000 then s.lockWord n
  else if r.base = 0xB0004 then s.hbShow.getReg r n
  else if r.base = 0x90F00 then (match s.tsv.snap with | some l => (l[n]?).getD 0 | none => s.getReg r n)
  else if r.base = 0x100200 then
    (match (s.lane (n / 26)).snap with | some l => (l[n % 26]?).getD 0 | none => s.getReg r n)
  else s.getReg r n

/-! ## Values that no rule fixes at a register write (log 39) -/

/-- The next draw. -/
def State.drawn (s : State) : State := { s with free := s.free + 1 }

/-! ## Writes, block by block -/

/-- A write of a ring's size: `lo` to `hi` are taken, other values are ignored. -/
def State.ringSize (s : State) (f : Fld) (lo hi n v : Nat) : State :=
  let k := bitsOf v f.pos f.width
  if lo ≤ k ∧ k ≤ hi then s.wf f k n else s

/-- A write of a ring's tail: outside TAIL to HEAD it is ignored (R73). -/
def State.ringTail (s : State) (size head tail : Fld) (n v : Nat) : State :=
  let k := s.rf size n
  let w := bitsOf v tail.pos tail.width
  if w < 2 ^ k ∧ ringFill k w (s.rf tail n) ≤ ringFill k (s.rf head n) (s.rf tail n) then s.wf tail w n else s

/-- A write that a block takes from the host and F0 alone (R141). -/
def State.hostF0 (s : State) (r : Req) (f : State → State) : State := if reqIsHostOrF0 r then f s else s.ignoreWrite r

/-- A write that a block takes from the host and F0 in supervisor mode alone (R119, R133, R459). -/
def State.hostSup (s : State) (r : Req) (f : State → State) : State := if s.hostOrSupF0 r then f s else s.ignoreWrite r

/-- SYS, PWR, CFG (R459, R424, R439). -/
def State.writeSys (s : State) (q : Req) (r : RegDef) (n v : Nat) : State :=
  if r.base = 0x8 ∨ r.base = 0x840 then s.hostSup q (fun s => s.putReg r n v)
  else if r.base = 0x1000 then s.irqRoute q n v
  else if r.base = 0x10000 then (s.pwrCmd q (bitsOf v 0 6) (bitsOf v 6 3) (Config.freePast s.free)).drawn
  else if r.base = 0x20014 then (if bitsOf v 0 2 = 0 then s else s.flashCmd q (bitsOf v 0 2))
  else s.putReg r n v

/-- SPN, TLY, JNL (R58 to R62, R73, R83, R84). -/
def State.writeTime (s : State) (q : Req) (r : RegDef) (n v : Nat) : State :=
  if r.base = 0x30000 then (if bitOf v 0 then s.snapRequest else s)
  else if r.base = 0x30044 then
    let s1 := s.putReg r n v
    s1.wf SPN_UTC_STATUS_offset s1.utcOffset
  else if r.base = 0x30050 then
    match bitsOf v 0 2 with
    | 1 => s.leapAdd q
    | 2 => s.leapCancel q (bitsOf v 4 4)
    | _ => s
  else if r.base = 0x31004 then s.drainRingWrite false v
  else if r.base = 0x31008 then s.drainRingWrite true v
  else if r.base = 0x31010 then s.drainTailWrite (v % 65536)
  else if r.base = 0x31014 then s.drainThreshWrite v
  else if r.base = 0x32004 then s.putReg r n (v / 64 * 64)
  else if r.base = 0x3201C then s.bookThreshWrite v
  else if r.base = 0x3200C then s.ringSize JNL_DMA_SIZE_log2n 10 20 n v
  else if r.base = 0x32014 then s.dmaTailWrite (v % 2 ^ 20)
  else if r.base = 0x32020 ∨ r.base = 0x32024 then
    match q with
    | .host => s.putReg r n v
    | _ => s.ignoreWrite q
  else if r.base = 0x3202C then (if bitOf v 0 ∨ ¬ reqIsHost q then s.hostPush q else s)
  else s.putReg r n v

/-- SYN, OUT, TIO (R157, R161 to R179). -/
def State.writeSyn (s : State) (r : RegDef) (n v : Nat) : State :=
  if r.base = 0x40004 then
    let h := Config.freeHit s.free
    (s.gridsAfter (s.oscConfig n v h)).drawn
  else if r.base = 0x40010 then
    if bitOf v 0 then
      let h := Config.freeHit s.free
      (s.gridsAfter (s.synSwitch h)).drawn
    else s
  else if r.base = 0x40124 then (if bitOf v 0 then s.ageCommit n else s)
  else if r.base = 0x40040 then
    let s1 := s.putReg r n v
    if v % 4 = 1 ∨ v % 4 = 2 then s1 else s1.wf SYN_TUNE_NOW_code 0x800000
  else if r.base = 0x41000 then s.outCtl n v
  else if r.base = 0x41004 then s.outPlan n (.inc (BitVec.ofNat 64 v))
  else if r.base = 0x4100C then s.outPlan n (.freq (BitVec.ofNat 48 v))
  else if 0x41000 < r.base ∧ r.base < 0x41040 ∧ 32 ≤ n then s
  else if r.base = 0x44000 then s.tioCfg n v
  else if r.base = 0x44004 then s.bellConfig n .period v
  else if r.base = 0x44008 then s.bellConfig n .width v
  else if r.base = 0x4400C then s.bellConfig n .ofs v
  else if r.base = 0x44010 then s.bellConfig n .align v
  else s.putReg r n v

/-- TDC and MOSS (R181 to R203). -/
def State.writeTdc (s : State) (r : RegDef) (n v : Nat) : State :=
  if n = 32 ∧ (r.base < 0x50040 ∨ 0x58000 ≤ r.base ∧ r.base < 0x58040) then s
  else if r.base = 0x50000 then s.tdcConfig n .ctl v
  else if r.base = 0x50004 then s.tdcConfig n .src v
  else if r.base = 0x50008 then s.tdcConfig n .skip v
  else if r.base = 0x50010 then s.tdcConfig n .limit v
  else if r.base = 0x58004 then (s.putReg r n v).mossPeriodSet n
  else if r.base = 0x59004 then (s.putReg r n v).mossGPeriodSet n
  else if r.base = 0x59000 then
    let s1 := (s.putReg r n v).mossGShow n
    if bitOf v 30 then s1.mossGRelease n else s1
  else s.putReg r n v

/-- RCL and SRV (R227 to R229, R247). -/
def State.writeRcl (s : State) (r : RegDef) (n v : Nat) : State :=
  if r.base = 0x60018 then
    let k := bitsOf v 8 5
    match bitsOf v 0 3 with
    | 1 => s.rclForce k
    | 2 => s.rclUnforce k
    | 3 => s.rclReadmit k
    | 4 => s.rclSkipWtr k
    | 5 => s.rclReeval k
    | _ => s
  else if r.base = 0x60100 then s.slotConfig n v
  else if rclFixed r.base ∧ n = 23 then s
  else if r.base = 0x60080 ∨ r.base = 0x60114 then (s.putReg r n v).qChanged s
  else if r.base = 0x70000 then s.srvCtlWrite v
  else if r.base = 0x70058 then
    match bitsOf v 0 2 with
    | 1 => s.servoAccept
    | 2 => s.servoDismiss
    | 3 => s.servoReset
    | _ => s
  else s.putReg r n v

/-- A port's dump ring lies in the commons: a write that would take it past their end is ignored, as for the drain ring (R73, R277). -/
def dumpRingFits (base k : Nat) : Bool := decide (base * 64 + 64 * 2 ^ k ≤ 0x800000)

/-- GNS (R263 to R292). -/
def State.writeGns (s : State) (r : RegDef) (n v : Nat) : State :=
  if r.base = 0x80008 then s.acqSubmit (v % 64)
  else if r.base = 0x80020 then
    let s1 := s.putReg r n v
    let s2 := if bitOf v 11 then s1.snapGo else s1
    if bitOf v 12 then s2.snapAbort else s2
  else if r.base = 0x80024 ∨ r.base = 0x800B4 then (if timeOk v then s.putReg r n v else s)
  else if r.base = 0x800B0 then
    let s1 := s.putReg r n v
    if bitOf v 4 then s1.xlatchArm else s1
  else if r.base = 0x800D0 then s.solWrite n v
  else if r.base = 0x80100 then s.portConfig n v
  else if r.base = 0x8013C then (if dumpRingFits (bitsOf v 6 17) (s.rf GNS_Pp_RING_SIZE_log2n n) then s.putReg r n v else s)
  else if r.base = 0x80140 then
    if dumpRingFits (s.rf GNS_Pp_RING_BASE_base n) (bitsOf v 0 5) then s.ringSize GNS_Pp_RING_SIZE_log2n 8 16 n v else s
  else if r.base = 0x80148 then s.ringTail GNS_Pp_RING_SIZE_log2n GNS_Pp_RING_HEAD_head GNS_Pp_RING_TAIL_tail n v
  else s.putReg r n v

/-- TSV (R323 to R351). -/
def State.writeTsv (s : State) (r : RegDef) (n v : Nat) : State :=
  if r.base = 0x90020 then s.ringSize TSV_FWD_SIZE_log2n 10 17 n v
  else if r.base = 0x90028 then s.ringTail TSV_FWD_SIZE_log2n TSV_FWD_HEAD_head TSV_FWD_TAIL_tail 0 v
  else if r.base = 0x90048 then s.ringSize TSV_KE_SIZE_log2n 4 10 n v
  else if r.base = 0x90054 then s.tsvSnap (bitOf v 0)
  else if r.base = 0x90100 then (s.putReg r n v).laneProfile s n
  else if 0x90200 ≤ r.base ∧ r.base < 0x90220 then
    let s1 := s.putReg r n v
    if s1.regs = s.regs then s1 else s1.profileChanged s n
  else if 0x90400 ≤ r.base ∧ r.base < 0x90408 then
    let s1 := s.putReg r n v
    if s1.rf KEY_STATUS_state = 1 then s1.keyEntryCheck n else s1
  else if r.base = 0x9002C then s.cookieConfig (s.putReg r n v)
  else if r.base = 0x90800 then s.upEnable n v
  else if r.base = 0x90838 then (if bitOf v 0 then s.upResume n else s)
  else s.putReg r n v

/-- The kind of the update message that waits in the input buffer (R365). -/
def State.updKind (s : State) : Nat :=
  let k := sliceNat (s.keyIn.2.getD []) 6 1
  if 1 ≤ k ∧ k ≤ 7 then k else 1

/-- KEY (R380): the command register and its buffers belong to F0 and the host (R141; log 41). -/
def State.writeKey (s : State) (q : Req) (r : RegDef) (n v : Nat) : State :=
  if r.base = 0xA0004 then
    match bitsOf v 0 4 with
    | 1 => s.keyUnseal q
    | 2 => s.keyApply q s.updKind
    | 3 => s.keyAuthorise q (bitsOf v 4 4)
    | 4 => s.keyPrepare q
    | 5 => s.keyAttest q (bitsOf v 8 10)
    | 6 => s.keyQuote q
    | 7 => s.keyCsr q
    | 8 => s.keyTransport q
    | 9 => s.keyPin q
    | _ => s.hostF0 q (fun s => s)
  else if r.base = 0xA0020 then s.hostF0 q (fun s => s.ringSize KEY_USE_SIZE_log2n 4 10 n v)
  else if r.base = 0xA000C ∨ r.base = 0xA0010 ∨ r.base = 0xA0014 ∨ r.base = 0xA001C ∨ r.base = 0xA0024 then s.hostF0 q (fun s => s.putReg r n v)
  else s.putReg r n v

/-- TWN (R398, R403). -/
def State.writeTwn (s : State) (q : Req) (r : RegDef) (n v : Nat) : State :=
  if r.base = 0xB0000 then s.twnConfig v
  else if r.base = 0xB0008 then
    let s1 := if bitOf v 0 then (s.twnSwap (.own q) (Config.freeCmp s.free)).drawn else s
    let s2 := if bitOf v 1 then s1.swapAbort (.own q) else s1
    if bitOf v 2 then s2.twnResync (.own q) else s2
  else if r.base = 0xB0014 then (if bitOf v 0 then s.twnKick q else s)
  else s.putReg r n v

/-- MEM, PRF, FRD (R413, R133, R142, R119). -/
def State.writeMem (s : State) (q : Req) (r : RegDef) (n v : Nat) : State :=
  if r.base = 0xC0080 ∨ r.base = 0xC0084 then
    let f2h := decide (r.base = 0xC0084)
    let s1 := if bitOf v 1 then s.doorbellClear n f2h else s
    if bitOf v 0 then s1.doorbellSet n f2h else s1
  else if r.base = 0xE0000 then
    let f : Fin 16 := Fin.ofNat 16 (bitsOf v 4 4)
    if ¬ reqIsHostOrF0 q then s.ignoreWrite q
    else
      match bitsOf v 0 3 with
      | 1 => s.frdHalt q f
      | 2 => s.frdRestart q f
      | 3 => s.frdStage q f
      | 4 => s.frdSwap q f
      | 5 => s.frdUnstage q f
      | _ => s
  else if r.base = 0xD0000 then s.hostF0 q (fun s => s.putReg r n v)
  else if r.base = 0xE0008 then s.hostSup q (fun s => s.putReg r n v)
  else if r.base = 0xE1000 then s.hostSup q (fun s => if srcListed n then s.putReg r n v else s)
  else s.putReg r n v

/-- MAC: the registers of a bond's members are ignored (R296, R300, R301, R315, R318). -/
def State.writeMac (s : State) (r : RegDef) (n v : Nat) : State :=
  if r.base = 0x1FFFF0 then s.putReg r n v
  else
    let lane := if r.sub = 1 then n else n / r.sub
    if s.member lane then s
    else if r.base = 0x100000 then s.macCtl n v
    else if r.base = 0x1000AC then (if bitOf v 0 then s.macCal n else s)
    else if r.base = 0x1000BC then s.macPwr n v
    else if r.base = 0x1000C4 then s.ringSize MACn_RXG_SIZE_log2n 10 17 n v
    else if r.base = 0x1000CC then s.ringTail MACn_RXG_SIZE_log2n MACn_RXG_HEAD_head MACn_RXG_TAIL_tail n v
    else if r.base = 0x1001F0 then s.macSnap n (bitOf v 0)
    else s.putReg r n v

/-- A register takes a whole value from a requester (REGISTER_WRITE, R13, R459). -/
def State.writeReg (s : State) (q : Req) (r : RegDef) (n v : Nat) : State :=
  if r.base < 0x30000 then s.writeSys q r n v
  else if r.base < 0x40000 then s.writeTime q r n v
  else if r.base < 0x50000 then s.writeSyn r n v
  else if r.base < 0x60000 then s.writeTdc r n v
  else if r.base < 0x80000 then s.writeRcl r n v
  else if r.base < 0x90000 then s.writeGns r n v
  else if r.base < 0xA0000 then s.writeTsv r n v
  else if r.base < 0xB0000 then s.writeKey q r n v
  else if r.base < 0xC0000 then s.writeTwn q r n v
  else if r.base < 0x100000 then s.writeMem q r n v
  else s.writeMac r n v

end Sys2Proof.Machine
end

