-- ==== Sys2Proof/Machine/Bus.lean ====
section
/-!
DEFINITION. The access rules of R454 to R459: what an address is, read latches and write stages, the byte memories as a port sees them, and
the management SPI slave (R464, R465).
-/

namespace Sys2Proof.Machine
open Sys2Proof Reg

/-! ## The map (R454, R455) -/

/-- The Register ranges of R454, first and last address. -/
def regRanges : List (Nat × Nat) :=
  [(0x0, 0x9FFF), (0x10000, 0x10077), (0x20000, 0x2017F), (0x30000, 0x3017F), (0x31000, 0x3103F), (0x32000, 0x3225F), (0x40000, 0x40F13),
   (0x41000, 0x418FF), (0x44000, 0x44FFF), (0x50000, 0x50C17), (0x58000, 0x590FF), (0x60000, 0x606FF), (0x70000, 0x7011F), (0x80000, 0x802FF)] ++
  [(0x90000, 0x90FFF), (0xA0000, 0xA2FFF), (0xB0000, 0xB0124), (0xC0000, 0xC009F), (0xD0000, 0xD017F), (0xE0000, 0xE17FF), (0x100000, 0x1FFFFF)]

def inRegs (a : Nat) : Bool := regRanges.any (fun r => decide (r.1 ≤ a) && decide (a ≤ r.2))

def inRecords (a : Nat) : Bool := decide (0x200000 ≤ a) && decide (a < 0x220000)
def inAcqSlots (a : Nat) : Bool := decide (0x220000 ≤ a) && decide (a < 0x221000)
def inSessions (a : Nat) : Bool := decide (0x600000 ≤ a) && decide (a < 0x800000)

/-- The end of the memory that holds an address (R455). -/
def memEnd (a : Nat) : Option Nat :=
  if inMailbox a then some (0xC8000 + (mailboxOf a + 1) * 0x2000)
  else if inRecords a then some (0x200000 + ((a - 0x200000) / 0x8000 + 1) * 0x8000)
  else if inAcqSlots a then some 0x221000
  else if inLocal a then some (0x400000 + ((a - 0x400000) / 0x10000 + 1) * 0x10000)
  else if inSessions a then some 0x800000
  else if inCommons a then some 0x1000000
  else none

/-- What an access of `n` bytes at `a` meets. -/
inductive Target where
  | reg
  | unmapped
  | mem
  /-- Not one aligned word of a Register range, or past the end of its memory (R455). -/
  | bad
  deriving DecidableEq, Repr

def targetOf (a n : Nat) : Target :=
  match memEnd a with
  | some e => if a + n ≤ e then .mem else .bad
  | none =>
    if ¬ inRegs a then .unmapped
    else if a % 4 ≠ 0 ∨ n ≠ 4 then .bad
    else if (regAt a).isSome then .reg else .unmapped

def State.badAccess (s : State) : State := s.inc SYS_BAD_ACCESS_count

/-! ## Requesters (R457, R458) -/

/-- The domain of an address is in RETAIN or OFF (R93, R423). -/
def State.unserved (s : State) (a : Nat) : Bool := !s.pdServed (domainOf a)

/-! ## Register words -/

/-- A multi-word register in the sense of R457 and R458: its words are _LO, _MID, _HI. MSI-X entries, directory entries, upstream addresses
and channel records are single words (log 42). -/
def RegDef.multi (r : RegDef) : Bool :=
  decide (1 < r.words) && decide (r.base ≠ 0x8000) && decide (r.base ≠ 0x20100) && decide (r.base ≠ 0x90804) && decide (r.base < 0x200000)

def RegDef.writable (r : RegDef) : Bool := r.flds.any (fun f => decide (f.acc = .rw))

def wordAt (v w : Nat) : Nat := bitsOf v (32 * w) 32
def setWord (v w x : Nat) : Nat := v - wordAt v w * 2 ^ (32 * w) + x % 2 ^ 32 * 2 ^ (32 * w)

def State.setLatch (s : State) (q : Req) (l : Option Latch) : State := { s with acc := { s.acc with latch := s.acc.latch.set (reqIx q) l } }
def State.setStage (s : State) (q : Req) (x : Option Stage) : State := { s with acc := { s.acc with stage := s.acc.stage.set (reqIx q) x } }

/-- A read of a register word (R457). -/
def State.readWord (s : State) (q : Req) (x : RegWord) : State × Nat :=
  let a := x.reg.addr x.inst
  let v := s.regValue x.reg x.inst
  if ¬ x.reg.multi then (s, wordAt v x.word)
  else if x.word = 0 then
    (s.setLatch q (some ⟨a, (List.range (x.reg.words - 1)).map (fun i => wordAt v (i + 1))⟩), wordAt v 0)
  else
    match s.acc.latch[reqIx q] with
    | some l => if l.reg = a then (s, (l.words[x.word - 1]?).getD 0) else (s, wordAt v x.word)
    | none => (s, wordAt v x.word)

/-- The held words of a stage laid over a register's value. -/
def Stage.over (t : Stage) (v : Nat) : Nat := t.held.foldl (fun v e => setWord v e.1 e.2) v

/-- A write of a register word (R458). -/
def State.writeWord (s : State) (q : Req) (x : RegWord) (v : Nat) : State :=
  let a := x.reg.addr x.inst
  if ¬ x.reg.multi then
    if x.reg.words = 1 then s.writeReg q x.reg x.inst (v % 2 ^ 32)
    else if x.reg.base = 0x20100 then s
    else
      let old := s.getReg x.reg x.inst
      s.putReg x.reg x.inst (setWord old x.word v)
  else if ¬ x.reg.writable then s
  else if x.reg.base = 0x32024 ∧ ¬ reqIsHost q then s.ignoreWrite q
  else if x.word + 1 < x.reg.words then
    match s.acc.stage[reqIx q] with
    | some t =>
      if t.reg = a then s.setStage q (some ⟨a, (x.word, v % 2 ^ 32) :: t.held.filter (fun e => decide (e.1 ≠ x.word))⟩)
      else s.badAccess.setStage q (some ⟨a, [(x.word, v % 2 ^ 32)]⟩)
    | none => s.setStage q (some ⟨a, [(x.word, v % 2 ^ 32)]⟩)
  else
    let old := s.getReg x.reg x.inst
    match s.acc.stage[reqIx q] with
    | some t =>
      if t.reg = a then (s.setStage q none).writeReg q x.reg x.inst (setWord (t.over old) x.word v)
      else s.writeReg q x.reg x.inst (setWord old x.word v)
    | none => s.writeReg q x.reg x.inst (setWord old x.word v)

/-- A read of a register address by a requester: off domains read 0 and are counted (R423); unmapped offsets read 0 and are counted (R454). -/
def State.readReg (s : State) (q : Req) (a : Nat) : State × Nat :=
  if s.unserved a then (s.inc PWR_OFF_ACCESS_count, 0)
  else
    match regAt a with
    | some x => s.readWord q x
    | none => (s.badAccess, 0)

def State.writeRegAt (s : State) (q : Req) (a v : Nat) : State :=
  if s.unserved a then s.inc PWR_OFF_ACCESS_count
  else
    match regAt a with
    | some x => s.writeWord q x v
    | none => s.badAccess

/-! ## Memories as a port sees them -/

/-- A byte of the channel records (R271): RW and RO words read as they stand, WO words 0. -/
def State.recordByte (s : State) (a : Nat) : Byte :=
  match regAt (a / 4 * 4) with
  | some x => BitVec.ofNat 8 (bitsOf (s.getReg x.reg x.inst) (32 * x.word + 8 * (a % 4)) 8)
  | none => 0

/-- A 32-bit word of a channel record written: its RW fields, and the command word (R271, R273, R274). -/
def State.recordWord (s : State) (a v : Nat) : State :=
  match regAt a with
  | none => s
  | some x =>
    if x.reg.base = 0x200034 then
      let dt := (Config.freeSample s.free).val
      let s0 := if bitOf v 0 then (s.chanStart x.inst dt).drawn else s
      let s1 := if bitOf v 1 then s0.chanStopCmd x.inst else s0
      if bitOf v 2 then s1.chanCommit x.inst else s1
    else s.putReg x.reg x.inst (setWord (s.getReg x.reg x.inst) x.word v)

/-- The words that a store of bytes at `a` covers, each with its bytes laid over what it held. -/
def State.recordStore (s : State) (a : Nat) (bs : List Byte) : State :=
  if bs = [] then s
  else
    (List.range ((a + bs.length - 1) / 4 - a / 4 + 1)).foldl (fun s i =>
      let w := (a / 4 + i) * 4
      let old := (List.range 4).map (fun k => s.recordByte (w + k))
      let new := (List.range 4).map (fun k =>
        if a ≤ w + k ∧ w + k < a + bs.length then (bs[w + k - a]?).getD 0 else (old[k]?).getD 0)
      s.recordWord w (ofLeBytes new)) s

/-- A read of `n` bytes in the memory of `a`: the state, the bytes, and whether a word was uncorrectable. -/
def State.memRead (s : State) (port a n : Nat) : State × List Byte × Bool :=
  if inCommons a then s.commonsRead port a n
  else if s.unserved a then (s.inc PWR_OFF_ACCESS_count, List.replicate n 0, false)
  else if inRecords a then (s, (List.range n).map (fun i => s.recordByte (a + i)), false)
  else if inSessions a then (s, (List.range n).map (fun i => s.sessByte (a + i - 0x600000)), false)
  else if inAcqSlots a then (s, s.bytesAt a n, false)
  else
    let r := s.eccRead port a n
    (r.1, r.1.bytesAt a n, r.2)

/-- A store of bytes in the memory of `a` (R93, R271, R334, R409, R414, R417). -/
def State.memWrite (s : State) (port a : Nat) (bs : List Byte) : State :=
  if inCommons a then s.commonsWrite port a bs
  else if s.unserved a then s.inc PWR_OFF_ACCESS_count
  else if inRecords a then s.recordStore a bs
  else if inSessions a then s
  else if inAcqSlots a then { s with mem := memSetList a bs s.mem }
  else if inInstrMem a ∧ s.frdState (Fin.ofNat 16 (localOf a)) ≤ 1 then s.inc MEM_LOCAL_REFUSED_count
  else (s.eccWrite port a bs.length).rawStore a bs

/-! ## Commands of the host (R454, R455, R457, R458) -/

/-- The last value that a read returned to a requester. -/
def State.lastRead (s : State) (q : Req) : Nat := s.acc.read[reqIx q]

/-- The word at `a` is below the highest word of a multi-word register. -/
def lowerWord (a : Nat) : Bool :=
  match regAt a with
  | some x => x.reg.multi && decide (x.word + 1 < x.reg.words)
  | none => false

/-- The word at `a` is the highest of a multi-word register. -/
def highWord (a : Nat) : Bool :=
  match regAt a with
  | some x => x.reg.multi && decide (x.word + 1 = x.reg.words)
  | none => false

def loWord (a : Nat) : Bool :=
  match regAt a with
  | some x => x.reg.multi && decide (x.word = 0)
  | none => false

/-- BAR2 (R410): its offset x stands at 0x100_0000 + x, as the aliases do in a Frond's address space (R93). -/
def inAlias (a : Nat) : Bool := decide (0x1000000 ≤ a)

/-- The alias offset of an address of BAR2 is one that R411 allows. -/
def aliasValid (a n : Nat) : Bool := decide (a + n ≤ 0x3000000) && aliasOk (a % 0x1000000) && aliasOk (a % 0x1000000 + n - 1)

/-- BAD_ACCESS of the host or the SPI slave: `n` bytes at `a`. The access is counted; a read returns 0 at an unmapped offset and ones elsewhere
(R454, R455). A read of BAR2 returns 0 and is counted, and so is a write to an offset without an alias (R411). -/
def State.hostBad (s : State) (q : Req) (a n : Nat) (wr : Bool) : State :=
  if inAlias a then
    if ¬ wr then (s.inc MEM_ALIAS_ERR_count).setRead q 0
    else if aliasValid a n then s else s.inc MEM_ALIAS_ERR_count
  else match targetOf a n with
  | .unmapped => if wr then s.badAccess else s.badAccess.setRead q 0
  | .bad => if wr then s.badAccess else s.badAccess.setRead q (2 ^ (8 * (if inRegs a then 4 else n)) - 1)
  | _ => s

/-- A read of `n` bytes at `a` by the host (R454, R455, R409): the value returned stands in `acc.read`; one that meets a bank that wakes waits
(R417). -/
def State.busRead (s : State) (q : Req) (a n : Nat) : State :=
  match targetOf a n with
  | .reg =>
    let r := s.readReg q a
    r.1.setRead q r.2
  | .mem =>
    if s.waits a n then s.hold (.load q (portOf q) a n)
    else
      let r := s.memRead (portOf q) a n
      r.1.setRead q (if r.2.2 then 2 ^ (8 * n) - 1 else ofLeBytes r.2.1)
  | _ => s.hostBad q a n false

/-- A write of bytes at `a` by the host. -/
def State.busWrite (s : State) (q : Req) (a : Nat) (bs : List Byte) : State :=
  match targetOf a bs.length with
  | .reg => s.writeRegAt q a (ofLeBytes bs)
  | .mem => s.memWrite (portOf q) a bs
  | _ => s.hostBad q a bs.length true

/-! ## The PCI Express configuration space (R452): the places of its words and bits are those of the PCI Express specification (PRESUMED, log 68) -/

/-- The bits of a configuration word that a host's write keeps. -/
def pciKeeps : List (Nat × Nat) :=
  [(0x04, 0x542), (0x0C, 0xFF), (0x10, 0xFF000000), (0x14, 0xFFFFFFFF), (0x18, 0xFE000000), (0x1C, 0xFFFFFFFF), (0x3C, 0xFF), (0x78, 0x700F),
   (0x80, 0x42), (0x108, 0x007FF030), (0x10C, 0x007FF030), (0x114, 0xF1C1)]

/-- The bits that stand: identifiers and class code, BAR types, the chain of capabilities (power management 0x40, MSI-X 0x50, PCI Express 0x70,
AER 0x100), and what each says that the endpoint supports. -/
def pciFixed : List (Nat × Nat) :=
  [(0x00, 0x96321F4E), (0x04, 0x100000), (0x08, 0x11800000 + Config.pciRevision % 256), (0x10, 0x4), (0x18, 0x4), (0x2C, 0x96321F4E), (0x34, 0x40),
   (0x40, 0x35001), (0x44, 0x8), (0x50, 0x3F7011), (0x54, 0x8000), (0x58, 0x9000), (0x70, 0x20010), (0x74, 0x10008002), (0x7C, 0x844), (0x100, 0x20001)]

/-- Max payload size, bits [7:5] of Device Control: 0 to 2, for 128, 256 and 512 bytes. -/
def pciMps (v : Nat) : Nat := bitsOf v 5 3

/-- A configuration word as the host reads it. -/
def State.pciWord (s : State) (a : Nat) : Nat :=
  tabGet 0 a pciFixed + tabGet 0 a s.pcie.cfg + (if a = 0x04 ∧ s.pcie.bme then 4 else 0) + (if a = 0x44 ∧ s.pcie.d3 then 3 else 0) +
    (if a = 0x50 ∧ s.pcie.msixEn then 2 ^ 31 else 0) + (if a = 0x50 ∧ s.pcie.fmask then 2 ^ 30 else 0)

def State.setPcie (s : State) (x : PcieState) : State := { s with pcie := x }

/-- A write of a configuration word: Bus Master Enable, the MSI-X controls and the power state act on the endpoint (R453, R462), the function level
reset resets PD_HOST (R432), and the other writable bits are kept. D1 and D2 are not supported, and such a power state is not taken. -/
def State.pciWrite (s : State) (a v : Nat) : State :=
  let x := s.pcie
  let kept := tabGet 0 a pciKeeps &&& v
  let mps := if a = 0x78 then (if pciMps v ≤ 2 then pciMps v else pciMps (tabGet 0 a x.cfg)) * 32 else 0
  let cfg := if tabGet 0 a pciKeeps = 0 then x.cfg else tabSet a (kept + mps) x.cfg
  if a = 0x04 then s.setPcie { x with cfg := cfg, bme := bitOf v 2 }
  else if a = 0x44 then s.setPcie { x with d3 := if v % 4 = 3 then true else if v % 4 = 0 then false else x.d3 }
  else if a = 0x50 then s.setPcie { x with msixEn := bitOf v 31, fmask := bitOf v 30 }
  else if a = 0x78 ∧ bitOf v 15 then s.pcieReset false
  else s.setPcie { x with cfg := cfg }

/-- Configuration requests reach the endpoint, in D3hot too, while PD_HOST is served; a word that is absent reads 0. -/
def State.pciBusRead (s : State) (a : Nat) : State := if s.pdServed 19 then s.setRead .host (s.pciWord a) else s
def State.pciBusWrite (s : State) (a v : Nat) : State := if s.pdServed 19 then s.pciWrite a v else s

/-! ## The management SPI slave (R464, R465) -/

/-- The subset of R465. -/
def spiReaches (a : Nat) (wr : Bool) : Bool :=
  match regAt a with
  | some x =>
    let b := x.reg.base
    decide (b < 0x8000) || decide (0x10000 ≤ b ∧ b < 0x30000) ||
      (!wr && (decide (b = 0xA0000) || decide (b = 0xA0008) || decide (b = 0xA0070) || decide (b = 0xA0100)))
  | none => false

/-- The status byte of the next transaction (R464). `early`: within 50 µs of reset. -/
def State.spiStatus (s : State) (early : Bool) : Nat :=
  (if s.alarm then 1 else 0) + (if s.acc.spiRange then 2 else 0) + (if s.acc.spiProtocol then 4 else 0) + (if early then 8 else 0)

def State.spiFlags (s : State) (range protocol : Bool) : State := { s with acc := { s.acc with spiRange := range, spiProtocol := protocol } }

/-- Words of a read transaction, from the offset on, the lowest in the low bits. -/
def State.spiReadWords (s : State) : Nat → Nat → State × List Nat × Bool
  | 0, _ => (s, [], false)
  | k + 1, a =>
    let ok := spiReaches a false
    let r := if ok then s.readReg .spi a else (s.badAccess, 0)
    let t := r.1.spiReadWords k (a + 4)
    (t.1, r.2 :: t.2.1, t.2.2 || !ok)

/-- MGMT_SPI_READ: `k` whole words; `cut`: SCS_N rose other than on a word boundary. -/
def State.spiRead (s : State) (early : Bool) (a k : Nat) (cut : Bool) : State :=
  let st := s.spiStatus early
  if early then (s.spiFlags false cut).setRead .spi st
  else
    let r := s.spiReadWords k a
    (r.1.spiFlags r.2.2 cut).setRead .spi (st + (r.2.1.zipIdx).foldl (fun x e => x + e.1 * 2 ^ (8 + 32 * e.2)) 0)

/-- MGMT_SPI_WRITE: whole words from the offset on; a partial last word is discarded. -/
def State.spiWrite (s : State) (early : Bool) (a : Nat) (vs : List (BitVec 32)) (cut : Bool) : State :=
  let st := s.spiStatus early
  if early then (s.spiFlags false cut).setRead .spi st
  else
    let r := (vs.zipIdx).foldl (fun (p : State × Bool) e =>
      let x := a + 4 * e.2
      if spiReaches x true then (p.1.writeRegAt .spi x e.1.toNat, p.2) else (p.1.badAccess, true)) (s, false)
    (r.1.spiFlags r.2 cut).setRead .spi st

/-! ## Meanings -/

def execMultiwordLoRead (q : Req) (cfg : Bool) (a : BitVec 24) (s : State) : Result :=
  .next (s.whenUp (if cfg then s.pciBusRead a.toNat else if s.onBus q then (s.reqCross q).busRead q a.toNat 4 else s))
def execMultiwordLowerWrite (q : Req) (a : BitVec 24) (v : BitVec 32) (s : State) : Result :=
  .next (s.whenUp (if lowerWord a.toNat ∧ s.onBus q then (s.reqCross q).writeRegAt q a.toNat v.toNat else s))
def execMultiwordHighWrite (q : Req) (a : BitVec 24) (v : BitVec 32) (s : State) : Result :=
  .next (s.whenUp (if highWord a.toNat ∧ s.onBus q then (s.reqCross q).writeRegAt q a.toNat v.toNat else s))
def execRegisterWrite (q : Req) (cfg : Bool) (a : BitVec 24) (v : BitVec 32) (s : State) : Result :=
  .next (s.whenUp (if cfg then s.pciBusWrite a.toNat v.toNat
    else if s.onBus q then (s.reqCross q).busWrite q a.toNat (leBytes 4 v.toNat) else s))
def execMgmtSpiRead (early : Bool) (a : BitVec 24) (k : Nat) (cut : Bool) (s : State) : Result :=
  .next (s.whenUp ((s.reqCross .spi).spiRead early a.toNat k cut))
def execMgmtSpiWrite (early : Bool) (a : BitVec 24) (vs : List (BitVec 32)) (cut : Bool) (s : State) : Result :=
  .next (s.whenUp ((s.reqCross .spi).spiWrite early a.toNat vs cut))

end Sys2Proof.Machine
end

