-- ==== Sys2Proof/Machine/Boot.lean ====
section
/-!
DEFINITION. The boot sequencer: configuration slots and the Prefect image (R435 to R438).
-/

namespace Sys2Proof.Machine
open Sys2Proof Reg

/-! ## Configuration slots (R435, R436) -/

/-- The fail code of a slot in CFG_STATUS: 0 none, 1 magic or format, 2 length, 3 check word (R450). -/
def slotFail (b : List Byte) : Nat :=
  let l := sliceNat b 16 4
  if sliceNat b 0 4 ≠ 0x5A434647 ∨ sliceNat b 4 2 ≠ 1 then 1
  else if l ≠ 288 + 12 * sliceNat b 6 2 ∨ 65536 < l then 2
  else if crc32c (slice b 0 12 ++ zeros 4 ++ slice b 16 (l - 16)) ≠ sliceNat b 12 4 then 3
  else 0

/-- A is newer than B (R436). -/
def newerSeq (a b : Nat) : Bool :=
  let d := (a + 2 ^ 32 - b) % 2 ^ 32
  decide (1 ≤ d) && decide (d < 2 ^ 31)

/-- Offsets that a record may name (R437). -/
def recordAllowed (a : Nat) : Bool :=
  (decide (0x30000 ≤ a) && decide (a ≤ 0x9FFFF)) || (decide (0xB0000 ≤ a) && decide (a ≤ 0xDFFFF)) ||
  (decide (0x100000 ≤ a) && decide (a ≤ 0x1FFFFF))

/-- The value that the sequencer reads of a register word (R437): it takes no latch. -/
def State.peekWord (s : State) (a : Nat) : Nat :=
  match regAt a with
  | some x => wordAt (s.regValue x.reg x.inst) x.word
  | none => 0

/-- One record, as a host write (R437). -/
def State.applyRecord (s : State) (a v m : Nat) : State :=
  let old := s.peekWord a
  s.busWrite .host a (leBytes 4 ((old - (old &&& m)) + (v &&& m)))

/-- The records of a slot, in order: the state, and how many were applied and skipped. -/
def State.applyRecords (s : State) (b : List Byte) : State × Nat × Nat :=
  (List.range (sliceNat b 6 2)).foldl (fun (r : State × Nat × Nat) i =>
    let o := 288 + 12 * i
    let a := sliceNat b o 4
    if recordAllowed a then (r.1.applyRecord a (sliceNat b (o + 4) 4) (sliceNat b (o + 8) 4), r.2.1 + 1, r.2.2)
    else (r.1, r.2.1, r.2.2 + 1)) (s, 0, 0)

/-- The directory of a slot (R435). -/
def State.loadDir (s : State) (b : List Byte) : State :=
  (List.range 16).foldl (fun s f =>
    let o := 32 + 16 * f
    let s1 := ((s.wf CFG_DIRf_ofs (sliceNat b o 4) f).wf CFG_DIRf_len (sliceNat b (o + 4) 4) f).wf CFG_DIRf_present (sliceNat b (o + 12) 1) f
    s1.setCfg { s1.cfg with rel := tabSet f (sliceNat b (o + 8) 4) s1.cfg.rel }) s

def State.cfgJournal (s : State) (code payload : Nat) : State := s.journal 0 0x0300 code payload

/-- CONFIG_SLOT_APPLY (R435 to R437), once, before SYS_READY.cfg sets. `errA`, `errB`: the flash reported an error on a read of the slot. -/
def State.configApply (s : State) (errA errB : Bool) : State :=
  if s.isReady 5 ∨ ¬ s.live then s
  else
    let a := s.flashBytes 0x0 0x10000
    let b := s.flashBytes 0x10000 0x10000
    let fa := if errA then 4 else slotFail a
    let fb := if errB then 4 else slotFail b
    let s1 := (((s.wb CFG_STATUS_a_valid (decide (fa = 0))).wb CFG_STATUS_b_valid (decide (fb = 0))).wf CFG_STATUS_a_fail fa).wf CFG_STATUS_b_fail fb
    let useB := decide (fb = 0) && (decide (fa ≠ 0) || newerSeq (sliceNat b 8 4) (sliceNat a 8 4))
    let s2 :=
      if fa ≠ 0 ∧ fb ≠ 0 then (s1.wf CFG_STATUS_defaulted 1).cfgJournal 0x0303 0
      else
        let x := if useB then b else a
        let t := if fa ≠ 0 then s1.cfgJournal 0x0302 (fa * 2) else if fb ≠ 0 then s1.cfgJournal 0x0302 (1 + fb * 2) else s1
        let r := (((t.wb CFG_STATUS_slot useB).wf CFG_SEQ_seq (sliceNat x 8 4)).loadDir x).applyRecords x
        let u := (r.1.wf CFG_RECORDS_applied r.2.1).wf CFG_RECORDS_skipped r.2.2
        let v := if r.2.2 = 0 then u else u.cfgJournal 0x0304 (r.2.2 % 65536)
        v.cfgJournal 0x0301 ((if useB then 1 else 0) + sliceNat x 8 4 * 2 ^ 32)
    (s2.ready 5 true).gateShow

/-! ## The Prefect image (R438) -/

/-- CFG_BOOT.prefect for an image: 1 where it passes (R144, R145, R438, R450). -/
def State.prefectCheck (s : State) (img : Bytes) : Nat :=
  if img.take 4 = List.replicate 4 flashErased ∨ img = [] then 2
  else
    match checkImage s.slotOwner 0 img with
    | 0 => if sliceNat img 16 4 = 0 then 1 else 4
    | 9 => 3
    | 3 => 4
    | 4 => 6
    | _ => 5

/-- The recovery Prefect image (R434). -/
def State.recoveryImage (s : State) : Bytes :=
  let h := s.flashBytes 0x100000 256
  s.flashBytes 0x100000 (imageLen h)

/-- The image of directory entry 0, where it is present and of a length that R450 allows. -/
def State.dirImage (s : State) : Option Bytes :=
  let n := s.rf CFG_DIRf_len 0
  if s.rb CFG_DIRf_present 0 ∧ 352 ≤ n ∧ n ≤ 131424 then some (s.flashBytes (s.rf CFG_DIRf_ofs 0) n) else none

/-- PREFECT_BOOT_LOAD (R438), once, after the configuration. -/
def State.prefectLoad (s : State) : State :=
  if ¬ s.isReady 5 ∨ s.rf CFG_BOOT_prefect ≠ 0 ∨ ¬ s.live then s
  else
    let first := s.dirImage
    let c1 := (first.map s.prefectCheck).getD 0
    let recov := decide (c1 ≠ 1)
    let img := if recov then s.recoveryImage else first.getD []
    let c := if recov then s.prefectCheck img else c1
    let s1 := (s.wf CFG_BOOT_prefect c).wb CFG_BOOT_recovery recov
    if c ≠ 1 then s1.cfgJournal 0x0305 (c + (if recov then 8 else 0))
    else
      let x := stagedOf 0 img
      let s2 := (s1.installImage x 0).imageStart x 0
      (s2.setKey { s2.key with manifest := s2.key.manifest.set! 0 x.measure }).ready 6 true

/-! ## Meanings -/

def execConfigSlotApply (errA errB : Bool) (s : State) : Result := .next (s.whenUp (s.configApply errA errB))
def execPrefectBootLoad (s : State) : Result := .next (s.whenUp s.prefectLoad)

end Sys2Proof.Machine
end

