-- ==== Sys2Proof/Machine/FrondAlu.lean ====
section
/-!
DEFINITION. How a Frond issues an instruction (R95, R124, R151), and the instructions that touch its registers alone: integer, multiply and
divide, and time arithmetic (R87 to R91, R98 to R102).
-/

namespace Sys2Proof.Machine
open Sys2Proof Reg

/-! ## Registers (R87, R88, R91) -/

/-- g[a]; g0 reads 0. -/
def Frond.rg (x : Frond) (a : BitVec 5) : Word := if a = 0 then 0 else x.g[a.toFin]

/-- g[d] := v; a write to g0 is discarded. -/
def Frond.wg (x : Frond) (d : BitVec 5) (v : Word) : Frond := if d = 0 then x else { x with g := x.g.set d.toFin v }

/-- A time register by bits [2:0] of its field. -/
def tReg (a : BitVec 5) : Fin 8 := ⟨a.toNat % 8, Nat.mod_lt _ (by decide)⟩
/-- R91: bits [4:3] of a time register field are 0. -/
def tOk (a : BitVec 5) : Bool := decide (a.toNat < 8)

def Frond.rt (x : Frond) (a : BitVec 5) : TimeReg := x.t[tReg a]
def Frond.wt (x : Frond) (d : BitVec 5) (v : TimeReg) : Frond := { x with t := x.t.set (tReg d) v }

/-- units(t[a]) read as a time, and as a duration (R90). -/
def Frond.time (x : Frond) (a : BitVec 5) : Int := unpackTime (x.rt a).toNat
def Frond.dur (x : Frond) (a : BitVec 5) : Int := unpackDur (x.rt a).toNat

/-- norm(u) of R90 as a register value. -/
def normTime (u : Int) : TimeReg := BitVec.ofNat 96 (packTime u)

def State.setG (s : State) (f : Fin 16) (d : BitVec 5) (v : Word) : State := s.setFrond f ((s.frond f).wg d v)
def State.setT (s : State) (f : Fin 16) (d : BitVec 5) (v : TimeReg) : State := s.setFrond f ((s.frond f).wt d v)
def State.setPc (s : State) (f : Fin 16) (a : Word) : State := s.setFrond f { s.frond f with pc := a }

/-! ## Issue -/

/-- What the body of an instruction comes to. -/
inductive FOut where
  /-- It retires, and the next instruction follows. -/
  | done (s : State)
  /-- It retires, and control goes to an address (R95). -/
  | jump (s : State) (tgt : Word)
  /-- An exception with its code and fault address (R123); the state holds what a memory counted. -/
  | exc (s : State) (code fault : Nat)
  /-- TRAP (R122). -/
  | trap (imm : Nat)
  /-- It waits at its address (R109, R417). -/
  | hold (s : State)

/-- R94: the lowest enabled region that holds every byte of the access decides; `bit`: 0 r, 1 w, 2 x. -/
def Frond.region (x : Frond) (bit a n : Nat) : Bool :=
  match (List.finRange 8).find? (fun k => x.prgBase[k].getLsbD 3 && decide (x.prgBase[k].toNat / 256 * 256 ≤ a) &&
      decide (a + n ≤ x.prgLimit[k].toNat / 256 * 256 + 256)) with
  | some k => x.prgBase[k].getLsbD bit
  | none => false

/-- Task mode, and the regions refuse the access. -/
def Frond.refused (x : Frond) (bit a n : Nat) : Bool := !x.mode && !x.region bit a n

/-- The address lies in a Frond's own instruction memory, on a word (R95). -/
def fetchOk (a : Word) : Bool := decide (frdBase ≤ a.toNat) && decide (a.toNat < frdBase + 0x10000) && decide (a.toNat % 4 = 0)

/-- The port that carries an access of Frond `f`: its own local memories know it as their owner (R406, R420). -/
def frdPort (f : Fin 16) (a : Nat) : Nat := if inLocal a ∧ localOf a = f.val then 20 else 2 + f.val

/-- The BAR0 place of an address in a Frond's own instruction memory. -/
def imemAt (f : Fin 16) (a : Nat) : Nat := imemOf f.val + (a - frdBase)

/-- Retirement: events 0x01 and 0x02 of R151, in the mode `m` in which the instruction ran. -/
def State.retire (s : State) (f : Fin 16) (m : Bool) : State :=
  let m' := (s.frond f).mode
  let s1 := ((s.setFrond f { s.frond f with mode := m }).perf f 0x01 1).perf f 0x02 1
  s1.setFrond f { s1.frond f with mode := m' }

/-- The end of an instruction at `pc` (R95, R124). -/
def State.frdFinish (s : State) (f : Fin 16) (o : FOut) : State :=
  let pc := (s.frond f).pc
  let m := (s.frond f).mode
  match o with
  | .done s1 => (s1.setPc f (pc + 4)).retire f m
  | .jump s1 a =>
    let s2 := (s1.setPc f a).retire f m
    if fetchOk a then s2 else s2.raiseExc f 3 a.toNat 0 a
  | .exc s1 code fault => s1.raiseExc f code fault 0 pc
  | .trap imm => s.raiseExc f 0x0C 0 imm (pc + 4)
  | .hold s1 => s1

/-- The fetch at the program counter: none, or the code of its exception (R94, R95, R123). -/
def State.frdFetch (s : State) (f : Fin 16) : State × Option Nat :=
  let x := s.frond f
  if ¬ fetchOk x.pc then (s, some 3)
  else if x.refused 2 x.pc.toNat 4 then (s, some 4)
  else
    let r := s.eccRead (frdPort f (imemAt f x.pc.toNat)) (imemAt f x.pc.toNat) 4
    (r.1, if r.2 then some 8 else none)

/-- The Frond can issue: it executes and waits for nothing. -/
def State.canIssue (s : State) (f : Fin 16) : Bool := s.frdRuns f && decide ((s.frond f).wait = .none)

/-- The instruction comes to an exception. -/
def FOut.faults : FOut → Bool
  | .done _ => false
  | .jump _ a => !fetchOk a
  | .exc .. => true
  | .trap _ => true
  | .hold _ => false

/-- One instruction of Frond `f` that reads or writes the general registers `uses`, with a body; a Frond that cannot issue does nothing
(log 4). While a TSTEP of the Frond is on its way, an instruction that uses its g[d] waits, and so does an exception (R124, R127, R490). -/
def State.frdIssue (s : State) (f : Fin 16) (uses : List (BitVec 5)) (body : State → FOut) : State :=
  if s.canIssue f && !uses.any (s.stepWrites f) then
    match s.frdFetch f with
    | (s1, some c) => if s.stepOut f then s else s1.raiseExc f c (s.frond f).pc.toNat 0 (s.frond f).pc
    | (s1, none) => if s.stepOut f && (body s1).faults then s else s1.frdFinish f (body s1)
  else s

/-- A word in instruction memory that is no instruction (R96). -/
def State.frdIllegal (s : State) (f : Fin 16) : State := s.frdIssue f [] (fun s => .exc s 1 0)

/-! ## Integer instructions (R98) -/

def bool64 (b : Bool) : Word := if b then 1 else 0
def sext16 (i : BitVec 16) : Word := i.signExtend 64
def zext16 (i : BitVec 16) : Word := i.setWidth 64
def shiftAmount (b : Word) : Nat := b.toNat % 64

def wAdd (a b : Word) : Word := a + b
def wSub (a b : Word) : Word := a - b
def wAnd (a b : Word) : Word := a &&& b
def wOr (a b : Word) : Word := a ||| b
def wXor (a b : Word) : Word := a ^^^ b
def wNor (a b : Word) : Word := ~~~(a ||| b)
def wSlt (a b : Word) : Word := bool64 (a.slt b)
def wSltu (a b : Word) : Word := bool64 (a.ult b)
def wSll (a b : Word) : Word := a <<< shiftAmount b
def wSrl (a b : Word) : Word := a >>> shiftAmount b
def wSra (a b : Word) : Word := a.sshiftRight (shiftAmount b)
def wMin (a b : Word) : Word := if b.slt a then b else a
def wMax (a b : Word) : Word := if a.slt b then b else a
def wMinu (a b : Word) : Word := if b.ult a then b else a
def wMaxu (a b : Word) : Word := if a.ult b then b else a
def wClz (a : Word) : Word := if a = 0 then 64 else BitVec.ofNat 64 (63 - Nat.log2 a.toNat)
def wPopc (a : Word) : Word := BitVec.ofNat 64 ((List.range 64).filter (fun i => a.getLsbD i)).length
def wLui (i : BitVec 16) : Word := sext16 i <<< 16

/-- g[d] := op(g[a], g[b]). -/
def State.frdAlu (s : State) (f : Fin 16) (op : Word → Word → Word) (d a b : BitVec 5) : State :=
  s.frdIssue f [d, a, b] (fun s => .done (s.setG f d (op ((s.frond f).rg a) ((s.frond f).rg b))))

/-- g[d] := op(g[a], v). -/
def State.frdImm (s : State) (f : Fin 16) (op : Word → Word → Word) (d a : BitVec 5) (v : Word) : State :=
  s.frdIssue f [d, a] (fun s => .done (s.setG f d (op ((s.frond f).rg a) v)))

def State.frdUn (s : State) (f : Fin 16) (op : Word → Word) (d a : BitVec 5) : State :=
  s.frdIssue f [d, a] (fun s => .done (s.setG f d (op ((s.frond f).rg a))))

/-! ## Multiply and divide (R99) -/

/-- d names a register pair. -/
def evenPair (d : BitVec 5) : Bool := decide (d ≠ 0) && decide (d.toNat % 2 = 0)

/-- g[d] and g[d + 1] := a pair of values, or no result: ARITH. -/
def State.frdPair (s : State) (f : Fin 16) (op : Word → Word → Option (Word × Word)) (d a b : BitVec 5) : State :=
  s.frdIssue f [d, d + 1, a, b] (fun s =>
    if ¬ evenPair d then .exc s 1 0
    else
      match op ((s.frond f).rg a) ((s.frond f).rg b) with
      | some v => .done ((s.setG f d v.1).setG f (d + 1) v.2)
      | none => .exc s 0x0D 0)

/-- Both halves of a product. -/
def halves (z : Int) : Option (Word × Word) := some (BitVec.ofInt 64 z, BitVec.ofInt 64 (z / 2 ^ 64))

def wMullo (a b : Word) : Word := a * b
def wMulss (a b : Word) : Option (Word × Word) := halves (a.toInt * b.toInt)
def wMuluu (a b : Word) : Option (Word × Word) := halves ((a.toNat : Int) * (b.toNat : Int))
def wMulsu (a b : Word) : Option (Word × Word) := halves (a.toInt * (b.toNat : Int))

/-- Quotient toward minus infinity, and remainder. -/
def floorDiv (a b : Int) : Option (Word × Word) := some (BitVec.ofInt 64 (a.fdiv b), BitVec.ofInt 64 (a - b * a.fdiv b))
def wDivs (a b : Word) : Option (Word × Word) :=
  if b = 0 ∨ (a.toInt = -9223372036854775808 ∧ b.toInt = -1) then none else floorDiv a.toInt b.toInt
def wDivu (a b : Word) : Option (Word × Word) := if b = 0 then none else floorDiv a.toNat b.toNat

/-! ## Time arithmetic (R100 to R102) -/

/-- The seconds of a result fit a time, or a duration. -/
def timeFits (u : Int) : Bool := decide (0 ≤ u / uSec) && decide (u / uSec < 281474976710656)
def durFits (u : Int) : Bool := decide (-140737488355328 ≤ u / uSec) && decide (u / uSec < 140737488355328)

/-- t[d] := norm of a count that must fit, from two time registers. -/
def State.frdTime (s : State) (f : Fin 16) (fits : Int → Bool) (op : Frond → Int) (d a b : BitVec 5) : State :=
  s.frdIssue f [] (fun s =>
    if ¬ (tOk d && tOk a && tOk b) then .exc s 1 0
    else if fits (op (s.frond f)) then .done (s.setT f d (normTime (op (s.frond f)))) else .exc s 0x0A 0)

/-- −1, 0 or +1. -/
def cmpWord (a b : Int) : Word := if a < b then -1 else if a = b then 0 else 1

/-- g[d] := a value read from time registers. -/
def State.frdTimeG (s : State) (f : Fin 16) (op : Frond → Word) (d a b : BitVec 5) : State :=
  s.frdIssue f [d] (fun s => if ¬ (tOk a && tOk b) then .exc s 1 0 else .done (s.setG f d (op (s.frond f))))

/-- TSCL (R101). -/
def State.frdTscl (s : State) (f : Fin 16) (d a b : BitVec 5) : State :=
  s.frdIssue f [b] (fun s =>
    let w := ((s.frond f).rg b).toInt
    if ¬ (tOk d && tOk a) then .exc s 1 0
    else if w < -140737488355328 ∨ 140737488355328 ≤ w then .exc s 0x0A 0
    else .done (s.setT f d (normTime ((s.frond f).dur a * w / (65536 * dcoOne)))))

/-- TJOIN (R100, R102). -/
def State.frdTjoin (s : State) (f : Fin 16) (d a b : BitVec 5) : State :=
  s.frdIssue f [a, b] (fun s =>
    let ga := (s.frond f).rg a
    let gb := ((s.frond f).rg b).toNat
    if ¬ tOk d then .exc s 1 0
    else if 65536000000000 ≤ gb then .exc s 9 0
    else if (ga.setWidth 48).signExtend 64 ≠ ga then .exc s 0x0A 0
    else .done (s.setT f d (BitVec.ofNat 96 (ga.toNat % 2 ^ 48 * 2 ^ 48 + gb / 65536 * 2 ^ 16 + gb % 65536))))

def State.frdTfrg (s : State) (f : Fin 16) (d a : BitVec 5) : State :=
  s.frdIssue f [a] (fun s => if ¬ tOk d then .exc s 1 0 else .done (s.setT f d (normTime ((s.frond f).rg a).toInt)))

def State.frdTtog (s : State) (f : Fin 16) (d a : BitVec 5) : State :=
  s.frdIssue f [d] (fun s =>
    let u := (s.frond f).dur a
    if ¬ tOk a then .exc s 1 0
    else if -9223372036854775808 ≤ u ∧ u < 9223372036854775808 then .done (s.setG f d (BitVec.ofInt 64 u))
    else .exc s 0x0A 0)

def State.frdTmov (s : State) (f : Fin 16) (d a : BitVec 5) : State :=
  s.frdIssue f [] (fun s => if ¬ (tOk d && tOk a) then .exc s 1 0 else .done (s.setT f d ((s.frond f).rt a)))

/-! ## Meanings -/

def execAdd (f : Fin 16) (d a b : BitVec 5) (s : State) : Result := .next (s.frdAlu f wAdd d a b)
def execSub (f : Fin 16) (d a b : BitVec 5) (s : State) : Result := .next (s.frdAlu f wSub d a b)
def execAnd (f : Fin 16) (d a b : BitVec 5) (s : State) : Result := .next (s.frdAlu f wAnd d a b)
def execOr (f : Fin 16) (d a b : BitVec 5) (s : State) : Result := .next (s.frdAlu f wOr d a b)
def execXor (f : Fin 16) (d a b : BitVec 5) (s : State) : Result := .next (s.frdAlu f wXor d a b)
def execNor (f : Fin 16) (d a b : BitVec 5) (s : State) : Result := .next (s.frdAlu f wNor d a b)
def execSlt (f : Fin 16) (d a b : BitVec 5) (s : State) : Result := .next (s.frdAlu f wSlt d a b)
def execSltu (f : Fin 16) (d a b : BitVec 5) (s : State) : Result := .next (s.frdAlu f wSltu d a b)
def execSll (f : Fin 16) (d a b : BitVec 5) (s : State) : Result := .next (s.frdAlu f wSll d a b)
def execSrl (f : Fin 16) (d a b : BitVec 5) (s : State) : Result := .next (s.frdAlu f wSrl d a b)
def execSra (f : Fin 16) (d a b : BitVec 5) (s : State) : Result := .next (s.frdAlu f wSra d a b)
def execMin (f : Fin 16) (d a b : BitVec 5) (s : State) : Result := .next (s.frdAlu f wMin d a b)
def execMax (f : Fin 16) (d a b : BitVec 5) (s : State) : Result := .next (s.frdAlu f wMax d a b)
def execMinu (f : Fin 16) (d a b : BitVec 5) (s : State) : Result := .next (s.frdAlu f wMinu d a b)
def execMaxu (f : Fin 16) (d a b : BitVec 5) (s : State) : Result := .next (s.frdAlu f wMaxu d a b)
def execClz (f : Fin 16) (d a : BitVec 5) (s : State) : Result := .next (s.frdUn f wClz d a)
def execPopc (f : Fin 16) (d a : BitVec 5) (s : State) : Result := .next (s.frdUn f wPopc d a)
def execAddi (f : Fin 16) (d a : BitVec 5) (i : BitVec 16) (s : State) : Result := .next (s.frdImm f wAdd d a (sext16 i))
def execAndi (f : Fin 16) (d a : BitVec 5) (i : BitVec 16) (s : State) : Result := .next (s.frdImm f wAnd d a (zext16 i))
def execOri (f : Fin 16) (d a : BitVec 5) (i : BitVec 16) (s : State) : Result := .next (s.frdImm f wOr d a (zext16 i))
def execXori (f : Fin 16) (d a : BitVec 5) (i : BitVec 16) (s : State) : Result := .next (s.frdImm f wXor d a (zext16 i))
def execSlti (f : Fin 16) (d a : BitVec 5) (i : BitVec 16) (s : State) : Result := .next (s.frdImm f wSlt d a (sext16 i))
def execSltiu (f : Fin 16) (d a : BitVec 5) (i : BitVec 16) (s : State) : Result := .next (s.frdImm f wSltu d a (sext16 i))
def execLui (f : Fin 16) (d : BitVec 5) (i : BitVec 16) (s : State) : Result := .next (s.frdUn f (fun _ => wLui i) d 0)
def execSlli (f : Fin 16) (d a : BitVec 5) (i : BitVec 6) (s : State) : Result := .next (s.frdImm f wSll d a (i.setWidth 64))
def execSrli (f : Fin 16) (d a : BitVec 5) (i : BitVec 6) (s : State) : Result := .next (s.frdImm f wSrl d a (i.setWidth 64))
def execSrai (f : Fin 16) (d a : BitVec 5) (i : BitVec 6) (s : State) : Result := .next (s.frdImm f wSra d a (i.setWidth 64))

def execMullo (f : Fin 16) (d a b : BitVec 5) (s : State) : Result := .next (s.frdAlu f wMullo d a b)
def execMulss (f : Fin 16) (d a b : BitVec 5) (s : State) : Result := .next (s.frdPair f wMulss d a b)
def execMuluu (f : Fin 16) (d a b : BitVec 5) (s : State) : Result := .next (s.frdPair f wMuluu d a b)
def execMulsu (f : Fin 16) (d a b : BitVec 5) (s : State) : Result := .next (s.frdPair f wMulsu d a b)
def execDivs (f : Fin 16) (d a b : BitVec 5) (s : State) : Result := .next (s.frdPair f wDivs d a b)
def execDivu (f : Fin 16) (d a b : BitVec 5) (s : State) : Result := .next (s.frdPair f wDivu d a b)

def execTadd (f : Fin 16) (d a b : BitVec 5) (s : State) : Result := .next (s.frdTime f timeFits (fun x => x.time a + x.dur b) d a b)
def execTsub (f : Fin 16) (d a b : BitVec 5) (s : State) : Result := .next (s.frdTime f durFits (fun x => x.time a - x.time b) d a b)
def execTaddd (f : Fin 16) (d a b : BitVec 5) (s : State) : Result := .next (s.frdTime f durFits (fun x => x.dur a + x.dur b) d a b)
def execTsubd (f : Fin 16) (d a b : BitVec 5) (s : State) : Result := .next (s.frdTime f durFits (fun x => x.dur a - x.dur b) d a b)
def execTneg (f : Fin 16) (d a : BitVec 5) (s : State) : Result := .next (s.frdTime f durFits (fun x => -(x.dur a)) d a 0)
def execTmov (f : Fin 16) (d a : BitVec 5) (s : State) : Result := .next (s.frdTmov f d a)
def execTcmp (f : Fin 16) (d a b : BitVec 5) (s : State) : Result := .next (s.frdTimeG f (fun x => cmpWord (x.time a) (x.time b)) d a b)
def execTcmpd (f : Fin 16) (d a b : BitVec 5) (s : State) : Result := .next (s.frdTimeG f (fun x => cmpWord (x.dur a) (x.dur b)) d a b)
def execTscl (f : Fin 16) (d a b : BitVec 5) (s : State) : Result := .next (s.frdTscl f d a b)
def execTjoin (f : Fin 16) (d a b : BitVec 5) (s : State) : Result := .next (s.frdTjoin f d a b)
def execTsecs (f : Fin 16) (d a : BitVec 5) (s : State) : Result :=
  .next (s.frdTimeG f (fun x => BitVec.ofNat 64 (timeSec (x.rt a).toNat)) d a 0)
def execTfrac (f : Fin 16) (d a : BitVec 5) (s : State) : Result :=
  .next (s.frdTimeG f (fun x => BitVec.ofNat 64 (timeNs (x.rt a).toNat * 65536 + timeFrac (x.rt a).toNat)) d a 0)
def execTfrg (f : Fin 16) (d a : BitVec 5) (s : State) : Result := .next (s.frdTfrg f d a)
def execTtog (f : Fin 16) (d a : BitVec 5) (s : State) : Result := .next (s.frdTtog f d a)

end Sys2Proof.Machine
end

