-- ==== Sys2Proof/Machine/Frond.lean ====
section
/-!
DEFINITION. The instructions of a Frond that reach memory, control flow, waits and blocks, and the system instructions (R92 to R95, R103 to R122).
-/

namespace Sys2Proof.Machine
open Sys2Proof Reg

/-! ## Addresses (R93) -/

/-- Where a Frond address leads. -/
inductive FPlace where
  | bar0 (a : Nat)
  | bitOp (clear : Bool) (x : Nat)
  | bus
  deriving DecidableEq, Repr

/-- The map of R93 for `n` bytes at `a`: other widths of registers, other clusters' mailboxes (R412) and the end of a memory raise BUS (R455). -/
def frdPlace (f : Fin 16) (sup store : Bool) (a n : Nat) : FPlace :=
  if a < 0x1000000 then
    if targetOf a n = .bad ∨ (inMailbox a ∧ mailboxOf a ≠ f.val / 4) then .bus else .bar0 a
  else if a < 0x3000000 then
    let x := a % 0x1000000
    if ¬ store ∨ (inMailbox x ∧ mailboxOf x ≠ f.val / 4) then .bus else .bitOp (decide (0x2000000 ≤ a)) x
  else if frdBase ≤ a ∧ a + n ≤ frdBase + 0x10000 then (if sup then .bar0 (imemAt f a) else .bus)
  else if frdBase + 0x10000 ≤ a ∧ a + n ≤ frdBase + 0x20000 then .bar0 (dmemOf f.val + (a - (frdBase + 0x10000)))
  else .bus

/-- Checks before an access: regions, alignment, map (R94, R103, R124). `bit`: 0 load, 1 store or atomic. -/
def State.accCheck (s : State) (f : Fin 16) (bit a n align : Nat) : Nat ⊕ FPlace :=
  let x := s.frond f
  if x.refused bit a n then .inl (5 + bit)
  else if a % align ≠ 0 then .inl 7
  else
    match frdPlace f x.mode (decide (bit = 1)) a n with
    | .bus => .inl 8
    | p => .inr p

/-- Event 0x08 of R151 where the place is in the commons. -/
def State.perfCommons (s : State) (f : Fin 16) (x : Nat) : State := if inCommons x then s.perf f 0x08 1 else s

/-- The effective address of a load or store (R103). -/
def Frond.ea (x : Frond) (a : BitVec 5) (i : BitVec 16) : Nat := (x.rg a + sext16 i).toNat

/-- A read of `n` bytes at a place: the state, the value, and whether it was uncorrectable; none while a bank wakes. -/
def State.frdRead (s : State) (f : Fin 16) (a n : Nat) : Option (State × Nat × Bool) :=
  match targetOf a n with
  | .reg => let r := s.readReg (.frond f) a; some (r.1, r.2, false)
  | .mem => if s.waits a n then none else let r := s.memRead (frdPort f a) a n; some (r.1, ofLeBytes r.2.1, r.2.2)
  | _ => some (s.badAccess, 0, false)

/-- A write of bytes at a place; none while a bank wakes. -/
def State.frdWrite (s : State) (f : Fin 16) (a : Nat) (bs : List Byte) : Option State :=
  match targetOf a bs.length with
  | .reg => some (s.writeRegAt (.frond f) a (ofLeBytes bs))
  | .mem => if s.waits a bs.length then none else some (s.memWrite (frdPort f a) a bs)
  | _ => some s.badAccess

/-! ## Loads and stores (R103 to R105) -/

/-- A load of `n` bytes, taken by `k`. -/
def State.frdLoad (s : State) (f : Fin 16) (a : BitVec 5) (i : BitVec 16) (n align : Nat) (k : State → Nat → FOut) : FOut :=
  let ea := (s.frond f).ea a i
  match s.accCheck f 0 ea n align with
  | .inl c => .exc s c ea
  | .inr (.bar0 x) =>
    match s.frdRead f x n with
    | none => .hold s
    | some (s1, v, bad) => if bad then .exc s1 8 ea else k (s1.perfCommons f x) v
  | .inr _ => .exc s 8 ea

/-- A load of `n` bytes into g[d], sign-extended or zero-extended. -/
def State.frdLoadG (s : State) (f : Fin 16) (d a : BitVec 5) (i : BitVec 16) (n : Nat) (sx : Bool) : State :=
  s.frdIssue f [d, a] (fun s => s.frdLoad f a i n n (fun s v =>
    .done (s.setG f d (if sx then BitVec.ofInt 64 (toSigned (8 * n) v) else BitVec.ofNat 64 v))))

/-- LDT (R104). -/
def State.frdLdt (s : State) (f : Fin 16) (d a : BitVec 5) (i : BitVec 16) : State :=
  s.frdIssue f [a] (fun s =>
    if ¬ tOk d then .exc s 1 0
    else s.frdLoad f a i 12 16 (fun s v => if timeOk v then .done (s.setT f d (BitVec.ofNat 96 v)) else .exc s 9 0))

/-- A store of bytes at g[a] + sext(imm), in BAR0 or through an alias (R103, R410). -/
def State.frdStore (s : State) (f : Fin 16) (a : BitVec 5) (i : BitVec 16) (align : Nat) (bs : List Byte) : FOut :=
  let ea := (s.frond f).ea a i
  match s.accCheck f 1 ea bs.length align with
  | .inl c => .exc s c ea
  | .inr (.bar0 x) =>
    match s.frdWrite f x bs with
    | none => .hold s
    | some s1 => .done (s1.perfCommons f x)
  | .inr (.bitOp clear x) =>
    if s.waits x bs.length then .hold s else .done ((s.aliasWrite (.frond f) clear x bs).perfCommons f x)
  | .inr .bus => .exc s 8 ea

def State.frdStoreG (s : State) (f : Fin 16) (d a : BitVec 5) (i : BitVec 16) (n : Nat) : State :=
  s.frdIssue f [d, a] (fun s => s.frdStore f a i n (leBytes n ((s.frond f).rg d).toNat))

def State.frdStt (s : State) (f : Fin 16) (d a : BitVec 5) (i : BitVec 16) : State :=
  s.frdIssue f [a] (fun s => if ¬ tOk d then .exc s 1 0 else s.frdStore f a i 16 (leBytes 12 ((s.frond f).rt d).toNat))

/-! ## Commons atomics (R106) -/

/-- An atomic with new value `op m`; g[d] receives m. A bank in RETAIN or OFF reads 0 and discards (R417). -/
def State.frdAtomic (s : State) (f : Fin 16) (op : Frond → Word → Word) (d a b : BitVec 5) : State :=
  s.frdIssue f [d, a, b] (fun s =>
    let x := s.frond f
    let ea := (x.rg a).toNat
    if x.refused 1 ea 8 then .exc s 6 ea
    else if ea % 8 ≠ 0 then .exc s 7 ea
    else if ¬ inCommons ea then .exc s 8 ea
    else if s.waits ea 8 then .hold s
    else if s.bank (bankOf ea) ≠ 0 then .done (((s.inc MEM_OFF_ACCESS_count).perf f 0x08 1).setG f d 0)
    else
      let r := (s.shared 1 1).eccRead (2 + f.val) ea 8
      if r.2 then .exc r.1 8 ea
      else
        let m := r.1.word64 ea
        let v := op x (BitVec.ofNat 64 m)
        let s1 := (r.1.eccWrite (2 + f.val) ea 8).rawStore ea (leBytes 8 v.toNat)
        .done ((s1.perf f 0x08 1).setG f d (BitVec.ofNat 64 m)))

/-! ## Branches and jumps (R107) -/

/-- Address of the branch plus 4 × sext(offset). -/
def branchTo (pc : Word) (o : BitVec 21) : Word := pc + (o.signExtend 64) * 4

/-- How a branch or jump is predicted (R129): from the table, from the return stack, or not taken. -/
inductive Predict where
  | table
  | stack
  | notTaken
  deriving DecidableEq, Repr

/-- The index of a branch in the table: bits [10:2] of its address. -/
def predIx (pc : Word) : Nat := bitsOf pc.toNat 2 9

/-- The two-bit counter of a branch: 1 after a reset. -/
def Frond.counter (x : Frond) (pc : Word) : Nat := tabGet 1 (predIx pc) x.bp

/-- The branch is mispredicted. With bp_off every branch is predicted not taken (R150; log 65). -/
def Frond.mispredicts (x : Frond) (p : Predict) (taken : Bool) (tgt : Word) : Bool :=
  if x.xctl.getLsbD 1 then taken
  else match p with
    | .table => decide (2 ≤ x.counter x.pc) != taken
    | .stack => decide (x.ras.head? ≠ some tgt)
    | .notTaken => taken

/-- The predictor after a branch: its counter moves, a return pops the stack, and a link pushes, the oldest of nine entries lost. -/
def Frond.train (x : Frond) (p : Predict) (taken link : Bool) : Frond :=
  let c := x.counter x.pc
  let c' := if taken then min 3 (c + 1) else c - 1
  let k := predIx x.pc
  let bp := match p with
    | .table => if c' = 1 then tabClear (fun i => decide (i = k)) x.bp else tabSet k c' x.bp
    | _ => x.bp
  let ras := match p with
    | .stack => x.ras.tail
    | _ => x.ras
  { x with bp := bp, ras := if link then ((x.pc + 4) :: ras).take 8 else ras }

/-- A branch or jump: `link` names the register that receives the return address (R107, R129). -/
def State.frdJump (s : State) (f : Fin 16) (p : Predict) (uses : List (BitVec 5)) (taken : Frond → Bool) (tgt : Frond → Word)
    (link : Option (BitVec 5)) : State :=
  s.frdIssue f uses (fun s =>
    let x := s.frond f
    let s1 := s.perf f 0x06 1
    let s2 := if x.mispredicts p (taken x) (tgt x) then s1.perf f 0x07 1 else s1
    let s3 := s2.setFrond f ((s2.frond f).train p (taken x) link.isSome)
    let s4 := match link with
      | some d => s3.setG f d (x.pc + 4)
      | none => s3
    if taken x then .jump s4 (tgt x) else .done s4)

def State.frdBranch (s : State) (f : Fin 16) (uses : List (BitVec 5)) (taken : Frond → Bool) (o : BitVec 21) : State :=
  s.frdJump f .table uses taken (fun x => branchTo x.pc o) none

/-- JR: a return where it names g31 (R129). -/
def State.frdJr (s : State) (f : Fin 16) (a : BitVec 5) : State :=
  s.frdJump f (if a = 31 then .stack else .notTaken) [a] (fun _ => true) (fun x => x.rg a) none

/-! ## Waits (R85, R86, R108 to R114, R130, R132) -/

/-- The core-domain copy of spine time at 1 ns resolution (R130). -/
def State.coreNs (s : State) : Int := (s.now + (s.dom 0).dev) / uNs * uNs

/-- The waiting instruction completes: the next one follows. -/
def State.waitEnd (s : State) (f : Fin 16) : State :=
  let x := s.frond f
  (s.setFrond f { x with wait := .none, pc := x.pc + 4 }).retire f x.mode

def State.setTf (s : State) (f : Fin 16) (b : Bool) : State := s.setFrond f { s.frond f with tf := b }
def State.setWait (s : State) (f : Fin 16) (w : FWait) : State := s.setFrond f { s.frond f with wait := w }

/-- A register number held in a wait. -/
def regNo (d : Nat) : BitVec 5 := BitVec.ofNat 5 d

/-- What ATI reports for a release `late` units after t[a] without a wait (R108, R130). -/
def atiLate (late : Int) : Word := if late ≤ uTick then 0 else BitVec.ofInt 64 (min late 9223372036854775807)

/-- ATI (R108). -/
def State.frdAti (s : State) (f : Fin 16) (d a : BitVec 5) : State :=
  s.frdIssue f [d] (fun s =>
    let t := (s.frond f).time a
    if ¬ tOk a then .exc s 1 0
    else if t ≤ s.coreNs then .done (s.setG f d (atiLate (s.coreNs - t)))
    else .hold (s.setWait f (.ati t d.toNat)))

/-- ATI_RELEASE (R130). -/
def State.atiRelease (s : State) (f : Fin 16) : State :=
  match (s.frond f).wait with
  | .ati t d => if s.frdRuns f ∧ t ≤ s.coreNs then (s.setG f (regNo d) 0).waitEnd f else s
  | _ => s

/-- The watched word as the Frond sees it (R111, R417). -/
def State.watched (s : State) (a : Nat) : Nat := if inCommons a ∧ s.bank (bankOf a) ≠ 0 then 0 else s.word64 a

/-- The watched word lies in a bank that wakes: its read waits until the bank is ON (R417). -/
def State.watchHeld (s : State) (w : FWait) : Bool :=
  match w with
  | .wtu a .. => s.bankWakes a
  | _ => false

/-- The read of a watched word that ends a wait: one of a bank in RETAIN or OFF is counted (R417; log 67). -/
def State.watchRead (s : State) (w : FWait) : State :=
  match w with
  | .wtu a .. => if inCommons a ∧ s.bank (bankOf a) ≠ 0 then s.inc MEM_OFF_ACCESS_count else s
  | _ => s

/-- Lines that complete a WFE: those that are taken as interrupts do not (R112). -/
def Frond.wfeLines (x : Frond) (mask : BitVec 64) : BitVec 64 :=
  if x.ie && !x.inh then x.evtPend &&& mask &&& ~~~x.evtEn else x.evtPend &&& mask

/-- The least latched stamp of a set of lines. -/
def Frond.leastStamp (x : Frond) (lines : BitVec 64) : Int :=
  ((List.finRange 64).filterMap (fun l => if lines.getLsbD l.val then some x.lineStamp[l] else none)).min?.getD 0

/-- The index under R49 of a queue that Frond `f` pushes or pops; 2048 for the submission queue of the acquisition engine (R289). None:
the instruction raises QUEUE (R114). -/
def State.frdQueue (s : State) (f : Fin 16) (push : Bool) (q : Nat) : Option Nat :=
  let mine := fun (fld : Fld) (n : Nat) => decide (s.rf fld n = f.val)
  if q < 16 then some (if push then 16 * f.val + q else 16 * q + f.val)
  else if q = 0x10 then (if push then some (256 + f.val) else none)
  else if 0x20 ≤ q ∧ q < 0x48 then
    if !push && s.rb TDCn_CTL_route_en (q - 0x20) && mine TDCn_CTL_frond (q - 0x20) then some (272 + (q - 0x20)) else none
  else if 0x100 ≤ q ∧ q < 0x120 then (if push then some (1024 + (q - 0x100)) else none)
  else if 0x120 ≤ q ∧ q < 0x140 then (if push then none else some (1024 + (q - 0x100)))
  else if q = 0x140 then (if push then some 2048 else none)
  else if q = 0x141 then (if !push && mine GNS_ACQ_CTL_frond 0 then some 1089 else none)
  else if 0x180 ≤ q ∧ q < 0x1A0 then (if push then some (1024 + (q - 0x100)) else none)
  else if 0x1A0 ≤ q ∧ q < 0x1E0 then (if !push && mine MACn_CTL_frond (q % 32) then some (1024 + (q - 0x100)) else none)
  else if q = 0x201 then (if push then some 1281 else none)
  else if q = 0x200 ∨ q = 0x202 then (if !push && mine TSV_CTL_frond 0 then some (1024 + (q - 0x100)) else none)
  else none

/-- The domain that produces the items of a queue, whose watermark decides a timeout (R86, R132). -/
def State.queueDom (s : State) (i : Nat) : Nat := if (272 ≤ i ∧ i < 312) ∨ (1056 ≤ i ∧ i < 1088) ∨ (1184 ≤ i ∧ i < 1216) then s.ringDom else 0

/-- The awaited condition: whether it holds, the stamp that R85 compares, and the domain of the event. -/
def State.waitCond (s : State) (f : Fin 16) (w : FWait) : Bool × Int × Nat :=
  let x := s.frond f
  match w with
  | .none => (false, 0, 0)
  | .ati .. => (false, 0, 0)
  | .wtu a d .. => (decide (s.watched a ≠ (x.rg (regNo d)).toNat), tabGet 0 a s.memx.wst, 0)
  | .wfe m .. => (decide (x.wfeLines m ≠ 0), x.leastStamp (x.wfeLines m), 0)
  | .qpush i .. => (decide (i = 2048) || s.qCredit i, (s.queue i).cstamp, 0)
  | .qpop i .. => (match s.qFront i with | some y => (true, y.stamp, s.queueDom i) | none => (false, 0, s.queueDom i))

/-- Mode and deadline of a wait (R110). -/
def FWait.limit : FWait → Option Int
  | .wtu _ _ m t => if m = 0 then some t else Option.none
  | .wfe _ _ m t => if m = 0 then some t else Option.none
  | .qpush _ _ m t => if m = 0 then some t else Option.none
  | .qpop _ _ m t => if m = 0 then some t else Option.none
  | _ => Option.none

/-- The condition holds, and its stamp is at or before the deadline (R85). -/
def State.waitMet (s : State) (f : Fin 16) (w : FWait) : Bool :=
  let c := s.waitCond f w
  !s.watchHeld w && c.1 && (match w.limit with | some t => decide (c.2.1 ≤ t) | none => true)

/-- A 64-bit item as QPOP returns it. -/
def itemWord (d : QData) : Word :=
  match d with
  | .word n => BitVec.ofNat 64 n
  | _ => 0

/-- An item that a Frond pushed has not reached the queue's other end (R33, R122). -/
def State.inFlight (s : State) (e : Nat × Nat) : Bool :=
  let q := s.queue e.1
  let gap := (e.2 + 2 ^ 32 - (q.q + q.vis) % 2 ^ 32) % 2 ^ 32
  decide (0 < gap) && decide (gap ≤ q.items.length - q.vis)

/-- The newest item of queue `i` is the Frond's own: FENCE waits for it (R122). -/
def State.noteSent (s : State) (f : Fin 16) (i : Nat) : State :=
  let x := s.frond f
  s.setFrond f { x with sent := (i, (s.queue i).p) :: x.sent.filter s.inFlight }

/-- What the met condition does (R111 to R113, R135): the event is taken, and STATUS.tf clears. -/
def State.waitTake (s : State) (f : Fin 16) (w : FWait) : State :=
  let x := s.frond f
  let s1 := match w with
    | .wtu a d .. => s.setG f (regNo d) (BitVec.ofNat 64 (s.watched a))
    | .wfe m d .. => (s.setFrond f (x.observe (x.evtPend &&& m))).setG f (regNo d) (x.evtPend &&& m)
    | .qpush i v .. => if i = 2048 then s.acqSubmit (v % 64) else (s.qPush i ⟨s.domNow 0, .word v⟩).noteSent f i
    | .qpop i d .. => (match s.qFront i with | some y => (s.qPop i).setG f (regNo d) (itemWord y.data) | none => s)
    | _ => s
  s1.setTf f false

/-- A failed test or a deadline that passed (R110 to R113). -/
def State.waitFail (s : State) (f : Fin 16) (w : FWait) : State :=
  let s1 := match w with
    | .wtu a d .. => s.setG f (regNo d) (BitVec.ofNat 64 (s.watched a))
    | .wfe _ d .. => s.setG f (regNo d) 0
    | _ => s
  s1.setTf f true

/-- A blocking instruction at its issue. -/
def State.frdWait (s : State) (f : Fin 16) (mode : BitVec 2) (w : FWait) : FOut :=
  if s.waitMet f w then .done (s.waitTake f w)
  else if mode = 2 then .done (s.waitFail f w)
  else .hold (s.setWait f w)

/-- The deadline field is a time register in mode 0 and unused, so 0, in modes 1 and 2; mode 3 does not exist (R91, R96, R110). -/
def modeOk (mode : BitVec 2) (t : BitVec 5) : Bool := if mode = 0 then tOk t else decide (mode ≠ 3) && decide (t = 0)

/-- WTU (R111). -/
def State.frdWtu (s : State) (f : Fin 16) (d a b : BitVec 5) (mode : BitVec 2) : State :=
  s.frdIssue f [d, a] (fun s =>
    let x := s.frond f
    let ea := (x.rg a).toNat
    if ¬ modeOk mode b then .exc s 1 0
    else if x.refused 0 ea 8 then .exc s 5 ea
    else if ea % 8 ≠ 0 then .exc s 7 ea
    else
      let own := decide (frdBase + 0x10000 ≤ ea) && decide (ea < frdBase + 0x20000)
      if ¬ (own || inCommons ea) then .exc s 8 ea
      else
        let p := if own then dmemOf f.val + (ea - (frdBase + 0x10000)) else ea
        match s.frdRead f p 8 with
        | none => .hold s
        | some (s1, _, bad) => if bad then .exc s1 8 ea else s1.frdWait f mode (.wtu p d.toNat mode.toNat (x.time b)))

/-- WFE (R112). -/
def State.frdWfe (s : State) (f : Fin 16) (d a b : BitVec 5) (mode : BitVec 2) : State :=
  s.frdIssue f [d, a] (fun s =>
    let x := s.frond f
    if ¬ modeOk mode b then .exc s 1 0 else s.frdWait f mode (.wfe (x.rg a) d.toNat mode.toNat (x.time b)))

/-- Task mode may not use the blocks (R92). -/
def Frond.noTio (x : Frond) : Bool := !x.mode && !x.tio

/-- QPUSH (R113). -/
def State.frdQpush (s : State) (f : Fin 16) (d a : BitVec 5) (mode : BitVec 2) (q : BitVec 11) : State :=
  s.frdIssue f [d] (fun s =>
    let x := s.frond f
    if ¬ modeOk mode a then .exc s 1 0
    else if x.noTio then .exc s 2 0
    else
      match s.frdQueue f true q.toNat with
      | none => .exc s 0x0B 0
      | some i => s.frdWait f mode (.qpush i (x.rg d).toNat mode.toNat (x.time a)))

/-- QPOP (R113). -/
def State.frdQpop (s : State) (f : Fin 16) (d a : BitVec 5) (mode : BitVec 2) (q : BitVec 11) : State :=
  s.frdIssue f [d] (fun s =>
    let x := s.frond f
    if ¬ modeOk mode a then .exc s 1 0
    else if x.noTio then .exc s 2 0
    else
      match s.frdQueue f false q.toNat with
      | none => .exc s 0x0B 0
      | some i => s.frdWait f mode (.qpop i d.toNat mode.toNat (x.time a)))

/-- WAIT_COMPLETE (R132). -/
def State.waitComplete (s : State) (f : Fin 16) : State :=
  let w := (s.frond f).wait
  if s.frdRuns f ∧ s.waitMet f w then ((s.watchRead w).waitTake f w).waitEnd f else s

/-- TIMEOUT_DECLARE (R85, R86): the watermark of the awaited domain has passed the deadline, and no event at or before it was met. -/
def State.timeout (s : State) (f : Fin 16) : State :=
  let w := (s.frond f).wait
  match w.limit with
  | some t =>
    if s.frdRuns f ∧ ¬ s.watchHeld w ∧ ¬ s.waitMet f w ∧ t ≤ s.watermark (s.waitCond f w).2.2 then ((s.watchRead w).waitFail f w).waitEnd f else s
  | none => s

/-! ## Instructions that act on blocks (R115 to R121) -/

/-- STAMP (R115). With source 0 or 1, which use no line, any imm[5:0] is taken (DESIGN CHOICE, log 59). -/
def State.frdStamp (s : State) (f : Fin 16) (d : BitVec 5) (i : BitVec 16) : State :=
  s.frdIssue f [] (fun s =>
    let v := i.toNat
    let src := bitsOf v 13 2
    let l : Fin 64 := Fin.ofNat 64 v
    if ¬ tOk d ∨ src = 3 ∨ bitsOf v 6 7 ≠ 0 ∨ bitOf v 15 then .exc s 1 0
    else if src = 0 then .done (s.setT f d (normTime (s.domNow 0)))
    else if src = 1 then .done (s.setT f d (normTime s.raw))
    else
      let x := s.frond f
      .done ((s.setFrond f (x.observe (BitVec.ofNat 64 (2 ^ l.val)))).setT f d (normTime x.lineStamp[l])))

/-- A result code into g[d]. -/
def codeTo (f : Fin 16) (d : BitVec 5) (r : State × Nat) : FOut := .done (r.1.setG f d (BitVec.ofNat 64 r.2))

/-- The outcome of EDGE (R116). -/
def State.edgeSend (s : State) (t : Int) (v : Nat) : State × Nat :=
  let n := v % 32
  if v / 64 ≠ 0 ∨ ¬ (1 ≤ s.tioFunc n ∧ s.tioFunc n ≤ 4) ∨ ¬ s.pdOn (tioDom n) then (s, 3)
  else if t < s.domNow 0 + 100 * uNs then (s, 2)
  else if ¬ s.qCredit (312 + n) then (s, 1)
  else (s.qPush (312 + n) ⟨s.domNow 0, .edge t (bitOf v 5)⟩, 0)

def State.frdEdge (s : State) (f : Fin 16) (d a b : BitVec 5) : State :=
  s.frdIssue f [d, b] (fun s =>
    let x := s.frond f
    if ¬ tOk a then .exc s 1 0
    else if x.noTio then .exc s 2 0
    else let r := s.edgeSend (x.time a) (x.rg b).toNat
    codeTo f d (if r.2 = 0 then r.1.noteSent f (312 + (x.rg b).toNat % 32) else r.1, r.2))

/-- TARM (R117). -/
def State.frdTarm (s : State) (f : Fin 16) (d a b : BitVec 5) : State :=
  s.frdIssue f [d, a] (fun s =>
    let x := s.frond f
    if ¬ tOk b then .exc s 1 0
    else if x.noTio then .exc s 2 0
    else codeTo f d (s.tarm f.val (x.rg a).toNat (x.time b)))

/-- The outcome of SFEED (R51, R118). -/
def State.feedSend (s : State) (ofs stamp : Int) (v : Nat) : State × Nat :=
  let slot := v % 256
  if bitsOf v 8 24 ≠ 0 ∨ (23 < slot ∧ slot ≠ 255) then (s, 3)
  else if s.fatalSet then (s.inc SYS_FATAL_REFUSED_count, 2)
  else if ¬ s.qCredit 393 then (s, 1)
  else (s.qPush 393 ⟨s.domNow 0, .feed ⟨slot, ofs, stamp, bitsOf v 32 32⟩⟩, 0)

def State.frdSfeed (s : State) (f : Fin 16) (d a b : BitVec 5) : State :=
  s.frdIssue f [d, b] (fun s =>
    let x := s.frond f
    if ¬ tOk a ∨ a.toNat % 2 = 1 then .exc s 1 0
    else if x.noTio then .exc s 2 0
    else let r := s.feedSend (x.dur a) (x.time (a + 1)) (x.rg b).toNat
    codeTo f d (if r.2 = 0 then r.1.noteSent f 393 else r.1, r.2))

/-- TSLEW and TSTEP need supervisor mode and the grant (R119). -/
def State.granted (s : State) (f : Fin 16) : Bool := (s.frond f).mode && bitOf (s.rf FRD_TIME_GRANT_grant) f.val

/-- A refusal of TSTEP (0x1502) or TSLEW (0x1503), journalled and, under a fatal response, counted (R120, R121). -/
def State.timeRefuse (s : State) (f : Nat) (code ev : Nat) : State :=
  let s1 := if code = 2 then s.inc SYS_FATAL_REFUSED_count else s
  s1.journal 1 (0x1500 + f) ev (code + f * 16)

/-- A foreign slew runs or waits (R121). -/
def State.foreignSlew (s : State) : Bool := decide (s.tm.slewSource ≠ 0) || s.tm.slewWait.isSome

/-- The outcome of TSLEW (R121, R243). -/
def State.slewSend (s : State) (f : Fin 16) (amt : Int) (rate : Nat) : State × Nat :=
  let refuse := fun (c : Nat) => (s.timeRefuse f.val c 0x1503, c)
  if s.fatalSet then refuse 2
  else if s.rb TLY_RING_FILL_reserve then refuse 1
  else if s.foreignSlew then refuse 3
  else if amt = 0 ∨ uSec ≤ (amt.natAbs : Int) then refuse 4
  else
    let r := if rate = 0 ∨ s.slewMax < rate then s.slewMax else rate
    ((s.servoSlewCut.slewStart amt (slewWord r) 1 f.val).wf SRV_STATUS_paused 1, 0)

def State.frdTslew (s : State) (f : Fin 16) (d a b : BitVec 5) : State :=
  s.frdIssue f [d, b] (fun s =>
    let x := s.frond f
    if ¬ tOk a then .exc s 1 0
    else if ¬ s.granted f then .exc s 2 0
    else codeTo f d (s.slewSend f (x.dur a) (x.rg b).toNat))

/-- Commands of one tick stand in Frond index order (R121). -/
def stepInsert (c : StepCmd) : List StepCmd → List StepCmd
  | [] => [c]
  | h :: t => if c.frond < h.frond then c :: h :: t else h :: stepInsert c t

/-- TSTEP (R120): the command leaves for the spine; TSTEP_APPLY writes g[d]. -/
def State.frdTstep (s : State) (f : Fin 16) (d a : BitVec 5) : State :=
  s.frdIssue f [d] (fun s =>
    if ¬ tOk a then .exc s 1 0
    else if ¬ s.granted f then .exc s 2 0
    else .done (s.setTm { s.tm with steps := stepInsert ⟨f.val, d.toNat, (s.frond f).dur a⟩ s.tm.steps }))

/-! ## Control words (R92, R149) -/

def b64 (b : Bool) (i : Nat) : Nat := if b then 2 ^ i else 0

/-- The control word of an index; none where R92 and R149 list none. -/
def Frond.cword (x : Frond) (f : Fin 16) (i : Nat) : Option Nat :=
  if h : 0x10 ≤ i ∧ i < 0x20 then
    let k : Fin 8 := ⟨(i - 0x10) / 2, by omega⟩
    some (if i % 2 = 0 then x.prgBase[k].toNat else x.prgLimit[k].toNat)
  else if h : 0x100 ≤ i ∧ i < 0x108 then some (x.pcnt[(⟨i - 0x100, by omega⟩ : Fin 8)].toNat)
  else if h : 0x108 ≤ i ∧ i < 0x110 then some (x.psel[(⟨i - 0x108, by omega⟩ : Fin 8)].toNat)
  else
    match i with
    | 0x000 => some (b64 x.mode 0 + b64 x.ie 1 + b64 x.inh 2 + b64 x.tf 3 + b64 x.tio 4)
    | 0x001 => some x.retpc.toNat
    | 0x002 => some (x.code.toNat + x.line.toNat * 2 ^ 8 + x.trap.toNat * 2 ^ 16)
    | 0x003 => some x.faultAddr.toNat
    | 0x004 => some x.htable.toNat
    | 0x005 => some (b64 x.retMode 0 + b64 x.retIe 1 + b64 x.t7saved 2)
    | 0x006 => some (x.t7save.toNat % 2 ^ 64)
    | 0x007 => some (x.t7save.toNat / 2 ^ 64)
    | 0x008 => some x.evtPend.toNat
    | 0x009 => some x.evtEn.toNat
    | 0x00A => some 0
    | 0x00B => some (f.val + f.val / 4 * 16)
    | 0x00C => some x.scratch.toNat
    | 0x110 => some x.povf.toNat
    | 0x111 => some x.xctl.toNat
    | _ => none

/-- A control word written; RO fields stay (R92, R122, R136, R149). -/
def Frond.cwrite (x : Frond) (f : Fin 16) (i : Nat) (v : Word) : Frond :=
  if h : 0x10 ≤ i ∧ i < 0x20 then
    let k : Fin 8 := ⟨(i - 0x10) / 2, by omega⟩
    if i % 2 = 0 then { x with prgBase := x.prgBase.set k (v.setWidth 32 &&& 0xFFFFFF0F) }
    else { x with prgLimit := x.prgLimit.set k (v.setWidth 32 &&& 0xFFFFFF00) }
  else if h : 0x108 ≤ i ∧ i < 0x110 then { x with psel := x.psel.set (⟨i - 0x108, by omega⟩ : Fin 8) (v.setWidth 22 &&& 0x3F0FFF) }
  else
    match i with
    | 0x000 => { x with ie := v.getLsbD 1, inh := v.getLsbD 2, tf := v.getLsbD 3, tio := v.getLsbD 4 }
    | 0x001 => { x with retpc := v }
    | 0x004 => { x with htable := v.setWidth 5 }
    | 0x005 => { x with retMode := v.getLsbD 0, retIe := v.getLsbD 1, t7saved := v.getLsbD 2 }
    | 0x006 => { x with t7save := BitVec.ofNat 96 (x.t7save.toNat / 2 ^ 64 * 2 ^ 64 + v.toNat) }
    | 0x007 => { x with t7save := BitVec.ofNat 96 (x.t7save.toNat % 2 ^ 64 + v.toNat % 2 ^ 32 * 2 ^ 64) }
    | 0x009 => { x with evtEn := if f = 0 then v ||| 1 else v }
    | 0x00A => { x with evtPend := x.evtPend &&& ~~~(v &&& x.lineObs) }
    | 0x00C => { x with scratch := v }
    | 0x110 => { x with povf := x.povf &&& ~~~(v.setWidth 8) }
    | 0x111 => { x with xctl := v.setWidth 2 }
    | _ => x

/-- The control words that task mode may read, and write (R92). -/
def taskReads (i : Nat) : Bool := decide (i = 0) || decide (i = 8) || decide (i = 0xB) || decide (i = 0xC)
def taskWrites (i : Nat) : Bool := decide (i = 0xC)

/-- MFC (R92, R122). -/
def State.frdMfc (s : State) (f : Fin 16) (d : BitVec 5) (i : BitVec 12) : State :=
  s.frdIssue f [d] (fun s =>
    let x := s.frond f
    match x.cword f i.toNat with
    | none => .exc s 1 0
    | some v => if !x.mode && !taskReads i.toNat then .exc s 2 0 else .done (s.setG f d (BitVec.ofNat 64 v)))

/-- MTC (R92, R122). -/
def State.frdMtc (s : State) (f : Fin 16) (a : BitVec 5) (i : BitVec 12) : State :=
  s.frdIssue f [a] (fun s =>
    let x := s.frond f
    let v := x.rg a
    if (x.cword f i.toNat).isNone then .exc s 1 0
    else if !x.mode && !taskWrites i.toNat then .exc s 2 0
    else if i = 6 ∧ 1000000000 ≤ bitsOf v.toNat 16 32 then .exc s 9 0
    else .done (s.setFrond f (x.cwrite f i.toNat v)))

/-! ## System instructions (R122) -/

/-- ERET: the registers after it. -/
def Frond.eret (x : Frond) : Frond :=
  let y := { x with mode := x.retMode, ie := x.retIe, inh := false }
  if x.t7saved then { y with t := x.t.set 7 x.t7save, t7saved := false } else y

def State.frdEret (s : State) (f : Fin 16) : State :=
  s.frdIssue f [] (fun s =>
    let x := s.frond f
    if !x.inh then .exc s 1 0
    else if !x.mode then .exc s 2 0
    else .jump (s.setFrond f x.eret) x.retpc)

/-- FENCE: accesses are performed as they issue; items that the Frond pushed and that cross still, and a TSTEP on its way, are waited for. -/
def State.frdFence (s : State) (f : Fin 16) : State :=
  s.frdIssue f [] (fun s =>
    let x := s.frond f
    if s.stepOut f || x.sent.any s.inFlight then .hold s else .done (s.setFrond f { x with sent := [] }))

/-- HALT: it completes at once where a line is to be taken. -/
def State.frdHaltOp (s : State) (f : Fin 16) : State :=
  s.frdIssue f [] (fun s =>
    let x := s.frond f
    if !x.mode then .exc s 2 0
    else if x.nextLine.isSome && x.ie && !x.inh then .done s
    else .done (s.wf FRD_STATUSn_state 1 f.val))

def State.frdTrap (s : State) (f : Fin 16) (i : BitVec 16) : State := s.frdIssue f [] (fun _ => .trap i.toNat)

/-! ## Counters that count cycles (R151, R153, R154) -/

/-- The events of R151 that count cycles or slots: they alone pass without a command of their own (log 8). -/
def cycleEvent (e : Nat) : Bool := [0x00, 0x03, 0x04, 0x05, 0x09, 0x0A, 0x0B, 0x0C, 0x0F, 0x10].contains e

/-- PERF_COUNTER_OVERFLOW: counter `k`, which selects an event that counts cycles, counts on to its carry. -/
def State.perfOverflow (s : State) (f : Fin 16) (k : Fin 8) : State :=
  let x := s.frond f
  if cycleEvent (x.psel[k].toNat % 256) ∧ x.counts k (x.psel[k].toNat % 256) ∧ s.frdState f = 0 then
    let n := 2 ^ pselSpan x.psel[k]
    let r := x.countOne k (n - x.pcnt[k].toNat % n)
    let s1 := s.setFrond f r.1
    if r.2 then s1.raiseLine f 63 (s1.domNow 0) else s1
  else s

/-- SHARED_COUNTER_OVERFLOW: counter `k` counts on to its carry, whatever code it selects (DESIGN CHOICE for a code that R154 does not list,
log 66). -/
def State.prfOverflow (s : State) (k : Nat) : State :=
  if s.rb PRF_SELk_en k then s.prfAdd k (2 ^ s.prfSpan k - s.rf PRF_CNTk_count k % 2 ^ s.prfSpan k) else s

/-- BAD_ACCESS (R455): of the host or the SPI slave, or of an instruction of a Frond. -/
def State.accessBad (s : State) (q : Req) (a n : Nat) (wr : Bool) : State :=
  match q with
  | .frond f =>
    s.frdIssue f [] (fun s =>
      if inAlias a then
        if ¬ wr then .exc s 8 a
        else if aliasValid a n then .hold s else .done (s.inc MEM_ALIAS_ERR_count)
      else match targetOf a n with
      | .unmapped => .done s.badAccess
      | .bad => .exc s 8 a
      | _ => .hold s)
  | _ => s.hostBad q a n wr

/-! ## Meanings -/

def execLb (f : Fin 16) (d a : BitVec 5) (i : BitVec 16) (s : State) : Result := .next (s.frdLoadG f d a i 1 true)
def execLbu (f : Fin 16) (d a : BitVec 5) (i : BitVec 16) (s : State) : Result := .next (s.frdLoadG f d a i 1 false)
def execLh (f : Fin 16) (d a : BitVec 5) (i : BitVec 16) (s : State) : Result := .next (s.frdLoadG f d a i 2 true)
def execLhu (f : Fin 16) (d a : BitVec 5) (i : BitVec 16) (s : State) : Result := .next (s.frdLoadG f d a i 2 false)
def execLw (f : Fin 16) (d a : BitVec 5) (i : BitVec 16) (s : State) : Result := .next (s.frdLoadG f d a i 4 true)
def execLwu (f : Fin 16) (d a : BitVec 5) (i : BitVec 16) (s : State) : Result := .next (s.frdLoadG f d a i 4 false)
def execLd (f : Fin 16) (d a : BitVec 5) (i : BitVec 16) (s : State) : Result := .next (s.frdLoadG f d a i 8 false)
def execLdt (f : Fin 16) (d a : BitVec 5) (i : BitVec 16) (s : State) : Result := .next (s.frdLdt f d a i)
def execSb (f : Fin 16) (d a : BitVec 5) (i : BitVec 16) (s : State) : Result := .next (s.frdStoreG f d a i 1)
def execSh (f : Fin 16) (d a : BitVec 5) (i : BitVec 16) (s : State) : Result := .next (s.frdStoreG f d a i 2)
def execSw (f : Fin 16) (d a : BitVec 5) (i : BitVec 16) (s : State) : Result := .next (s.frdStoreG f d a i 4)
def execSd (f : Fin 16) (d a : BitVec 5) (i : BitVec 16) (s : State) : Result := .next (s.frdStoreG f d a i 8)
def execStt (f : Fin 16) (d a : BitVec 5) (i : BitVec 16) (s : State) : Result := .next (s.frdStt f d a i)

def execAadd (f : Fin 16) (d a b : BitVec 5) (s : State) : Result := .next (s.frdAtomic f (fun x m => m + x.rg b) d a b)
def execAswp (f : Fin 16) (d a b : BitVec 5) (s : State) : Result := .next (s.frdAtomic f (fun x _ => x.rg b) d a b)
def execAset (f : Fin 16) (d a b : BitVec 5) (s : State) : Result := .next (s.frdAtomic f (fun x m => m ||| x.rg b) d a b)
def execAclr (f : Fin 16) (d a b : BitVec 5) (s : State) : Result := .next (s.frdAtomic f (fun x m => m &&& ~~~(x.rg b)) d a b)
def execAmin (f : Fin 16) (d a b : BitVec 5) (s : State) : Result := .next (s.frdAtomic f (fun x m => wMin m (x.rg b)) d a b)
def execAmax (f : Fin 16) (d a b : BitVec 5) (s : State) : Result := .next (s.frdAtomic f (fun x m => wMax m (x.rg b)) d a b)
def execAcas (f : Fin 16) (d a b : BitVec 5) (s : State) : Result :=
  .next (s.frdAtomic f (fun x m => if m = x.rg d then x.rg b else m) d a b)

def execBr (f : Fin 16) (o : BitVec 21) (s : State) : Result := .next (s.frdBranch f [] (fun _ => true) o)
def execBl (f : Fin 16) (o : BitVec 21) (s : State) : Result := .next (s.frdJump f .table [31] (fun _ => true) (fun x => branchTo x.pc o) (some 31))
def execBeqz (f : Fin 16) (c : BitVec 5) (o : BitVec 21) (s : State) : Result := .next (s.frdBranch f [c] (fun x => decide (x.rg c = 0)) o)
def execBnez (f : Fin 16) (c : BitVec 5) (o : BitVec 21) (s : State) : Result := .next (s.frdBranch f [c] (fun x => decide (x.rg c ≠ 0)) o)
def execBltz (f : Fin 16) (c : BitVec 5) (o : BitVec 21) (s : State) : Result := .next (s.frdBranch f [c] (fun x => (x.rg c).slt 0) o)
def execBgez (f : Fin 16) (c : BitVec 5) (o : BitVec 21) (s : State) : Result := .next (s.frdBranch f [c] (fun x => !(x.rg c).slt 0) o)
def execBto (f : Fin 16) (o : BitVec 21) (s : State) : Result := .next (s.frdBranch f [] (fun x => x.tf) o)
def execBnto (f : Fin 16) (o : BitVec 21) (s : State) : Result := .next (s.frdBranch f [] (fun x => !x.tf) o)
def execJr (f : Fin 16) (a : BitVec 5) (s : State) : Result := .next (s.frdJr f a)
def execJlr (f : Fin 16) (d a : BitVec 5) (s : State) : Result := .next (s.frdJump f .notTaken [d, a] (fun _ => true) (fun x => x.rg a) (some d))

def execAti (f : Fin 16) (d a : BitVec 5) (s : State) : Result := .next (s.frdAti f d a)
def execAtiRelease (f : Fin 16) (s : State) : Result := .next (s.atiRelease f)
def execWtu (f : Fin 16) (d a b : BitVec 5) (mode : BitVec 2) (s : State) : Result := .next (s.frdWtu f d a b mode)
def execWfe (f : Fin 16) (d a b : BitVec 5) (mode : BitVec 2) (s : State) : Result := .next (s.frdWfe f d a b mode)
def execQpush (f : Fin 16) (d a : BitVec 5) (mode : BitVec 2) (q : BitVec 11) (s : State) : Result := .next (s.frdQpush f d a mode q)
def execQpop (f : Fin 16) (d a : BitVec 5) (mode : BitVec 2) (q : BitVec 11) (s : State) : Result := .next (s.frdQpop f d a mode q)
def execWaitComplete (f : Fin 16) (s : State) : Result := .next (s.waitComplete f)
def execTimeoutDeclare (f : Fin 16) (s : State) : Result := .next (s.timeout f)

def execStamp (f : Fin 16) (d : BitVec 5) (i : BitVec 16) (s : State) : Result := .next (s.frdStamp f d i)
def execEdge (f : Fin 16) (d a b : BitVec 5) (s : State) : Result := .next (s.frdEdge f d a b)
def execTarm (f : Fin 16) (d a b : BitVec 5) (s : State) : Result := .next (s.frdTarm f d a b)
def execSfeed (f : Fin 16) (d a b : BitVec 5) (s : State) : Result := .next (s.frdSfeed f d a b)
def execTslew (f : Fin 16) (d a b : BitVec 5) (s : State) : Result := .next (s.frdTslew f d a b)
def execTstep (f : Fin 16) (d a : BitVec 5) (s : State) : Result := .next (s.frdTstep f d a)

def execEret (f : Fin 16) (s : State) : Result := .next (s.frdEret f)
def execFence (f : Fin 16) (s : State) : Result := .next (s.frdFence f)
def execHalt (f : Fin 16) (s : State) : Result := .next (s.frdHaltOp f)
def execMfc (f : Fin 16) (d : BitVec 5) (i : BitVec 12) (s : State) : Result := .next (s.frdMfc f d i)
def execMtc (f : Fin 16) (a : BitVec 5) (i : BitVec 12) (s : State) : Result := .next (s.frdMtc f a i)
def execTrap (f : Fin 16) (i : BitVec 16) (s : State) : Result := .next (s.frdTrap f i)

def execPerfCounterOverflow (f : Fin 16) (k : Fin 8) (s : State) : Result := .next (s.whenUp (s.perfOverflow f k))
def execSharedCounterOverflow (k : Fin 16) (s : State) : Result := .next (s.whenUp (s.prfOverflow k.val))
def execBadAccess (q : Req) (a : BitVec 26) (n : Nat) (wr : Bool) (s : State) : Result :=
  .next (s.whenUp (if s.onBus q then s.accessBad q a.toNat n wr else s))

end Sys2Proof.Machine
end

