-- ==== Sys2Proof/Machine/Strobe.lean ====
section
/-!
DEFINITION. The millisecond strobe and the spine second (R28, R30, R36, R37, R69, R72, R431), commanded steps (R120), and the readiness bits
that a function reports (R42 to R45).
-/

namespace Sys2Proof.Machine
open Sys2Proof Reg

/-! ## The strobe's comparison of copies (R28, R30) -/

/-- One domain at a strobe: a stopped clock holds no copy; a copy that is not loaded loads, and one that differs loads with the fatal cause stamp. -/
def State.domStrobe (s : State) (d : Nat) : State :=
  let c := s.dom d
  if d = 1 ∨ ¬ c.running then s
  else if ¬ c.loaded then
    let s1 := s.setDom d { c with loaded := true, dev := 0 }
    if 36 ≤ d ∧ d < 40 then s1.portTry (d - 36) else s1
  else if c.dev ≠ 0 then (s.setDom d { c with dev := 0 }).fatal 4 d 0x7FF 0
  else s

def State.domsStrobe (s : State) : State := (List.range 44).foldl State.domStrobe s

/-- A loaded copy differs from the strobe. -/
def State.domBad (s : State) : Bool :=
  (List.range 44).any (fun d => decide (d ≠ 1) && (s.dom d).running && (s.dom d).loaded && decide ((s.dom d).dev ≠ 0))

/-! ## The credit audit (R36, R37, R49) -/

/-- Sender and receiver domain of the queue with an index of R49. -/
def State.queueEnds (s : State) (i : Nat) : Nat × Nat :=
  if i < 272 then (0, 0)
  else if i < 312 then (s.ringDom, 0)
  else if i < 344 then (0, s.ringDom)
  else if i < 348 then (36 + (i - 344), 0)
  else if i < 392 then (i - 348, 1)
  else if i = 392 then (1, 0)
  else if i < 396 then ([0, 2, 3].getD (i - 393) 0, 1)
  else if i < 428 then (4 + (i - 396), 0)
  else if i < 460 then (4 + (i - 428), 0)
  else if i < 492 then (0, s.ringDom)
  else
    match i with
    | 492 => (0, 41) | 493 => (41, 0) | 494 => (0, 41) | 495 => (41, 0)
    | 496 => (43, 0) | 497 => (0, 43) | 498 => (40, 0) | 499 => (0, 40)
    | _ => if (1056 ≤ i ∧ i < 1088) ∨ (1184 ≤ i ∧ i < 1216) then (s.ringDom, 0) else (0, s.ringDom)

/-- The power domains, of R422, that hold the sender and the receiver. -/
def queuePower (i : Nat) : List Nat :=
  let lane := fun (n : Nat) => 6 + n / 8
  let tio := fun (n : Nat) => 15 + n / 8
  if i < 256 then [2 + i / 16 / 4, 2 + i % 16 / 4]
  else if i < 272 then [2 + (i - 256) / 4]
  else if i < 312 then [if i = 304 then 0 else 1]
  else if i < 344 then [tio (i - 312)]
  else if i < 348 then [11 + (i - 344)]
  else if 352 ≤ i ∧ i < 384 then [lane (i - 352)]
  else if 384 ≤ i ∧ i < 388 then [11 + (i - 384)]
  else if i = 388 then [19]
  else if 396 ≤ i ∧ i < 428 then [lane (i - 396), 10]
  else if 428 ≤ i ∧ i < 460 then [lane (i - 428)]
  else if 460 ≤ i ∧ i < 492 then [10, lane (i - 460)]
  else if i = 498 ∨ i = 499 then [19]
  else if 1024 ≤ i ∧ i < 1088 then [tio ((i - 1024) % 32)]
  else if 1152 ≤ i ∧ i < 1216 then [lane ((i - 1152) % 32)]
  else []

/-- Every queue that R49 numbers; of the block queues, those between two domains. -/
def auditedQueues : List Nat := List.range 500 ++ (List.range 64).map (1024 + ·) ++ (List.range 64).map (1152 + ·)

/-- The audit passes over a queue (R37). -/
def State.auditSkips (s : State) (i : Nat) : Bool :=
  let e := s.queueEnds i
  !(s.dom e.1).running || !(s.dom e.2).running || (queuePower i).any (fun d => decide (s.pd d = 4))

/-- The test of R36. -/
def Queue.audit (q : Queue) (d : Nat) : Bool :=
  let m := 4294967296
  decide ((q.c : Int) = (d : Int) - (((q.p + m - q.a) % m : Nat) : Int)) && decide ((q.p + m - q.q) % m ≤ d) && decide ((q.q + m - q.a) % m ≤ d)

/-- The first queue that fails, by index: R48 gives no order among several that fail at one strobe (DESIGN CHOICE, log 59). -/
def State.auditFailure (s : State) : Option Nat :=
  (s.queues.find? (fun e => auditedQueues.contains e.1 && !s.auditSkips e.1 && !e.2.audit (qDepth e.1))).map (·.1)

/-- CREDIT audit at a strobe. -/
def State.auditStrobe (s : State) : State :=
  let s1 := s.add SYS_AUDIT_SKIP_count (auditedQueues.filter s.auditSkips).length
  match s.auditFailure with
  | some i => s1.fatal 2 (s1.queueEnds i).2 i 0
  | none => s1

/-! ## MILLISECOND_STROBE (R28) -/

/-- A boundary of a millisecond has been reached since the last strobe, the start, or a backward step. -/
def State.strobeDue (s : State) : Bool := s.tm.run && decide (s.tm.strobeFrom / uMs < s.now / uMs)

/-- This strobe finds a fatal cause that is not yet set: the open entries close with flags.fatal. -/
def State.strobeFault (s : State) : Bool :=
  (decide (s.now - s.raw ≠ s.tm.total) && !s.rb SYS_FATAL_tally) || (s.auditFailure.isSome && !s.rb SYS_FATAL_credit) ||
  (s.domBad && !s.rb SYS_FATAL_stamp)

/-- The samples of recovered clocks that roll call takes at a strobe, in R10 units (R313). -/
def State.syncSamples (s : State) (l : List (Fin 24 × BitVec 48)) : State :=
  l.foldl (fun s e =>
    let n := e.1.val
    if s.slotKind n = 5 ∧ s.slotState n ≠ 0 then
      s.setSlot n { s.slot n with due := (s.slot n).due ++ [(s.now, e.2.toInt)] }
    else s) s

/-- MILLISECOND_STROBE: the order of R69 within the tick, the checks in the order of their causes, then what each block does at a strobe. -/
def State.strobe (s : State) (sy : List (Fin 24 × BitVec 48)) : State :=
  if ¬ s.strobeDue then s
  else
    let s0 := s.setTm { s.tm with lastStrobe := s.now, strobeFrom := s.now }
    let s1 := if s0.strobeFault then s0 else s0.closeAll
    let s2 := ((s1.tallyCheck.auditStrobe).domsStrobe).addMark
    let s3 := ((s2.ageStrobe 0).ageStrobe 1).crossMeasure
    let s4 := (s3.syncSamples sy).disputeEval
    let s5 := (s4.select 0 s4.selected).1
    let fresh := decide (s.now % uSec / uMs = 0) || decide (s.tm.lastStrobe / uSec ≠ s.now / uSec)
    let s6 := ((s5.wordUpdate fresh).boundPublish).classEval
    ((List.range 32).foldl State.sealAll s6).twnStrobe

/-! ## SPINE_SECOND (R431) -/

/-- The RTC loads spine time while VDD_AON supplies it, and the duties of a second run (R236, R294, R335). -/
def State.second (s : State) : State :=
  if ¬ s.atSecond then s
  else
    let s2 := if s.pwr.aon then (s.setPwr { s.pwr with rtc := rtcOf s.now, rtcValid := true }).wf PWR_RESET_CAUSE_rtc_valid 1 else s
    (((s2.freqObserve).gnsSecond).tsvSecond).eccSecond

/-! ## TSTEP_APPLY (R69, R120, R121) -/

/-- The servo's stamps follow a step: the time between them and now is the time that passed. -/
def State.servoStep (s : State) (d : Int) : State :=
  let v := s.srv
  s.setSrv { v with sk := v.sk + d, lastFeed := v.lastFeed.map (· + d),
                    anchor := v.anchor.map (fun a => { a with stamp := a.stamp + d, feedAt := a.feedAt + d, hits := a.hits.map (· + d) }),
                    switches := v.switches.map (· + d) }

/-- The code of one command, judged at the tick, with `sum` the steps of the tick so far (R120). -/
def State.stepCode (s : State) (c : StepCmd) (sum : Int) : Nat :=
  let after := s.now + sum + c.amount
  if s.fatalSet then 2
  else if s.rb TLY_RING_FILL_reserve then 1
  else if 2147483648 * uSec ≤ (c.amount.natAbs : Int) ∨ after < 0 ∨ 281474976710656 * uSec ≤ after then 3
  else if c.amount = 0 then 4 else 0

/-- One command of the tick: its entry, or its refusal; the sum of the steps of the tick, and whether the open entries are closed. -/
def State.stepOne (p : State × Int × Bool) (c : StepCmd) : State × Int × Bool :=
  let s := p.1
  let f : Fin 16 := Fin.ofNat 16 c.frond
  let code := s.stepCode c p.2.1
  let put := fun (s : State) => s.setG f (regNo c.dreg) (BitVec.ofNat 64 code)
  if code = 0 then
    let s1 := if p.2.2 then s else s.closeAll
    (put ((s1.tlyMark c.amount 0 3 1 (16 * c.frond)).tsvStep c.amount), p.2.1 + c.amount, true)
  else (put (if code = 4 then s else s.timeRefuse c.frond code 0x1502), p.2)

/-- What follows a jump of spine time by `d` (R171, R175, R199, R202, R218, R304, R308). -/
def State.stepEffects (s : State) (d : Int) : State :=
  let told := s.now
  let s1 := s.addMark
  let s2 := (s1.setTm { s1.tm with foreign := s1.tm.foreign + d }).moveTime d
  let s3 := (s2.setTm { s2.tm with strobeFrom := min s2.tm.strobeFrom s2.now,
                                   chains := s2.tm.chains.map (fun x => { x with lockedAt := x.lockedAt + d }),
                                   lastSwitch := s2.tm.lastSwitch.map (· + d), xOutAt := s2.tm.xOutAt + d }).addMark.servoStep d
  let s4 := (List.range 36).foldl (fun s n => s.outStep n d) s3
  let s5 := (List.range 32).foldl (fun s n => s.bellStep n d) s4
  (((s5.mossStep).laneStep told d).buildoutStep d).commitStep d

/-- TSTEP_APPLY: the commands that have reached the spine, in Frond index order. -/
def State.stepApply (s : State) : State :=
  if ¬ s.tm.run then s
  else
    let r := s.tm.steps.foldl State.stepOne (s.setTm { s.tm with steps := [] }, 0, false)
    if r.2.2 then r.1.stepEffects r.2.1 else r.1

/-! ## READY_BIT_CHANGE (R42 to R45) -/

/-- A function can be ready (R44). Of rawa, rawb, spine, tdc, frd, ref, twin and gnss the state says it; cfg rises with its own command
alone; of out, tsv and host the dependences are necessary (the 15 ms of `out` from the release of reset precede spine time: log 64). -/
def State.canRise (s : State) (b : Nat) : Bool :=
  match b with
  | 0 => s.locked 0
  | 1 => s.locked 1
  | 2 => s.tm.run
  | 4 => s.pdOn 1 && s.tdcRingReady && (List.range 40).all (fun n => s.rb TDCn_STATUS_cal_valid n)
  | 3 => (s.isReady 0 || s.isReady 1) && decide (10 * uMs ≤ s.raw) && (List.range 4).any (fun k => s.pdOn (15 + k))
  | 6 => decide (s.frdState 0 ≤ 1)
  | 7 => decide (s.rf KEY_STATUS_state = 1)
  | 8 => s.isReady 6 && s.isReady 7 && s.pdOn 10
  | 10 => s.pdOn 19
  | 11 => s.rb TWN_STATUS_link && s.rb KEY_STATUS_pair_ok
  | _ => s.isReady b

/-- A bit may fall: of out, tsv and host at any time, of the others when their function has gone. -/
def State.canFall (s : State) (b : Nat) : Bool := decide (b = 3) || decide (b = 8) || decide (b = 10) || !s.canRise b

/-- What waits for a bit to rise (R45, R173, R187). -/
def State.onRise (s : State) (b : Nat) : State :=
  if b = 3 then (List.range 32).foldl State.bellRestart s
  else if b = 4 then s.tdcReady
  else if b = 5 then s.gateShow
  else s

def State.readyChange (s : State) (b : Nat) (rise : Bool) : State :=
  if rise then (if s.canRise b ∧ ¬ s.isReady b then (s.ready b true).onRise b else s)
  else if s.canFall b then s.ready b false else s

/-! ## Meanings -/

def execMillisecondStrobe (sy : List (Fin 24 × BitVec 48)) (s : State) : Result := .next (s.whenUp (s.strobe sy))
def execSpineSecond (s : State) : Result := .next (s.whenUp s.second)
def execTstepApply (s : State) : Result := .next (s.whenUp s.stepApply)
def execReadyBitChange (b : Fin 16) (rise : Bool) (s : State) : Result := .next (s.whenUp (s.readyChange b.val rise))

end Sys2Proof.Machine
end

