-- ==== Sys2Proof/Machine/Jtag.lean ====
section
/-!
DEFINITION. The test access port (R486) and the debug unlock (R487). A command loads its instruction and makes one scan of the data register that
the instruction selects; the bits shifted out stand in `tdo`, first bit first.
-/

namespace Sys2Proof.Machine
open Sys2Proof Reg

def State.setJtag (s : State) (j : JtagState) : State := { s with jtag := j }

/-- The bits that leave a one-bit bypass register that captures 0. -/
def bypassOut (l : List Bool) : List Bool := if l = [] then [] else false :: l.dropLast

/-- Bits of a word, the least significant first. -/
def bitsLsb (n w : Nat) : List Bool := (List.range w).map (fun i => bitOf n i)

/-- IDCODE (R486). -/
def State.idcode (s : State) : Nat := 1 + 0x62D * 2 + 0x9632 * 2 ^ 12 + s.rf SYS_ID_rev_let * 2 ^ 28

def State.tapBypass (s : State) (tdi : List Bool) : State := s.setJtag { s.jtag with ir := .bypass, tdo := bypassOut tdi, pins := .none }
def State.tapIdcode (s : State) : State := s.setJtag { s.jtag with ir := .idcode, tdo := bitsLsb s.idcode 32, pins := .none }

/-- The boundary register after a scan; a scan of no bits leaves it. -/
def scanned (old tdi : List Bool) : List Bool := if tdi = [] then old else tdi

def State.tapSample (s : State) (pins tdi : List Bool) : State :=
  s.setJtag { s.jtag with ir := .sample, tdo := pins, boundary := scanned s.jtag.boundary tdi, pins := .none }

/-- EXTEST, CLAMP and HIGHZ take effect only while RESET_N is low (R486). -/
def State.tapExtest (s : State) (pins tdi : List Bool) : State :=
  if s.jtag.resetLow then
    let b := scanned s.jtag.boundary tdi
    s.setJtag { s.jtag with ir := .extest, tdo := pins, boundary := b, pins := .driven b }
  else s.tapBypass tdi

def State.tapClamp (s : State) (tdi : List Bool) : State :=
  if s.jtag.resetLow then s.setJtag { s.jtag with ir := .clamp, tdo := bypassOut tdi, pins := .driven s.jtag.boundary } else s.tapBypass tdi

def State.tapHighz (s : State) (tdi : List Bool) : State :=
  if s.jtag.resetLow then s.setJtag { s.jtag with ir := .highz, tdo := bypassOut tdi, pins := .released } else s.tapBypass tdi

/-- The nonce of this reset (R487). -/
def State.debugNonce (s : State) : Bytes := (List.range 32).map (fun i => Config.drbg s.jtag.nonceSeed (s.jtag.noncePos + i))

/-- DEBUG_UNLOCK (R487). -/
def State.debugUnlock (s : State) (sig : Bytes) : State :=
  match s.ownerKey 0 with
  | some q =>
    if s.rf KEY_STATUS_state ≠ 1 ∧ Config.ecdsaVerify q (Config.sha384 (ascii "NYXDBG" ++ idHash ++ s.debugNonce)) (fitBytes 96 sig) then
      (s.setJtag { s.jtag with unlocked := true }).journal 0 0x0100 0x0106 0
    else s
  | none => s

/-! ## Meanings -/

def execJtagBypass (tdi : List Bool) (s : State) : Result := .next (if s.pwr.core then (s.tapBypass tdi) else s)
def execJtagIdcode (s : State) : Result := .next (if s.pwr.core then s.tapIdcode else s)
def execJtagSamplePreload (pins tdi : List Bool) (s : State) : Result := .next (if s.pwr.core then (s.tapSample pins tdi) else s)
def execJtagExtest (pins tdi : List Bool) (s : State) : Result := .next (if s.pwr.core then (s.tapExtest pins tdi) else s)
def execJtagClamp (tdi : List Bool) (s : State) : Result := .next (if s.pwr.core then (s.tapClamp tdi) else s)
def execJtagHighz (tdi : List Bool) (s : State) : Result := .next (if s.pwr.core then (s.tapHighz tdi) else s)
def execJtagDebugUnlock (sig : Bytes) (s : State) : Result := .next (if s.pwr.core then (s.debugUnlock sig) else s)

end Sys2Proof.Machine
end

