-- ==== Sys2Proof/Machine/Dispatch.lean ====
section
/-! DEFINITION. One arm per command: the meaning it calls. -/

namespace Sys2Proof.Machine
open Sys2Proof

def exec (i : Instr) (s : State) : Host.Outcome State Fault Refusal :=
  match i with
  | .spineTick drift => Sys2Proof.Machine.execSpineTick drift s
  | .millisecondStrobe sy => Sys2Proof.Machine.execMillisecondStrobe sy s
  | .tallyDrainCopy => Sys2Proof.Machine.execTallyDrainCopy s
  | .tlyDrainTailWrite r v => Sys2Proof.Machine.execTlyDrainTailWrite r v s
  | .tlyDrainRingWrite r size v => Sys2Proof.Machine.execTlyDrainRingWrite r size v s
  | .queueEntryVisible q => Sys2Proof.Machine.execQueueEntryVisible q s
  | .creditReturn q => Sys2Proof.Machine.execCreditReturn q s
  | .interruptSourceAssert n stamp => Sys2Proof.Machine.execInterruptSourceAssert n stamp s
  | .msixMessageSend v => Sys2Proof.Machine.execMsixMessageSend v s
  | .irqRouteWrite r n v => Sys2Proof.Machine.execIrqRouteWrite r n v s
  | .readyBitChange b rise => Sys2Proof.Machine.execReadyBitChange b rise s
  | .snapshotRequest r => Sys2Proof.Machine.execSnapshotRequest r s
  | .snapshotLatch => Sys2Proof.Machine.execSnapshotLatch s
  | .leapAdd r => Sys2Proof.Machine.execLeapAdd r s
  | .leapCancel r slot => Sys2Proof.Machine.execLeapCancel r slot s
  | .leapWarningStart => Sys2Proof.Machine.execLeapWarningStart s
  | .leapSecondStart => Sys2Proof.Machine.execLeapSecondStart s
  | .leapApply => Sys2Proof.Machine.execLeapApply s
  | .journalStreamPush d src code payload refined => Sys2Proof.Machine.execJournalStreamPush d src code payload refined s
  | .gradebookMergeWrite => Sys2Proof.Machine.execGradebookMergeWrite s
  | .gradebookDmaCopy => Sys2Proof.Machine.execGradebookDmaCopy s
  | .jnlDmaTailWrite r v => Sys2Proof.Machine.execJnlDmaTailWrite r v s
  | .jnlDrainWaitExpire => Sys2Proof.Machine.execJnlDrainWaitExpire s
  | .jnlHostPush r => Sys2Proof.Machine.execJnlHostPush r s
  | .timeoutDeclare f => Sys2Proof.Machine.execTimeoutDeclare f s
  | .add f d a b => Sys2Proof.Machine.execAdd f d a b s
  | .sub f d a b => Sys2Proof.Machine.execSub f d a b s
  | .and f d a b => Sys2Proof.Machine.execAnd f d a b s
  | .or f d a b => Sys2Proof.Machine.execOr f d a b s
  | .xor f d a b => Sys2Proof.Machine.execXor f d a b s
  | .nor f d a b => Sys2Proof.Machine.execNor f d a b s
  | .slt f d a b => Sys2Proof.Machine.execSlt f d a b s
  | .sltu f d a b => Sys2Proof.Machine.execSltu f d a b s
  | .sll f d a b => Sys2Proof.Machine.execSll f d a b s
  | .srl f d a b => Sys2Proof.Machine.execSrl f d a b s
  | .sra f d a b => Sys2Proof.Machine.execSra f d a b s
  | .min f d a b => Sys2Proof.Machine.execMin f d a b s
  | .max f d a b => Sys2Proof.Machine.execMax f d a b s
  | .minu f d a b => Sys2Proof.Machine.execMinu f d a b s
  | .maxu f d a b => Sys2Proof.Machine.execMaxu f d a b s
  | .clz f d a => Sys2Proof.Machine.execClz f d a s
  | .popc f d a => Sys2Proof.Machine.execPopc f d a s
  | .addi f d a m => Sys2Proof.Machine.execAddi f d a m s
  | .andi f d a m => Sys2Proof.Machine.execAndi f d a m s
  | .ori f d a m => Sys2Proof.Machine.execOri f d a m s
  | .xori f d a m => Sys2Proof.Machine.execXori f d a m s
  | .slti f d a m => Sys2Proof.Machine.execSlti f d a m s
  | .sltiu f d a m => Sys2Proof.Machine.execSltiu f d a m s
  | .lui f d m => Sys2Proof.Machine.execLui f d m s
  | .slli f d a m => Sys2Proof.Machine.execSlli f d a m s
  | .srli f d a m => Sys2Proof.Machine.execSrli f d a m s
  | .srai f d a m => Sys2Proof.Machine.execSrai f d a m s
  | .mullo f d a b => Sys2Proof.Machine.execMullo f d a b s
  | .mulss f d a b => Sys2Proof.Machine.execMulss f d a b s
  | .muluu f d a b => Sys2Proof.Machine.execMuluu f d a b s
  | .mulsu f d a b => Sys2Proof.Machine.execMulsu f d a b s
  | .divs f d a b => Sys2Proof.Machine.execDivs f d a b s
  | .divu f d a b => Sys2Proof.Machine.execDivu f d a b s
  | .tadd f d a b => Sys2Proof.Machine.execTadd f d a b s
  | .tsub f d a b => Sys2Proof.Machine.execTsub f d a b s
  | .taddd f d a b => Sys2Proof.Machine.execTaddd f d a b s
  | .tsubd f d a b => Sys2Proof.Machine.execTsubd f d a b s
  | .tneg f d a => Sys2Proof.Machine.execTneg f d a s
  | .tmov f d a => Sys2Proof.Machine.execTmov f d a s
  | .tcmp f d a b => Sys2Proof.Machine.execTcmp f d a b s
  | .tcmpd f d a b => Sys2Proof.Machine.execTcmpd f d a b s
  | .tscl f d a b => Sys2Proof.Machine.execTscl f d a b s
  | .tjoin f d a b => Sys2Proof.Machine.execTjoin f d a b s
  | .tsecs f d a => Sys2Proof.Machine.execTsecs f d a s
  | .tfrac f d a => Sys2Proof.Machine.execTfrac f d a s
  | .tfrg f d a => Sys2Proof.Machine.execTfrg f d a s
  | .ttog f d a => Sys2Proof.Machine.execTtog f d a s
  | .lb f d a m => Sys2Proof.Machine.execLb f d a m s
  | .lbu f d a m => Sys2Proof.Machine.execLbu f d a m s
  | .lh f d a m => Sys2Proof.Machine.execLh f d a m s
  | .lhu f d a m => Sys2Proof.Machine.execLhu f d a m s
  | .lw f d a m => Sys2Proof.Machine.execLw f d a m s
  | .lwu f d a m => Sys2Proof.Machine.execLwu f d a m s
  | .ld f d a m => Sys2Proof.Machine.execLd f d a m s
  | .ldt f d a m => Sys2Proof.Machine.execLdt f d a m s
  | .sb f d a m => Sys2Proof.Machine.execSb f d a m s
  | .sh f d a m => Sys2Proof.Machine.execSh f d a m s
  | .sw f d a m => Sys2Proof.Machine.execSw f d a m s
  | .sd f d a m => Sys2Proof.Machine.execSd f d a m s
  | .stt f d a m => Sys2Proof.Machine.execStt f d a m s
  | .aadd f d a b => Sys2Proof.Machine.execAadd f d a b s
  | .aswp f d a b => Sys2Proof.Machine.execAswp f d a b s
  | .aset f d a b => Sys2Proof.Machine.execAset f d a b s
  | .aclr f d a b => Sys2Proof.Machine.execAclr f d a b s
  | .amin f d a b => Sys2Proof.Machine.execAmin f d a b s
  | .amax f d a b => Sys2Proof.Machine.execAmax f d a b s
  | .acas f d a b => Sys2Proof.Machine.execAcas f d a b s
  | .br f o => Sys2Proof.Machine.execBr f o s
  | .bl f o => Sys2Proof.Machine.execBl f o s
  | .beqz f c o => Sys2Proof.Machine.execBeqz f c o s
  | .bnez f c o => Sys2Proof.Machine.execBnez f c o s
  | .bltz f c o => Sys2Proof.Machine.execBltz f c o s
  | .bgez f c o => Sys2Proof.Machine.execBgez f c o s
  | .bto f o => Sys2Proof.Machine.execBto f o s
  | .bnto f o => Sys2Proof.Machine.execBnto f o s
  | .jr f a => Sys2Proof.Machine.execJr f a s
  | .jlr f d a => Sys2Proof.Machine.execJlr f d a s
  | .ati f d a => Sys2Proof.Machine.execAti f d a s
  | .atiRelease f => Sys2Proof.Machine.execAtiRelease f s
  | .wtu f d a b mode => Sys2Proof.Machine.execWtu f d a b mode s
  | .wfe f d a b mode => Sys2Proof.Machine.execWfe f d a b mode s
  | .qpush f d a mode q => Sys2Proof.Machine.execQpush f d a mode q s
  | .qpop f d a mode q => Sys2Proof.Machine.execQpop f d a mode q s
  | .waitComplete f => Sys2Proof.Machine.execWaitComplete f s
  | .stamp f d m => Sys2Proof.Machine.execStamp f d m s
  | .edge f d a b => Sys2Proof.Machine.execEdge f d a b s
  | .tarm f d a b => Sys2Proof.Machine.execTarm f d a b s
  | .sfeed f d a b => Sys2Proof.Machine.execSfeed f d a b s
  | .tslew f d a b => Sys2Proof.Machine.execTslew f d a b s
  | .tstep f d a => Sys2Proof.Machine.execTstep f d a s
  | .tstepApply => Sys2Proof.Machine.execTstepApply s
  | .slewEnd => Sys2Proof.Machine.execSlewEnd s
  | .eret f => Sys2Proof.Machine.execEret f s
  | .fence f => Sys2Proof.Machine.execFence f s
  | .halt f => Sys2Proof.Machine.execHalt f s
  | .mfc f d m => Sys2Proof.Machine.execMfc f d m s
  | .mtc f a m => Sys2Proof.Machine.execMtc f a m s
  | .trap f m => Sys2Proof.Machine.execTrap f m s
  | .interruptEntry f => Sys2Proof.Machine.execInterruptEntry f s
  | .perfCounterOverflow f k => Sys2Proof.Machine.execPerfCounterOverflow f k s
  | .sharedCounterOverflow k => Sys2Proof.Machine.execSharedCounterOverflow k s
  | .frdHalt r f => Sys2Proof.Machine.execFrdHalt r f s
  | .frdRestart r f => Sys2Proof.Machine.execFrdRestart r f s
  | .frdStage r f => Sys2Proof.Machine.execFrdStage r f s
  | .stageComplete => Sys2Proof.Machine.execStageComplete s
  | .frdSwap r f => Sys2Proof.Machine.execFrdSwap r f s
  | .swapComplete => Sys2Proof.Machine.execSwapComplete s
  | .frdUnstage r f => Sys2Proof.Machine.execFrdUnstage r f s
  | .oscFreqDetect c hz => Sys2Proof.Machine.execOscFreqDetect c hz s
  | .chainLock c ofs hit => Sys2Proof.Machine.execChainLock c ofs hit s
  | .chainLost c lockMon hit => Sys2Proof.Machine.execChainLost c lockMon hit s
  | .crossMonitorTrip dep => Sys2Proof.Machine.execCrossMonitorTrip dep s
  | .xdisputeClear => Sys2Proof.Machine.execXdisputeClear s
  | .synOscConfigWrite r c v hit => Sys2Proof.Machine.execSynOscConfigWrite r c v hit s
  | .synSwitch r hit => Sys2Proof.Machine.execSynSwitch r hit s
  | .timebaseRevert hit => Sys2Proof.Machine.execTimebaseRevert hit s
  | .synAgeingCommit r c => Sys2Proof.Machine.execSynAgeingCommit r c s
  | .tuneCodeStep => Sys2Proof.Machine.execTuneCodeStep s
  | .outEnableWrite r n v => Sys2Proof.Machine.execOutEnableWrite r n v s
  | .outFreqChange r n p => Sys2Proof.Machine.execOutFreqChange r n p s
  | .glideTargetReached n => Sys2Proof.Machine.execGlideTargetReached n s
  | .outMdllSearchDone n => Sys2Proof.Machine.execOutMdllSearchDone n s
  | .outSyncBoundary n => Sys2Proof.Machine.execOutSyncBoundary n s
  | .syncEdge port => Sys2Proof.Machine.execSyncEdge port s
  | .bellPulse n => Sys2Proof.Machine.execBellPulse n s
  | .bellConfigWrite q n r v => Sys2Proof.Machine.execBellConfigWrite q n r v s
  | .bellAlignInputEdge n => Sys2Proof.Machine.execBellAlignInputEdge n s
  | .tioCfgWrite r n v => Sys2Proof.Machine.execTioCfgWrite r n v s
  | .edgeTake n => Sys2Proof.Machine.execEdgeTake n s
  | .edgePlace n => Sys2Proof.Machine.execEdgePlace n s
  | .todOutStart n => Sys2Proof.Machine.execTodOutStart n s
  | .todInCharacter n byte ferr stamp => Sys2Proof.Machine.execTodInCharacter n byte ferr stamp s
  | .loopbackCalBurst n => Sys2Proof.Machine.execLoopbackCalBurst n s
  | .loopbackCalComplete n => Sys2Proof.Machine.execLoopbackCalComplete n s
  | .tdcArm r n => Sys2Proof.Machine.execTdcArm r n s
  | .tdcDisarm r n => Sys2Proof.Machine.execTdcDisarm r n s
  | .tdcScheduledArm n => Sys2Proof.Machine.execTdcScheduledArm n s
  | .tdcConfigWrite q n r v => Sys2Proof.Machine.execTdcConfigWrite q n r v s
  | .tdcEdgeCapture n src falling cyc code => Sys2Proof.Machine.execTdcEdgeCapture n src falling cyc code s
  | .tdcLimitExpire n => Sys2Proof.Machine.execTdcLimitExpire n s
  | .tdcRearm n => Sys2Proof.Machine.execTdcRearm n s
  | .tdcClaimChange n => Sys2Proof.Machine.execTdcClaimChange n s
  | .tdcStartupCalDone temp hits => Sys2Proof.Machine.execTdcStartupCalDone temp hits s
  | .tdcBgTableReady n temp hits => Sys2Proof.Machine.execTdcBgTableReady n temp hits s
  | .mossRoundWake n => Sys2Proof.Machine.execMossRoundWake n s
  | .mossRoundEnd n => Sys2Proof.Machine.execMossRoundEnd n s
  | .mossGRound p data freq => Sys2Proof.Machine.execMossGRound p data freq s
  | .mossGRoundEnd p => Sys2Proof.Machine.execMossGRoundEnd p s
  | .mossGRelease r p => Sys2Proof.Machine.execMossGRelease r p s
  | .rclSlotConfigWrite r n v => Sys2Proof.Machine.execRclSlotConfigWrite r n v s
  | .rclMeasurement n => Sys2Proof.Machine.execRclMeasurement n s
  | .rclQualTimerExpire n => Sys2Proof.Machine.execRclQualTimerExpire n s
  | .rclMiss n => Sys2Proof.Machine.execRclMiss n s
  | .rclCommit => Sys2Proof.Machine.execRclCommit s
  | .rclSlewStart => Sys2Proof.Machine.execRclSlewStart s
  | .rclWtrExpire n => Sys2Proof.Machine.execRclWtrExpire n s
  | .rclSettleComplete n => Sys2Proof.Machine.execRclSettleComplete n s
  | .rclForce r n => Sys2Proof.Machine.execRclForce r n s
  | .rclUnforce r n => Sys2Proof.Machine.execRclUnforce r n s
  | .rclReadmit r n => Sys2Proof.Machine.execRclReadmit r n s
  | .rclSkipWtr r n => Sys2Proof.Machine.execRclSkipWtr r n s
  | .rclReeval r n => Sys2Proof.Machine.execRclReeval r n s
  | .servoFeedTake q => Sys2Proof.Machine.execServoFeedTake q s
  | .spineSecond => Sys2Proof.Machine.execSpineSecond s
  | .servoAccept r => Sys2Proof.Machine.execServoAccept r s
  | .servoDismiss r => Sys2Proof.Machine.execServoDismiss r s
  | .servoReset r => Sys2Proof.Machine.execServoReset r s
  | .servoRestore => Sys2Proof.Machine.execServoRestore s
  | .gnssPortStart p => Sys2Proof.Machine.execGnssPortStart p s
  | .gnssPortStop p => Sys2Proof.Machine.execGnssPortStop p s
  | .gnssPortConfigWrite r p v => Sys2Proof.Machine.execGnssPortConfigWrite r p v s
  | .gnssEpoch p ofs d1 d5 => Sys2Proof.Machine.execGnssEpoch p ofs d1 d5 s
  | .gnssDumpReady p => Sys2Proof.Machine.execGnssDumpReady p s
  | .gnssChannelStart r c dt => Sys2Proof.Machine.execGnssChannelStart r c dt s
  | .gnssChannelStop r c => Sys2Proof.Machine.execGnssChannelStop r c s
  | .gnssChannelCommit r c => Sys2Proof.Machine.execGnssChannelCommit r c s
  | .gnssPendingStart c => Sys2Proof.Machine.execGnssPendingStart c s
  | .gnssDumpBoundary c data => Sys2Proof.Machine.execGnssDumpBoundary c data s
  | .gnssDumpRingWrite p => Sys2Proof.Machine.execGnssDumpRingWrite p s
  | .gnssXlatchArm r => Sys2Proof.Machine.execGnssXlatchArm r s
  | .gnssXlatchCapture p => Sys2Proof.Machine.execGnssXlatchCapture p s
  | .gnssSolBoundWrite r a v => Sys2Proof.Machine.execGnssSolBoundWrite r a v s
  | .gnssSolBoundExpire a => Sys2Proof.Machine.execGnssSolBoundExpire a s
  | .gnssAcqSubmit r slot => Sys2Proof.Machine.execGnssAcqSubmit r slot s
  | .gnssAcqRequestStart => Sys2Proof.Machine.execGnssAcqRequestStart s
  | .gnssAcqRequestComplete => Sys2Proof.Machine.execGnssAcqRequestComplete s
  | .gnssSnapGo r => Sys2Proof.Machine.execGnssSnapGo r s
  | .gnssSnapAbort r => Sys2Proof.Machine.execGnssSnapAbort r s
  | .gnssSnapCaptureStart p => Sys2Proof.Machine.execGnssSnapCaptureStart p s
  | .gnssSnapComplete => Sys2Proof.Machine.execGnssSnapComplete s
  | .macModeWrite r n v => Sys2Proof.Machine.execMacModeWrite r n v s
  | .linkUp n rxLat txLat => Sys2Proof.Machine.execLinkUp n rxLat txLat s
  | .linkDown n => Sys2Proof.Machine.execLinkDown n s
  | .frameReceive n x => Sys2Proof.Machine.execFrameReceive n x s
  | .macCntSnap r n on => Sys2Proof.Machine.execMacCntSnap r n on s
  | .timedRequest n => Sys2Proof.Machine.execTimedRequest n s
  | .launchReadyLine n => Sys2Proof.Machine.execLaunchReadyLine n s
  | .frameLaunch n => Sys2Proof.Machine.execFrameLaunch n s
  | .txDescriptorSubmit n => Sys2Proof.Machine.execTxDescriptorSubmit n s
  | .preemptStateChange n st => Sys2Proof.Machine.execPreemptStateChange n st s
  | .esmcTimeout n => Sys2Proof.Machine.execEsmcTimeout n s
  | .esmcInfoTx n => Sys2Proof.Machine.execEsmcInfoTx n s
  | .macSelfCal r n => Sys2Proof.Machine.execMacSelfCal r n s
  | .macSelfCalComplete n res => Sys2Proof.Machine.execMacSelfCalComplete n res s
  | .tsvPacketTake n => Sys2Proof.Machine.execTsvPacketTake n s
  | .ntpRequest => Sys2Proof.Machine.execNtpRequest s
  | .ntsRequest => Sys2Proof.Machine.execNtsRequest s
  | .ptpDelayReq => Sys2Proof.Machine.execPtpDelayReq s
  | .ptpPdelayReq => Sys2Proof.Machine.execPtpPdelayReq s
  | .ptpPdelayResp => Sys2Proof.Machine.execPtpPdelayResp s
  | .ptpUnicastSignaling => Sys2Proof.Machine.execPtpUnicastSignaling s
  | .ptpForeignMessage => Sys2Proof.Machine.execPtpForeignMessage s
  | .ptpForwardMessage => Sys2Proof.Machine.execPtpForwardMessage s
  | .upstreamMessage => Sys2Proof.Machine.execUpstreamMessage s
  | .ptpMulticastTx n => Sys2Proof.Machine.execPtpMulticastTx n s
  | .ptpPdelayReqTx n => Sys2Proof.Machine.execPtpPdelayReqTx n s
  | .ptpUnicastSyncTx m => Sys2Proof.Machine.execPtpUnicastSyncTx m s
  | .unicastGrantExpire m => Sys2Proof.Machine.execUnicastGrantExpire m s
  | .upstreamSessionEnable r u v => Sys2Proof.Machine.execUpstreamSessionEnable r u v s
  | .upstreamDelayReqTx u => Sys2Proof.Machine.execUpstreamDelayReqTx u s
  | .upstreamGrantRenew u => Sys2Proof.Machine.execUpstreamGrantRenew u s
  | .upstreamAnnounceTimeout u => Sys2Proof.Machine.execUpstreamAnnounceTimeout u s
  | .upstreamSettleComplete u => Sys2Proof.Machine.execUpstreamSettleComplete u s
  | .upstreamResume r u => Sys2Proof.Machine.execUpstreamResume r u s
  | .sealedMessageSubmit => Sys2Proof.Machine.execSealedMessageSubmit s
  | .cookieRotation => Sys2Proof.Machine.execCookieRotation s
  | .keSign => Sys2Proof.Machine.execKeSign s
  | .keMint => Sys2Proof.Machine.execKeMint s
  | .tsvCntSnap r on => Sys2Proof.Machine.execTsvCntSnap r on s
  | .trngReseed => Sys2Proof.Machine.execTrngReseed s
  | .trngHealthFail test => Sys2Proof.Machine.execTrngHealthFail test s
  | .keyUnseal r => Sys2Proof.Machine.execKeyUnseal r s
  | .keyUpdateImport r => Sys2Proof.Machine.execKeyUpdateImport r s
  | .keyUpdateGenerate r => Sys2Proof.Machine.execKeyUpdateGenerate r s
  | .keyUpdateDerive r => Sys2Proof.Machine.execKeyUpdateDerive r s
  | .keyUpdateErase r => Sys2Proof.Machine.execKeyUpdateErase r s
  | .keyUpdateOwner r => Sys2Proof.Machine.execKeyUpdateOwner r s
  | .keyUpdateReseal r => Sys2Proof.Machine.execKeyUpdateReseal r s
  | .keyUpdatePair r => Sys2Proof.Machine.execKeyUpdatePair r s
  | .keyCommitComplete ok => Sys2Proof.Machine.execKeyCommitComplete ok s
  | .keyAuthorise r f => Sys2Proof.Machine.execKeyAuthorise r f s
  | .keyAuthoriseExpire f => Sys2Proof.Machine.execKeyAuthoriseExpire f s
  | .keyPrepare r => Sys2Proof.Machine.execKeyPrepare r s
  | .keyAttest r k => Sys2Proof.Machine.execKeyAttest r k s
  | .keyQuote r => Sys2Proof.Machine.execKeyQuote r s
  | .keyCsr r => Sys2Proof.Machine.execKeyCsr r s
  | .keyTransport r => Sys2Proof.Machine.execKeyTransport r s
  | .keyPin r => Sys2Proof.Machine.execKeyPin r s
  | .keyUseSeal => Sys2Proof.Machine.execKeyUseSeal s
  | .keyUseOpen => Sys2Proof.Machine.execKeyUseOpen s
  | .keyUseWrap => Sys2Proof.Machine.execKeyUseWrap s
  | .keyUseMac => Sys2Proof.Machine.execKeyUseMac s
  | .keyUseVerify => Sys2Proof.Machine.execKeyUseVerify s
  | .keyUseSign => Sys2Proof.Machine.execKeyUseSign s
  | .keyUsePubkey => Sys2Proof.Machine.execKeyUsePubkey s
  | .keyRemask => Sys2Proof.Machine.execKeyRemask s
  | .twinConfigWrite r v => Sys2Proof.Machine.execTwinConfigWrite r v s
  | .twinLinkUp p => Sys2Proof.Machine.execTwinLinkUp p s
  | .twinClaim => Sys2Proof.Machine.execTwinClaim s
  | .twinHeartbeatSend => Sys2Proof.Machine.execTwinHeartbeatSend s
  | .twinHeartbeatReceive h => Sys2Proof.Machine.execTwinHeartbeatReceive h s
  | .twinPartnerLost => Sys2Proof.Machine.execTwinPartnerLost s
  | .twinFaultReceive => Sys2Proof.Machine.execTwinFaultReceive s
  | .twinYieldRequestReceive => Sys2Proof.Machine.execTwinYieldRequestReceive s
  | .twinYieldReceive => Sys2Proof.Machine.execTwinYieldReceive s
  | .twinKick r => Sys2Proof.Machine.execTwinKick r s
  | .twinKickLapse => Sys2Proof.Machine.execTwinKickLapse s
  | .satchelApply l => Sys2Proof.Machine.execSatchelApply l s
  | .twinCompareSecond => Sys2Proof.Machine.execTwinCompareSecond s
  | .twinYieldTimeout => Sys2Proof.Machine.execTwinYieldTimeout s
  | .twinSwap b cmpOk => Sys2Proof.Machine.execTwinSwap b cmpOk s
  | .twinSwapAbort b => Sys2Proof.Machine.execTwinSwapAbort b s
  | .twinResync b => Sys2Proof.Machine.execTwinResync b s
  | .twinSwapHandover cmpOk => Sys2Proof.Machine.execTwinSwapHandover cmpOk s
  | .twinSwapBack => Sys2Proof.Machine.execTwinSwapBack s
  | .twinRevertWtrExpire => Sys2Proof.Machine.execTwinRevertWtrExpire s
  | .aliasWrite r clear x vs => Sys2Proof.Machine.execAliasWrite r clear x vs s
  | .doorbellSet r c f2h => Sys2Proof.Machine.execDoorbellSet r c f2h s
  | .doorbellClear r c f2h => Sys2Proof.Machine.execDoorbellClear r c f2h s
  | .memTestRegion fails => Sys2Proof.Machine.execMemTestRegion fails s
  | .pwrOn r d past => Sys2Proof.Machine.execPwrOn r d past s
  | .pwrIdle r d => Sys2Proof.Machine.execPwrIdle r d s
  | .pwrMoss r d => Sys2Proof.Machine.execPwrMoss r d s
  | .pwrRetain r d => Sys2Proof.Machine.execPwrRetain r d s
  | .pwrOff r d => Sys2Proof.Machine.execPwrOff r d s
  | .pwrTransitionComplete flips => Sys2Proof.Machine.execPwrTransitionComplete flips s
  | .periodicCheckpoint bad => Sys2Proof.Machine.execPeriodicCheckpoint bad s
  | .checkpointWriteComplete => Sys2Proof.Machine.execCheckpointWriteComplete s
  | .pfailWarning step3 => Sys2Proof.Machine.execPfailWarning step3 s
  | .finalCheckpointComplete => Sys2Proof.Machine.execFinalCheckpointComplete s
  | .pfailRelease => Sys2Proof.Machine.execPfailRelease s
  | .resetNAssert step3 => Sys2Proof.Machine.execResetNAssert step3 s
  | .vddAonPowerOn => Sys2Proof.Machine.execVddAonPowerOn s
  | .vddCoreLoss step3 => Sys2Proof.Machine.execVddCoreLoss step3 s
  | .vddCoreReturn => Sys2Proof.Machine.execVddCoreReturn s
  | .chipReset wrapOk ran => Sys2Proof.Machine.execChipReset wrapOk ran s
  | .restartRestore ran => Sys2Proof.Machine.execRestartRestore ran s
  | .configSlotApply errA errB => Sys2Proof.Machine.execConfigSlotApply errA errB s
  | .prefectBootLoad => Sys2Proof.Machine.execPrefectBootLoad s
  | .flashRead r => Sys2Proof.Machine.execFlashRead r s
  | .flashProgram r => Sys2Proof.Machine.execFlashProgram r s
  | .flashErase r => Sys2Proof.Machine.execFlashErase r s
  | .flashComplete ok => Sys2Proof.Machine.execFlashComplete ok s
  | .pcieFunctionReset hot => Sys2Proof.Machine.execPcieFunctionReset hot s
  | .multiwordLoRead q cfg a => Sys2Proof.Machine.execMultiwordLoRead q cfg a s
  | .multiwordLowerWrite q a v => Sys2Proof.Machine.execMultiwordLowerWrite q a v s
  | .multiwordHighWrite q a v => Sys2Proof.Machine.execMultiwordHighWrite q a v s
  | .badAccess q a n wr => Sys2Proof.Machine.execBadAccess q a n wr s
  | .mgmtSpiRead early a k cut => Sys2Proof.Machine.execMgmtSpiRead early a k cut s
  | .mgmtSpiWrite early a vs cut => Sys2Proof.Machine.execMgmtSpiWrite early a vs cut s
  | .jtagBypass tdi => Sys2Proof.Machine.execJtagBypass tdi s
  | .jtagIdcode => Sys2Proof.Machine.execJtagIdcode s
  | .jtagSamplePreload pins tdi => Sys2Proof.Machine.execJtagSamplePreload pins tdi s
  | .jtagExtest pins tdi => Sys2Proof.Machine.execJtagExtest pins tdi s
  | .jtagClamp tdi => Sys2Proof.Machine.execJtagClamp tdi s
  | .jtagHighz tdi => Sys2Proof.Machine.execJtagHighz tdi s
  | .jtagDebugUnlock sig => Sys2Proof.Machine.execJtagDebugUnlock sig s
  | .registerWrite q cfg a v => Sys2Proof.Machine.execRegisterWrite q cfg a v s
  | .twnActiveNChange low => Sys2Proof.Machine.execTwnActiveNChange low s
  | .twinLinkDown => Sys2Proof.Machine.execTwinLinkDown s
  | .tioVddoChange g level => Sys2Proof.Machine.execTioVddoChange g level s
  | .vddAonLoss => Sys2Proof.Machine.execVddAonLoss s
  | .perstNAssert => Sys2Proof.Machine.execPerstNAssert s
  | .keySlotWriteComplete ok => Sys2Proof.Machine.execKeySlotWriteComplete ok s

end Sys2Proof.Machine
end

