-- ==== Sys2Proof/Machine/Cycle.lean ====
section
/-!
DEFINITION. What the block does while no command waits: every Frond in RUN takes an interrupt, ends its wait or executes the instruction
that its program counter points to, once, in index order (DESIGN CHOICE, log 5).
-/

namespace Sys2Proof.Machine
open Sys2Proof Reg

/-- The 32-bit word in own instruction memory at the program counter (R95, R96). -/
def State.frondWord (s : State) (f : Fin 16) : BitVec 32 := BitVec.ofNat 32 (ofLeBytes (s.bytesAt (imemAt f (s.frond f).pc.toNat) 4))

/-- An interrupt is to be taken at this boundary (R124, R137). -/
def State.takesInterrupt (s : State) (f : Fin 16) : Bool :=
  let x := s.frond f
  decide (s.frdState f ≤ 1) && !x.frozen && s.pdOn (clusterDom f) && x.ie && !x.inh && x.nextLine.isSome && !s.stepOut f

/-- The Frond issues the instruction at its program counter; a word that is none raises ILLEGAL (R96). -/
def State.frondIssues (s : State) (f : Fin 16) : Result :=
  match frondDecode f (s.frondWord f) with
  | some i => exec i s
  | none => .next (s.frdIllegal f)

/-- One turn of one Frond. -/
def State.frondTurn (s : State) (f : Fin 16) : Result :=
  if s.takesInterrupt f then exec (.interruptEntry f) s
  else
    match (s.frond f).wait with
    | .none => if s.canIssue f then s.frondIssues f else .next s
    | .ati _ _ => exec (.atiRelease f) s
    | w => if s.waitMet f w then exec (.waitComplete f) s else exec (.timeoutDeclare f) s

/-- A result passed on to what follows; a fault or a refusal ends it. -/
def afterNext (r : Result) (k : State → Result) : Result :=
  match r with
  | .next s => k s
  | .fault e => .fault e
  | .refused e => .refused e

/-- One turn of every Frond, in index order. -/
def State.idle (s : State) : Result := (List.finRange 16).foldl (fun r f => afterNext r (fun t => t.frondTurn f)) (.next s)

end Sys2Proof.Machine
end

