-- ==== Sys2Proof/Safety.lean ====
section
/-!
DEFINITION. The terms in which statements speak of a run: what an event may touch beside the effect that the spec gives it, and the
properties of a state that every step is to keep.
-/

namespace Sys2Proof.Machine
open Sys2Proof Reg

/-! ## Telling an event -/

/-- Keys of the registers that telling an event moves: PEND and CAUSE (R462), the overflow counts of the journal (R82), the overrun
counts of event lines (R135), and the shared counters with their overflow bits (R154). -/
def toldKey (k : Nat) : Bool :=
  (decide (0x800 * 8 ≤ k) && decide (k < 0x880 * 8)) || (decide (0x32100 * 8 ≤ k) && decide (k < (0x32100 + 8 * 44) * 8)) ||
  (decide (0xE0200 * 8 ≤ k) && decide (k < (0xE0200 + 8 * 16) * 8)) || (decide (0xD0040 * 8 ≤ k) && decide (k < 0xD0180 * 8))

/-- A Frond with the event lines and performance counters of another. -/
def Frond.withLines (x y : Frond) : Frond :=
  { x with evtPend := y.evtPend, lineStamp := y.lineStamp, lineObs := y.lineObs, pcnt := y.pcnt, povf := y.povf }

/-- `t` differs from `s` at most in what telling events does: journal streams, interrupt sources, event lines, performance counters of the
Fronds, and the counts of entries and assertions that were lost. -/
structure State.ToldFrom (s t : State) : Prop where
  shape : t = { s with regs := t.regs, jnl := t.jnl, queues := t.queues, fronds := t.fronds }
  frond : ∀ f : Fin 16, (t.frond f) = (s.frond f).withLines (t.frond f)
  reg : ∀ (g : Fld) (n : Nat), toldKey (g.key n) = false → t.rf g n = s.rf g n
  queue : ∀ i : Nat, i < 348 ∨ 392 ≤ i → t.queue i = s.queue i

/-! ## Properties that steps keep -/

/-- The register file and the queue table are in their one form. -/
def State.tabsOk (s : State) : Prop := tabWf s.regs = true ∧ tabWf s.queues = true

/-- R89: no time register of a Frond, nor its saved t7, holds a nanoseconds field of 1,000,000,000 or more. -/
def Frond.timesOk (x : Frond) : Prop := (∀ i : Fin 8, timeOk x.t[i].toNat = true) ∧ timeOk x.t7save.toNat = true
def State.timesOk (s : State) : Prop := ∀ f : Fin 16, (s.frond f).timesOk

/-- R36: the credits, the entries held and the returns on their way of a queue make up its depth. -/
def Queue.conserves (x : Queue) (depth : Nat) : Prop :=
  x.c + x.items.length + (x.q + 2 ^ 32 - x.a) % 2 ^ 32 = depth ∧ x.vis ≤ x.items.length

/-! ## Instructions of a Frond -/

/-- Frond `f` issues at its program counter, and its fetch meets no exception; `u` is the state after what the fetch counted (R94, R95). -/
def State.issues (s : State) (f : Fin 16) (u : State) : Prop := s.canIssue f = true ∧ s.stepOut f = false ∧ s.frdFetch f = (u, none)

/-- The program counter moves to the next instruction. -/
def Frond.pass (x : Frond) : Frond := { x with pc := x.pc + 4 }

/-- The command answers a next state that differs from `v` at most in what telling events does. -/
def State.runsTo (s : State) (i : Instr) (v : State) : Prop := ∃ t, exec i s = .next t ∧ v.ToldFrom t

/-- The command enters the handler of Frond `f` for an exception of the instruction at its program counter, as R125 says. -/
def State.enters (s : State) (i : Instr) (f : Fin 16) (u : State) (code fault : Nat) : Prop :=
  (u.frond f).inh = false → s.runsTo i (u.setFrond f ((u.frond f).enter code 0 0 fault (0x20 * code) (u.frond f).pc))

/-- The Frond whose instruction a command is. -/
def frondOf (i : Instr) : Option (Fin 16) := (frondEncode i).map (·.1)

/-- R98: the register that an integer instruction writes, and its value. -/
def aluSpec (x : Frond) : Instr → Option (BitVec 5 × Word)
  | .add _ d a b => some (d, BitVec.ofNat 64 ((x.rg a).toNat + (x.rg b).toNat))
  | .sub _ d a b => some (d, BitVec.ofInt 64 ((x.rg a).toNat - (x.rg b).toNat))
  | .and _ d a b => some (d, x.rg a &&& x.rg b)
  | .or _ d a b => some (d, x.rg a ||| x.rg b)
  | .xor _ d a b => some (d, x.rg a ^^^ x.rg b)
  | .nor _ d a b => some (d, ~~~(x.rg a ||| x.rg b))
  | .slt _ d a b => some (d, if (x.rg a).toInt < (x.rg b).toInt then 1 else 0)
  | .sltu _ d a b => some (d, if (x.rg a).toNat < (x.rg b).toNat then 1 else 0)
  | .sll _ d a b => some (d, BitVec.ofNat 64 ((x.rg a).toNat * 2 ^ ((x.rg b).toNat % 64)))
  | .srl _ d a b => some (d, BitVec.ofNat 64 ((x.rg a).toNat / 2 ^ ((x.rg b).toNat % 64)))
  | .sra _ d a b => some (d, BitVec.ofInt 64 ((x.rg a).toInt / 2 ^ ((x.rg b).toNat % 64)))
  | .min _ d a b => some (d, BitVec.ofInt 64 (min (x.rg a).toInt (x.rg b).toInt))
  | .max _ d a b => some (d, BitVec.ofInt 64 (max (x.rg a).toInt (x.rg b).toInt))
  | .minu _ d a b => some (d, BitVec.ofNat 64 (min (x.rg a).toNat (x.rg b).toNat))
  | .maxu _ d a b => some (d, BitVec.ofNat 64 (max (x.rg a).toNat (x.rg b).toNat))
  | .clz _ d a => some (d, BitVec.ofNat 64 ((List.range 64).takeWhile (fun i => !(x.rg a).getLsbD (63 - i))).length)
  | .popc _ d a => some (d, BitVec.ofNat 64 ((List.range 64).countP (fun i => (x.rg a).getLsbD i)))
  | .addi _ d a i => some (d, BitVec.ofInt 64 ((x.rg a).toNat + i.toInt))
  | .andi _ d a i => some (d, x.rg a &&& BitVec.ofNat 64 i.toNat)
  | .ori _ d a i => some (d, x.rg a ||| BitVec.ofNat 64 i.toNat)
  | .xori _ d a i => some (d, x.rg a ^^^ BitVec.ofNat 64 i.toNat)
  | .slti _ d a i => some (d, if (x.rg a).toInt < i.toInt then 1 else 0)
  | .sltiu _ d a i => some (d, if (x.rg a).toNat < (BitVec.ofInt 64 i.toInt).toNat then 1 else 0)
  | .lui _ d i => some (d, BitVec.ofInt 64 (i.toInt * 65536))
  | .slli _ d a n => some (d, BitVec.ofNat 64 ((x.rg a).toNat * 2 ^ n.toNat))
  | .srli _ d a n => some (d, BitVec.ofNat 64 ((x.rg a).toNat / 2 ^ n.toNat))
  | .srai _ d a n => some (d, BitVec.ofInt 64 ((x.rg a).toInt / 2 ^ n.toNat))
  | .mullo _ d a b => some (d, BitVec.ofNat 64 ((x.rg a).toNat * (x.rg b).toNat))
  | _ => none

/-- R99: the register pair of a widening multiply or a divide, and the two integers that it receives, low word first. -/
def pairSpec (x : Frond) : Instr → Option (BitVec 5 × Option (Int × Int))
  | .mulss _ d a b => let p := (x.rg a).toInt * (x.rg b).toInt; some (d, some (p, p / 2 ^ 64))
  | .muluu _ d a b => let p : Int := (x.rg a).toNat * (x.rg b).toNat; some (d, some (p, p / 2 ^ 64))
  | .mulsu _ d a b => let p := (x.rg a).toInt * (x.rg b).toNat; some (d, some (p, p / 2 ^ 64))
  | .divs _ d a b =>
    let n := (x.rg a).toInt
    let m := (x.rg b).toInt
    some (d, if m = 0 ∨ (n = -2 ^ 63 ∧ m = -1) then none else some (n.fdiv m, n.fmod m))
  | .divu _ d a b =>
    let n := (x.rg a).toNat
    let m := (x.rg b).toNat
    some (d, if m = 0 then none else some (((n / m : Nat) : Int), ((n % m : Nat) : Int)))
  | _ => none

/-- What a time instruction comes to: an exception, a general register with a value, or a time register with a count of units. -/
inductive TimeRes where
  | exc (code : Nat)
  | general (d : BitVec 5) (v : Int)
  | time (d : BitVec 5) (u : Int)
  deriving DecidableEq, Repr

/-- A result that must lie in a range of seconds (R100). -/
def inSecs (lo hi : Int) (d : BitVec 5) (u : Int) : TimeRes :=
  if lo * uSec ≤ u ∧ u < hi * uSec then .time d u else .exc 0x0A

/-- R91: a time instruction with a field that names no time register raises ILLEGAL. -/
def named (l : List (BitVec 5)) (r : TimeRes) : TimeRes := if ∀ a ∈ l, a.toNat < 8 then r else .exc 1

/-- R100 to R102: the result of a time instruction. -/
def timeSpec (x : Frond) : Instr → Option TimeRes
  | .tadd _ d a b => some (named [d, a, b] (inSecs 0 (2 ^ 48) d (x.time a + x.dur b)))
  | .tsub _ d a b => some (named [d, a, b] (inSecs (-2 ^ 47) (2 ^ 47) d (x.time a - x.time b)))
  | .taddd _ d a b => some (named [d, a, b] (inSecs (-2 ^ 47) (2 ^ 47) d (x.dur a + x.dur b)))
  | .tsubd _ d a b => some (named [d, a, b] (inSecs (-2 ^ 47) (2 ^ 47) d (x.dur a - x.dur b)))
  | .tneg _ d a => some (named [d, a] (inSecs (-2 ^ 47) (2 ^ 47) d (-x.dur a)))
  | .tcmp _ d a b => some (named [a, b] (.general d (if x.time a < x.time b then -1 else if x.time a = x.time b then 0 else 1)))
  | .tcmpd _ d a b => some (named [a, b] (.general d (if x.dur a < x.dur b then -1 else if x.dur a = x.dur b then 0 else 1)))
  | .tscl _ d a b =>
    let w := (x.rg b).toInt
    some (named [d, a] (if w < -2 ^ 47 ∨ 2 ^ 47 ≤ w then .exc 0x0A else .time d ((x.dur a * w).fdiv 65536000000000000)))
  | .tsecs _ d a => some (named [a] (.general d (timeSec (x.rt a).toNat)))
  | .tfrac _ d a => some (named [a] (.general d (timeNs (x.rt a).toNat * 65536 + timeFrac (x.rt a).toNat)))
  | .tfrg _ d a => some (named [d] (.time d (x.rg a).toInt))
  | .ttog _ d a => some (named [a] (if -2 ^ 63 ≤ x.dur a ∧ x.dur a < 2 ^ 63 then .general d (x.dur a) else .exc 0x0A))
  | _ => none

/-- The load instructions of R103: destination, base, offset, bytes, and whether the value is sign-extended. -/
def loadForm : Instr → Option (BitVec 5 × BitVec 5 × BitVec 16 × Nat × Bool)
  | .lb _ d a i => some (d, a, i, 1, true)
  | .lbu _ d a i => some (d, a, i, 1, false)
  | .lh _ d a i => some (d, a, i, 2, true)
  | .lhu _ d a i => some (d, a, i, 2, false)
  | .lw _ d a i => some (d, a, i, 4, true)
  | .lwu _ d a i => some (d, a, i, 4, false)
  | .ld _ d a i => some (d, a, i, 8, false)
  | _ => none

/-- The stores of R103: data register, base, offset, bytes. -/
def storeForm : Instr → Option (BitVec 5 × BitVec 5 × BitVec 16 × Nat)
  | .sb _ d a i => some (d, a, i, 1)
  | .sh _ d a i => some (d, a, i, 2)
  | .sw _ d a i => some (d, a, i, 4)
  | .sd _ d a i => some (d, a, i, 8)
  | _ => none

/-- R106: destination, address register and new memory value of an atomic whose old value is `m`. -/
def atomicSpec (x : Frond) (m : Word) : Instr → Option (BitVec 5 × BitVec 5 × Word)
  | .aadd _ d a b => some (d, a, BitVec.ofNat 64 (m.toNat + (x.rg b).toNat))
  | .aswp _ d a b => some (d, a, x.rg b)
  | .aset _ d a b => some (d, a, m ||| x.rg b)
  | .aclr _ d a b => some (d, a, m &&& ~~~(x.rg b))
  | .amin _ d a b => some (d, a, BitVec.ofInt 64 (min m.toInt (x.rg b).toInt))
  | .amax _ d a b => some (d, a, BitVec.ofInt 64 (max m.toInt (x.rg b).toInt))
  | .acas _ d a b => some (d, a, if m = x.rg d then x.rg b else m)
  | _ => none

/-- R107: whether a branch or jump is taken, its target, and the register that receives the return address. -/
def branchSpec (x : Frond) : Instr → Option (Bool × Word × Option (BitVec 5))
  | .br _ o => some (true, BitVec.ofInt 64 (x.pc.toNat + 4 * o.toInt), none)
  | .bl _ o => some (true, BitVec.ofInt 64 (x.pc.toNat + 4 * o.toInt), some 31)
  | .beqz _ c o => some (decide ((x.rg c).toNat = 0), BitVec.ofInt 64 (x.pc.toNat + 4 * o.toInt), none)
  | .bnez _ c o => some (decide ((x.rg c).toNat ≠ 0), BitVec.ofInt 64 (x.pc.toNat + 4 * o.toInt), none)
  | .bltz _ c o => some (decide ((x.rg c).toInt < 0), BitVec.ofInt 64 (x.pc.toNat + 4 * o.toInt), none)
  | .bgez _ c o => some (decide (0 ≤ (x.rg c).toInt), BitVec.ofInt 64 (x.pc.toNat + 4 * o.toInt), none)
  | .bto _ o => some (x.tf, BitVec.ofInt 64 (x.pc.toNat + 4 * o.toInt), none)
  | .bnto _ o => some (!x.tf, BitVec.ofInt 64 (x.pc.toNat + 4 * o.toInt), none)
  | .jr _ a => some (true, x.rg a, none)
  | .jlr _ d a => some (true, x.rg a, some d)
  | _ => none

/-- R129: how a branch or jump is predicted: a JR of g31 is a return, other jumps through a register are not in the table. -/
def branchPred : Instr → Predict
  | .jr _ a => if a = 31 then .stack else .notTaken
  | .jlr .. => .notTaken
  | _ => .table

/-- R91, R96, R110: the deadline operand of a wait names a time register in mode 0, and is 0 in modes 1 and 2. -/
def waitForm (mode : BitVec 2) (b : BitVec 5) : Prop := (mode = 0 ∧ b.toNat < 8) ∨ ((mode = 1 ∨ mode = 2) ∧ b = 0)

/-- R85: with a deadline (mode 0), an event counts that is stamped at or before it. -/
def inTime (mode : Nat) (stamp limit : Int) : Prop := mode = 0 → stamp ≤ limit

/-- No word of the memory carries an ECC mark. -/
def State.unmarked (s : State) : Prop := s.memx.ecc1 = [] ∧ s.memx.ecc2 = []

/-- An access of `n` bytes at Frond address `ea` is allowed and leads to `p`, in the Frond's own data memory or in a commons bank that is ON,
where no word carries an ECC mark (R93, R94, R417). -/
def State.reaches (s : State) (f : Fin 16) (store : Bool) (ea n p : Nat) : Prop :=
  s.unmarked ∧ (s.frond f).refused (if store then 1 else 0) ea n = false ∧
  ((0x10010000 ≤ ea ∧ ea + n ≤ 0x10020000 ∧ p = dmemOf f.val + (ea - 0x10010000) ∧ s.unserved p = false) ∨
   (0x800000 ≤ ea ∧ ea + n ≤ 0x1000000 ∧ p = ea ∧ s.bank (bankOf p) = 0))

/-- R91: the operands of an instruction that name a time register, in every mode that uses them. -/
def timeFields : Instr → List (BitVec 5)
  | .tadd _ d a b => [d, a, b]
  | .tsub _ d a b => [d, a, b]
  | .taddd _ d a b => [d, a, b]
  | .tsubd _ d a b => [d, a, b]
  | .tneg _ d a => [d, a]
  | .tmov _ d a => [d, a]
  | .tcmp _ _ a b => [a, b]
  | .tcmpd _ _ a b => [a, b]
  | .tscl _ d a _ => [d, a]
  | .tjoin _ d _ _ => [d]
  | .tsecs _ _ a => [a]
  | .tfrac _ _ a => [a]
  | .tfrg _ d _ => [d]
  | .ttog _ _ a => [a]
  | .ldt _ d _ _ => [d]
  | .stt _ d _ _ => [d]
  | .ati _ _ a => [a]
  | .wtu _ _ _ b m => if m = 0 then [b] else []
  | .wfe _ _ _ b m => if m = 0 then [b] else []
  | .qpush _ _ a m _ => if m = 0 then [a] else []
  | .qpop _ _ a m _ => if m = 0 then [a] else []
  | .stamp _ d _ => [d]
  | .edge _ _ a _ => [a]
  | .tarm _ _ _ b => [b]
  | .sfeed _ _ a _ => [a]
  | .tslew _ _ a _ => [a]
  | .tstep _ _ a => [a]
  | _ => []

/-! ## Counters and lanes -/

/-- From `s` to `t`, counter `f` of instance `n` counts one event (R15). -/
def State.counted (s t : State) (f : Fld) (n : Nat) : Prop := t.rf f n = (s.rf f n + 1) % 2 ^ f.width

/-- From `s` to `t`, lane `n` is handed one frame to launch: `b` for the owner `o` (R300, R305). -/
def State.handed (s t : State) (n : Nat) (b : Build) (o : TOwner) : Prop := (t.lane n).reqs = (s.lane n).reqs ++ [⟨b, o⟩]

/-- PD_CRYPTO runs, and the oldest work of the time pipeline, of a route that the command takes, comes off a lane of the chip that carries frames of
its own (R296, R423). -/
def State.worksOn (s : State) (w : Work) (rest : List Work) : Prop :=
  s.tsv.work = w :: rest ∧ w.lane < 32 ∧ s.pdOn 10 = true ∧ s.member w.lane = false

/-- Accesses to the `n` bytes of the commons from offset `off` are served, and no word carries an ECC mark. -/
def State.served (s : State) (off n : Nat) : Prop := s.unmarked ∧ s.allOn (commonsBase + off) n = true

/-! ## The KEY block -/

/-- The input of a KEY command: KEY_IN_LEN bytes at KEY_IN_BASE (R380). -/
def State.keyInput (s : State) : Bytes := s.bytesAt (commonsBase + s.rf KEY_IN_BASE_base * 64) (s.rf KEY_IN_LEN_bytes)

/-- KEY commands can start, and their input is served. -/
def State.keyIdle (s : State) (r : Req) : Prop :=
  reqIsHostOrF0 r = true ∧ s.rb KEY_RESULT_done = true ∧ s.served (s.rf KEY_IN_BASE_base * 64) (s.rf KEY_IN_LEN_bytes)

/-- R356: the statement of a type over a body, signed with the identity key by a nonce at the DRBG's present position. -/
def State.stmtSpec (s : State) (type : Nat) (body : Bytes) : Bytes :=
  let m := ascii "NYXSTMT" ++ [0, BitVec.ofNat 8 type] ++ zeros 7 ++ idHash ++ body ++ leBytes 12 (packTime s.now) ++ leBytes 4 (s.rf SRV_BOUND_ps)
  m ++ fitBytes 96 (Config.ecdsaSign idPriv (Config.sha384 m) (s.draw 48).2)

/-- `t` follows a KEY command of `s` that gave output `m` (R380). -/
def State.keyGave (s t : State) (m : Bytes) : Prop :=
  t.rf KEY_RESULT_result = 0 ∧ t.rb KEY_RESULT_done = true ∧ t.rf KEY_OUT_LEN_bytes = m.length ∧ t.bit32 SYS_IRQ_CAUSEw_cause 30 = true ∧
  (Memory.wf s.mem = true → s.served (s.rf KEY_OUT_BASE_base * 64) m.length →
    t.bytesAt (commonsBase + s.rf KEY_OUT_BASE_base * 64) m.length = m)

/-- R362: the output of a use descriptor that is well formed, permitted and in range. -/
def State.useSpec (s : State) (b : Bytes) : Option Bytes :=
  let k := sliceNat b 2 2 % 1024
  let len := sliceNat b 8 4
  let inp := sliceNat b 4 4
  let out := sliceNat b 12 4
  let data := fun n => s.bytesAt (commonsBase + inp) n
  match sliceNat b 0 1, s.locker k with
  | 1, some x =>
    if x.attr = 1 ∧ x.p384 = false ∧ x.key ≠ [] ∧ 1 ≤ len ∧ len ≤ 65536 ∧ inp + len ≤ 0x800000 ∧ out + len + 16 ≤ 0x800000 then
      some (fitBytes (len + 16) (Config.sivSeal (sivKey x.key) [] (data len))) else none
  | 2, some x =>
    if x.attr = 2 ∧ x.p384 = false ∧ x.key ≠ [] ∧ 16 ≤ len ∧ len ≤ 65536 ∧ inp + len ≤ 0x800000 ∧ out + len ≤ 0x800000 + 16 then
      (Config.sivOpen (sivKey x.key) [] (data len)).map (fitBytes (len - 16)) else none
  | 3, some x =>
    match s.locker (sliceNat b 16 2 % 1024) with
    | some y => if x.attr = 3 ∧ x.p384 = false ∧ x.key ≠ [] ∧ k ≠ sliceNat b 16 2 % 1024 ∧ out + 40 ≤ 0x800000 ∧ y.noexport = false then some (fitBytes 40 (Config.kwWrap x.key y.key)) else none
    | none => none
  | 4, some x =>
    if x.attr = 5 ∧ x.p384 = false ∧ x.key ≠ [] ∧ sliceNat b 1 1 ≤ 1 ∧ 1 ≤ len ∧ len ≤ 65536 ∧ inp + len ≤ 0x800000 ∧ out + 16 ≤ 0x800000 then
      some (authCode (sliceNat b 1 1) x.key (data len)) else none
  | 5, some x =>
    if x.attr = 5 ∧ x.p384 = false ∧ x.key ≠ [] ∧ sliceNat b 1 1 ≤ 1 ∧ 1 ≤ len ∧ len ≤ 65536 ∧ inp + len + 16 ≤ 0x800000 ∧
      authCode (sliceNat b 1 1) x.key (data len) = s.bytesAt (commonsBase + inp + len) 16 then some [] else none
  | 6, some x =>
    if x.attr = 5 ∧ x.p384 = true ∧ x.key ≠ [] ∧ len = 48 ∧ inp + 48 ≤ 0x800000 ∧ out + 96 ≤ 0x800000 then
      some (fitBytes 96 (Config.ecdsaSign x.key (data 48) (s.draw 48).2)) else none
  | 7, some x => if x.p384 = true ∧ out + 97 ≤ 0x800000 then some (fitBytes 97 (Config.p384Pub x.key)) else none
  | _, _ => none

/-- The use operation that a command executes (R362). -/
def useOp : Instr → Option Nat
  | .keyUseSeal => some 1
  | .keyUseOpen => some 2
  | .keyUseWrap => some 3
  | .keyUseMac => some 4
  | .keyUseVerify => some 5
  | .keyUseSign => some 6
  | .keyUsePubkey => some 7
  | _ => none

/-- The kind of update message that a command applies (R365). -/
def updKind : Instr → Option (Req × Nat)
  | .keyUpdateImport r => some (r, 1)
  | .keyUpdateGenerate r => some (r, 2)
  | .keyUpdateDerive r => some (r, 3)
  | .keyUpdateErase r => some (r, 4)
  | .keyUpdateOwner r => some (r, 5)
  | .keyUpdateReseal r => some (r, 6)
  | .keyUpdatePair r => some (r, 7)
  | _ => none

/-! ## Power and boot -/

/-- The requester, domain and target state of a power command (R424). -/
def pwrTarget : Instr → Option (Req × Nat × Nat)
  | .pwrOn r d _ => some (r, d.val, 0)
  | .pwrIdle r d => some (r, d.val, 1)
  | .pwrMoss r d => some (r, d.val, 2)
  | .pwrRetain r d => some (r, d.val, 3)
  | .pwrOff r d => some (r, d.val, 4)
  | _ => none

/-- Rows that act while no block has its supply: the supplies and resets themselves (R430 to R432, R443, R444), the test port, which VDD_CORE alone
supplies (R486), and the line that the partner drives (R384). -/
def unpowered : Instr → Bool
  | .pfailWarning _ | .finalCheckpointComplete | .pfailRelease | .resetNAssert _ | .vddAonPowerOn | .vddAonLoss | .vddCoreLoss _ | .vddCoreReturn
  | .chipReset _ _ | .jtagBypass _ | .jtagIdcode | .jtagSamplePreload _ _ | .jtagExtest _ _ | .jtagClamp _ | .jtagHighz _ | .jtagDebugUnlock _
  | .twnActiveNChange _ => true
  | _ => false

/-- The requester and operation of a flash command (R439). -/
def flashOp : Instr → Option (Req × Nat)
  | .flashRead r => some (r, 1)
  | .flashProgram r => some (r, 2)
  | .flashErase r => some (r, 3)
  | _ => none

/-- The requester, operation and target of an image command (R143). -/
def frdOp : Instr → Option (Req × Nat × Fin 16)
  | .frdHalt r f => some (r, 1, f)
  | .frdRestart r f => some (r, 2, f)
  | .frdStage r f => some (r, 3, f)
  | .frdSwap r f => some (r, 4, f)
  | .frdUnstage r f => some (r, 5, f)
  | _ => none

/-- `t` follows an image command that ended with result `res` (R143). -/
def State.frdGave (t : State) (res : Nat) : Prop :=
  t.rf FRD_RESULT_result = res ∧ t.rb FRD_RESULT_done = true ∧ t.bit32 SYS_IRQ_CAUSEw_cause 37 = true

end Sys2Proof.Machine
end

