-- ==== Sys2Proof/Certificates/Slice0/Obligations.lean ====
section
/-!
DEFINITION. The statements. Each says in its docstring which rules of spec/ it formalises; a clause that rests on the model's own choice
names its log entry.
-/

open Sys2Proof Sys2Proof.Machine Sys2Proof.Machine.Reg

/-! ## The queue and the words of a Frond -/

/-- The form of a block: a step takes the command at the front of the queue and answers what `exec` answers on the queue's rest; with no command
and no Frond that runs, it idles (log 5). -/
def Obligations.StepRunsTheFrontCommand : Prop :=
  (∀ (c : Instr) (s : State) (rest : List Instr), step { s with pending := c :: rest } = exec c { s with pending := rest }) ∧
  (∀ s : State, s.pending = [] → (∀ f : Fin 16, 2 ≤ s.frdState f) → step s = .next s)

/-- No step ends in a fault or a refusal, whatever the command and the state, and every step keeps the memory in its one form: addresses that
rise, and no cell that holds what an unlisted address reads as (logs 6 and 13). -/
def Obligations.EveryStepGoesOnAndKeepsTheMemoryForm : Prop :=
  ∀ s : State, Memory.wf s.mem = true → ∃ t, step s = .next t ∧ Memory.wf t.mem = true

/-- R96, R97: every instruction of a Frond is decoded from the word that encodes it, at every value of its operands; and a word decodes to at most
one instruction, which encodes to this very word, so that no bit of a word is ignored. -/
def Obligations.InstructionsAndWordsAgree : Prop :=
  (∀ (i : Instr) (f : Fin 16) (w : BitVec 32), frondEncode i = some (f, w) → frondDecode f w = some i) ∧
  (∀ (f : Fin 16) (w : BitVec 32) (i : Instr), frondDecode f w = some i → frondEncode i = some (f, w) ∧ i.wf = true)

/-! ## Integer and time instructions -/

/-- R98, R99: an integer instruction writes its value to g[d], moves to the next instruction and changes nothing else. A widening multiply or a
divide writes both halves of its result to an even nonzero pair; any other d raises ILLEGAL, and a divide without a result raises ARITH and
writes neither register. -/
def Obligations.IntegerInstructionsWriteTheirResult : Prop :=
  (∀ (i : Instr) (s u : State) (f : Fin 16) (d : BitVec 5) (v : Word), frondOf i = some f → s.issues f u →
    aluSpec (u.frond f) i = some (d, v) → s.runsTo i (u.setFrond f ((u.frond f).wg d v).pass)) ∧
  (∀ (i : Instr) (s u : State) (f : Fin 16) (d : BitVec 5) (r : Option (Int × Int)), frondOf i = some f → s.issues f u →
    pairSpec (u.frond f) i = some (d, r) →
    (d.toNat % 2 = 1 ∨ d.toNat = 0 → s.enters i f u 0x01 0) ∧
    (d.toNat % 2 = 0 → d.toNat ≠ 0 → ∀ p, r = some p →
      s.runsTo i (u.setFrond f ((((u.frond f).wg d (BitVec.ofInt 64 p.1)).wg (d + 1) (BitVec.ofInt 64 p.2)).pass))) ∧
    (d.toNat % 2 = 0 → d.toNat ≠ 0 → r = none → s.enters i f u 0x0D 0))

/-- R90, R91, R100 to R102: a time instruction writes the general or time register with its result, or raises ILLEGAL or TIME_RANGE with the
registers as they were. TJOIN raises TIME_FORMAT for a g[b] of 65,536,000,000,000 or more, and TIME_RANGE if bits [63:48] of g[a] are not all
equal to bit 47; else it joins the seconds of g[a] with g[b]. TMOV copies bit for bit. -/
def Obligations.TimeInstructionsWriteTheirResult : Prop :=
  (∀ (i : Instr) (s u : State) (f : Fin 16) (r : TimeRes), frondOf i = some f → s.issues f u → timeSpec (u.frond f) i = some r →
    (∀ code, r = .exc code → s.enters i f u code 0) ∧
    (∀ d v, r = .general d v → s.runsTo i (u.setFrond f ((u.frond f).wg d (BitVec.ofInt 64 v)).pass)) ∧
    (∀ d n, r = .time d n → s.runsTo i (u.setFrond f ((u.frond f).wt d (BitVec.ofNat 96 (packTime n))).pass))) ∧
  (∀ (s u : State) (f : Fin 16) (d a b : BitVec 5), s.issues f u → d.toNat < 8 → 65536000000000 ≤ ((u.frond f).rg b).toNat →
    s.enters (.tjoin f d a b) f u 0x09 0) ∧
  (∀ (s u : State) (f : Fin 16) (d a b : BitVec 5), s.issues f u → d.toNat < 8 → ((u.frond f).rg b).toNat < 65536000000000 →
    ¬ (-2 ^ 47 ≤ ((u.frond f).rg a).toInt ∧ ((u.frond f).rg a).toInt < 2 ^ 47) → s.enters (.tjoin f d a b) f u 0x0A 0) ∧
  (∀ (s u : State) (f : Fin 16) (d a b : BitVec 5), s.issues f u → d.toNat < 8 → ((u.frond f).rg b).toNat < 65536000000000 →
    -2 ^ 47 ≤ ((u.frond f).rg a).toInt → ((u.frond f).rg a).toInt < 2 ^ 47 →
    s.runsTo (.tjoin f d a b) (u.setFrond f ((u.frond f).wt d (BitVec.ofNat 96
      (((u.frond f).rg a).toNat % 2 ^ 48 * 2 ^ 48 + ((u.frond f).rg b).toNat / 65536 * 2 ^ 16 + ((u.frond f).rg b).toNat % 65536))).pass)) ∧
  (∀ (s u : State) (f : Fin 16) (d a b : BitVec 5), s.issues f u → 8 ≤ d.toNat → s.enters (.tjoin f d a b) f u 0x01 0) ∧
  (∀ (s u : State) (f : Fin 16) (d a : BitVec 5), s.issues f u → d.toNat < 8 → a.toNat < 8 →
    s.runsTo (.tmov f d a) (u.setFrond f ((u.frond f).wt d ((u.frond f).rt a)).pass)) ∧
  (∀ (s u : State) (f : Fin 16) (d a : BitVec 5), s.issues f u → 8 ≤ d.toNat ∨ 8 ≤ a.toNat → s.enters (.tmov f d a) f u 0x01 0)

/-- R91: bits [4:3] of a field that names a time register must be 0; if they are not, the instruction raises ILLEGAL (for every instruction of R100,
R104, R108, R110 and R115 to R121 that has such a field). -/
def Obligations.TimeRegisterFieldsOfEightOrMoreAreIllegal : Prop :=
  ∀ (i : Instr) (s u : State) (f : Fin 16), frondOf i = some f → s.issues f u → (∃ a ∈ timeFields i, a.toNat / 8 ≠ 0) → s.enters i f u 0x01 0

/-- R89: the integer and time instructions, LDT, TJOIN, STAMP and MTC leave no nanoseconds field of 1,000,000,000 or more in a time register or in
the saved t7, and neither does an interrupt, when there was none before. -/
def Obligations.TimeRegistersStayNormal : Prop :=
  ∀ (i : Instr) (f : Fin 16) (s t : State),
    (∃ d a b, i ∈ [Instr.tadd f d a b, .tsub f d a b, .taddd f d a b, .tsubd f d a b, .tneg f d a, .tmov f d a, .tcmp f d a b,
      .tcmpd f d a b, .tscl f d a b, .tjoin f d a b, .tsecs f d a, .tfrac f d a, .tfrg f d a, .ttog f d a, .add f d a b, .sub f d a b,
      .mulss f d a b, .divs f d a b, .divu f d a b, .interruptEntry f, .eret f]) ∨ (∃ d n, i = .stamp f d n) ∨ (∃ a n, i = .mtc f a n) →
    s.timesOk → step { s with pending := [i] } = .next t → t.timesOk

/-! ## Loads, stores, atomics, branches -/

/-- R93, R103, R104: a load that its regions allow, aligned, from own data memory or a commons bank that is ON, writes g[d] with the little-endian
value there, sign-extended or zero-extended; LDT writes t[d] with the 12 bytes of a time, or raises TIME_FORMAT. A 32-bit load of a register
word gives what the register reads as. -/
def Obligations.LoadsReturnWhatMemoryHolds : Prop :=
  (∀ (i : Instr) (s u : State) (f : Fin 16) (d a : BitVec 5) (o : BitVec 16) (n p ea : Nat) (sx : Bool), frondOf i = some f →
    s.issues f u → loadForm i = some (d, a, o, n, sx) → ea = ((u.frond f).rg a + o.signExtend 64).toNat → u.reaches f false ea n p →
    ea % n = 0 → s.runsTo i (u.setFrond f ((u.frond f).wg d
      (if sx then BitVec.ofInt 64 (toSigned (8 * n) (ofLeBytes (u.bytesAt p n))) else BitVec.ofNat 64 (ofLeBytes (u.bytesAt p n)))).pass)) ∧
  (∀ (s u : State) (f : Fin 16) (d a : BitVec 5) (o : BitVec 16) (p ea : Nat), s.issues f u → d.toNat < 8 →
    ea = ((u.frond f).rg a + o.signExtend 64).toNat → u.reaches f false ea 12 p → ea % 16 = 0 →
    (timeOk (ofLeBytes (u.bytesAt p 12)) = true → s.runsTo (.ldt f d a o)
      (u.setFrond f ((u.frond f).wt d (BitVec.ofNat 96 (ofLeBytes (u.bytesAt p 12)))).pass)) ∧
    (timeOk (ofLeBytes (u.bytesAt p 12)) = false → (u.frond f).inh = false →
      ∃ t, exec (.ldt f d a o) s = .next t ∧ (t.frond f).code = 0x09 ∧ (t.frond f).retpc = (u.frond f).pc ∧ (t.frond f).inh = true ∧
        (t.frond f).t = (u.frond f).t ∧ (t.frond f).g = (u.frond f).g ∧ t.mem = u.mem)) ∧
  (∀ (i : Instr) (s u : State) (f : Fin 16) (d a : BitVec 5) (o : BitVec 16) (sx : Bool) (ea : Nat), frondOf i = some f →
    s.issues f u → loadForm i = some (d, a, o, 4, sx) → ea = ((u.frond f).rg a + o.signExtend 64).toNat → (u.frond f).refused 0 ea 4 = false →
    ea < 0x1000000 → ea % 4 = 0 → targetOf ea 4 = .reg → ∃ r, r = u.readReg (.frond f) ea ∧
      s.runsTo i ((r.1.setG f d (if sx then BitVec.ofInt 64 (toSigned 32 r.2) else BitVec.ofNat 64 r.2)).setPc f ((u.frond f).pc + 4)))

/-- R94, R103, R123: supervisor mode ignores regions; in task mode the lowest-numbered enabled region that contains every byte of the access decides,
and without one the access is refused. A refused load raises LOAD_PROT, a refused store STORE_PROT, each with its address; a misaligned one that
is allowed raises ALIGN; registers and memory stay as they were. -/
def Obligations.AccessesAreCheckedFirst : Prop :=
  (∀ (x : Frond) (bit a n : Nat), x.mode = true → x.refused bit a n = false) ∧
  (∀ (x : Frond) (bit a n : Nat) (k : Fin 8), x.mode = false →
    (∀ j : Fin 8, j ≤ k → (j = k ↔ (x.prgBase[j].getLsbD 3 = true ∧ 256 * (x.prgBase[j].toNat / 256) ≤ a ∧
      a + n ≤ 256 * (x.prgLimit[j].toNat / 256 + 1)))) →
    x.refused bit a n = !x.prgBase[k].getLsbD bit) ∧
  (∀ (x : Frond) (bit a n : Nat), x.mode = false →
    (∀ j : Fin 8, ¬ (x.prgBase[j].getLsbD 3 = true ∧ 256 * (x.prgBase[j].toNat / 256) ≤ a ∧
      a + n ≤ 256 * (x.prgLimit[j].toNat / 256 + 1))) → x.refused bit a n = true) ∧
  (∀ (i : Instr) (s u : State) (f : Fin 16) (d a : BitVec 5) (o : BitVec 16) (n ea : Nat) (sx : Bool), frondOf i = some f → s.issues f u →
    loadForm i = some (d, a, o, n, sx) → ea = ((u.frond f).rg a + o.signExtend 64).toNat →
    ((u.frond f).refused 0 ea n = true → s.enters i f u 0x05 ea) ∧
    ((u.frond f).refused 0 ea n = false → ea % n ≠ 0 → s.enters i f u 0x07 ea)) ∧
  (∀ (i : Instr) (s u : State) (f : Fin 16) (d a : BitVec 5) (o : BitVec 16) (n ea : Nat), frondOf i = some f → s.issues f u →
    storeForm i = some (d, a, o, n) → ea = ((u.frond f).rg a + o.signExtend 64).toNat →
    ((u.frond f).refused 1 ea n = true → s.enters i f u 0x06 ea) ∧
    ((u.frond f).refused 1 ea n = false → ea % n ≠ 0 → s.enters i f u 0x07 ea))

/-- R93, R103, R104, R106: a store that its regions allow, to own data memory or a commons bank that is ON, writes the low bytes of its register at
its address, little-endian, and STT the 12 bytes of its time register; an atomic in the commons returns the old 64-bit value in g[d] and stores the
new one; every byte outside them reads as before. A 32-bit store to a register word is a write of that register. Outside the commons an atomic
raises BUS, misaligned ALIGN. -/
def Obligations.StoresAndAtomicsWriteTheirBytesAlone : Prop :=
  (∀ (i : Instr) (s u : State) (f : Fin 16) (d a : BitVec 5) (o : BitVec 16) (n p ea : Nat), frondOf i = some f → s.issues f u →
    storeForm i = some (d, a, o, n) → ea = ((u.frond f).rg a + o.signExtend 64).toNat → u.reaches f true ea n p → ea % n = 0 →
    Memory.wf u.mem = true →
    ∃ t, exec i s = .next t ∧ ((u.rawStore p (leBytes n ((u.frond f).rg d).toNat)).setFrond f (u.frond f).pass).ToldFrom t ∧
      (∀ j, j < n → t.byteAt (p + j) = BitVec.ofNat 8 (((u.frond f).rg d).toNat / 2 ^ (8 * j))) ∧
      (∀ b, b < p ∨ p + n ≤ b → t.byteAt b = u.byteAt b)) ∧
  (∀ (s u : State) (f : Fin 16) (d a : BitVec 5) (o : BitVec 16) (p ea : Nat), s.issues f u → d.toNat < 8 →
    ea = ((u.frond f).rg a + o.signExtend 64).toNat → u.reaches f true ea 12 p → ea % 16 = 0 → Memory.wf u.mem = true →
    ∃ t, exec (.stt f d a o) s = .next t ∧ ((u.rawStore p (leBytes 12 ((u.frond f).rt d).toNat)).setFrond f (u.frond f).pass).ToldFrom t ∧
      (∀ b, b < p ∨ p + 12 ≤ b → t.byteAt b = u.byteAt b)) ∧
  (∀ (i : Instr) (s u : State) (f : Fin 16) (d a : BitVec 5) (o : BitVec 16) (ea : Nat), frondOf i = some f → s.issues f u →
    storeForm i = some (d, a, o, 4) → ea = ((u.frond f).rg a + o.signExtend 64).toNat → (u.frond f).refused 1 ea 4 = false →
    ea < 0x1000000 → ea % 4 = 0 → targetOf ea 4 = .reg →
      s.runsTo i ((u.writeRegAt (.frond f) ea (((u.frond f).rg d).toNat % 2 ^ 32)).setPc f ((u.frond f).pc + 4))) ∧
  (∀ (i : Instr) (s u : State) (f : Fin 16) (d a : BitVec 5) (v : Word) (ea : Nat), frondOf i = some f → s.issues f u →
    ea = ((u.frond f).rg a).toNat → u.reaches f true ea 8 ea → ea % 8 = 0 → Memory.wf u.mem = true → ea < 0x1000000 →
    atomicSpec (u.frond f) (BitVec.ofNat 64 (u.word64 ea)) i = some (d, a, v) →
    ∃ t, exec i s = .next t ∧ (t.frond f).g = ((u.frond f).wg d (BitVec.ofNat 64 (u.word64 ea))).g ∧
      (t.frond f).pc = (u.frond f).pc + 4 ∧ t.mem = memSetList ea (leBytes 8 v.toNat) u.mem ∧
      (∀ b, b < ea ∨ ea + 8 ≤ b → t.byteAt b = u.byteAt b)) ∧
  (∀ (i : Instr) (s u : State) (f : Fin 16) (d a : BitVec 5) (m v : Word) (ea : Nat), frondOf i = some f → s.issues f u →
    ea = ((u.frond f).rg a).toNat → (u.frond f).refused 1 ea 8 = false → atomicSpec (u.frond f) m i = some (d, a, v) →
    (ea % 8 ≠ 0 → s.enters i f u 0x07 ea) ∧ (ea % 8 = 0 → ea < 0x800000 ∨ 0x1000000 ≤ ea → s.enters i f u 0x08 ea))

/-- R107: a branch or jump moves the program counter to its target where it is taken and to the next instruction else, and BL and JLR write the
return address; the target of a branch is its address plus 4 times the signed offset, that of a jump g[a] before the write; a target outside
instruction memory, or not a multiple of 4, raises FETCH at the target. The branch predictor learns from it and nothing else changes. -/
def Obligations.BranchesMoveTheProgramCounter : Prop :=
  ∀ (i : Instr) (s u : State) (f : Fin 16) (taken : Bool) (target : Word) (link : Option (BitVec 5)), frondOf i = some f →
    s.issues f u → branchSpec (u.frond f) i = some (taken, target, link) →
    let x := (u.frond f).train (branchPred i) taken link.isSome
    let y := match link with
      | some d => x.wg d ((u.frond f).pc + 4)
      | none => x
    (taken = false → s.runsTo i (u.setFrond f y.pass)) ∧
    (taken = true → 0x10000000 ≤ target.toNat → target.toNat < 0x10010000 → target.toNat % 4 = 0 →
      s.runsTo i (u.setFrond f { y with pc := target })) ∧
    (taken = true → ¬ (0x10000000 ≤ target.toNat ∧ target.toNat < 0x10010000 ∧ target.toNat % 4 = 0) → (u.frond f).inh = false →
      s.runsTo i (u.setFrond f (({ y with pc := target } : Frond).enter 0x03 0 0 target.toNat 0x60 target)))

/-! ## Waiting -/

/-- R85, R86, R108 to R113, R130, R132: ATI at or past its time goes on at once and reports its lateness, 0 up to 2 ns (log 28); before it, it waits,
and ATI_RELEASE at its time ends the wait with 0 in g[d]. WTU writes the watched word and WFE the pending lines of its mask to g[d] and both clear
STATUS.tf where the condition holds, in mode 0 at or before the deadline; where it does not, mode 2 sets tf and goes on, and modes 0 and 1 wait at
the instruction. WFE clears no pending bit, and leaves a line that an interrupt takes to that interrupt. WAIT_COMPLETE ends a wait whose condition
holds as the instruction would; TIMEOUT_DECLARE ends one whose condition does not hold once the watermark of the awaited domain has reached the
deadline: tf is set, and a watched word or 0 is written as a failed test writes it. Before that neither does anything. -/
def Obligations.WaitsOfAFrond : Prop :=
  (∀ (s u : State) (f : Fin 16) (d a : BitVec 5), s.issues f u → a.toNat < 8 →
    ((u.frond f).time a ≤ u.coreNs → s.runsTo (.ati f d a) (u.setFrond f ((u.frond f).wg d
      (if u.coreNs - (u.frond f).time a ≤ 131072 then 0
       else BitVec.ofInt 64 (min (u.coreNs - (u.frond f).time a) (2 ^ 63 - 1)))).pass)) ∧
    (u.coreNs < (u.frond f).time a →
      exec (.ati f d a) s = .next (u.setFrond f { u.frond f with wait := .ati ((u.frond f).time a) d.toNat }))) ∧
  (∀ (s : State) (f : Fin 16) (z : Int) (d : BitVec 5), (s.frond f).wait = .ati z d.toNat → s.frdRuns f = true →
    (z ≤ s.coreNs → s.runsTo (.atiRelease f) (s.setFrond f { ((s.frond f).wg d 0).pass with wait := .none })) ∧
    (s.coreNs < z → exec (.atiRelease f) s = .next s)) ∧
  (∀ (s u : State) (f : Fin 16) (d a b : BitVec 5) (mode : BitVec 2) (p : Nat), s.issues f u → waitForm mode b →
    u.reaches f false ((u.frond f).rg a).toNat 8 p → ((u.frond f).rg a).toNat % 8 = 0 →
    (u.word64 p ≠ ((u.frond f).rg d).toNat → inTime mode.toNat (tabGet 0 p u.memx.wst) ((u.frond f).time b) →
      s.runsTo (.wtu f d a b mode) (u.setFrond f { ((u.frond f).wg d (BitVec.ofNat 64 (u.word64 p))).pass with tf := false })) ∧
    (u.word64 p = ((u.frond f).rg d).toNat ∨ ¬ inTime mode.toNat (tabGet 0 p u.memx.wst) ((u.frond f).time b) →
      (mode = 2 → s.runsTo (.wtu f d a b mode) (u.setFrond f { ((u.frond f).wg d (BitVec.ofNat 64 (u.word64 p))).pass with tf := true })) ∧
      (mode ≠ 2 → s.runsTo (.wtu f d a b mode)
        (u.setFrond f { u.frond f with wait := .wtu p d.toNat mode.toNat ((u.frond f).time b) })))) ∧
  (∀ (s u : State) (f : Fin 16) (d a b : BitVec 5) (mode : BitVec 2) (m lines : Word), s.issues f u → waitForm mode b → m = (u.frond f).rg a →
    lines = (if (u.frond f).ie && !(u.frond f).inh then (u.frond f).evtPend &&& m &&& ~~~(u.frond f).evtEn else (u.frond f).evtPend &&& m) →
    (lines ≠ 0 → inTime mode.toNat ((u.frond f).leastStamp lines) ((u.frond f).time b) →
      ∃ t, exec (.wfe f d a b mode) s = .next t ∧ (t.frond f).g = ((u.frond f).wg d ((u.frond f).evtPend &&& m)).g ∧
        (t.frond f).tf = false ∧ (t.frond f).pc = (u.frond f).pc + 4 ∧ (t.frond f).wait = .none ∧
        ∀ l : Fin 64, (u.frond f).evtPend.getLsbD l.val = true → (t.frond f).evtPend.getLsbD l.val = true) ∧
    (lines = 0 ∨ ¬ inTime mode.toNat ((u.frond f).leastStamp lines) ((u.frond f).time b) →
      (mode = 2 → s.runsTo (.wfe f d a b mode) (u.setFrond f { ((u.frond f).wg d 0).pass with tf := true })) ∧
      (mode ≠ 2 → exec (.wfe f d a b mode) s =
        .next (u.setFrond f { u.frond f with wait := .wfe m d.toNat mode.toNat ((u.frond f).time b) })))) ∧
  (∀ (s : State) (f : Fin 16) (p mode : Nat) (d : BitVec 5) (limit : Int), s.frdRuns f = true → (s.frond f).wait = .wtu p d.toNat mode limit →
    (inCommons p = true → s.bank (bankOf p) = 0) →
    (s.word64 p ≠ ((s.frond f).rg d).toNat → inTime mode (tabGet 0 p s.memx.wst) limit → s.runsTo (.waitComplete f)
      (s.setFrond f { ((s.frond f).wg d (BitVec.ofNat 64 (s.word64 p))).pass with tf := false, wait := .none })) ∧
    (s.word64 p = ((s.frond f).rg d).toNat ∨ ¬ inTime mode (tabGet 0 p s.memx.wst) limit → exec (.waitComplete f) s = .next s ∧
      (mode = 0 → limit ≤ s.watermark 0 → s.runsTo (.timeoutDeclare f)
        (s.setFrond f { ((s.frond f).wg d (BitVec.ofNat 64 (s.word64 p))).pass with tf := true, wait := .none })))) ∧
  (∀ (s : State) (f : Fin 16) (mode : Nat) (d : BitVec 5) (m : Word) (limit : Int), s.frdRuns f = true →
    (s.frond f).wait = .wfe m d.toNat mode limit →
    ((s.frond f).wfeLines m ≠ 0 → inTime mode ((s.frond f).leastStamp ((s.frond f).wfeLines m)) limit →
      ∃ t, exec (.waitComplete f) s = .next t ∧ (t.frond f).g = ((s.frond f).wg d ((s.frond f).evtPend &&& m)).g ∧ (t.frond f).tf = false ∧
        (t.frond f).wait = .none ∧ (t.frond f).pc = (s.frond f).pc + 4) ∧
    ((s.frond f).wfeLines m = 0 → exec (.waitComplete f) s = .next s ∧ (mode = 0 → limit ≤ s.watermark 0 → s.runsTo (.timeoutDeclare f)
      (s.setFrond f { ((s.frond f).wg d 0).pass with tf := true, wait := .none })))) ∧
  (∀ (s : State) (f : Fin 16) (i mode v : Nat) (d : BitVec 5) (limit z : Int) (rest : List QItem), s.frdRuns f = true →
    (s.frond f).wait = .qpop i d.toNat mode limit → (s.queue i).items = ⟨z, .word v⟩ :: rest → 0 < (s.queue i).vis → inTime mode z limit →
    ∃ t, exec (.waitComplete f) s = .next t ∧ (i < 348 → (t.queue i).items = rest) ∧ (t.frond f).g = ((s.frond f).wg d (BitVec.ofNat 64 v)).g ∧
      (t.frond f).tf = false ∧ (t.frond f).wait = .none ∧ (t.frond f).pc = (s.frond f).pc + 4) ∧
  (∀ (s : State) (f : Fin 16) (i mode v : Nat) (limit : Int), s.frdRuns f = true → i < 348 → (s.frond f).wait = .qpush i v mode limit →
    0 < (s.queue i).c → inTime mode (s.queue i).cstamp limit → ∃ t, exec (.waitComplete f) s = .next t ∧
      t.queue i = (s.queue i).push ⟨s.domNow 0, .word v⟩ ∧ (t.frond f).g = (s.frond f).g ∧ (t.frond f).tf = false ∧
      (t.frond f).wait = .none ∧ (t.frond f).pc = (s.frond f).pc + 4) ∧
  (∀ (s : State) (f : Fin 16) (i dv mode : Nat) (limit : Int), s.frdRuns f = true → i < 2048 →
    ((s.frond f).wait = .qpop i dv mode limit ∧ (s.queue i).vis = 0) ∨ ((s.frond f).wait = .qpush i dv mode limit ∧ (s.queue i).c = 0) →
    exec (.waitComplete f) s = .next s ∧
    (mode = 0 → limit ≤ s.watermark (if (s.frond f).wait = .qpop i dv mode limit then s.queueDom i else 0) → s.runsTo (.timeoutDeclare f)
      (s.setFrond f { (s.frond f).pass with tf := true, wait := .none }))) ∧
  (∀ (s : State) (f : Fin 16) (limit : Int), (s.frond f).wait.limit = some limit → s.watermark (s.waitCond f (s.frond f).wait).2.2 < limit →
    exec (.timeoutDeclare f) s = .next s)

/-- R92, R110, R113, R114: QPUSH with a credit, in mode 0 one returned by the deadline, pushes g[d] with the core-domain stamp, consumes the credit and
clears tf; QPOP takes the oldest item of its queue into g[d]; a mode-2 test without credit or item sets tf and leaves queue and registers, modes 0 and 1
wait. Queue n below 16 is the one
to, or from, Frond n; a queue that the Frond may not use raises QUEUE, and task mode without tio raises PRIV. -/
def Obligations.MessageQueueInstructions : Prop :=
  (∀ (s u : State) (f : Fin 16) (d a : BitVec 5) (mode : BitVec 2) (q : BitVec 11) (i : Nat), s.issues f u → waitForm mode a →
    (u.frond f).noTio = false → u.frdQueue f true q.toNat = some i → i < 2048 →
    (0 < (u.queue i).c → inTime mode.toNat (u.queue i).cstamp ((u.frond f).time a) →
      ∃ t, exec (.qpush f d a mode q) s = .next t ∧ t.queue i = (u.queue i).push ⟨u.domNow 0, .word ((u.frond f).rg d).toNat⟩ ∧
        (∀ j, j < 348 → j ≠ i → t.queue j = u.queue j) ∧ (t.frond f).tf = false ∧ (t.frond f).g = (u.frond f).g ∧
        (t.frond f).pc = (u.frond f).pc + 4) ∧
    ((u.queue i).c = 0 ∨ ¬ inTime mode.toNat (u.queue i).cstamp ((u.frond f).time a) →
      (mode = 2 → s.runsTo (.qpush f d a mode q) (u.setFrond f { (u.frond f).pass with tf := true })) ∧
      (mode ≠ 2 → exec (.qpush f d a mode q) s =
        .next (u.setFrond f { u.frond f with wait := .qpush i ((u.frond f).rg d).toNat mode.toNat ((u.frond f).time a) })))) ∧
  (∀ (s u : State) (f : Fin 16) (d a : BitVec 5) (mode : BitVec 2) (q : BitVec 11) (i : Nat), s.issues f u → waitForm mode a →
    (u.frond f).noTio = false → u.frdQueue f false q.toNat = some i → i < 2048 →
    (∀ (z : Int) (v : Nat) (rest : List QItem), (u.queue i).items = ⟨z, .word v⟩ :: rest → 0 < (u.queue i).vis →
      inTime mode.toNat z ((u.frond f).time a) → ∃ t, exec (.qpop f d a mode q) s = .next t ∧ (t.queue i).items = rest ∧
        (t.frond f).g = ((u.frond f).wg d (BitVec.ofNat 64 v)).g ∧ (t.frond f).tf = false ∧ (t.frond f).pc = (u.frond f).pc + 4) ∧
    ((u.queue i).vis = 0 → (mode = 2 → s.runsTo (.qpop f d a mode q) (u.setFrond f { (u.frond f).pass with tf := true })) ∧
      (mode ≠ 2 → exec (.qpop f d a mode q) s =
        .next (u.setFrond f { u.frond f with wait := .qpop i d.toNat mode.toNat ((u.frond f).time a) })))) ∧
  (∀ (u : State) (f n : Fin 16), u.frdQueue f true n.val = some (16 * f.val + n.val) ∧ u.frdQueue f false n.val = some (16 * n.val + f.val)) ∧
  (∀ (s u : State) (f : Fin 16) (d : BitVec 5) (mode : BitVec 2) (q : BitVec 11), s.issues f u → mode = 1 ∨ mode = 2 →
    ((u.frond f).noTio = true → s.enters (.qpush f d 0 mode q) f u 0x02 0 ∧ s.enters (.qpop f d 0 mode q) f u 0x02 0) ∧
    ((u.frond f).noTio = false → (u.frdQueue f true q.toNat = none → s.enters (.qpush f d 0 mode q) f u 0x0B 0) ∧
      (u.frdQueue f false q.toNat = none → s.enters (.qpop f d 0 mode q) f u 0x0B 0)))

/-! ## Instructions that act on blocks, and the system instructions -/

/-- R90, R92, R115, R122, R136: STAMP writes t[d] with the normalised core-domain stamp, raw time or the latched stamp of an event line; a reserved source, a
set reserved bit or d of 8 or more raises ILLEGAL. MFC reads and MTC writes the control words that exist; other indices raise ILLEGAL, task mode raises
PRIV on those that it may not use, and MTC of a nanoseconds field of 1,000,000,000 or more to the saved t7 raises TIME_FORMAT. A write of EVT_CLR clears
only pending lines that were observed. -/
def Obligations.StampsAndControlWords : Prop :=
  (∀ (s u : State) (f : Fin 16) (d : BitVec 5), s.issues f u → d.toNat < 8 →
    s.runsTo (.stamp f d 0) (u.setFrond f ((u.frond f).wt d (BitVec.ofNat 96 (packTime (u.domNow 0)))).pass) ∧
    s.runsTo (.stamp f d 0x2000) (u.setFrond f ((u.frond f).wt d (BitVec.ofNat 96 (packTime u.raw))).pass) ∧
    ∀ l : Fin 64, s.runsTo (.stamp f d (BitVec.ofNat 16 (0x4000 + l.val)))
      (u.setFrond f ((u.frond f).wt d (BitVec.ofNat 96 (packTime (u.frond f).lineStamp[l]))).pass)) ∧
  (∀ (s u : State) (f : Fin 16) (d : BitVec 5) (i : BitVec 16), s.issues f u → 8 ≤ d.toNat ∨ 0x6000 ≤ i.toNat ∨ i.toNat / 64 % 128 ≠ 0 →
    s.enters (.stamp f d i) f u 0x01 0) ∧
  (∀ (s u : State) (f : Fin 16) (d : BitVec 5) (i : BitVec 12), s.issues f u →
    (∀ v, (u.frond f).cword f i.toNat = some v → (u.frond f).mode = true →
      s.runsTo (.mfc f d i) (u.setFrond f ((u.frond f).wg d (BitVec.ofNat 64 v)).pass)) ∧
    ((u.frond f).cword f i.toNat = none → s.enters (.mfc f d i) f u 0x01 0) ∧
    ((u.frond f).cword f i.toNat ≠ none → (u.frond f).mode = false → i ≠ 0 → i ≠ 8 → i ≠ 0xB → i ≠ 0xC → s.enters (.mfc f d i) f u 0x02 0)) ∧
  (∀ (s u : State) (f : Fin 16) (a : BitVec 5), s.issues f u → (u.frond f).mode = true →
    s.runsTo (.mtc f a 0x001) (u.setFrond f { (u.frond f).pass with retpc := (u.frond f).rg a }) ∧
    s.runsTo (.mtc f a 0x004) (u.setFrond f { (u.frond f).pass with htable := ((u.frond f).rg a).setWidth 5 }) ∧
    s.runsTo (.mtc f a 0x00A) (u.setFrond f { (u.frond f).pass with
      evtPend := (u.frond f).evtPend &&& ~~~(((u.frond f).rg a) &&& (u.frond f).lineObs) }) ∧
    s.runsTo (.mtc f a 0x002) (u.setFrond f (u.frond f).pass) ∧
    (1000000000 ≤ ((u.frond f).rg a).toNat / 65536 % 2 ^ 32 → s.enters (.mtc f a 0x006) f u 0x09 0)) ∧
  (∀ (s u : State) (f : Fin 16) (a : BitVec 5), s.issues f u →
    s.runsTo (.mtc f a 0x00C) (u.setFrond f { (u.frond f).pass with scratch := (u.frond f).rg a })) ∧
  (∀ (x : Frond) (f : Fin 16), x.cword f 0 = some ((if x.mode then 1 else 0) + (if x.ie then 2 else 0) + (if x.inh then 4 else 0) +
      (if x.tf then 8 else 0) + (if x.tio then 16 else 0)) ∧ x.cword f 1 = some x.retpc.toNat ∧ x.cword f 3 = some x.faultAddr.toNat ∧
    x.cword f 8 = some x.evtPend.toNat ∧ x.cword f 9 = some x.evtEn.toNat ∧ x.cword f 0xC = some x.scratch.toNat ∧ x.cword f 0xD = none)

/-- R92, R116, R117, R118: EDGE, TARM and SFEED answer their code in g[d]: 0 with the edge queued, the unit armed at the present raw time or
the feed queued, and nonzero with the block as it was. Task mode without tio raises PRIV. -/
def Obligations.BlockInstructionsAnswerACode : Prop :=
  (∀ (s u : State) (f : Fin 16) (d a b : BitVec 5) (n : Fin 32) (level : Bool), s.issues f u → a.toNat < 8 → (u.frond f).noTio = false →
    ((u.frond f).rg b).toNat = n.val + (if level then 32 else 0) → 1 ≤ u.tioFunc n.val → u.tioFunc n.val ≤ 4 → u.pdOn (tioDom n.val) = true →
    (u.domNow 0 + 100 * uNs ≤ (u.frond f).time a → 0 < (u.queue (312 + n.val)).c → ∀ v,
      v = (u.qPush (312 + n.val) ⟨u.domNow 0, .edge ((u.frond f).time a) level⟩).noteSent f (312 + n.val) →
      s.runsTo (.edge f d a b) (v.setFrond f ((v.frond f).wg d 0).pass)) ∧
    (u.domNow 0 + 100 * uNs ≤ (u.frond f).time a → (u.queue (312 + n.val)).c = 0 →
      s.runsTo (.edge f d a b) (u.setFrond f ((u.frond f).wg d 1).pass)) ∧
    ((u.frond f).time a < u.domNow 0 + 100 * uNs → s.runsTo (.edge f d a b) (u.setFrond f ((u.frond f).wg d 2).pass))) ∧
  (∀ (s u : State) (f : Fin 16) (d a b : BitVec 5) (n : Fin 40), s.issues f u → b.toNat < 8 → (u.frond f).noTio = false →
    ((u.frond f).rg a).toNat = n.val → u.pdOn 1 = true → n.val ≠ 32 → u.claim n.val = 0 → u.rf TDCn_CTL_mode n.val ≠ 3 →
    u.tdcState n.val = 0 → u.rb TDCn_CTL_route_en n.val = true →
    (u.rf TDCn_CTL_frond n.val = f.val → u.isReady 4 = true →
      ∃ t, exec (.tarm f d a b) s = .next t ∧ (t.frond f).g = ((u.frond f).wg d 0).g ∧ (t.frond f).pc = (u.frond f).pc + 4 ∧
        t.tdcState n.val = 2 ∧ (t.unit n.val).armAt = u.raw) ∧
    (u.rf TDCn_CTL_frond n.val ≠ f.val → s.runsTo (.tarm f d a b) (u.setFrond f ((u.frond f).wg d 2).pass))) ∧
  (∀ (s u : State) (f : Fin 16) (d a b : BitVec 5) (slot : Nat), s.issues f u → a.toNat < 8 → a.toNat % 2 = 0 → (u.frond f).noTio = false →
    ((u.frond f).rg b).toNat % 2 ^ 32 = slot → slot ≤ 23 ∨ slot = 255 →
    (u.fatalSet = true → s.runsTo (.sfeed f d a b) ((u.inc SYS_FATAL_REFUSED_count).setFrond f ((u.frond f).wg d 2).pass)) ∧
    (u.fatalSet = false → (u.queue 393).c = 0 → s.runsTo (.sfeed f d a b) (u.setFrond f ((u.frond f).wg d 1).pass)) ∧
    (u.fatalSet = false → 0 < (u.queue 393).c → ∀ v, v = (u.qPush 393
        ⟨u.domNow 0, .feed ⟨slot, (u.frond f).dur a, (u.frond f).time (a + 1), ((u.frond f).rg b).toNat / 2 ^ 32⟩⟩).noteSent f 393 →
      s.runsTo (.sfeed f d a b) (v.setFrond f ((v.frond f).wg d 0).pass))) ∧
  (∀ (s u : State) (f : Fin 16) (d a b : BitVec 5) (i : Instr), s.issues f u → a.toNat < 8 → a.toNat % 2 = 0 → b.toNat < 8 →
    (u.frond f).noTio = true → i = .edge f d a b ∨ i = .tarm f d a b ∨ i = .sfeed f d a b →
    s.enters i f u 0x02 0)

/-- R119, R120, R121: TSLEW and TSTEP need supervisor mode and the grant, else they raise PRIV; TSLEW with a permitted amount starts a slew of source 1 and
pauses the servo, and refuses with a code else; TSTEP sends its command to the spine, where TSTEP_APPLY moves spine time by a permitted amount at one
tick, leaves raw time, and writes code 0 to g[d] of its Frond; under a fatal response or in the Tally's reserve the command is refused with its code and
spine time stays. -/
def Obligations.CommandedSlewsAndSteps : Prop :=
  (∀ (s u : State) (f : Fin 16) (d a b : BitVec 5) (i : Instr), s.issues f u → a.toNat < 8 →
    ¬ ((u.frond f).mode = true ∧ (u.rf FRD_TIME_GRANT_grant 0).testBit f.val = true) → i = .tslew f d a b ∨ i = .tstep f d a →
    s.enters i f u 0x02 0) ∧
  (∀ (s u : State) (f : Fin 16) (d a b : BitVec 5), s.issues f u → a.toNat < 8 → (u.frond f).mode = true →
    (u.rf FRD_TIME_GRANT_grant 0).testBit f.val = true →
    (u.fatalSet = true → s.runsTo (.tslew f d a b) ((u.inc SYS_FATAL_REFUSED_count).setFrond f ((u.frond f).wg d 2).pass)) ∧
    (u.fatalSet = false → u.rb TLY_RING_FILL_reserve = true → s.runsTo (.tslew f d a b) (u.setFrond f ((u.frond f).wg d 1).pass)) ∧
    (u.fatalSet = false → u.rb TLY_RING_FILL_reserve = false → u.tm.slewSource = 0 → u.tm.slewWait = none → (u.frond f).dur a ≠ 0 →
      -uSec < (u.frond f).dur a → (u.frond f).dur a < uSec →
      ∃ t, exec (.tslew f d a b) s = .next t ∧ (t.frond f).g = ((u.frond f).wg d 0).g ∧ (t.frond f).pc = (u.frond f).pc + 4 ∧
        t.rb SRV_STATUS_paused = true ∧ t.now = u.now ∧
        ∃ x, t.tm.slew = some x ∧ x.remaining = (u.frond f).dur a ∧ x.source = 1 ∧ x.frond = f.val ∧
          x.rate = slewWord (if ((u.frond f).rg b).toNat = 0 ∨ u.slewMax < ((u.frond f).rg b).toNat then u.slewMax else ((u.frond f).rg b).toNat))) ∧
  (∀ (s u : State) (f : Fin 16) (d a : BitVec 5), s.issues f u → a.toNat < 8 → (u.frond f).mode = true →
    (u.rf FRD_TIME_GRANT_grant 0).testBit f.val = true → u.tm.steps = [] →
    s.runsTo (.tstep f d a) ((u.setTm { u.tm with steps := [⟨f.val, d.toNat, (u.frond f).dur a⟩] }).setFrond f (u.frond f).pass)) ∧
  (∀ (s : State) (f : Fin 16) (d : BitVec 5) (z : Int), s.supplied = true → s.tm.run = true → s.tm.steps = [⟨f.val, d.toNat, z⟩] →
    (s.fatalSet = true → s.runsTo .tstepApply
      (((s.setTm { s.tm with steps := [] }).inc SYS_FATAL_REFUSED_count).setFrond f ((s.frond f).wg d 2))) ∧
    (s.fatalSet = false → s.rb TLY_RING_FILL_reserve = true → s.runsTo .tstepApply
      ((s.setTm { s.tm with steps := [] }).setFrond f ((s.frond f).wg d 1))) ∧
    (s.fatalSet = false → s.rb TLY_RING_FILL_reserve = false → z ≠ 0 → -2147483648 * uSec < z → z < 2147483648 * uSec → 0 ≤ s.now + z →
      s.now + z < 2 ^ 48 * uSec →
      ∃ t, exec .tstepApply s = .next t ∧ t.now = s.now + z ∧ t.raw = s.raw ∧ (t.frond f).g = ((s.frond f).wg d 0).g ∧ t.tm.steps = []))

/-- R122 to R127, R137, R153, R154, R455, R490: ERET restores mode, ie and a saved t7, clears inh and continues at RETPC, and outside a handler raises
ILLEGAL; TRAP enters the handler with its immediate and the next instruction's address; FENCE passes when no TSTEP of its Frond is on its way and no item
that it pushed still crosses, and waits else; while a TSTEP is on its way, an instruction that uses its g[d], a trap and an interrupt wait; HALT stops
the Frond until a line is taken, and in task mode raises PRIV. An interrupt saves pc, mode, ie and t7, masks, loads t7 with the stamp of the lowest
pending enabled line, and continues in supervisor mode at the handler table plus 0x400 plus 16 times the line; a halted Frond runs again. An exception
inside a handler is a double fault: the Frond goes to FAULT with its registers and saved words as they were, and its source asserts. A counter that
carries out of its span sets its overflow bit, with irq it raises line 63; BAD_ACCESS counts an unmapped access, and for an instruction outside the map
raises BUS. -/
def Obligations.SystemInstructionsAndInterrupts : Prop :=
  (∀ (s u : State) (f : Fin 16), s.issues f u → (u.frond f).inh = true → (u.frond f).mode = true → 0x10000000 ≤ (u.frond f).retpc.toNat →
    (u.frond f).retpc.toNat < 0x10010000 → (u.frond f).retpc.toNat % 4 = 0 →
    s.runsTo (.eret f) (u.setFrond f { u.frond f with
      mode := (u.frond f).retMode, ie := (u.frond f).retIe, inh := false, pc := (u.frond f).retpc, t7saved := false,
      t := if (u.frond f).t7saved then (u.frond f).t.set 7 (u.frond f).t7save else (u.frond f).t })) ∧
  (∀ (s u : State) (f : Fin 16), s.issues f u → s.enters (.eret f) f u 0x01 0) ∧
  (∀ (s u : State) (f : Fin 16) (i : BitVec 16), s.issues f u → (u.frond f).inh = false →
    s.runsTo (.trap f i) (u.setFrond f ((u.frond f).enter 0x0C 0 i.toNat 0 0x180 ((u.frond f).pc + 4)))) ∧
  (∀ (s u : State) (f : Fin 16), s.issues f u →
    ((∀ e ∈ (u.frond f).sent, u.inFlight e = false) → s.runsTo (.fence f) (u.setFrond f { (u.frond f).pass with sent := [] })) ∧
    (∀ e ∈ (u.frond f).sent, u.inFlight e = true → exec (.fence f) s = .next u)) ∧
  (∀ (s u : State) (f : Fin 16) (c : StepCmd), s.supplied = true → c ∈ s.tm.steps → c.frond = f.val →
    (s.canIssue f = true → s.frdFetch f = (u, none) → exec (.fence f) s = .next u) ∧
    (∀ (d a b : BitVec 5) (i : BitVec 16), d ≠ 0 → BitVec.ofNat 5 c.dreg = d → exec (.add f d a b) s = .next s ∧
      exec (.add f a d b) s = .next s ∧ exec (.add f a b d) s = .next s ∧ exec (.trap f i) s = .next s) ∧
    exec (.interruptEntry f) s = .next s) ∧
  (∀ (s u : State) (f : Fin 16), s.issues f u → (u.frond f).mode = true → (u.frond f).nextLine ≠ none → (u.frond f).ie = true →
    (u.frond f).inh = false → s.runsTo (.halt f) (u.setFrond f (u.frond f).pass)) ∧
  (∀ (s u : State) (f : Fin 16), s.issues f u → (u.frond f).mode = true →
    (u.frond f).nextLine = none ∨ (u.frond f).ie = false ∨ (u.frond f).inh = true →
    s.runsTo (.halt f) ((u.setFrond f (u.frond f).pass).wf FRD_STATUSn_state 1 f.val)) ∧
  (∀ (s u : State) (f : Fin 16), s.issues f u → (u.frond f).mode = false → s.enters (.halt f) f u 0x02 0) ∧
  (∀ (s : State) (f : Fin 16) (l : Fin 64), s.supplied = true → s.frdState f ≤ 1 → (s.frond f).frozen = false → s.pdOn (clusterDom f) = true →
    s.stepOut f = false → (s.frond f).ie = true → (s.frond f).inh = false → (s.frond f).evtPend.getLsbD l.val = true →
    (s.frond f).evtEn.getLsbD l.val = true →
    (∀ k : Fin 64, k < l → ¬ ((s.frond f).evtPend.getLsbD k.val = true ∧ (s.frond f).evtEn.getLsbD k.val = true)) →
    s.runsTo (.interruptEntry f) ((s.setFrond f { s.frond f with
      retpc := (s.frond f).pc, retMode := (s.frond f).mode, retIe := true, t7saved := true, t7save := (s.frond f).t[7],
      t := (s.frond f).t.set 7 (BitVec.ofNat 96 (packTime (s.frond f).lineStamp[l])), code := 0x80, line := BitVec.ofNat 6 l.val, trap := 0,
      faultAddr := 0, mode := true, ie := false, inh := true, wait := .none,
      pc := BitVec.ofNat 64 (0x10000000 + (s.frond f).htable.toNat * 2048 + (0x400 + 16 * l.val)) }).wf FRD_STATUSn_state 0 f.val)) ∧
  (∀ (s u : State) (f : Fin 16) (i : BitVec 16), s.issues f u → (u.frond f).inh = true →
    ∃ t, exec (.trap f i) s = .next t ∧ t.frdState f = 3 ∧ (t.frond f).g = (u.frond f).g ∧ (t.frond f).t = (u.frond f).t ∧
      (t.frond f).retpc = (u.frond f).retpc ∧ (t.frond f).code = (u.frond f).code ∧ t.mem = u.mem ∧
      t.bit32 SYS_IRQ_CAUSEw_cause (64 + f.val) = true) ∧
  (∀ (s : State) (f : Fin 16) (k : Fin 8), s.supplied = true → s.frdState f = 0 → cycleEvent ((s.frond f).psel[k].toNat % 256) = true →
    (s.frond f).psel[k].getLsbD 8 = true →
    (s.frond f).counts k ((s.frond f).psel[k].toNat % 256) = true →
    ((s.frond f).psel[k].getLsbD 9 = false → ∃ t, exec (.perfCounterOverflow f k) s = .next t ∧
      (t.frond f).pcnt[k].toNat % 2 ^ pselSpan (s.frond f).psel[k] = 0 ∧ (t.frond f).povf.getLsbD k.val = true ∧
      t = s.setFrond f { s.frond f with pcnt := (s.frond f).pcnt.set k (t.frond f).pcnt[k], povf := (t.frond f).povf }) ∧
    ((s.frond f).psel[k].getLsbD 9 = true → ∃ t, exec (.perfCounterOverflow f k) s = .next t ∧ (t.frond f).povf.getLsbD k.val = true ∧
      (t.frond f).evtPend.getLsbD 63 = true ∧ s.ToldFrom t)) ∧
  (∀ (s : State) (k : Fin 16), s.supplied = true → s.rb PRF_SELk_en k.val = true →
    ∃ t, exec (.sharedCounterOverflow k) s = .next t ∧ s.ToldFrom t ∧ t.rf PRF_CNTk_count k.val % 2 ^ s.prfSpan k.val = 0 ∧
      (t.rf PRF_OVF_ovf).testBit k.val = true) ∧
  (∀ (s : State) (a : BitVec 26) (n : Nat) (q : Req), s.supplied = true → q = .host ∨ q = .spi → s.onBus q = true →
    (a.toNat < 0x1000000 → targetOf a.toNat n = .unmapped → exec (.badAccess q a n true) s = .next (s.inc SYS_BAD_ACCESS_count)) ∧
    (0x1000000 ≤ a.toNat → exec (.badAccess q a n false) s = .next ((s.inc MEM_ALIAS_ERR_count).setRead q 0)) ∧
    (0x1000000 ≤ a.toNat → aliasOk (a.toNat % 0x1000000) = false → exec (.badAccess q a n true) s = .next (s.inc MEM_ALIAS_ERR_count))) ∧
  (∀ (s u : State) (f : Fin 16) (a : BitVec 26) (n : Nat) (wr : Bool), s.supplied = true → s.issues f u →
    (a.toNat < 0x1000000 ∧ targetOf a.toNat n = .bad) ∨ (0x1000000 ≤ a.toNat ∧ wr = false) →
    s.enters (.badAccess (.frond f) a n wr) f u 0x08 a.toNat)

/-! ## Spine time, the Tally and the strobe -/

/-- R65, R66, R70, R72: a spine tick adds to spine time what it adds to raw time, to the open FREQ entry and to the open SLEW entry, so
that spine time stays raw time plus the Tally; with no ring to move to, no first edge of a channel owed and no general frame waiting it touches nothing
but time, the output channels and their clamped bits. Before spine time runs there is no tick. With no frequency word, no ageing and no slew, a tick adds 2 ns to spine time and to raw time. A tick that meets an
uncorrectable error in the state of time sets the fatal cause ecc_time (R47). -/
def Obligations.SpineTicksKeepTheTally : Prop :=
  (∀ (s : State) (drift : Int), s.supplied = true →
    (s.tm.run = false → exec (.spineTick drift) s = .next s) ∧
    (s.tm.run = true → s.memx.timeEcc = true → ∃ t, exec (.spineTick drift) s = .next t ∧ t.rb SYS_FATAL_ecc_time = true) ∧
    (s.tm.run = true → s.active ≤ 1 → (∀ y, s.tm.relock = some y → y.1 ≤ 1) → s.now = s.raw + s.tm.total →
      ∃ t, exec (.spineTick drift) s = .next t ∧ t.now = t.raw + t.tm.total) ∧
    (s.tm.run = true → s.memx.timeEcc = false → s.active ≤ 1 → s.tm.relock = none → (∀ n, n < 36 → (s.out n).resumed = false) →
      (∀ n, n < 32 → (s.lane n).gens = []) → ∃ t, exec (.spineTick drift) s = .next t ∧
      t = { s with tm := t.tm, outs := t.outs, regs := t.regs } ∧
      (∀ (g : Fld) (n : Nat), (∀ k, k < 36 → g.key n ≠ OUTn_STATUS_clamped.key k) → t.rf g n = s.rf g n) ∧
      t.tm.closed = s.tm.closed ∧ t.tm.ring = s.tm.ring ∧ t.tm.freqStamp = s.tm.freqStamp ∧
      t.now - s.now = (t.raw - s.raw) + (t.tm.freqAmt - s.tm.freqAmt) + (t.tm.slewAmt - s.tm.slewAmt) ∧
      (s.now = s.raw + s.tm.total → t.now = t.raw + t.tm.total))) ∧
  (∀ (s t : State), s.supplied = true → s.tm.run = true → s.memx.timeEcc = false → s.active ≤ 1 → s.tm.relock = none →
    s.word = 0 → s.rs 48 SYN_AGEx_NOW_c 0 = 0 → s.rs 48 SYN_AGEx_NOW_c 1 = 0 →
    s.tm.slew = none → s.tm.dcoRes < 1000000000000 → s.tm.chains[0].age.tickRes < 1000000000000 →
    s.tm.chains[1].age.tickRes < 1000000000000 → step { s with pending := [.spineTick 0] } = .next t →
    t.now = s.now + 131072 ∧ t.raw = s.raw + 131072)

/-- R62, R67, R73, R42, R43, R44, R461: a snapshot shows spine time, raw time and the Tally of one tick; the drain copies the oldest Tally
entry to its place in the ring and moves HEAD; writes of TAIL and of the ring's place are taken within their limits, and left out else.
A readiness bit rises where its function is ready, with its event bit and its source; it falls where the function has gone; and it
stays where it already holds the value. -/
def Obligations.SnapshotsTallyDrainAndReadiness : Prop :=
  (∀ (s : State) (r : Req), s.supplied = true → exec (.snapshotRequest r) s = .next (s.wf SPN_SNAP_CTL_snap 1)) ∧
  (∀ s : State, s.supplied = true → s.rb SPN_SNAP_CTL_snap = true → s.isReady 2 = true →
    exec .snapshotLatch s = .next (((((s.wf SPN_SNAP_TIME_time (packTime s.now)).ws SPN_SNAP_RAW_raw s.raw).ws SPN_SNAP_TALLY_tally
      s.tm.total).wf SPN_SNAP_INFO_active s.active).wf SPN_SNAP_CTL_snap 0)) ∧
  (∀ s : State, s.supplied = true → s.rb SPN_SNAP_CTL_snap = false → exec .snapshotLatch s = .next s) ∧
  (∀ (s : State) (e : TEntry) (rest : List TEntry) (k : Nat), k = s.rf TLY_DRAIN_HEAD_head % 2 ^ s.rf TLY_DRAIN_SIZE_log2n →
    s.supplied = true → s.tm.ring = e :: rest → s.rb TLY_CTL_drain_en = true → 0 < (s.queue 392).c →
    s.rf TLY_DRAIN_SIZE_log2n ≤ 16 → Memory.wf s.mem = true →
    (s.rf TLY_DRAIN_HEAD_head + 1) % 2 ^ s.rf TLY_DRAIN_SIZE_log2n ≠ s.rf TLY_DRAIN_TAIL_tail % 2 ^ s.rf TLY_DRAIN_SIZE_log2n →
    s.rf TLY_DRAIN_BASE_base * 64 + 32 * k + 32 ≤ 0x800000 →
    s.bank (bankOf (0x800000 + (s.rf TLY_DRAIN_BASE_base * 64 + 32 * k))) = 0 →
    ∃ t, exec .tallyDrainCopy s = .next t ∧ t.tm.ring = rest ∧
      t.rf TLY_DRAIN_HEAD_head = (s.rf TLY_DRAIN_HEAD_head + 1) % 2 ^ s.rf TLY_DRAIN_SIZE_log2n ∧
      t.bytesAt (0x800000 + (s.rf TLY_DRAIN_BASE_base * 64 + 32 * k)) 32 = e.bytes ∧ t.now = s.now ∧
      (t.queue 392).c = (s.queue 392).c - 1) ∧
  (∀ (s : State) (r : Req) (v : BitVec 16), s.supplied = true → let n := s.rf TLY_DRAIN_SIZE_log2n
    (v.toNat < 2 ^ n → ringFill n v.toNat (s.rf TLY_DRAIN_TAIL_tail) ≤ ringFill n (s.rf TLY_DRAIN_HEAD_head) (s.rf TLY_DRAIN_TAIL_tail) →
      s.runsTo (.tlyDrainTailWrite r v) (s.wf TLY_DRAIN_TAIL_tail v.toNat)) ∧
    (2 ^ n ≤ v.toNat → s.runsTo (.tlyDrainTailWrite r v) s)) ∧
  (∀ (s : State) (r : Req) (v : BitVec 32), s.supplied = true →
    (8 ≤ v.toNat % 32 → v.toNat % 32 ≤ 16 → s.rf TLY_DRAIN_BASE_base * 64 + 32 * 2 ^ (v.toNat % 32) ≤ 0x800000 →
      s.runsTo (.tlyDrainRingWrite r true v) (s.wf TLY_DRAIN_SIZE_log2n (v.toNat % 32))) ∧
    (v.toNat / 64 % 2 ^ 17 * 64 + 32 * 2 ^ s.rf TLY_DRAIN_SIZE_log2n ≤ 0x800000 →
      exec (.tlyDrainRingWrite r false v) s = .next (s.wf TLY_DRAIN_BASE_base (v.toNat / 64 % 2 ^ 17))) ∧
    (0x800000 < v.toNat / 64 % 2 ^ 17 * 64 + 32 * 2 ^ s.rf TLY_DRAIN_SIZE_log2n → s.runsTo (.tlyDrainRingWrite r false v) s)) ∧
  (∀ (s : State) (b : Fin 16), s.supplied = true → s.canRise b.val = true → s.isReady b.val = false →
    ∃ t, exec (.readyBitChange b true) s = .next t ∧ t.isReady b.val = true ∧ t.rf (readyEvtFld b.val) 0 = 1 ∧
      t.bit32 SYS_IRQ_CAUSEw_cause (1 + b.val) = true) ∧
  (∀ (s : State) (b : Fin 16), s.supplied = true → s.canFall b.val = true → s.isReady b.val = true →
    ∃ t, exec (.readyBitChange b false) s = .next t ∧ t.isReady b.val = false ∧ t.rf (readyEvtFld b.val) 0 = 1 ∧
      (∀ c : Fin 16, c ≠ b → t.isReady c.val = s.isReady c.val)) ∧
  (∀ (s : State) (b : Fin 16), s.supplied = true → s.isReady b.val = true → exec (.readyBitChange b true) s = .next s) ∧
  (∀ (s : State) (b : Fin 16), s.supplied = true → s.isReady b.val = false → exec (.readyBitChange b false) s = .next s)

/-- R28, R72, R431, R58, R59, R61: a strobe that is due is recorded at its spine time, and a Tally that does not make up spine time less
raw time sets the fatal cause tally; a spine second loads the RTC. Away from their instants neither does anything. An entry that passes
the checks takes a free slot of the leap table with result 0, a pending entry can be cancelled, an entry whose E has been reached takes
effect, and the flags announce the earliest entry still to come. A slot without an entry gives result 6. -/
def Obligations.StrobesSecondsAndLeapTable : Prop :=
  (∀ (s : State) (sy : List (Fin 24 × BitVec 48)), s.supplied = true → (Instr.millisecondStrobe sy).wf = true → s.tm.run = true → s.tm.strobeFrom / uMs < s.now / uMs →
    ∃ t, exec (.millisecondStrobe sy) s = .next t ∧ t.now = s.now ∧ t.tm.lastStrobe = s.now ∧ t.tm.strobeFrom = s.now ∧
      (s.now - s.raw ≠ s.tm.total → t.rb SYS_FATAL_tally = true)) ∧
  (∀ (s : State) (sy : List (Fin 24 × BitVec 48)), s.supplied = true → ¬ (s.tm.run = true ∧ s.tm.strobeFrom / uMs < s.now / uMs) →
    exec (.millisecondStrobe sy) s = .next s) ∧
  (∀ s : State, s.supplied = true → s.tm.run = true → s.now = s.tm.lastStrobe → s.now % uSec < uMs →
    ∃ t, exec .spineSecond s = .next t ∧ t.tm.time = s.tm.time ∧
      (s.pwr.aon = true → t.pwr.rtc = rtcOf s.now ∧ t.pwr.rtcValid = true ∧ t.rb PWR_RESET_CAUSE_rtc_valid = true) ∧
      (s.pwr.aon = false → t.pwr = s.pwr)) ∧
  (∀ s : State, s.supplied = true → ¬ (s.tm.run = true ∧ s.now = s.tm.lastStrobe ∧ s.now % uSec < uMs) → exec .spineSecond s = .next s) ∧
  (∀ (s : State) (k j : Nat), s.supplied = true → s.leaps ≠ [] → secsOf s.now + 2 ≤ s.rf SPN_LEAP_STAGE_e → s.lastLeap = some j →
    s.rf SPN_LEAPn_e j < s.rf SPN_LEAP_STAGE_e →
    s.rf SPN_LEAP_STAGE_offset = s.rf SPN_LEAPn_offset j + 1 ∨ s.rf SPN_LEAP_STAGE_offset + 1 = s.rf SPN_LEAPn_offset j →
    ((s.rf SPN_LEAP_STAGE_e : Int) - s.rf SPN_LEAP_STAGE_offset) % 86400 = 0 → s.rf SPN_LEAP_STAGE_e < 2 ^ 48 →
    s.rf SPN_LEAP_STAGE_offset < 256 → (List.range 16).find? (fun k => !s.leapValid k) = some k →
    ∃ t, exec (.leapAdd .host) s = .next t ∧ t.rf SPN_LEAP_RESULT_result = 0 ∧ t.rf SPN_LEAP_RESULT_slot = k ∧ t.leapValid k = true ∧
      t.rf SPN_LEAPn_e k = s.rf SPN_LEAP_STAGE_e ∧ t.rf SPN_LEAPn_offset k = s.rf SPN_LEAP_STAGE_offset ∧ t.rf SPN_LEAPn_applied k = 0) ∧
  (∀ (s : State) (k : Fin 16), s.supplied = true → s.leapValid k.val = true → s.rb SPN_LEAPn_applied k.val = false → secsOf s.now + 2 ≤ s.rf SPN_LEAPn_e k.val →
    ∃ t, exec (.leapCancel .host k) s = .next t ∧ t.leapValid k.val = false ∧ t.rf SPN_LEAP_RESULT_result = 0 ∧
      ∀ j : Fin 16, j ≠ k → t.leapValid j.val = s.leapValid j.val) ∧
  (∀ (s : State) (k : Fin 16), s.supplied = true → s.leapValid k.val = false → s.runsTo (.leapCancel .host k) (s.wf SPN_LEAP_RESULT_result 6)) ∧
  (∀ (s : State) (n : Nat), s.supplied = true → s.nextLeap = some n → (s.rf SPN_LEAPn_e n : Int) ≤ secsOf s.now →
    ∃ t, exec .leapApply s = .next t ∧ t.rb SPN_LEAPn_applied n = true ∧ t.rb SPN_UTC_STATUS_valid = true ∧
      t.rf SPN_UTC_STATUS_offset = t.utcOffset % 256) ∧
  (∀ (s : State) (n : Nat) (i : Instr), s.supplied = true → i = .leapWarningStart ∨ i = .leapSecondStart → s.nextLeap = some n →
    s.rf SPN_LEAPn_offset n = s.utcOffset + 1 →
    ∃ t, exec i s = .next t ∧ t.rb SPN_UTC_STATUS_leap59 = false ∧
      (t.rb SPN_UTC_STATUS_leap61 = true ↔ (s.rf SPN_LEAPn_e n : Int) - 86401 ≤ secsOf s.now ∧ secsOf s.now ≤ s.rf SPN_LEAPn_e n - 1) ∧
      (t.rb SPN_UTC_STATUS_in_leap = true ↔ secsOf s.now = s.rf SPN_LEAPn_e n - 1) ∧ t = { s with regs := t.regs })

/-! ## Journal, crossings, interrupts, leap seconds -/

/-- R76, R78, R79, R82, R84, R80 to R84: a journal event reaches the stream of its domain with its stamp, source, code, payload and sequence number, and
flags.refined where its stamp is a refined one, behind every entry stamped at or before it; where the stream has no credit it waits in the output register, and where one waits there it is counted as
overflowed; a sequence number is consumed either way. A host push is such an event of
source 0xFF00 with flags.firmware, and only the host can make it. The merger writes the next entry of the streams whose stamp the
watermarks have passed, and counts it as dropped when the Gradebook is full; the DMA copy posts the oldest entry to its place in the
host's ring; a write of TAIL within the fill is taken; an entry that waited longer than JNL_THRESH.wait asserts JNL_DRAIN. -/
def Obligations.JournalAndGradebook : Prop :=
  (∀ (s : State) (d : Fin 44) (src code : BitVec 16) (v : BitVec 64) (r : Option Int) (z : Int), s.supplied = true → z = r.getD (s.domNow d.val) →
    (s.domValid d.val = true → 0 < (s.queue (348 + d.val)).c → d.val ∉ s.jnl.strOvf →
      ∃ t, exec (.journalStreamPush d src code v r) s = .next t ∧
        t.queue (348 + d.val) = (s.queue (348 + d.val)).pushOrdered ⟨z, .entry
          ⟨z, code.toNat, src.toNat, d.val, if r.isSome then 4 else 0, v.toNat, tabGet 0 src.toNat s.jnl.seqs⟩⟩ ∧
        ((∀ y ∈ (s.queue (348 + d.val)).items, y.stamp ≤ z) → t.stream d.val = s.stream d.val ++
          [⟨z, code.toNat, src.toNat, d.val, if r.isSome then 4 else 0, v.toNat, tabGet 0 src.toNat s.jnl.seqs⟩]) ∧
        (t.queue (348 + d.val)).c = (s.queue (348 + d.val)).c - 1 ∧
        (∀ i, i ≠ 348 + d.val → t.queue i = s.queue i) ∧ t.regs = s.regs ∧ t.jnl.book = s.jnl.book ∧
        tabGet 0 src.toNat t.jnl.seqs = (tabGet 0 src.toNat s.jnl.seqs + 1) % 2 ^ 32) ∧
    (s.domValid d.val = true → (s.queue (348 + d.val)).c = 0 → (s.queue (348 + d.val)).out = none → d.val ∉ s.jnl.strOvf →
      ∃ t, exec (.journalStreamPush d src code v r) s = .next t ∧ t.regs = s.regs ∧
        t.queue (348 + d.val) = { s.queue (348 + d.val) with out := some ⟨z, .entry
          ⟨z, code.toNat, src.toNat, d.val, if r.isSome then 4 else 0, v.toNat, tabGet 0 src.toNat s.jnl.seqs⟩⟩ }) ∧
    ((s.queue (348 + d.val)).c = 0 → (s.queue (348 + d.val)).out ≠ none → ∃ t, exec (.journalStreamPush d src code v r) s = .next t ∧ t.queues = s.queues ∧
      t.regs = (s.inc JNL_OVFn_count d.val).regs ∧ d.val ∈ t.jnl.strOvf ∧
      tabGet 0 src.toNat t.jnl.seqs = (tabGet 0 src.toNat s.jnl.seqs + 1) % 2 ^ 32)) ∧
  (∀ s : State, s.supplied = true → s.domValid 40 = true → 0 < (s.queue 388).c → 40 ∉ s.jnl.strOvf →
    ∃ t, exec (.jnlHostPush .host) s = .next t ∧ t.queue 388 = (s.queue 388).pushOrdered ⟨s.domNow 40, .entry
      ⟨s.domNow 40, 0xFF00 + s.rf JNL_HOST_CODE_code, 0xFF00, 40, 8, s.rf JNL_HOST_PAYLOAD_payload % 2 ^ 64, tabGet 0 0xFF00 s.jnl.seqs⟩⟩) ∧
  (∀ (s : State) (f : Fin 16), s.supplied = true → exec (.jnlHostPush (.frond f)) s = .next (s.inc SYS_FW_WRITE_IGNORED_count)) ∧
  (∀ (s : State) (d : Nat) (e : JEntry) (w : Int), s.supplied = true → s.mergeNext = some (d, e) → s.lowWatermark = some w → e.stamp ≤ w → s.jnl.dropped = 0 →
    (s.jnl.book.length < 32768 → ∃ t fl, exec .gradebookMergeWrite s = .next t ∧ t.jnl.book = s.jnl.book ++ [⟨{ e with flags := fl }, s.now⟩] ∧
      (s.concurrent d e.stamp = true → fl % 2 = 1) ∧ t.rf JNL_FILL_fill = s.jnl.book.length + 1 ∧ t.jnl.dropped = 0) ∧
    (32768 ≤ s.jnl.book.length → ∃ t, exec .gradebookMergeWrite s = .next t ∧ t.jnl.book = s.jnl.book ∧ t.jnl.dropped = 1)) ∧
  (∀ (s : State) (w : Int) (d : Nat) (e : JEntry), s.supplied = true → s.mergeNext = some (d, e) → s.lowWatermark = some w → w < e.stamp →
    exec .gradebookMergeWrite s = .next s) ∧
  (∀ (s : State) (b : BookEntry) (rest : List BookEntry), s.supplied = true → s.jnl.book = b :: rest → s.rb JNL_CTL_dma_en = true → s.pcie.bme = true →
    s.pdOn 19 = true → s.rf JNL_DMA_SIZE_log2n ≤ 20 →
    (s.rf JNL_DMA_HEAD_head + 1) % 2 ^ s.rf JNL_DMA_SIZE_log2n ≠ s.rf JNL_DMA_TAIL_tail % 2 ^ s.rf JNL_DMA_SIZE_log2n →
    ∃ t, exec .gradebookDmaCopy s = .next t ∧ t.jnl.book = rest ∧
      t.pcie.posted = some (s.rf JNL_DMA_BASE_base / 64 * 64 + 32 * (s.rf JNL_DMA_HEAD_head % 2 ^ s.rf JNL_DMA_SIZE_log2n), b.entry.bytes) ∧
      t.rf JNL_DMA_HEAD_head = (s.rf JNL_DMA_HEAD_head + 1) % 2 ^ s.rf JNL_DMA_SIZE_log2n ∧ t.mem = s.mem ∧
      (t.queue 499).items = (s.queue 499).items ∧ ∀ i, (i < 348 ∨ 392 ≤ i) → i ≠ 499 → t.queue i = s.queue i) ∧
  (∀ (s : State) (r : Req) (v : BitVec 20), s.supplied = true → v.toNat < 2 ^ s.rf JNL_DMA_SIZE_log2n →
    ringFill (s.rf JNL_DMA_SIZE_log2n) v.toNat (s.rf JNL_DMA_TAIL_tail) ≤
      ringFill (s.rf JNL_DMA_SIZE_log2n) (s.rf JNL_DMA_HEAD_head) (s.rf JNL_DMA_TAIL_tail) →
    exec (.jnlDmaTailWrite r v) s = .next (s.wf JNL_DMA_TAIL_tail v.toNat)) ∧
  (∀ (s : State) (b : BookEntry) (rest : List BookEntry), s.supplied = true → s.jnl.book = b :: rest →
    s.now - b.since > (s.rf JNL_THRESH_wait : Int) * uUs →
    ∃ t, exec .jnlDrainWaitExpire s = .next t ∧ s.ToldFrom t ∧ t.bit32 SYS_IRQ_CAUSEw_cause 18 = true)

/-- R33 to R36, R38, R39, R41, R133, R462, R463: an entry of a queue becomes visible in order, a credit return adds one credit to the
sender, and both keep the count of R36: credits, entries held and returns on their way make up the queue's depth. A source that asserts
sets its CAUSE bit, its PEND bit where its route is enabled, and its line in every Frond of its mask; a message goes to the address and
with the data of its vector and clears the vector's PEND bits; a disabled route clears the PEND bit, source 0 keeps its route, and a
task-mode Frond's write is ignored. -/
def Obligations.CreditsAndInterruptSources : Prop :=
  (∀ (s : State) (i : Fin 1792), s.supplied = true →
    ((s.queue i.val).vis < (s.queue i.val).items.length → i.val < 256 ∨ 272 ≤ i.val →
      exec (.queueEntryVisible i) s = .next (s.setQueue i.val { s.queue i.val with vis := (s.queue i.val).vis + 1 })) ∧
    ((s.queue i.val).vis = (s.queue i.val).items.length → exec (.queueEntryVisible i) s = .next s) ∧
    ((s.queue i.val).a ≠ (s.queue i.val).q → (s.queue i.val).out = none →
      ∃ t, exec (.creditReturn i) s = .next t ∧ (t.queue i.val).c = (s.queue i.val).c + 1 ∧
        (t.queue i.val).a = ((s.queue i.val).a + 1) % 2 ^ 32 ∧ (t.queue i.val).items = (s.queue i.val).items ∧
        ∀ j, j ≠ i.val → t.queue j = s.queue j) ∧
    ((s.queue i.val).q < 2 ^ 32 → (s.queue i.val).a < 2 ^ 32 → (s.queue i.val).conserves (qDepth i.val) →
      ∀ c t, c = Instr.queueEntryVisible i ∨ c = .creditReturn i → exec c s = .next t → (t.queue i.val).conserves (qDepth i.val))) ∧
  (∀ (s : State) (n : Fin 512) (z : Int), s.supplied = true → srcListed n.val = true →
    ∃ t, exec (.interruptSourceAssert n z) s = .next t ∧ s.ToldFrom t ∧ t.bit32 SYS_IRQ_CAUSEw_cause n.val = true ∧
      (s.irqEn n.val = true → t.bit32 SYS_IRQ_PENDw_pend n.val = true) ∧
      (s.irqEn n.val = false → t.bit32 SYS_IRQ_PENDw_pend n.val = s.bit32 SYS_IRQ_PENDw_pend n.val) ∧
      (∀ (f : Fin 16) (l : Fin 64), bitOf (s.rf FRD_EVT_ROUTEn_mask n.val) f.val = true → s.rf FRD_EVT_ROUTEn_line n.val = l.val →
        l ≠ 63 → ¬ (f = 0 ∧ l = 0) → (t.frond f).evtPend.getLsbD l.val = true)) ∧
  (∀ (s : State) (n : Fin 512) (z : Int), s.supplied = true → srcListed n.val = false → exec (.interruptSourceAssert n z) s = .next s) ∧
  (∀ (s : State) (v : Fin 64), s.supplied = true → s.vecPending v.val = true → s.pcie.msixEn = true → s.pcie.fmask = false → s.rb MSIX_ENTRY_mask v.val = false →
    s.pcie.bme = true → s.pdOn 19 = true →
    ∃ t, exec (.msixMessageSend v) s = .next t ∧ t.pcie.posted = some (s.rf MSIX_ENTRY_addr v.val, leBytes 4 (s.rf MSIX_ENTRY_data v.val)) ∧
      ∀ n, n < 512 → t.bit32 SYS_IRQ_PENDw_pend n = (s.bit32 SYS_IRQ_PENDw_pend n && !decide (s.irqVec n = v.val))) ∧
  (∀ (s : State) (v : Fin 64), s.supplied = true → s.pcie.bme = false ∨ s.rb MSIX_ENTRY_mask v.val = true → exec (.msixMessageSend v) s = .next s) ∧
  (∀ (s : State) (n : Fin 512) (v : BitVec 32), s.supplied = true → n ≠ 0 → srcListed n.val = true →
    (v.toNat.testBit 6 = true → exec (.irqRouteWrite .host n v) s =
      .next ((s.wf SYS_IRQ_ROUTEn_vector (v.toNat % 64) n.val).wf SYS_IRQ_ROUTEn_en 1 n.val)) ∧
    (v.toNat.testBit 6 = false → ∃ t, exec (.irqRouteWrite .host n v) s = .next t ∧ t.rf SYS_IRQ_ROUTEn_vector n.val = v.toNat % 64 ∧
      t.rf SYS_IRQ_ROUTEn_en n.val = 0 ∧ t.bit32 SYS_IRQ_PENDw_pend n.val = false)) ∧
  (∀ (s : State) (v : BitVec 32), s.supplied = true → exec (.irqRouteWrite .host 0 v) s = .next s) ∧
  (∀ (s : State) (f : Fin 16) (n : Fin 512) (v : BitVec 32), s.supplied = true → f ≠ 0 ∨ (s.frond f).mode = false →
    exec (.irqRouteWrite (.frond f) n v) s = .next (s.inc SYS_FW_WRITE_IGNORED_count))

/-! ## Chains, outputs and ports -/

/-- R155, R156, R161, R159, R160, R162, R163: an unlocked enabled chain with setting AUTO or a code shows the code of an input within 1,000
ppm of it and searches; it locks with its readiness bit, and as the first lock it becomes the active one; while the other carries spine
time its raw time starts with the measured relation, under 5 ps, and spine time stays; a lock with no other chain locked moves the timebase at the
next tick (R52). The loss of the active chain fails over to the
other one at one tick: spine time does not move, the SWITCH entry takes up the difference of the raw times, and the failover is
counted; the loss of the last one is the fatal cause clock. A commanded switch needs the other chain locked, no reserve and 1 ms since
the last switch, and a revert needs its conditions. A departure beyond the window with both chains locked sets xdispute, which clears
after 1 s within it; a write of a chain's setting is stored, and takes a locked chain out of lock where it changes; an ageing commit
waits for the strobe; the trim moves toward its target by at most its rate each second, not sooner, and rests at mid-scale when off. -/
def Obligations.ChainsLockSwitchAndAreSupervised : Prop :=
  (∀ (s : State) (c : Fin 2) (hz k : Nat), s.supplied = true → k < 6 → s.locked c.val = false → s.rb SYN_OSC_CFG_en c.val = true → s.rf SYN_OSC_CFG_freq c.val = k →
    (((hz : Int) - (oscFreqs.getD k 0 : Nat)).natAbs * 1000 ≤ oscFreqs.getD k 0 →
      exec (.oscFreqDetect c hz) s = .next ((s.wf (detFld c.val) k).wf (searchFld c.val) 1)) ∧
    (oscFreqs.getD k 0 < ((hz : Int) - (oscFreqs.getD k 0 : Nat)).natAbs * 1000 →
      exec (.oscFreqDetect c hz) s = .next ((s.wf (detFld c.val) 7).wf (searchFld c.val) 0))) ∧
  (∀ (s : State) (c : Fin 2) (hz : Nat), s.supplied = true → s.locked c.val = true → exec (.oscFreqDetect c hz) s = .next s) ∧
  (∀ (s : State) (c : Fin 2) (ofs hit : Int), s.supplied = true → s.live = true → s.locked c.val = false → s.rf (detFld c.val) ≠ 7 → s.rb SYN_OSC_CFG_en c.val = true →
    s.rf SYN_OSC_CFG_freq c.val ≠ 6 →
    ∃ t, exec (.chainLock c ofs hit) s = .next t ∧ t.locked c.val = true ∧ t.isReady c.val = true ∧ t.rb (searchFld c.val) = false ∧ t.now = s.now ∧
      (s.tm.run = false → s.locked (1 - c.val) = false → t.active = c.val) ∧
      (s.tm.run = true → s.locked (1 - c.val) = true → t.active = s.active ∧ t.tm.rawOf c.val = s.raw + max (-327) (min 327 ofs)) ∧
      (s.tm.run = true → s.locked (1 - c.val) = false → t.active = s.active ∧ t.tm.relock = some (c.val, max (-327) (min 327 ofs), hit))) ∧
  (∀ (s : State) (drift d hit : Int) (c : Nat), s.supplied = true → s.tm.run = true → s.memx.timeEcc = false → s.active ≤ 1 → c ≤ 1 →
    s.tm.relock = some (c, d, hit) → ∃ t, exec (.spineTick drift) s = .next t ∧ t.active = c ∧ t.tm.relock = none ∧
      t.rf SYN_FAILOVERS_count = (s.rf SYN_FAILOVERS_count + 1) % 2 ^ 64) ∧
  (∀ (s : State) (c : Fin 2) (m : Bool) (hit : Int), s.supplied = true → s.locked c.val = true → s.active = c.val → s.locked (1 - c.val) = true → s.tm.run = true →
    ∃ t, exec (.chainLost c m hit) s = .next t ∧ t.locked c.val = false ∧ t.isReady c.val = false ∧ t.active = 1 - c.val ∧ t.now = s.now ∧
      t.rf SYN_FAILOVERS_count = (s.rf SYN_FAILOVERS_count + 1) % 2 ^ 64 ∧ (s.now = s.raw + s.tm.total → t.now = t.raw + t.tm.total)) ∧
  (∀ (s : State) (c : Fin 2) (m : Bool) (hit : Int), s.supplied = true → s.locked c.val = true → s.locked (1 - c.val) = false →
    ∃ t, exec (.chainLost c m hit) s = .next t ∧ t.locked c.val = false ∧ t.rb SYS_FATAL_clock = true ∧ t.now = s.now) ∧
  (∀ (s : State) (r : Req) (hit : Int), s.supplied = true → s.active ≤ 1 →
    (s.locked (1 - s.active) = false → exec (.synSwitch r hit) s = .next (s.wf SYN_RESULT_result 1)) ∧
    (s.locked (1 - s.active) = true → s.rb TLY_RING_FILL_reserve = true → exec (.synSwitch r hit) s = .next (s.wf SYN_RESULT_result 2)) ∧
    (s.locked (1 - s.active) = true → s.rb TLY_RING_FILL_reserve = false → (∀ z, s.tm.lastSwitch = some z → z + uMs ≤ s.now) →
      ∃ t, exec (.synSwitch r hit) s = .next t ∧ t.active = 1 - s.active ∧ t.now = s.now ∧ t.rf SYN_RESULT_result = 0 ∧
        (s.now = s.raw + s.tm.total → t.now = t.raw + t.tm.total))) ∧
  (∀ (s : State) (hit : Int), s.supplied = true → s.rb SYN_CTL_revert = true → s.rf SYN_CTL_prefer ≤ 1 → s.active ≤ 1 → s.rf SYN_CTL_prefer ≠ s.active →
    s.locked 0 = true → s.locked 1 = true → s.rb TLY_RING_FILL_reserve = false → (∀ z, s.tm.lastSwitch = some z → z + uMs ≤ s.now) →
    (s.chain (s.rf SYN_CTL_prefer)).lockedAt + (s.rf SYN_RESTORE_WAIT_secs : Int) * uSec ≤ s.now →
    ∃ t, exec (.timebaseRevert hit) s = .next t ∧ t.active = s.rf SYN_CTL_prefer ∧ t.now = s.now) ∧
  (∀ (s : State) (hit : Int), s.supplied = true → s.rb SYN_CTL_revert = false → exec (.timebaseRevert hit) s = .next s) ∧
  (∀ (s : State) (dep : Int), s.supplied = true → s.locked 0 = true → s.locked 1 = true → s.xmonWin * 8192 < dep.natAbs * 8000 → s.rb SYN_STATUS_xdispute = false →
    s.runsTo (.crossMonitorTrip dep) ((s.setTm { s.tm with xOutAt := s.now }).wf SYN_STATUS_xdispute 1)) ∧
  (∀ (s : State) (dep : Int), s.supplied = true → dep.natAbs * 8000 ≤ s.xmonWin * 8192 → exec (.crossMonitorTrip dep) s = .next s) ∧
  (∀ s : State, s.supplied = true → s.rb SYN_STATUS_xdispute = true → s.tm.xOutAt + uSec ≤ s.now → exec .xdisputeClear s = .next (s.wf SYN_STATUS_xdispute 0)) ∧
  (∀ s : State, s.supplied = true → s.now < s.tm.xOutAt + uSec → exec .xdisputeClear s = .next s) ∧
  (∀ (s : State) (r : Req) (c : Fin 2) (v : BitVec 32) (hit : Int), s.supplied = true →
    (v.toNat % 8 = s.rf SYN_OSC_CFG_freq c.val → v.toNat / 8 % 2 = s.rf SYN_OSC_CFG_en c.val →
      exec (.synOscConfigWrite r c v hit) s =
        .next ((s.wf SYN_OSC_CFG_freq (v.toNat % 8) c.val).wf SYN_OSC_CFG_en (v.toNat / 8 % 2) c.val)) ∧
    (s.locked c.val = false → v.toNat % 8 ≠ s.rf SYN_OSC_CFG_freq c.val ∨ v.toNat / 8 % 2 ≠ s.rf SYN_OSC_CFG_en c.val →
      exec (.synOscConfigWrite r c v hit) s = .next ((((s.wf SYN_OSC_CFG_freq (v.toNat % 8) c.val).wf SYN_OSC_CFG_en
        (v.toNat / 8 % 2) c.val).wf (detFld c.val) 7).wf (searchFld c.val) 0)) ∧
    (s.locked c.val = true → v.toNat % 8 ≠ s.rf SYN_OSC_CFG_freq c.val →
      ∃ t, exec (.synOscConfigWrite r c v hit) s = .next t ∧ t.locked c.val = false ∧ t.rf SYN_OSC_CFG_freq c.val = v.toNat % 8)) ∧
  (∀ (s : State) (r : Req) (c : Fin 2), s.supplied = true → ∃ t, exec (.synAgeingCommit r c) s = .next t ∧ (t.chain c.val).age.commit = true ∧
    t = { s with tm := { s.tm with chains := s.tm.chains.set c.val (t.chain c.val) } } ∧ (t.chain c.val).raw = (s.chain c.val).raw) ∧
  (∀ (s : State) (z : Int), s.supplied = true → s.rf SYN_TUNE_CTL_mode = 1 → s.tm.tuneAt = some z → s.raw < z + uSec → exec .tuneCodeStep s = .next s) ∧
  (∀ s : State, s.supplied = true → s.rf SYN_TUNE_CTL_mode = 1 → ¬ (s.mode = 3 ∧ s.active = 0) → s.rf SYN_TUNE_NOW_code < 2 ^ 24 → s.rf SYN_TUNE_CODE_target < 2 ^ 24 →
    (∀ z, s.tm.tuneAt = some z → z + uSec ≤ s.raw) →
    ∃ t, exec .tuneCodeStep s = .next t ∧ t.now = s.now ∧ t.raw = s.raw ∧
      (t.rf SYN_TUNE_NOW_code ≠ s.rf SYN_TUNE_NOW_code → t.tm.tuneAt = some s.raw) ∧ t.rf SYN_TUNE_NOW_code =
      (if s.rf SYN_TUNE_NOW_code ≤ s.rf SYN_TUNE_CODE_target then min (s.rf SYN_TUNE_CODE_target) (s.rf SYN_TUNE_NOW_code + s.rf SYN_TUNE_SLEW_rate)
       else max (s.rf SYN_TUNE_CODE_target) (s.rf SYN_TUNE_NOW_code - s.rf SYN_TUNE_SLEW_rate))) ∧
  (∀ s : State, s.supplied = true → s.rf SYN_TUNE_CTL_mode = 0 → exec .tuneCodeStep s = .next (s.wf SYN_TUNE_NOW_code 0x800000))

/-- R164, R167, R168, R169, R172: an output that is enabled on a locked ring waits for its sync boundary and runs from it, or is parked while its plan is
refused; a change within the glide limit glides and ends in RUN, a finished band search goes on to WAIT_SYNC, a disabled output is OFF and low from its
next falling edge; the oldest SYNC edge that
the port's unit has handed over is taken and sets the origin of the sync grid of every channel that is enabled for its port. -/
def Obligations.OutputChannelsRun : Prop :=
  (∀ (s : State) (r : Req) (n : Fin 32) (v : BitVec 32), s.supplied = true → s.outState n.val = 0 → v.toNat % 2 = 1 → v.toNat / 4 % 8 = s.rf OUTn_CTL_mult n.val →
    s.locked s.active = true → s.pdOn (15 + n.val / 8) = true →
    (s.planBad n.val = false → ∃ t, exec (.outEnableWrite r (n.castLE (by decide)) v) s = .next t ∧ t.outState n.val = 1 ∧
      t.rb OUTn_CTL_en n.val = true ∧ t.rf OUTn_CTL_track n.val = v.toNat / 2 % 2 ∧ t.queues = s.queues ∧ t.tm = s.tm) ∧
    (s.planBad n.val = true → ∃ t, exec (.outEnableWrite r (n.castLE (by decide)) v) s = .next t ∧ t.outState n.val = 4 ∧
      t.rb OUTn_STATUS_plan_err n.val = true ∧ t.rf OUTn_SQUELCH_count n.val = (s.rf OUTn_SQUELCH_count n.val + 1) % 2 ^ 64)) ∧
  (∀ (s : State) (r : Req) (n : Fin 32) (v : BitVec 32), s.supplied = true → v.toNat % 2 = 0 →
    ∃ t, exec (.outEnableWrite r (n.castLE (by decide)) v) s = .next t ∧ t.outState n.val = 0 ∧ t.rb OUTn_CTL_en n.val = false ∧
      ∀ lead, t.outHigh n.val lead = decide (t.now + lead < (t.out n.val).lastFall)) ∧
  (∀ (s : State) (r : Req) (n : Fin 32) (v : BitVec 64), s.supplied = true → s.outState n.val = 0 → ∃ t, exec (.outFreqChange r (n.castLE (by decide)) (.inc v)) s = .next t ∧
    t.rf OUTn_INC_inc n.val = v.toNat ∧ t.outs = s.outs ∧ (t.rb OUTn_STATUS_plan_err n.val = true ↔ t.planBad n.val = true) ∧
    (s.rf OUTn_CTL_mult n.val = 0 → (t.rb OUTn_STATUS_plan_err n.val = true ↔ 2 ^ 62 < v.toNat))) ∧
  (∀ (s : State) (r : Req) (n : Fin 4) (v : BitVec 48), s.supplied = true → s.outState (32 + n.val) = 2 →
    ∃ t, exec (.outFreqChange r (Fin.natAdd 32 n) (.freq v)) s = .next t ∧ t.rf OUTn_FREQ_w (32 + n.val) = v.toNat ∧
      (t.outState (32 + n.val) = 2 ↔ t.outTarget (32 + n.val) = (s.out (32 + n.val)).cur) ∧
      (t.outState (32 + n.val) = 3 ↔ t.outTarget (32 + n.val) ≠ (s.out (32 + n.val)).cur)) ∧
  (∀ (s : State) (n : Fin 36), s.supplied = true → s.outState n.val = 3 → (s.out n.val).cur = s.outTarget n.val →
    exec (.glideTargetReached n) s = .next (s.wf OUTn_STATUS_state 2 n.val)) ∧
  (∀ (s : State) (n : Fin 36), s.supplied = true → s.outState n.val = 3 → (s.out n.val).cur ≠ s.outTarget n.val → exec (.glideTargetReached n) s = .next s) ∧
  (∀ (s : State) (n : Fin 36), s.supplied = true → s.outState n.val = 5 → ∃ t, exec (.outMdllSearchDone n) s = .next t ∧ t.outState n.val = 1 ∧
    (s.rf OUTn_CTL_mult n.val ≠ 0 → (t.out n.val).mdll = ((s.rf OUTn_CTL_mult n.val + 1 : Nat) : Int) * s.outTarget n.val)) ∧
  (∀ (s : State) (n : Fin 36), s.supplied = true → s.outState n.val = 1 → s.tm.run = true → s.outNextB n.val ≤ s.now →
    (s.out n.val).lastFall + s.outPeriod n.val / 2 ≤ s.outNextB n.val →
    ∃ t, exec (.outSyncBoundary n) s = .next t ∧ t.outState n.val = 2 ∧ (t.out n.val).cur = s.outTarget n.val ∧
      (t.rb OUTn_STATUS_aligned n.val = true ↔ s.rf OUTn_CYC_cyc n.val ≠ 0)) ∧
  (∀ (s : State) (n : Fin 32) (port : Fin 32) (e : Int) (rest : List Int), s.supplied = true → s.rf TIOn_CFG_func port.val = 6 →
    (s.tio port.val).syncEdges = e :: rest → s.rb OUTn_CTL_sync_en n.val = true → s.rf OUTn_CTL_sync_port n.val = port.val →
    (s.out n.val).lastSync = none →
    ∃ t, exec (.syncEdge port) s = .next t ∧ (t.tio port.val).syncEdges = rest ∧ (t.out n.val).lastSync = some e ∧
      (t.out n.val).origin = e + psToUnits (s.rs 32 OUTn_SYNC_DELAY_delay n.val)) ∧
  (∀ (s : State) (port : Fin 32), s.supplied = true → (s.tio port.val).syncEdges = [] → exec (.syncEdge port) s = .next s)

/-- R45, R173 to R179: writes of a port's registers take effect, and a port that leaves EDGE discards and counts its edges; once the outputs are ready,
a Bell pulse starts at its boundary, its command the pad and board delays earlier, and lasts its width, and one that would follow within half a period is
skipped and counted; the first edge of an alignment input aligns the Bell, and so does one within the window of its prediction, while one before that
window is ignored and counted; a supply level is that of all ports of its group. An edge is taken 20 ns or more ahead and placed at its time, else it is
counted as late; a ToD message starts after its pulse, a received character becomes one item of its queue; loop-back calibration claims the port's unit
and its 1,024 measurements end with a mean delay of 200 to 3,000 ps or without a valid one. -/
def Obligations.BellsEdgesAndPorts : Prop :=
  (∀ (s : State) (n : Fin 32) (b : Int), s.supplied = true → s.tioFunc n.val = 2 → s.pdOn (tioDom n.val) = true → s.tm.run = true → s.isReady 3 = true →
    (s.tio n.val).alignAt = none → s.bellDue n.val = some b →
    (s.now < b - s.tioLead n.val → ∃ t, exec (.bellPulse n) s = .next t ∧ t.regs = s.regs ∧ (t.tio n.val).bellAt = (s.tio n.val).bellAt) ∧
    (b - s.tioLead n.val ≤ s.now → (∀ z, (s.tio n.val).bellRaw = some z → s.bellPeriod n.val ≤ 2 * (s.raw + (b - s.now) - z)) →
      ∃ t, exec (.bellPulse n) s = .next t ∧ (t.tio n.val).bellAt = some b ∧ (t.tio n.val).bellHigh = some (b + s.bellWidth n.val) ∧
      (t.tio n.val).cmdAt = some (b - s.tioLead n.val) ∧ (t.tio n.val).bellRaw = some (s.raw + (b - s.now)) ∧
      t.regs = s.regs ∧ ∀ m : Fin 32, m ≠ n → t.tio m.val = s.tio m.val) ∧
    (∀ z, b - s.tioLead n.val ≤ s.now → (s.tio n.val).bellRaw = some z → 2 * (s.raw + (b - s.now) - z) < s.bellPeriod n.val →
      ∃ t, exec (.bellPulse n) s = .next t ∧
      t.rf TIOn_BELL_SKIP_count n.val = (s.rf TIOn_BELL_SKIP_count n.val + 1) % 2 ^ 64 ∧ (t.tio n.val).bellAt = (s.tio n.val).bellAt)) ∧
  (∀ (s : State) (r : Req) (n : Fin 32) (v : BitVec 32), s.supplied = true →
    exec (.bellConfigWrite r n .width v) s = .next (s.wf TIOn_BELL_WIDTH_ns (v.toNat % 2 ^ 30) n.val) ∧
    (∃ t, exec (.bellConfigWrite r n .period v) s = .next t ∧ t.regs = (s.wf TIOn_BELL_PERIOD_ms (v.toNat % 65536) n.val).regs ∧
      (t.tio n.val).bellFrom = s.now) ∧
    (∃ t, exec (.bellConfigWrite r n .ofs v) s = .next t ∧ t.regs = (s.wf TIOn_BELL_OFS_ofs v.toNat n.val).regs) ∧
    (∃ t, exec (.bellConfigWrite r n .align v) s = .next t ∧ t.rf TIOn_BELL_ALIGN_src n.val = v.toNat % 2 ∧
      t.rf TIOn_BELL_ALIGN_port n.val = v.toNat / 2 % 32 ∧ t.rb TIOn_STATUS_bell_aligned n.val = false ∧ (t.tio n.val).alignAt = none)) ∧
  (∀ (s : State) (n : Fin 32), s.supplied = true → (s.tio n.val).alignEdges = [] → exec (.bellAlignInputEdge n) s = .next s) ∧
  (∀ (s : State) (n : Fin 32) (e : Int) (rest : List Int), s.supplied = true → s.tioFunc n.val = 2 → s.rb TIOn_BELL_ALIGN_src n.val = true →
    (s.tio n.val).alignEdges = e :: rest →
    ((s.tio n.val).alignAt = none → ∃ t, exec (.bellAlignInputEdge n) s = .next t ∧ (t.tio n.val).alignAt = some e ∧
      t.rb TIOn_STATUS_bell_aligned n.val = true) ∧
    (∀ a, (s.tio n.val).alignAt = some a →
      ((e - (a + s.bellPeriod n.val)).natAbs * 125 ≤ s.rf TIOn_BELL_ALIGN_window n.val * 81920 → ∃ t,
        exec (.bellAlignInputEdge n) s = .next t ∧ (t.tio n.val).alignAt = some e ∧ t.rb TIOn_STATUS_bell_aligned n.val = true) ∧
      ((s.rf TIOn_BELL_ALIGN_window n.val : Int) * 81920 < (a + s.bellPeriod n.val - e) * 125 → ∃ t,
        exec (.bellAlignInputEdge n) s = .next t ∧ (t.tio n.val).alignAt = some a ∧
        t.rf TIOn_ALIGN_IGNORED_count n.val = (s.rf TIOn_ALIGN_IGNORED_count n.val + 1) % 2 ^ 64))) ∧
  (∀ (s : State) (r : Req) (n : Fin 32) (v : BitVec 32), s.supplied = true → ∃ t, exec (.tioCfgWrite r n v) s = .next t ∧ t.rf TIOn_CFG_func n.val = v.toNat % 16 ∧
    t.rf TIOn_CFG_chan n.val = v.toNat / 16 % 32 ∧ t.rf TIOn_CFG_std n.val = v.toNat / 2 ^ 9 % 8 ∧
    (s.tioFunc n.val = 3 → v.toNat % 16 ≠ 3 → (t.queue (312 + n.val)).items = [] ∧ (t.tio n.val).taken = none ∧
      t.rf TIOn_EDGE_LATE_count n.val = (s.rf TIOn_EDGE_LATE_count n.val + ((s.queue (312 + n.val)).items.length +
        (if (s.tio n.val).taken.isSome then 1 else 0))) % 2 ^ 64)) ∧
  (∀ (s : State) (g : Fin 4) (level : BitVec 2), s.supplied = true → s.rf TIO_VDDO_level < 256 → ∃ t, exec (.tioVddoChange g level) s = .next t ∧
    (∀ n : Fin 32, n.val / 8 = g.val → t.tioVddo n.val = level.toNat) ∧ (∀ n : Fin 32, n.val / 8 ≠ g.val → t.tioVddo n.val = s.tioVddo n.val)) ∧
  (∀ (s : State) (n : Fin 32) (z t0 : Int) (l : Bool) (rest : List QItem), s.supplied = true → s.tioFunc n.val = 3 → s.pdOn (tioDom n.val) = true →
    s.isReady 3 = true → (s.tio n.val).taken = none → (s.queue (312 + n.val)).items = ⟨z, .edge t0 l⟩ :: rest → 0 < (s.queue (312 + n.val)).vis →
    (s.now + 20 * uNs ≤ t0 → (∀ p, (s.tio n.val).lastPlaced = some p → p + uNs ≤ t0) → ∃ t, exec (.edgeTake n) s = .next t ∧
      (t.tio n.val).taken = some (t0, l) ∧ (t.queue (312 + n.val)).items = rest ∧ t.regs = s.regs) ∧
    (t0 < s.now + 20 * uNs → ∃ t, exec (.edgeTake n) s = .next t ∧ (t.tio n.val).taken = none ∧ (t.queue (312 + n.val)).items = rest ∧
      t.rf TIOn_EDGE_LATE_count n.val = (s.rf TIOn_EDGE_LATE_count n.val + 1) % 2 ^ 64)) ∧
  (∀ (s : State) (n : Fin 32) (t0 : Int) (l : Bool), s.supplied = true → s.tioFunc n.val = 3 → s.isReady 3 = true → (s.tio n.val).taken = some (t0, l) →
    (t0 - s.tioLead n.val ≤ s.now → ∃ t, exec (.edgePlace n) s = .next t ∧ (t.tio n.val).drive = l ∧ (t.tio n.val).taken = none ∧
      (t.tio n.val).cmdAt = some (t0 - s.tioLead n.val) ∧ t.tioLevel n.val = l) ∧
    (s.now < t0 - s.tioLead n.val → exec (.edgePlace n) s = .next s)) ∧
  (∀ (s : State) (n : Fin 32) (i : Instr), s.supplied = true → s.isReady 3 = false → i = .edgeTake n ∨ i = .edgePlace n → exec i s = .next s) ∧
  (∀ (s : State) (n : Fin 32) (b z : Int) (w : Nat), s.supplied = true → s.tioFunc n.val = 4 → s.pdOn (tioDom n.val) = true → s.rf TIOn_TOD_CFG_pps_port n.val < 32 →
    s.tioFunc (s.rf TIOn_TOD_CFG_pps_port n.val) = 2 → (s.tio (s.rf TIOn_TOD_CFG_pps_port n.val)).bells.getLast? = some b → (∀ u, (s.tio n.val).todUsed = some u → u < b) →
    b + (s.rf TIOn_TOD_CFG_start_ms n.val : Int) * uMs ≤ s.now → (s.queue (1024 + n.val)).items = [⟨z, .word w⟩] →
    (s.queue (1024 + n.val)).vis = 1 → w / 2 ^ 63 % 2 = 1 → (s.tio n.val).todAt = none →
    ∃ t, exec (.todOutStart n) s = .next t ∧ (t.tio n.val).tod = leBytes (min 7 (w / 2 ^ 56 % 8)) w ∧ (t.queue (1024 + n.val)).items = [] ∧
      (t.tio n.val).todAt = some (b + (s.rf TIOn_TOD_CFG_start_ms n.val : Int) * uMs)) ∧
  (∀ (s : State) (n : Fin 32) (b : BitVec 8) (z : Int), s.supplied = true → (Instr.todInCharacter n b false z).wf = true → s.tioFunc n.val = 7 →
    s.tioHears n.val = true → 0 < (s.queue (1056 + n.val)).c →
    exec (.todInCharacter n b false z) s = .next (s.qPush (1056 + n.val)
      ⟨coarse z, .word (b.toNat + (coarse z / uNs % 281474976710656).toNat * 2 ^ 16)⟩)) ∧
  (∀ (s : State) (n : Fin 32), s.supplied = true → s.rb TIOn_CFG_lb_cal n.val = true → s.tioDrives n.val = true → (s.tio n.val).calBusy = false →
    (s.tio n.val).calAt = none → exec (.loopbackCalBurst n) s = .next (s.setTio n.val { s.tio n.val with calBusy := true, calAt := some s.now })) ∧
  (∀ (s : State) (n : Fin 32) (delay : Int), s.supplied = true → (s.tio n.val).calBusy = true → s.claim n.val = 1 →
    delay = ((s.unit n.val).burst.2 * 1000 + 524288) / 1048576 → s.tioDrives n.val = true →
    (1024 ≤ (s.unit n.val).burst.1 → 200 ≤ delay → delay ≤ 3000 → exec (.loopbackCalComplete n) s = .next
      (((s.setTio n.val { s.tio n.val with calBusy := false }).ws TIOn_CAL_DELAY_delay delay n.val).wf TIOn_STATUS_cal_valid 1 n.val)) ∧
    (1024 ≤ (s.unit n.val).burst.1 → delay < 200 ∨ 3000 < delay → s.runsTo (.loopbackCalComplete n)
      ((s.setTio n.val { s.tio n.val with calBusy := false }).wf TIOn_STATUS_cal_valid 0 n.val)) ∧
    ((s.unit n.val).burst.1 < 1024 → exec (.loopbackCalComplete n) s = .next s))

/-! ## Measurement units -/

/-- R183, R186, R187, R185, R199: a command arms an idle unit at the present raw time, or holds the arm until calibration is ready and the unit runs; a
disarm makes it idle; a scheduled arm and a re-arm take effect at their instants. Commands of a claimed unit are ignored and
journalled. The settings of an idle unit are written, those of a busy one stay; TDC32 and a unit of a domain that is not served take
none; a unit enters mode MOSS with its round machine waiting. -/
def Obligations.UnitsArmDisarmAndTakeSettings : Prop :=
  (∀ (s : State) (r : Req) (n : Fin 40), s.supplied = true → n.val ≠ 32 → s.pdServed 1 = true → s.claim n.val = 0 → s.rf TDCn_CTL_mode n.val ≠ 3 →
    s.tdcState n.val = 0 → ∃ t, exec (.tdcArm r n) s = .next t ∧ (t.unit n.val).results = 0 ∧ t.queues = s.queues ∧ t.tm = s.tm ∧
      (s.isReady 4 = true ∨ s.pd 1 = 2 → s.tdcRuns n.val = true → t.tdcState n.val = 2 ∧ (t.unit n.val).armAt = s.raw) ∧
      ((s.isReady 4 = false ∧ s.pd 1 ≠ 2) ∨ s.tdcRuns n.val = false → t.tdcState n.val = 1 ∧ (t.unit n.val).held = true)) ∧
  (∀ (s : State) (r : Req) (n : Fin 40) (i : Instr), s.supplied = true → i = .tdcArm r n ∨ i = .tdcDisarm r n → n.val ≠ 32 → s.claim n.val ≠ 0 → s.pdServed 1 = true →
    s.runsTo i s) ∧
  (∀ (s : State) (r : Req) (n : Fin 40), s.supplied = true → n.val ≠ 32 → s.pdServed 1 = true → s.claim n.val = 0 → s.rf TDCn_CTL_mode n.val ≠ 3 →
    ∃ t, exec (.tdcDisarm r n) s = .next t ∧ t.tdcState n.val = 0 ∧ (t.unit n.val).start = none ∧ (t.unit n.val).stop = none ∧
      (∀ m : Fin 40, m ≠ n → t.unit m.val = s.unit m.val ∧ t.tdcState m.val = s.tdcState m.val)) ∧
  (∀ (s : State) (n : Fin 40) (z : Int), s.supplied = true → s.tdcRuns n.val = true → (s.unit n.val).sched = some z → s.tdcState n.val = 1 →
    (s.unit n.val).held = false → s.claim n.val ≠ 1 → z ≤ s.refine (binOf s.raw) →
    ∃ t, exec (.tdcScheduledArm n) s = .next t ∧ t.tdcState n.val = 2 ∧ (t.unit n.val).sched = none ∧
      (t.unit n.val).armAt = binOf (s.raw - (s.now - z)) * 64) ∧
  (∀ (s : State) (n : Fin 40), s.supplied = true → (s.unit n.val).sched = none → exec (.tdcScheduledArm n) s = .next s) ∧
  (∀ (s : State) (n : Fin 40), s.supplied = true → s.tdcRuns n.val = true → (s.unit n.val).sched = none → s.tdcState n.val = 1 → (s.unit n.val).held = false →
    s.claim n.val ≠ 1 →
    ((s.unit n.val).armAt ≤ s.raw → ∃ t, exec (.tdcRearm n) s = .next t ∧ t.tdcState n.val = 2 ∧ (t.unit n.val).armAt = (s.unit n.val).armAt) ∧
    (s.raw < (s.unit n.val).armAt → exec (.tdcRearm n) s = .next s)) ∧
  (∀ (s : State) (r : Req) (n : Fin 40) (v : BitVec 32), s.supplied = true → n.val ≠ 32 → s.pdServed 1 = true →
    (s.tdcState n.val = 0 → exec (.tdcConfigWrite r n .skip v) s = .next (s.wf TDCn_SKIP_skip (v.toNat % 2 ^ 24) n.val)) ∧
    (s.tdcState n.val = 0 → exec (.tdcConfigWrite r n .limit v) s = .next (s.wf TDCn_LIMIT_us v.toNat n.val)) ∧
    (s.tdcState n.val ≠ 0 → ∀ g : TdcReg, g ≠ .ctl → s.runsTo (.tdcConfigWrite r n g v) s) ∧
    (s.tdcState n.val = 0 → srcAllowed n.val (v.toNat % 256) true = true → srcAllowed n.val (v.toNat / 256 % 256) false = true →
      ∃ t, exec (.tdcConfigWrite r n .src v) s = .next t ∧ t.rf TDCn_SRC_start n.val = v.toNat % 256 ∧
        t.rf TDCn_SRC_stop n.val = v.toNat / 256 % 256 ∧ t.tdc = s.tdc) ∧
    (s.tdcState n.val ≠ 0 → s.rf TDCn_CTL_mode n.val ≠ 3 → v.toNat / 256 % 4 = 0 → s.runsTo (.tdcConfigWrite r n .ctl v)
      (((s.wf TDCn_CTL_route_en (v.toNat / 4 % 2) n.val).wf TDCn_CTL_frond (v.toNat / 8 % 16) n.val).wf TDCn_CTL_count
        (v.toNat / 2 ^ 16 % 2 ^ 16) n.val)) ∧
    (s.tdcState n.val = 0 → s.rf TDCn_CTL_mode n.val ≠ 3 → s.claim n.val = 0 → v.toNat % 4 = 3 → v.toNat / 256 % 4 = 0 →
      ∃ t, exec (.tdcConfigWrite r n .ctl v) s = .next t ∧ t.rf TDCn_CTL_mode n.val = 3 ∧ t.tdcState n.val = 3 ∧
        t.rf MOSSn_STATUS_state n.val = 1 ∧ t.rf TDCn_CTL_route_en n.val = v.toNat / 4 % 2 ∧ t.rf TDCn_CTL_frond n.val = v.toNat / 8 % 16)) ∧
  (∀ (s : State) (r : Req) (n : Fin 40) (g : TdcReg) (v : BitVec 32), s.supplied = true → n.val = 32 ∨ s.pdServed 1 = false →
    exec (.tdcConfigWrite r n g v) s = .next s)

/-- R185, R188 to R192, R195: an edge of the unit's start source and polarity is captured as its start, at the calibrated position of its phase code, and
one of its stop source gives one result: the time between the two in bins, to the nearest, with the unit idle again; in STAMP a stop gives the refined
spine time of the edge; an edge of another source does nothing. The tick, the strobe, the second and the rotators give their edges from the state. A
limit that passes without both edges gives an item with `limit` once the ring's watermark is past it; an idle unit captures nothing. -/
def Obligations.UnitsMeasure : Prop :=
  (∀ (s : State) (n : Fin 40) (src : BitVec 8) (fall : Bool) (cyc : Fin 8) (code : Fin 256) (x : Int), s.supplied = true →
    ((isPad src.toNat = true ∧ s.tioHears (src.toNat - 1) = true ∨ 0x50 ≤ src.toNat ∧ src.toNat ≤ 0x73) ∧
        x = s.raw + (16384 * cyc.val + (s.unit n.val).codeAt code.val : Nat)) ∨
      (0x21 ≤ src.toNat ∧ src.toNat ≤ 0x44 ∧ s.outRise (src.toNat - 0x21) = some x) ∨
      (src = 0x48 ∨ src = 0x49 ∧ s.tm.run = true ∧ s.now = s.tm.lastStrobe ∨ src = 0x4A ∧ s.atSecond = true) ∧ x = s.raw → s.tdcRuns n.val = true → s.claim n.val = 0 → s.tdcState n.val = 2 →
    (s.unit n.val).armAt ≤ x → ∀ f : Bool, f = (fall != (isPad src.toNat && s.rb TIOn_CFG_invert (src.toNat - 1))) →
    (s.rf TDCn_CTL_mode n.val = 0 → s.rf TDCn_SRC_start n.val ≠ s.rf TDCn_SRC_stop n.val → s.rf TDCn_SKIP_skip n.val = 0 →
      s.rf TDCn_LIMIT_us n.val = 0 → (s.unit n.val).stop = none →
      ((s.unit n.val).start = none → src.toNat = s.rf TDCn_SRC_start n.val → src ≠ 0 → src ≠ 0x4B →
        (isPad src.toNat = true → f = decide (s.rf TDCn_SRC_start_edge n.val = 1)) →
        exec (.tdcEdgeCapture n src fall cyc code) s = .next (s.setUnit n.val { s.unit n.val with start := some x })) ∧
      (∀ a, (s.unit n.val).start = some a → src.toNat = s.rf TDCn_SRC_stop n.val → src ≠ 0 →
        (isPad src.toNat = true → f = decide (s.rf TDCn_SRC_stop_edge n.val = 1)) → s.rb TDCn_CTL_route_en n.val = false →
        64 ≤ x - a → x - a < 2 ^ 60 → ∃ t, exec (.tdcEdgeCapture n src fall cyc code) s = .next t ∧
          t.rf TDCn_RESULT_item n.val % 2 ^ 57 = ((x - a + 31) / 64).toNat ∧ t.tdcState n.val = 0 ∧
          t.rf TDCn_DONE_count n.val = (s.rf TDCn_DONE_count n.val + 1) % 2 ^ TDCn_DONE_count.width) ∧
      ((s.unit n.val).start = none → src.toNat ≠ s.rf TDCn_SRC_start n.val → src.toNat ≠ s.rf TDCn_SRC_stop n.val →
        exec (.tdcEdgeCapture n src fall cyc code) s = .next s)) ∧
    (s.rf TDCn_CTL_mode n.val = 2 → src.toNat = s.rf TDCn_SRC_stop n.val → src ≠ 0 →
      (isPad src.toNat = true → f = decide (s.rf TDCn_SRC_stop_edge n.val = 1)) → s.rb TDCn_CTL_route_en n.val = false →
      ∃ t, exec (.tdcEdgeCapture n src fall cyc code) s = .next t ∧ t.rf TDCn_STOP_TIME_time n.val = packTime (s.refine (binOf x)))) ∧
  (∀ (s : State) (n : Fin 40) (src : BitVec 8) (fall : Bool) (cyc : Fin 8) (code : Fin 256), s.supplied = true → s.tdcState n.val = 0 →
    exec (.tdcEdgeCapture n src fall cyc code) s = .next s) ∧
  (∀ (s : State) (n : Fin 40), s.supplied = true → s.tdcRuns n.val = true → s.claim n.val = 0 → s.rf TDCn_CTL_mode n.val = 0 → s.tdcState n.val = 2 →
    (s.unit n.val).start = none → (s.unit n.val).stop = none → s.rb TDCn_CTL_route_en n.val = false → 0 < s.rf TDCn_LIMIT_us n.val →
    ((s.unit n.val).armAt + (s.rf TDCn_LIMIT_us n.val : Int) * uUs ≤ s.ringMark → ∃ t, exec (.tdcLimitExpire n) s = .next t ∧
      (t.rf TDCn_RESULT_item n.val).testBit 59 = true ∧ t.tdcState n.val = 0) ∧
    (s.ringMark < (s.unit n.val).armAt + (s.rf TDCn_LIMIT_us n.val : Int) * uUs → exec (.tdcLimitExpire n) s = .next s))

/-- R183, R184, R195, R196, R198: an idle unit goes to the highest claim present; start-up calibration, 2 ms or more after the ring locked, gives every unit
of an ON domain the table of its 500,000 hits and makes tdc ready; a background table of 2^hist hits within its limits is installed, at once or, in a measurement, at its end,
and one outside them counts a failure and is not. -/
def Obligations.UnitClaimsAndTables : Prop :=
  (∀ (s : State) (n : Fin 40), s.supplied = true → n.val ≠ 32 → s.tdcBusy n.val = false → s.claim n.val ≠ s.claimFor n.val →
    ∃ t, exec (.tdcClaimChange n) s = .next t ∧ t.claim n.val = s.claimFor n.val ∧ t.now = s.now) ∧
  (∀ (s : State) (n : Fin 40), s.supplied = true → s.claim n.val = s.claimFor n.val → exec (.tdcClaimChange n) s = .next s) ∧
  (∀ (s : State) (temp : BitVec 16) (hits : List (List Nat)), s.supplied = true → s.locked s.active = true →
    s.tm.run = true → (s.chain s.active).lockedAt + 2 * uMs ≤ s.now →
    (∀ n : Fin 40, s.pdOn (if n.val = 32 then 0 else 1) = true → hitsOk ((hits[n.val]?).getD []) = true ∧ ((hits[n.val]?).getD []).sum = 500000) →
    ∃ t, exec (.tdcStartupCalDone temp hits) s = .next t ∧ t.isReady 4 = true ∧ t.rf TDC_TEMP_now = temp.toNat ∧
      ∀ n : Fin 40, s.pdOn (if n.val = 32 then 0 else 1) = true → s.tdcState n.val ≠ 2 →
        t.rb TDCn_STATUS_cal_valid n.val = true ∧ (t.unit n.val).tab = codeTable ((hits[n.val]?).getD [])) ∧
  (∀ (s : State) (temp : BitVec 16) (hits : List (List Nat)), s.supplied = true → s.locked s.active = false ∨ s.tm.run = false ∨
    s.now < (s.chain s.active).lockedAt + 2 * uMs → exec (.tdcStartupCalDone temp hits) s = .next s) ∧
  (∀ (s : State) (n : Fin 40) (temp : BitVec 16) (hits : List Nat), s.supplied = true → n.val ≠ 32 → s.rb TDC_CAL_CTL_bg_en = true → s.tdcState n.val ≠ 3 →
    s.pdOn 1 = true → hits.sum = 2 ^ (if 20 ≤ s.rf TDC_CAL_CTL_hist ∧ s.rf TDC_CAL_CTL_hist ≤ 26 then s.rf TDC_CAL_CTL_hist else 24) →
      ∃ t, exec (.tdcBgTableReady n temp hits) s = .next t ∧ t.rf TDC_TEMP_now = temp.toNat ∧
      (hitsOk hits = true → (t.unit n.val).fails = 0 ∧
        (s.tdcState n.val ≠ 2 → t.rb TDCn_STATUS_cal_valid n.val = true ∧ (t.unit n.val).tab = codeTable hits) ∧
        (s.tdcState n.val = 2 → (t.unit n.val).newTab = some (codeTable hits, temp.toNat) ∧ (t.unit n.val).tab = (s.unit n.val).tab)) ∧
      (hitsOk hits = false → (t.unit n.val).fails = (s.unit n.val).fails + 1 ∧ (t.unit n.val).tab = (s.unit n.val).tab ∧
        t.rf TDC_CAL_FAIL_count = (s.rf TDC_CAL_FAIL_count + 1) % 2 ^ TDC_CAL_FAIL_count.width ∧ (t.unit n.val).tabAt = (s.unit n.val).tabAt)) ∧
  (∀ hits : List Nat, hits.length = 256 → ∀ total, total = hits.sum → 0 < total →
    (hitsOk hits = true ↔ ∀ h ∈ hits, total ≤ 4 * (256 * h) ∧ 2 * (256 * h) ≤ 5 * total))

/-- R199, R200: a Moss round wakes its unit for an arm `lead` before the round's boundary, and a round that still runs then is skipped and
counted; a round with its samples within the limits records the mean and sleeps again; a deviation records its cause, counts, and without
rearm ends the watch. -/
def Obligations.MossRounds : Prop :=
  (∀ (s : State) (n : Fin 40), s.supplied = true → s.mossOn n.val = true → s.rf MOSSn_STATUS_state n.val = 1 →
    s.mossAhead n.val - (s.rf MOSSn_PERIOD_lead n.val : Int) * uUs - 20 * uUs ≤ s.now →
    ∃ t, exec (.mossRoundWake n) s = .next t ∧ t.rf MOSSn_STATUS_state n.val = 2 ∧ t.tdcState n.val = 1 ∧
      (t.unit n.val).sched = some (s.mossAhead n.val - (s.rf MOSSn_PERIOD_lead n.val : Int) * uUs) ∧ (t.unit n.val).samples = []) ∧
  (∀ (s : State) (n : Fin 40), s.supplied = true → s.mossOn n.val = true → s.rf MOSSn_STATUS_state n.val = 2 → s.mossNext n.val ≤ s.now →
    ∃ t, exec (.mossRoundWake n) s = .next t ∧
      t.rf MOSSn_SKIP_count n.val = (s.rf MOSSn_SKIP_count n.val + 1) % 2 ^ MOSSn_SKIP_count.width ∧ t.rf MOSSn_STATUS_state n.val = 2) ∧
  (∀ (s : State) (n : Fin 40), s.supplied = true → s.mossOn n.val = true → s.rf MOSSn_STATUS_state n.val = 2 → s.mossN n.val ≤ (s.unit n.val).samples.length →
    (s.mossCause n.val = 0 → ∃ t, exec (.mossRoundEnd n) s = .next t ∧
      t.rf MOSSn_MEAN_mean n.val = ofSigned 57 (mossMean (s.unit n.val).samples) ∧ t.rf MOSSn_STATUS_state n.val = 1 ∧ t.tdcState n.val = 3 ∧
      t.rf MOSSn_ROUNDS_count n.val = (s.rf MOSSn_ROUNDS_count n.val + 1) % 2 ^ MOSSn_ROUNDS_count.width) ∧
    (s.mossCause n.val ≠ 0 → s.rb MOSSn_CTL_rearm n.val = false → ∃ t, exec (.mossRoundEnd n) s = .next t ∧
      t.rf MOSSn_STATUS_cause n.val = s.mossCause n.val ∧ t.rf MOSSn_STATUS_state n.val = 3 ∧ t.rf TDCn_CTL_mode n.val = 0 ∧
      t.rf MOSSn_DEV_count n.val = (s.rf MOSSn_DEV_count n.val + 1) % 2 ^ MOSSn_DEV_count.width)) ∧
  (∀ (s : State) (n : Fin 40), s.supplied = true → (s.unit n.val).samples.length < s.mossN n.val → s.ringMark < s.mossEnd n.val →
    exec (.mossRoundEnd n) s = .next s) ∧
  (∀ (s : State) (n : Fin 40) (i : Instr), s.supplied = true → i = .mossRoundWake n ∨ i = .mossRoundEnd n → s.rf TDCn_CTL_mode n.val ≠ 3 → exec i s = .next s)

/-! ## Roll call and the servo -/

/-- R206, R207, R210, R211, R227: a slot that is enabled is ABSENT, one that is disabled is OFF; the first measurement of an ABSENT slot
makes it QUALIFYING with its timer set, a timer that has run out, with nothing stamped by then on its way, makes it QUALIFIED, and a missing pulse or a
gap of the miss window of a qualified slot with a miss count of 1 makes it ABSENT and counts a disqualification. Each roll-call command answers its result: FORCE of a slot in service forces
it, UNFORCE ends that, READMIT brings a SUSPECT slot back, SKIP_WTR makes a waiting slot the target, REEVAL evaluates; without its
condition a command answers 1 or 3 and changes nothing else. -/
def Obligations.SlotsQualifyAndTakeCommands : Prop :=
  (∀ (s : State) (r : Req) (n : Fin 24) (v : BitVec 32), s.supplied = true → n.val < 23 → s.rb RCLn_CFG_en n.val = false → v.toNat / 16 % 2 = 1 →
    s.enableBad n.val (v.toNat % 16) (v.toNat / 256 % 32) = false →
    ∃ t, exec (.rclSlotConfigWrite r n v) s = .next t ∧ t.rb RCLn_CFG_en n.val = true ∧ t.slotState n.val = 1 ∧
      t.rf RCLn_CFG_kind n.val = v.toNat % 16 ∧ t.rf RCLn_CFG_src n.val = v.toNat / 256 % 32 ∧
      t.rf RCLn_CFG_prio n.val = v.toNat / 65536 % 256 ∧ t.now = s.now) ∧
  (∀ (s : State) (r : Req) (n : Fin 24) (v : BitVec 32), s.supplied = true → n.val < 23 → s.rb RCLn_CFG_en n.val = true → v.toNat / 16 % 2 = 0 →
    ∃ t, exec (.rclSlotConfigWrite r n v) s = .next t ∧ t.rb RCLn_CFG_en n.val = false ∧ t.slotState n.val = 0) ∧
  (∀ (s : State) (r : Req) (v : BitVec 32), s.supplied = true → exec (.rclSlotConfigWrite r 23 v) s = .next s) ∧
  (∀ (s : State) (n : Fin 24) (z v : Int) (rest : List (Int × Int)), s.supplied = true → n.val < 23 → s.slotKind n.val = 5 → s.slotState n.val = 1 →
    (s.slot n.val).due = (z, v) :: rest → ∃ t, exec (.rclMeasurement n) s = .next t ∧ t.slotState n.val = 2 ∧ (t.slot n.val).due = rest ∧
      (t.slot n.val).timer = z - s.totalAt z + s.qualSpan n.val) ∧
  (∀ (s : State) (n : Fin 24), s.supplied = true → (s.slot n.val).due = [] → exec (.rclMeasurement n) s = .next s) ∧
  (∀ (s : State) (n : Fin 24), s.supplied = true → n.val < 23 → s.slotState n.val = 2 → (s.slot n.val).beaten = none →
    ((s.slot n.val).timer ≤ s.slotMark n.val → s.nextDue n.val = some ((s.slot n.val).timer, 2) → (∀ x ∈ s.comingOf n.val, (s.slot n.val).timer < x) →
      ∃ t, exec (.rclQualTimerExpire n) s = .next t ∧ t.slotState n.val = 3 ∧ t.now = s.now) ∧
    (s.slotMark n.val < (s.slot n.val).timer → exec (.rclQualTimerExpire n) s = .next s)) ∧
  (∀ (s : State) (n : Fin 24) (x : Int) (rest : List Int), s.supplied = true → n.val < 23 → s.slotState n.val = 3 → s.slotKind n.val = 1 ∨ s.slotKind n.val = 3 →
    (s.slot n.val).missed = x :: rest → (∀ y ∈ s.comingOf n.val, x < y) → s.rf RCLn_MISS_count n.val ≤ 1 →
    ∃ t, exec (.rclMiss n) s = .next t ∧ t.slotState n.val = 1 ∧ (t.slot n.val).missed = rest ∧
      t.rf RCLn_DISQ_count n.val = (s.rf RCLn_DISQ_count n.val + 1) % 2 ^ RCLn_DISQ_count.width) ∧
  (∀ (s : State) (n : Fin 24), s.supplied = true → n.val < 23 → s.slotState n.val = 3 → 4 ≤ s.slotKind n.val → s.slotKind n.val ≤ 7 →
    (s.slot n.val).missed = [] →
    ((s.slot n.val).gapFrom + s.missWindow n.val ≤ s.slotMark n.val → (∀ y ∈ s.comingOf n.val, (s.slot n.val).gapFrom + s.missWindow n.val < y) →
      s.rf RCLn_MISS_count n.val ≤ 1 → ∃ t, exec (.rclMiss n) s = .next t ∧ t.slotState n.val = 1 ∧
      t.rf RCLn_DISQ_count n.val = (s.rf RCLn_DISQ_count n.val + 1) % 2 ^ RCLn_DISQ_count.width) ∧
    (s.slotMark n.val < (s.slot n.val).gapFrom + s.missWindow n.val → exec (.rclMiss n) s = .next s)) ∧
  (∀ (s : State) (r : Req) (n : Fin 32), s.supplied = true → n.val < 24 → s.slotState n.val ≠ 0 → s.rb RCLn_CFG_lockout n.val = false →
    ∃ t, exec (.rclForce r n) s = .next t ∧ t.rf RCL_RESULT_result = 0 ∧ t.rb RCL_STATUS_forced = true ∧ t.rf RCL_STATUS_fslot = n.val) ∧
  (∀ (s : State) (r : Req) (n : Fin 32), s.supplied = true → s.rb RCL_STATUS_forced = true →
    ∃ t, exec (.rclUnforce r n) s = .next t ∧ t.rf RCL_RESULT_result = 0 ∧ t.rb RCL_STATUS_forced = false ∧ t.rf RCL_STATUS_fslot = 31) ∧
  (∀ (s : State) (r : Req) (n : Fin 32), s.supplied = true → s.rb RCL_STATUS_forced = false → s.runsTo (.rclUnforce r n) (s.wf RCL_RESULT_result 3)) ∧
  (∀ (s : State) (r : Req) (n : Fin 32), s.supplied = true → n.val < 23 → s.slotState n.val = 4 →
    ∃ t, exec (.rclReadmit r n) s = .next t ∧ t.rf RCL_RESULT_result = 0 ∧ t.slotState n.val = 3 ∧ t.rb RCLn_STATUS_readmit n.val = true) ∧
  (∀ (s : State) (r : Req) (n : Fin 32), s.supplied = true → n.val < 23 → s.slotState n.val ≠ 0 → s.rb RCLn_STATUS_wtr n.val = true →
    ∃ t, exec (.rclSkipWtr r n) s = .next t ∧ t.rf RCL_RESULT_result = 0 ∧ t.rf RCL_STATUS_target = n.val) ∧
  (∀ (s : State) (r : Req) (n : Fin 32), s.supplied = true → s.bestSlot = some s.selected →
    ∃ t, exec (.rclReeval r n) s = .next t ∧ t.rf RCL_RESULT_result = 0 ∧ t.rf RCL_STATUS_target = 63 ∧ t.selected = s.selected) ∧
  (∀ (s : State) (r : Req) (n : Fin 32) (i : Instr), s.supplied = true → 24 ≤ n.val → i = .rclForce r n ∨ i = .rclReadmit r n ∨ i = .rclSkipWtr r n →
    s.runsTo i (s.wf RCL_RESULT_result 1))

/-- R215, R216, R217, R220, R221: once the faults and qualifications of its tick are taken, the commit to the standing best target at its time selects it, counts the switch and, for a time slot without a
jump check, builds out what the target's track says beyond the servo's phase; in the Tally's reserve the commit is deferred and the old slot
stays selected. With no target nothing commits while the selected slot is the best. -/
def Obligations.SwitchesCommitWithBuildOut : Prop :=
  (∀ (s e : State) (n : Fin 24), s.supplied = true → n.val < 23 → s.rf RCL_STATUS_target = n.val → unpackTime (s.rf RCL_COMMIT_time) ≤ s.now →
    e = s.rclEvents → e.rf RCL_STATUS_target = n.val → e.rf RCL_COMMIT_time = s.rf RCL_COMMIT_time → e.now = s.now →
    e.bestSlot = some n.val → e.selected ≠ n.val →
    (e.rb TLY_RING_FILL_reserve = true → e.rb RCL_STATUS_deferred = false → ∃ t, exec .rclCommit s = .next t ∧
      t.rb RCL_STATUS_deferred = true ∧ t.selected = e.selected ∧ t.rf RCL_STATUS_target = n.val ∧ t.tm = e.tm ∧ t.rclB = e.rclB) ∧
    (e.rb TLY_RING_FILL_reserve = false → e.fatalSet = false → e.freqSlot n.val = false → e.rb RCLn_STATUS_readmit n.val = true →
      e.tm.slew = none → e.rcl.held = [] → -2 ^ 63 ≤ unitsOfFp (e.slotOfs n.val - e.commitPhase) →
      unitsOfFp (e.slotOfs n.val - e.commitPhase) < 2 ^ 63 → ∃ t, exec .rclCommit s = .next t ∧ t.selected = n.val ∧
        t.rf RCL_STATUS_target = 63 ∧ t.rf RCL_SWITCHES_count = (e.rf RCL_SWITCHES_count + 1) % 2 ^ RCL_SWITCHES_count.width ∧
        t.rclB = unitsOfFp (e.slotOfs n.val - e.commitPhase) ∧ t.now = s.now)) ∧
  (∀ (s : State), s.supplied = true → s.bestSlot = some s.selected → s.rf RCL_STATUS_target = 63 → ∃ t, exec .rclCommit s = .next t ∧ t.selected = s.selected ∧
    t.tm = s.tm ∧ t.rf RCL_STATUS_target = 63)

/-- R71, R219, R222, R226: at the strobe after the end of a roll-call slew a further slew of −B that is called for starts, or need_step is set where B is
beyond the limit of the commit, and a fatal response lets none start; a slew with nothing left closes its entry and ends, with the Tally's sum as
it was; a wait-to-restore that has run out makes its slot the target; a settle that is complete re-admits its slot. -/
def Obligations.SlewsAndRollCallTimers : Prop :=
  (∀ (s : State) (e : Int), s.supplied = true → s.rcl.slewDue = some e → s.tm.slew = none → s.tm.slewWait = none →
    (e < s.now → s.now = s.tm.lastStrobe → s.fatalSet = false → s.slewCalled = true →
      (s.rclB ≠ 0 → (s.rclB.natAbs : Int) ≤ s.rcl.needLimit → ∃ t, exec .rclSlewStart s = .next t ∧ t.now = s.now ∧ t.rb SRV_STATUS_paused = true ∧
        t.rcl.slewDue = none ∧ ∃ x, t.tm.slew = some x ∧ x.remaining = -s.rclB ∧ x.source = 2 ∧ x.rate = slewWord s.slewMax) ∧
      (s.rcl.needLimit < (s.rclB.natAbs : Int) → ∃ t, exec .rclSlewStart s = .next t ∧ t.rb RCL_STATUS_need_step = true ∧ t.rcl.slewDue = none ∧
        t.tm = s.tm)) ∧
    (s.now ≤ e ∨ s.now ≠ s.tm.lastStrobe ∨ s.fatalSet = true ∨ s.slewCalled = false → exec .rclSlewStart s = .next s)) ∧
  (∀ s : State, s.supplied = true → s.rcl.slewDue = none → exec .rclSlewStart s = .next s) ∧
  (∀ (s : State) (x : Slew), s.supplied = true → s.tm.slew = some x → x.remaining = 0 → x.source = 0 → s.tm.ring.length < 8192 →
    ∃ t, exec .slewEnd s = .next t ∧ t.tm.slew = none ∧ t.tm.total = s.tm.total ∧ t.now = s.now ∧ t.rb SRV_STATUS_slewing = false) ∧
  (∀ (s : State) (x : Slew), s.supplied = true → s.tm.slew = some x → x.remaining ≠ 0 → exec .slewEnd s = .next s) ∧
  (∀ (s : State) (n : Fin 24), s.supplied = true → n.val < 23 → s.rb RCLn_STATUS_wtr n.val = true → s.bestSlot = some n.val → s.rf RCL_STATUS_target = 63 →
    ((s.slot n.val).wtrEnd ≤ s.slotMark n.val → (∀ x ∈ s.comingOf n.val, (s.slot n.val).wtrEnd < x) →
      (∀ d, s.nextDue n.val = some d → (s.slot n.val).wtrEnd < d.1) → ∃ t, exec (.rclWtrExpire n) s = .next t ∧ t.rf RCL_STATUS_target = n.val ∧
      t.rb RCLn_STATUS_wtr n.val = false ∧ t.selected = s.selected ∧
      t.rf RCL_COMMIT_time = packTime (s.now + ((max 1 (min 10000 (s.rf RCL_ALIGN_TIME_ms)) : Nat) : Int) * uMs)) ∧
    (s.slotMark n.val < (s.slot n.val).wtrEnd → exec (.rclWtrExpire n) s = .next s)) ∧
  (∀ (s : State) (n : Fin 24) (o : Settle), s.supplied = true → n.val < 23 → (s.slot n.val).settle = some o → s.slotState n.val = 4 →
    (o.start + (s.rf RCL_JUMP_SETTLE_secs : Int) * uSec ≤ s.slotMark n.val → s.nextDue n.val = some (o.start + (s.rf RCL_JUMP_SETTLE_secs : Int) * uSec, 3) →
      (∀ x ∈ s.comingOf n.val, o.start + (s.rf RCL_JUMP_SETTLE_secs : Int) * uSec < x) → ∃ t, exec (.rclSettleComplete n) s = .next t ∧ t.slotState n.val = 3 ∧
      t.rb RCLn_STATUS_readmit n.val = true ∧ (t.slot n.val).settle = none) ∧
    (s.slotMark n.val < o.start + (s.rf RCL_JUMP_SETTLE_secs : Int) * uSec → exec (.rclSettleComplete n) s = .next s))

/-- R208, R232, R234, R235, R238, R239, R247, R256: once spine time runs, the servo takes the oldest feed of a crossing: one stamped before the last feed
is stale, a first direct feed initialises the filter on it, a
direct feed without SRV_CTL.direct counts as unused, a feed of a slot that takes none is dropped; ACCEPT moves a candidate jump into B, DISMISS
drops it, RESET re-initialises, and at the first strobe
after ready.spine a restored estimate enters holdover at its bound. -/
def Obligations.ServoFeedsAndCommands : Prop :=
  (∀ (s : State) (q : Fin 3) (z : Int) (x : Feed) (rest : List QItem), s.supplied = true → (s.queue (393 + q.val)).items = ⟨z, .feed x⟩ :: rest →
    0 < (s.queue (393 + q.val)).vis → s.tm.run = true →
    (x.slot = 255 → s.rb SRV_CTL_direct = true → s.selected = 63 → s.mode ≠ 3 → s.srv.lastFeed.any (fun z => decide (x.stamp < z)) = true →
      exec (.servoFeedTake q) s = .next ((s.qPop (393 + q.val)).inc SRV_STALE_count)) ∧
    (x.slot = 255 → s.rb SRV_CTL_direct = true → s.selected = 63 → s.mode ≠ 3 → s.srv.inited = false → s.srv.lastFeed = none →
      x.stamp ≤ s.now + uMs → ∃ t, exec (.servoFeedTake q) s = .next t ∧ (t.queue (393 + q.val)).items = rest ∧ t.srv.inited = true ∧
        t.srv.r = psOfUnits x.ofs ∧ t.srv.sk = x.stamp ∧ t.srv.a = 0 ∧
        t.rf SRV_ACCEPTED_count = (s.rf SRV_ACCEPTED_count + 1) % 2 ^ SRV_ACCEPTED_count.width) ∧
    (x.slot = 255 → s.rb SRV_CTL_direct = false → exec (.servoFeedTake q) s = .next ((s.qPop (393 + q.val)).inc SRV_UNUSED_count)) ∧
    (x.slot ≤ 23 → s.slotState x.slot = 0 → exec (.servoFeedTake q) s = .next ((s.qPop (393 + q.val)).inc RCL_FEED_DROP_count))) ∧
  (∀ (s : State) (q : Fin 3), s.supplied = true → (s.queue (393 + q.val)).vis = 0 ∨ s.tm.run = false → exec (.servoFeedTake q) s = .next s) ∧
  (∀ (s : State) (r : Req) (i : Instr), s.supplied = true → i = .servoAccept r ∨ i = .servoDismiss r →
    (s.fatalSet = true → exec i s = .next (s.wf SRV_RESULT_result 2)) ∧
    (s.fatalSet = false → s.rb SRV_STATUS_candidate = false → exec i s = .next (s.wf SRV_RESULT_result 1))) ∧
  (∀ (s : State) (r : Req), s.supplied = true → s.fatalSet = false → s.rb SRV_STATUS_candidate = true → s.tm.slew = none →
    -2 ^ 63 ≤ s.rclB + s.rs 64 SRV_CANDIDATE_j → s.rclB + s.rs 64 SRV_CANDIDATE_j < 2 ^ 63 →
    ∃ t, exec (.servoAccept r) s = .next t ∧ t.rclB = s.rclB + s.rs 64 SRV_CANDIDATE_j ∧ t.rb SRV_STATUS_candidate = false ∧
      t.rf SRV_RESULT_result = 0 ∧ t.now = s.now) ∧
  (∀ (s : State) (r : Req), s.supplied = true → s.fatalSet = false → s.rb SRV_STATUS_candidate = true →
    s.runsTo (.servoDismiss r) ((((s.setSrv { s.srv with run := none }).wf SRV_STATUS_candidate 0).wf SRV_STATUS_run 0).wf SRV_RESULT_result 0)) ∧
  (∀ (s : State) (r : Req), s.supplied = true → s.fatalSet = false → s.mode ≠ 0 → ∃ t, exec (.servoReset r) s = .next t ∧ t.srv.resetPend = true ∧ t.srv.a = 0 ∧
    t.srv.sk = s.now ∧ t.rf SRV_RESULT_result = 0 ∧ t.tm = s.tm) ∧
  (∀ (s : State) (x : SrvSave) (outage : Nat), s.supplied = true → s.srv.restore = some (x, outage) → s.isReady 2 = true → s.now = s.tm.lastStrobe → x.bound ≠ 0xFFFFFFFF →
    restoreBound x.bound outage ≤ 4294967294 → ∃ t, exec .servoRestore s = .next t ∧ t.srv.restore = none ∧
      t.rf SRV_BOUND_ps = restoreBound x.bound outage ∧ t.mode = 3 ∧ t.selected = 23 ∧ t.srv.y = x.y ∧ t.srv.r = x.p ∧
      t.srv.a = if s.rb SRV_CTL_age_est then fit96 x.a else 0) ∧
  (∀ s : State, s.supplied = true → s.srv.restore = none ∨ s.isReady 2 = false ∨ s.now ≠ s.tm.lastStrobe → exec .servoRestore s = .next s)

/-! ## GNSS -/

/-- R263, R264, R266, R278, R286: a port runs when its clock, its enable and its domain are there, from sample 0; a loss of clock or of the
enable stops it, its channels and its bound; an epoch of a running port is counted and stamped, by the unit whose claim is in force, which takes the edge as a result of its own, or from its
domain's copy, with the mean power of its samples; once every dump whose boundary precedes the epoch is in the ring, the port's source is asserted. -/
def Obligations.GnssPortsAndEpochs : Prop :=
  (∀ (s : State) (p : Fin 4), s.supplied = true → ∃ t, exec (.gnssPortStart p) s = .next t ∧ t.rb GNS_Pp_STATUS_clk p.val = true ∧
    (s.live = true → s.rb GNS_Pp_CTL_en p.val = true → s.pdOn (11 + p.val) = true → s.domValid (36 + p.val) = true → s.portRuns p.val = false →
      t.portRuns p.val = true ∧ (t.gport p.val).epochs = 0) ∧
    (s.pdOn (11 + p.val) = true → (s.dom (36 + p.val)).running = false → (t.dom (36 + p.val)).running = true ∧ (t.dom (36 + p.val)).loaded = false)) ∧
  (∀ (s : State) (p : Fin 4), s.supplied = true → ∃ t, exec (.gnssPortStop p) s = .next t ∧ t.portRuns p.val = false ∧ (t.dom (36 + p.val)).running = false ∧
    t.rf GNS_SOLa_BOUND_ps p.val = 0xFFFFFFFF ∧ ∀ c ∈ s.gns.chans.map (·.1), c / 128 = p.val → t.rf GNS_CH_status_state c = 0) ∧
  (∀ (s : State) (r : Req) (p : Fin 4) (v : BitVec 32), s.supplied = true → ∃ t, exec (.gnssPortConfigWrite r p v) s = .next t ∧
    t.rf GNS_Pp_CTL_en p.val = v.toNat % 2 ∧ t.rf GNS_Pp_CTL_tdc p.val = v.toNat / 8 % 64 ∧
    (v.toNat % 2 = 0 → s.portRuns p.val = true → t.portRuns p.val = false)) ∧
  (∀ (s : State) (p : Fin 4) (ofs : Fin 131072) (d1 d5 : List Byte), s.supplied = true →
    (s.portRuns p.val = true → ∃ t, exec (.gnssEpoch p ofs d1 d5) s = .next t ∧ (t.gport p.val).epochs = (s.gport p.val).epochs + 1 ∧
      t.rf GNS_Pp_EPOCH_k p.val = (s.gport p.val).epochs % 2 ^ 64 ∧ (t.gport p.val).dumpDue = true ∧
      (s.rb GNS_Pp_CTL_l1 p.val = true → t.rf GNS_Pp_PWR_l1 p.val = (bandMean (bandStat 1 0 (d1.take 81840))).1) ∧
      (s.rb GNS_Pp_CTL_l1 p.val = false → t.rf GNS_Pp_PWR_l1 p.val = 0) ∧
      (∀ n, n = s.rf GNS_Pp_CTL_tdc p.val → s.portStamped p.val = true →
        s.tdcState n = 2 ∨ (s.tdcState n = 1 ∧ (s.unit n).held = false ∧ (s.unit n).sched = none) → (s.unit n).armAt ≤ s.raw + ofs.val →
        t.rf TDCn_STOP_TIME_time n = packTime (s.refine (binOf (s.raw + ofs.val))) ∧
        t.rf TDCn_DONE_count n = (s.rf TDCn_DONE_count n + 1) % 2 ^ TDCn_DONE_count.width ∧ t.rb GNS_Pp_STATUS_stamped p.val = true ∧
        t.rf GNS_Pp_EPOCH_TIME_time p.val = packTime (s.refine (binOf (s.raw + ofs.val)))) ∧
      (s.portStamped p.val = false → t.rb GNS_Pp_STATUS_stamped p.val = false ∧ t.rf GNS_Pp_EPOCH_TIME_time p.val = packTime (s.domNow (36 + p.val)))) ∧
    (s.portRuns p.val = false → exec (.gnssEpoch p ofs d1 d5) s = .next s)) ∧
  (∀ (s : State) (p : Fin 4), s.supplied = true → (s.gport p.val).dumpDue = true → (s.queue (344 + p.val)).items = [] →
    (s.queue (344 + p.val)).out = none →
    (s.dumpOwed p.val = false → ∃ t, exec (.gnssDumpReady p) s = .next t ∧ (t.gport p.val).dumpDue = false ∧
      t.bit32 SYS_IRQ_CAUSEw_cause (80 + p.val) = true) ∧
    (s.dumpOwed p.val = true → exec (.gnssDumpReady p) s = .next s))

/-- R268, R273 to R277: a valid start waits for its sample or runs at once, an invalid one is refused with cause 5; a stop command ends in
OFF with cause 1; a commit waits for its boundary whatever the state; a dump boundary of a running channel counts and puts one dump into the port's queue, which
the ring takes to its HEAD. -/
def Obligations.GnssChannelsAndDumps : Prop :=
  (∀ (s : State) (r : Req) (c : Fin 512) (dt : Fin 81840), s.supplied = true → s.rf GNS_CH_status_state c.val = 0 → s.portRuns (c.val / 128) = true →
    s.rb GNS_CH_ctl_pair_en c.val = false →
    let start := s.rf GNS_CH_20_start_sample c.val
    let now := s.sampleNow (c.val / 128) dt.val
    (s.recordOk c.val start now = true → now < start → ∃ t, exec (.gnssChannelStart r c dt) s = .next t ∧ t.rf GNS_CH_status_state c.val = 1 ∧
      (t.chan c.val).at_ = start ∧ t.queues = s.queues) ∧
    (s.recordOk c.val start now = true → start ≤ now → ∃ t, exec (.gnssChannelStart r c dt) s = .next t ∧ t.rf GNS_CH_status_state c.val = 2 ∧
      t.rf GNS_CH_44_seq c.val = 0 ∧ t.rb GNS_CH_status_late_start c.val = true ∧ (t.chan c.val).at_ = now + 1) ∧
    (s.recordOk c.val start now = false → ∃ t, exec (.gnssChannelStart r c dt) s = .next t ∧ t.rf GNS_CH_status_state c.val = 0 ∧
      t.rf GNS_CH_status_cause c.val = 5)) ∧
  (∀ (s : State) (r : Req) (c : Fin 512), s.supplied = true → s.rf GNS_CH_status_state c.val ≠ 0 → s.rb GNS_CH_ctl_pair_en c.val = false →
    ∃ t, exec (.gnssChannelStop r c) s = .next t ∧ t.rf GNS_CH_status_state c.val = 0 ∧ t.rf GNS_CH_status_cause c.val = 1) ∧
  (∀ (s : State) (r : Req) (c : Fin 512), s.supplied = true → ∃ m, exec (.gnssChannelCommit r c) s = .next (s.setChan c.val { s.chan c.val with commit := some m }) ∧
      m.boundary = s.rf GNS_CH_38_for_seq c.val + 1 + s.rf GNS_Pp_CTL_lag (c.val / 128) ∧ m.carRate = s.rs 32 GNS_CH_08_car_rate c.val ∧
      m.carStep = s.rs 32 GNS_CH_0C_car_step c.val ∧ m.codeRate = s.rf GNS_CH_10_code_rate c.val ∧
      m.codeStep = s.rs 32 GNS_CH_18_code_step c.val) ∧
  (∀ (s : State) (c : Fin 512), s.supplied = true → s.rf GNS_CH_status_state c.val = 1 →
    ((s.chan c.val).at_ < 81840 * (s.gport (c.val / 128)).epochs → ∃ t, exec (.gnssPendingStart c) s = .next t ∧
      t.rf GNS_CH_status_state c.val = 2 ∧ (t.chan c.val).at_ = (s.chan c.val).at_ ∧ t.rb GNS_CH_status_late_start c.val = false) ∧
    (81840 * (s.gport (c.val / 128)).epochs ≤ (s.chan c.val).at_ → exec (.gnssPendingStart c) s = .next s)) ∧
  (∀ (s : State) (c : Fin 512) (data : List Byte) (j : Nat), s.supplied = true → s.live = true → s.rf GNS_CH_status_state c.val = 2 →
    nextBound (s.chSig c.val) (s.chan c.val).code (s.codeNow c.val) = some j →
    (s.chan c.val).at_ + j ≤ 81840 * (s.gport (c.val / 128)).epochs → (s.chan c.val).commit = none →
    0 < (s.queue (344 + c.val / 128)).c → ∃ t b, exec (.gnssDumpBoundary c data) s = .next t ∧ (t.chan c.val).bounds = (s.chan c.val).bounds + 1 ∧
      (t.chan c.val).at_ = (s.chan c.val).at_ + j ∧ t.rf GNS_CH_44_seq c.val = (s.chan c.val).bounds % 2 ^ 32 ∧ b.length = 64 ∧
      (s.rb GNS_CH_ctl_sec_wipe c.val = false → b = dumpBytes (s.chan c.val).bounds c.val (s.dumpTaps c.val (data.take j))) ∧
      t.queue (344 + c.val / 128) = (s.queue (344 + c.val / 128)).push ⟨s.domNow (36 + c.val / 128), .bytes b⟩) ∧
  (∀ (s : State) (p : Fin 4) (z : Int) (b : List Byte) (rest : List QItem), s.supplied = true → s.live = true → (s.queue (344 + p.val)).items = ⟨z, .bytes b⟩ :: rest →
    0 < (s.queue (344 + p.val)).vis → s.rf GNS_Pp_RING_SIZE_log2n p.val ≤ 16 → (s.gport p.val).dropped = 0 → b.length = 64 →
    Memory.wf s.mem = true → s.rf GNS_Pp_RING_HEAD_head p.val < 2 ^ s.rf GNS_Pp_RING_SIZE_log2n p.val →
    (s.rf GNS_Pp_RING_HEAD_head p.val + 1) % 2 ^ s.rf GNS_Pp_RING_SIZE_log2n p.val ≠
      s.rf GNS_Pp_RING_TAIL_tail p.val % 2 ^ s.rf GNS_Pp_RING_SIZE_log2n p.val →
    s.rf GNS_Pp_RING_BASE_base p.val * 64 + 64 * s.rf GNS_Pp_RING_HEAD_head p.val + 64 ≤ 0x800000 →
    s.bank (bankOf (0x800000 + (s.rf GNS_Pp_RING_BASE_base p.val * 64 + 64 * s.rf GNS_Pp_RING_HEAD_head p.val))) = 0 →
    ∃ t, exec (.gnssDumpRingWrite p) s = .next t ∧ (t.queue (344 + p.val)).items = rest ∧
      t.rf GNS_Pp_RING_HEAD_head p.val = (s.rf GNS_Pp_RING_HEAD_head p.val + 1) % 2 ^ s.rf GNS_Pp_RING_SIZE_log2n p.val ∧
      t.bytesAt (0x800000 + (s.rf GNS_Pp_RING_BASE_base p.val * 64 + 64 * s.rf GNS_Pp_RING_HEAD_head p.val)) 64 = b)

/-- R280, R286, R289, R290, R292, R202, R203: a latch is armed for a time ahead on running ports and ends when its last port has captured;
a bound that firmware writes is published and expires; an acquisition request waits, runs and ends with its status in its slot; a
snapshot goes, captures, completes or is aborted. A Moss round of a port measures at its boundary; its end counts it, and a cause ends
it in HOLD with the cause, the count and the port's source; a release lets the rounds go on where the watch is still on. -/
def Obligations.GnssLatchesCapturesAndMossRounds : Prop :=
  (∀ (s : State) (r : Req), s.supplied = true → s.domNow 0 + 20 * uUs ≤ unpackTime (s.rf GNS_XLATCH_TIME_time) →
    (∀ p, p < 4 → bitOf (s.rf GNS_XLATCH_CTL_ports) p = true → s.portRuns p = true) → s.rf GNS_XLATCH_CTL_ports ≠ 0 →
    ∃ t, exec (.gnssXlatchArm r) s = .next t ∧ t.rb GNS_XLATCH_STATUS_pending = true ∧ t.rf GNS_XLATCH_STATUS_result = 0 ∧
      t.gns.xPorts = s.rf GNS_XLATCH_CTL_ports ∧ t.gns.xTime = unpackTime (s.rf GNS_XLATCH_TIME_time) ∧ t.gns.xId = s.rf GNS_XLATCH_CTL_id) ∧
  (∀ (s : State) (r : Req), s.supplied = true → unpackTime (s.rf GNS_XLATCH_TIME_time) < s.domNow 0 + 20 * uUs →
    exec (.gnssXlatchArm r) s = .next (s.wf GNS_XLATCH_STATUS_result 1)) ∧
  (∀ (s : State) (p : Fin 4), s.supplied = true → s.rb GNS_XLATCH_STATUS_pending = true → s.gns.xPorts = 2 ^ p.val → (s.gport p.val).epochs ≠ 0 →
    (s.gns.xTime ≤ s.now → ∃ t, exec (.gnssXlatchCapture p) s = .next t ∧
      t.rb GNS_XLATCH_STATUS_pending = false ∧ t.gns.xPorts = 0 ∧ t.bit32 SYS_IRQ_CAUSEw_cause 24 = true) ∧
    (s.now < s.gns.xTime → exec (.gnssXlatchCapture p) s = .next s)) ∧
  (∀ (s : State) (r : Req) (a : Fin 5) (v : BitVec 32), s.supplied = true → ∃ t, exec (.gnssSolBoundWrite r a v) s = .next t ∧
    t.rf GNS_SOLa_BOUND_ps a.val = v.toNat ∧ t.gns.solAt[a.val]? = some s.raw ∧
    (a.val < 4 → t.isReady (12 + a.val) = (decide (v.toNat ≠ 0xFFFFFFFF) && s.portRuns a.val))) ∧
  (∀ (s : State) (a : Fin 5), s.supplied = true → s.rf GNS_SOLa_BOUND_ps a.val ≠ 0xFFFFFFFF →
    (s.gns.solAt[a.val]?).getD 0 + ((max 1 (s.rf GNS_SOL_TIMEOUT_secs) : Nat) : Int) * uSec < s.watermark 0 - s.tm.total →
    ∃ t, exec (.gnssSolBoundExpire a) s = .next t ∧ t.rf GNS_SOLa_BOUND_ps a.val = 0xFFFFFFFF) ∧
  (∀ (s : State) (r : Req) (k : Fin 64), s.supplied = true →
    (s.gns.acqQ.length < 64 → exec (.gnssAcqSubmit r k) s =
      .next ((s.setGns { s.gns with acqQ := s.gns.acqQ ++ [k.val] }).wf GNS_ACQ_STATUS_waiting (s.gns.acqQ.length + 1))) ∧
    (64 ≤ s.gns.acqQ.length → exec (.gnssAcqSubmit r k) s = .next (s.inc GNS_ACQ_REFUSED_count))) ∧
  (∀ (s : State) (k : Fin 64) (rest : List Nat), s.supplied = true → s.gns.acqQ = k.val :: rest → rest.length < 128 →
    s.rb GNS_ACQ_STATUS_busy = false → (∃ p, p < 4 ∧ s.pdOn (11 + p) = true) →
    (s.acqCheck k.val = 0 → ∃ t, exec .gnssAcqRequestStart s = .next t ∧ t.rb GNS_ACQ_STATUS_busy = true ∧
      t.rf GNS_ACQ_STATUS_slot = k.val ∧ t.rf GNS_ACQ_STATUS_waiting = rest.length ∧ t.gns.acqQ = rest ∧
      t.gns.acqLeft = (if bitOf (s.acqWord k.val 0) 14 then 0 else bitsOf (s.acqWord k.val 0) 15 4 * bitsOf (s.acqWord k.val 0) 19 8)) ∧
    (s.acqCheck k.val ≠ 0 → Memory.wf s.mem = true → ∃ t, exec .gnssAcqRequestStart s = .next t ∧ t.rb GNS_ACQ_STATUS_busy = false ∧
      t.acqWord k.val 0x20 = s.acqCheck k.val ∧ t.gns.acqQ = rest)) ∧
  (∀ (s : State) (k : Nat), s.supplied = true → s.rb GNS_ACQ_STATUS_busy = true → k = s.rf GNS_ACQ_STATUS_slot →
    (0 < s.gns.acqLeft → exec .gnssAcqRequestComplete s = .next s) ∧
    (s.gns.acqLeft = 0 → ∃ t, exec .gnssAcqRequestComplete s = .next t ∧ t.rb GNS_ACQ_STATUS_busy = false ∧
      t.rf GNS_ACQ_DONE_count = (s.rf GNS_ACQ_DONE_count + 1) % 2 ^ GNS_ACQ_DONE_count.width ∧ t.bit32 SYS_IRQ_CAUSEw_cause 22 = true) ∧
    (∀ (bin ratio cn0 : Nat) (ofs : Int), Memory.wf s.mem = true → s.gns.acqLeft = 0 → bitOf (s.acqWord k 0) 14 = false →
      Config.acqPeak ([0, 4, 8, 0xC].map (s.acqWord k)) s.gns.acqData = (bin, ofs, ratio, cn0) → ∃ t, exec .gnssAcqRequestComplete s = .next t ∧
      t.acqWord k 0x24 = s.acqCode k ofs ∧ t.acqWord k 0x28 = s.acqCar k bin ∧ t.acqWord k 0x2C = ratio % 65536 + cn0 % 65536 * 65536 ∧
      t.acqWord k 0x20 = (if s.rf GNS_ACQ_CTL_thresh ≤ ratio % 65536 then 0 else 1))) ∧
  (∀ (s : State) (r : Req), s.supplied = true → (∀ p, p < 4 → bitOf (s.rf GNS_SNAP_CTL_ports) p = true → s.portRuns p = true ∧ s.rf GNS_SNAP_BASEp_base p * 64 +
      captureBytes (s.rb GNS_SNAP_CTL_l1) (s.rb GNS_SNAP_CTL_l5) (lenMs (s.rf GNS_SNAP_CTL_len_ms)) ≤ 0x800000) → s.snapBusy = false →
    ∃ t, exec (.gnssSnapGo r) s = .next t ∧ t.rf GNS_SNAP_STATUS_state = 1 ∧ t.rf GNS_SNAP_STATUS_result = 0 ∧
      t.gns.snapLeft = s.rf GNS_SNAP_CTL_ports) ∧
  (∀ (s : State) (r : Req), s.supplied = true → s.snapBusy = true →
    s.runsTo (.gnssSnapAbort r) (((s.wf GNS_SNAP_STATUS_state 3).wf GNS_SNAP_STATUS_result 4).setGns
      { s.gns with snapLeft := 0, snapMs := Vector.replicate 4 0 })) ∧
  (∀ (s : State) (r : Req), s.supplied = true → s.snapBusy = false → exec (.gnssSnapAbort r) s = .next s) ∧
  (∀ (s : State) (p : Fin 4), s.supplied = true → s.snapBusy = true → bitOf s.gns.snapLeft p.val = true → s.portRuns p.val = true →
    (s.gns.snapFrom[p.val]?).getD 0 < (s.gport p.val).epochs → s.gns.snapAt ≤ (s.gport p.val).stamp →
    ∃ t, exec (.gnssSnapCaptureStart p) s = .next t ∧ t.rf GNS_SNAP_STATUS_state = 2 ∧ bitOf t.gns.snapLeft p.val = false ∧
      t.rf GNS_SNAP_Tp_time p.val = packTime (s.gport p.val).stamp ∧ t.gns.snapMs[p.val]? = some s.gns.snapLen) ∧
  (∀ s : State, s.supplied = true → s.snapBusy = true → s.gns.snapLeft = 0 → (∀ p : Fin 4, s.gns.snapMs[p.val]? = some 0) → ∃ t, exec .gnssSnapComplete s = .next t ∧ t.rf GNS_SNAP_STATUS_state = 3 ∧
    t.rf GNS_SNAP_STATUS_result = 0 ∧ t.bit32 SYS_IRQ_CAUSEw_cause 23 = true) ∧
  (∀ (s : State) (p : Fin 4) (data : List Byte) (f : BitVec 32), s.supplied = true → s.pd (11 + p.val) = 2 → s.rb MOSS_Gp_CTL_en p.val = true →
    s.rf MOSS_Gp_STATUS_state p.val = 1 → s.tm.run = true → gridFrom 0 (s.mossGPeriod p.val) (s.gport p.val).mossFrom ≤ s.now →
    ∃ t, exec (.mossGRound p data (some f)) s = .next t ∧ t.rf MOSS_Gp_STATUS_state p.val = 2 ∧
      t.rf MOSS_Gp_LAST_FREQ_ppb p.val = f.toNat ∧ (t.gport p.val).mossFreq = some f.toInt) ∧
  (∀ (s : State) (p : Fin 4), s.supplied = true → s.rf MOSS_Gp_STATUS_state p.val = 2 →
    (s.mossGCause p.val = 0 → s.rf MOSS_Gp_CTL_wake_every p.val = 0 → ∃ t, exec (.mossGRoundEnd p) s = .next t ∧
      t.rf MOSS_Gp_STATUS_state p.val = 1 ∧
      t.rf MOSS_Gp_ROUNDS_count p.val = (s.rf MOSS_Gp_ROUNDS_count p.val + 1) % 2 ^ MOSS_Gp_ROUNDS_count.width) ∧
    (s.mossGCause p.val ≠ 0 → ∃ t, exec (.mossGRoundEnd p) s = .next t ∧ t.rf MOSS_Gp_STATUS_state p.val = 3 ∧
      t.rf MOSS_Gp_STATUS_cause p.val = s.mossGCause p.val ∧ t.bit32 SYS_IRQ_CAUSEw_cause (84 + p.val) = true)) ∧
  (∀ (s : State) (p : Fin 4), s.supplied = true → s.rf MOSS_Gp_STATUS_state p.val ≠ 2 → exec (.mossGRoundEnd p) s = .next s) ∧
  (∀ (s : State) (r : Req) (p : Fin 4), s.supplied = true →
    (s.rf MOSS_Gp_STATUS_state p.val = 3 → s.pd (11 + p.val) = 2 → s.rb MOSS_Gp_CTL_en p.val = true → ∃ t, exec (.mossGRelease r p) s = .next t ∧
      t.rf MOSS_Gp_STATUS_state p.val = 1 ∧ (t.gport p.val).mossFrom = s.now) ∧
    (s.rf MOSS_Gp_STATUS_state p.val = 3 → s.pd (11 + p.val) ≠ 2 ∨ s.rb MOSS_Gp_CTL_en p.val = false → ∃ t, exec (.mossGRelease r p) s = .next t ∧
      t.rf MOSS_Gp_STATUS_state p.val = 0) ∧
    (s.rf MOSS_Gp_STATUS_state p.val ≠ 3 → exec (.mossGRelease r p) s = .next s))

/-! ## Lanes -/

/-- R295, R296, R318, R320, R297 to R303: a mode write is stored and takes an up lane down; 100G is for leaders; link up shows the
latencies and starts self-calibration, link down drops what waits; calibration within 50 ps is valid. Every start of a frame on an up
lane is counted, a frame with a wrong FCS in its own drop counter, and a whole frame for the pipeline is queued with its receive stamp;
a lane that is down receives nothing. -/
def Obligations.LanesAndReceivedFrames : Prop :=
  (∀ (s : State) (r : Req) (n : Fin 32) (v : BitVec 32), s.supplied = true → s.member n.val = false → v.toNat % 8 ≠ 4 →
    ∃ t, exec (.macModeWrite r n v) s = .next t ∧ t.rf MACn_CTL_mode n.val = v.toNat % 8 ∧ t.rf MACn_CTL_fec n.val = v.toNat / 8 % 4 ∧
      t.rf MACn_CTL_preempt_en n.val = v.toNat / 256 % 2 ∧
      (s.linkUp n.val = true → s.rf MACn_CTL_mode n.val ≠ v.toNat % 8 → t.linkUp n.val = false)) ∧
  (∀ (s : State) (r : Req) (n : Fin 32) (v : BitVec 32), s.supplied = true → s.member n.val = false → v.toNat % 8 = 4 → n.val % 8 ≠ 0 →
    s.rb MACn_CTL_preempt_en n.val = bitOf v.toNat 8 → ∃ t, exec (.macModeWrite r n v) s = .next t ∧ t.rf MACn_CTL_mode n.val = s.rf MACn_CTL_mode n.val ∧ t.lanes = s.lanes) ∧
  (∀ (s : State) (n : Fin 32) (a b : BitVec 32), s.supplied = true → s.live = true → s.linkUp n.val = false → s.laneMode n.val ≠ 0 → s.member n.val = false →
    s.pdOn (laneDom n.val) = true → ∃ t, exec (.linkUp n a b) s = .next t ∧ t.linkUp n.val = true ∧ t.rf MACn_RX_LAT_ps n.val = a.toNat ∧
      t.rf MACn_TX_LAT_ps n.val = b.toNat ∧ bitOf (t.rf SYS_READY_LANE_lanes) n.val = true ∧ (t.dom (4 + n.val)).running = true ∧
      (s.listening n.val = false → t.rb MACn_CAL_CTL_busy n.val = true) ∧ t.bit32 SYS_IRQ_CAUSEw_cause (256 + n.val) = true) ∧
  (∀ (s : State) (n : Fin 32), s.supplied = true → (s.linkUp n.val = true → ∃ t, exec (.linkDown n) s = .next t ∧ t.linkUp n.val = false ∧
      (t.lane n.val).reqs = [] ∧ (t.lane n.val).sched = [] ∧ (t.dom (4 + n.val)).running = false) ∧
    (s.linkUp n.val = false → exec (.linkDown n) s = .next s)) ∧
  (∀ (s : State) (r : Req) (n : Fin 32), s.supplied = true → s.listening n.val = false → s.member n.val = false → s.laneMode n.val ≠ 0 → (s.lane n.val).gens = [] →
    exec (.macSelfCal r n) s = .next (s.wf MACn_CAL_CTL_busy 1 n.val)) ∧
  (∀ (s : State) (n : Fin 32) (z : Int), s.supplied = true → s.rb MACn_CAL_CTL_busy n.val = true → -2 ^ 31 ≤ z → z < 2 ^ 31 →
    ∃ t, exec (.macSelfCalComplete n z) s = .next t ∧ t.rb MACn_CAL_CTL_busy n.val = false ∧ t.rs 32 MACn_CAL_RESULT_ps n.val = z ∧
      (t.rb MACn_STATUS_cal_valid n.val = true ↔ -50 ≤ z ∧ z ≤ 50)) ∧
  (∀ (s : State) (n : Fin 32) (z : Int), s.supplied = true → s.rb MACn_CAL_CTL_busy n.val = false → exec (.macSelfCalComplete n z) s = .next s) ∧
  (∀ (s : State) (n : Fin 32) (x : Rx), s.supplied = true → s.linkUp n.val = true → s.member n.val = false → s.rb MACn_CAL_CTL_busy n.val = false →
    s.listening n.val = false → (s.lane n.val).wakeAt ≤ s.now → s.domValid (4 + n.val) = true → x.codeOk = true → x.fragOk = true →
    60 ≤ x.data.length → x.data.length + 4 ≤ s.maxLen n.val →
    (x.fcsOk = false → exec (.frameReceive n x) s = .next ((s.inc MACn_CNTi_count (26 * n.val)).inc MACn_CNTi_count (26 * n.val + 4))) ∧
    (x.fcsOk = true → s.rxPlace n.val x.data = 0 → s.pdOn 10 = true → 0 < (s.queue (396 + n.val)).c →
      exec (.frameReceive n x) s = .next (((s.inc MACn_CNTi_count (26 * n.val)).inc MACn_CNTi_count (26 * n.val + 1)).qPush (396 + n.val)
        ⟨(s.rxStamp n.val x).1, .frame x.data x.express (s.rxStamp n.val x).2⟩)) ∧
    (x.fcsOk = true → s.rxPlace n.val x.data = 0 → (s.queue (396 + n.val)).c = 0 →
      exec (.frameReceive n x) s = .next ((s.inc MACn_CNTi_count (26 * n.val)).inc MACn_CNTi_count (26 * n.val + 13)))) ∧
  (∀ (s : State) (n : Fin 32) (x : Rx), s.supplied = true → s.linkUp n.val = false ∨ s.member n.val = true → exec (.frameReceive n x) s = .next s)

/-- R305 to R309, R321, R348: on a lane with no general frame waiting, a timed request gets the first slot that its lead and the medium leave and its
departure, and is dropped where the link is down or the unit may no longer submit it; a frame that is not ready at its
line gets a new slot or, after its last miss, is dropped; a ready frame starts at its slot, leaves with its departure and is counted, and the
closed gate discards it. -/
def Obligations.TimedFramesLaunch : Prop :=
  (∀ (s : State) (n : Fin 32) (q : TReq) (rest : List TReq) (data : Bytes), s.supplied = true → (s.lane n.val).reqs = q :: rest → (s.lane n.val).sched = [] →
    (s.lane n.val).gens = [] → s.linkUp n.val = true → s.maySubmit q.owner = true →
    q.build.msg = .raw data false 0 0 false → ∃ t f, exec (.timedRequest n) s = .next t ∧ (t.lane n.val).reqs = rest ∧
      (t.lane n.val).sched = [f] ∧ f.sigma = s.slotFrom n.val (s.now * 25) ∧ f.d = s.departure n.val f.sigma ∧ f.owner = q.owner ∧
      f.misses = 0 ∧ f.build = q.build) ∧
  (∀ (s : State) (n : Fin 32), s.supplied = true → (s.lane n.val).reqs = [] → (s.lane n.val).gens = [] → exec (.timedRequest n) s = .next s) ∧
  (∀ (s : State) (n : Fin 32) (q : TReq) (rest : List TReq), s.live = true → (s.lane n.val).reqs = q :: rest → (s.lane n.val).gens = [] →
    s.linkUp n.val = false ∨ s.maySubmit q.owner = false → q.owner = .plain → ∃ t, exec (.timedRequest n) s = .next t ∧ (t.lane n.val).reqs = rest ∧
      (t.lane n.val).sched = (s.lane n.val).sched ∧ t.macCnt n.val 23 = (s.macCnt n.val 23 + 1) % 2 ^ 64) ∧
  (∀ (s : State) (n : Fin 32) (f : TFrame) (data : Bytes), s.live = true → s.token = true → (s.lane n.val).gens = [] → (s.lane n.val).sched = [f] → f.started = false → f.ready ≤ s.now * 25 →
    s.frameReady n.val f = false → f.owner = .plain → f.build.msg = .raw data false 0 0 false →
    (s.rf MACn_RESLOT_MAX_n n.val ≤ f.misses → ∃ t, exec (.launchReadyLine n) s = .next t ∧ (t.lane n.val).sched = [] ∧
      t.macCnt n.val 22 = (s.macCnt n.val 22 + 1) % 2 ^ 64) ∧
    (f.misses < s.rf MACn_RESLOT_MAX_n n.val → ∃ t g, exec (.launchReadyLine n) s = .next t ∧ (t.lane n.val).sched = [g] ∧
      g.misses = f.misses + 1 ∧ g.build = f.build ∧ t.macCnt n.val 21 = (s.macCnt n.val 21 + 1) % 2 ^ 64)) ∧
  (∀ (s : State) (n : Fin 32) (f : TFrame) (rest : List TFrame), s.supplied = true → s.linkUp n.val = true → (s.lane n.val).gens = [] →
    (s.lane n.val).busyPre = false → (s.lane n.val).sched = f :: rest →
    (f.started = false → f.sigma ≤ s.now * 25 → s.frameReady n.val f = true → s.rb TWN_STATUS_gate = true →
      s.now * 25 + 12 * s.byteT n.val < f.sigma + s.frameTime n.val f →
      exec (.frameLaunch n) s = .next (s.setLane n.val { s.lane n.val with sched := { f with started := true } :: rest })) ∧
    (f.started = false → s.now * 25 < f.sigma → exec (.frameLaunch n) s = .next s) ∧
    (f.started = true → rest = [] → f.owner = .plain → f.sigma + s.frameTime n.val f ≤ s.now * 25 + 12 * s.byteT n.val →
      ∃ t, exec (.frameLaunch n) s = .next t ∧ (t.lane n.val).sched = [] ∧ (t.lane n.val).sent = f.held.map (fun h => (f.d, h.1)) ∧
        t.macCnt n.val 19 = (s.macCnt n.val 19 + 1) % 2 ^ 64 ∧ t.macCnt n.val 20 = (s.macCnt n.val 20 + 1) % 2 ^ 64) ∧
    (f.started = false → rest = [] → f.owner = .plain → f.sigma ≤ s.now * 25 → s.frameReady n.val f = true → s.rb TWN_STATUS_gate = false →
      ∃ t, exec (.frameLaunch n) s = .next t ∧ (t.lane n.val).sched = [] ∧ (t.lane n.val).sent = (s.lane n.val).sent ∧
        t.macCnt n.val 23 = (s.macCnt n.val 23 + 1) % 2 ^ 64))

/-- R296, R300, R309, R311, R313, R314, R318: a bonded member sends nothing and keeps its counts, and a general frame waits for the end of a
self-calibration; a descriptor with bad fields is answered with status 3 and nothing leaves; a general one on an up lane
sends its bytes of the commons; a preemption state is shown; ESMC times out after 5 s with QL 15 and sends a changed code at once; the
counters are latched and released together. -/
def Obligations.DescriptorsEsmcAndCounters : Prop :=
  (∀ (s : State) (n : Fin 32) (z : Int) (w : Nat) (rest : List QItem), s.supplied = true → (s.queue (1152 + n.val)).items = ⟨z, .word w⟩ :: rest →
    0 < (s.queue (1152 + n.val)).vis → s.live = true → (s.lane n.val).gens = [] →
    (s.member n.val = true → ∃ t, exec (.txDescriptorSubmit n) s = .next t ∧ (t.queue (1152 + n.val)).items = rest ∧ t.lanes = s.lanes ∧
      ∀ i, i < 26 → t.macCnt n.val i = s.macCnt n.val i) ∧
    (s.member n.val = false → s.rb MACn_CAL_CTL_busy n.val = true → bitsOf w 37 2 = 0 → exec (.txDescriptorSubmit n) s = .next s) ∧
    (s.member n.val = false → s.rb MACn_CAL_CTL_busy n.val = false → s.descOk n.val w = false → ∃ t, exec (.txDescriptorSubmit n) s = .next t ∧ (t.queue (1152 + n.val)).items = rest ∧
      t.macCnt n.val 18 = (s.macCnt n.val 18 + 1) % 2 ^ 64 ∧ t.macCnt n.val 23 = (s.macCnt n.val 23 + 1) % 2 ^ 64 ∧ t.lanes = s.lanes) ∧
    (s.descOk n.val w = true → bitsOf w 37 2 = 0 → bitOf w 50 = false → s.linkUp n.val = true → s.listening n.val = false →
      s.member n.val = false → s.rb MACn_CAL_CTL_busy n.val = false → (s.lane n.val).sched = [] → (s.lane n.val).busyEnd ≤ s.now * 25 →
      s.served (w / 64 % 2 ^ 17 * 64) (w / 2 ^ 23 % 2 ^ 14) →
      ∃ t d, exec (.txDescriptorSubmit n) s = .next t ∧ (t.queue (1152 + n.val)).items = rest ∧ (t.lane n.val).sent =
        some (d, s.bytesAt (0x800000 + w / 64 % 2 ^ 17 * 64) (w / 2 ^ 23 % 2 ^ 14)) ∧
        t.macCnt n.val 18 = (s.macCnt n.val 18 + 1) % 2 ^ 64 ∧ t.macCnt n.val 19 = (s.macCnt n.val 19 + 1) % 2 ^ 64)) ∧
  (∀ (s : State) (n : Fin 32) (st : BitVec 2), s.supplied = true → s.rf MACn_STATUS_preempt n.val ≠ st.toNat → s.rb MACn_CTL_preempt_en n.val = true →
    s.linkUp n.val = true → (s.lane n.val).gens = [] → (s.lane n.val).busyPre = false →
    s.member n.val = false → s.runsTo (.preemptStateChange n st) (s.wf MACn_STATUS_preempt st.toNat n.val)) ∧
  (∀ (s : State) (n : Fin 32) (st : BitVec 2), s.supplied = true → s.rf MACn_STATUS_preempt n.val = st.toNat → exec (.preemptStateChange n st) s = .next s) ∧
  (∀ (s : State) (n : Fin 32), s.supplied = true → s.rb MACn_ESMC_TX_en n.val = true → s.rb MACn_ESMC_RX_timeout n.val = false →
    (s.member n.val = false → (s.lane n.val).esmcAt + 5 * uSec ≤ s.laneMark n.val → ∃ t, exec (.esmcTimeout n) s = .next t ∧ t.rb MACn_ESMC_RX_timeout n.val = true ∧
      t.rf MACn_ESMC_RX_ssm n.val = 15 ∧ t.bit32 SYS_IRQ_CAUSEw_cause (320 + n.val) = true) ∧
    (s.laneMark n.val < (s.lane n.val).esmcAt + 5 * uSec → exec (.esmcTimeout n) s = .next s)) ∧
  (∀ (s : State) (n : Fin 32), s.supplied = true → s.rb MACn_ESMC_TX_en n.val = true → s.linkUp n.val = true → s.listening n.val = false → s.member n.val = false →
    s.rb MACn_CAL_CTL_busy n.val = false → s.rb TWN_STATUS_gate = true → (s.lane n.val).gens = [] → (s.lane n.val).sched = [] →
    (s.lane n.val).busyEnd ≤ s.now * 25 → s.esmcCode n.val ≠ (s.lane n.val).esmcSent → ∃ t d, exec (.esmcInfoTx n) s = .next t ∧
      (t.lane n.val).esmcSent = s.esmcCode n.val ∧ (t.lane n.val).sent = some (d, s.esmcFrame n.val (s.esmcCode n.val) true) ∧
      t.macCnt n.val 18 = (s.macCnt n.val 18 + 1) % 2 ^ 64) ∧
  (∀ (s : State) (r : Req) (n : Fin 32) (on : Bool), s.supplied = true → s.member n.val = true → exec (.macCntSnap r n on) s = .next s) ∧
  (∀ (s : State) (r : Req) (n : Fin 32), s.supplied = true → s.member n.val = false → (∃ t, exec (.macCntSnap r n true) s = .next t ∧ t.rb MACn_CNT_SNAP_snap n.val = true ∧
      (t.lane n.val).snap = some ((List.range 26).map (s.macCnt n.val)) ∧
      t.rf MACn_INFLIGHT_tx n.val = ((s.lane n.val).sched.length + (s.lane n.val).gens.length + (s.lane n.val).reqs.length) % 4096) ∧
    exec (.macCntSnap r n false) s = .next ((s.wf MACn_CNT_SNAP_snap 0 n.val).setLane n.val { s.lane n.val with snap := none }))

/-! ## Time service -/

/-- R299, R346, R347, R331, R333: an item that the pipeline takes from its lane's queue is counted as TAKEN, one that it popped at a reset of that
queue was counted then and goes first; while SYS_READY.tsv is 0 it counts NOT_READY, with a drop
cause it counts that cause, an NTP request without a token of its slot counts POLICED, and one with a token waits for its answer; a
lane without an item, and a domain that is not ON, do nothing. A message of another clock is counted as foreign and, where the forward
ring has room, written to it with its header and announced; a Management or Signaling message is written the same way; where the ring
is full it counts FWD_FULL. -/
def Obligations.TsvPacketsAndForwarding : Prop :=
  (∀ (s : State) (n : Fin 32) (z : Int) (l : Bytes) (ex co : Bool) (rest : List (Nat × QItem)), s.supplied = true → s.pdOn 10 = true →
    takeOf n.val s.tsv.inbox = some (⟨z, .frame l ex co⟩, rest) → ∃ t, exec (.tsvPacketTake n) s = .next t ∧ t.tsv.inbox = rest ∧
      t.rf TSV_CNTi_count 0 = s.rf TSV_CNTi_count 0 ∧ (t.queue (396 + n.val)).items = (s.queue (396 + n.val)).items ∧
      (s.isReady 8 = false → s.counted t TSV_CNTi_count 3)) ∧
  (∀ (s : State) (n : Fin 32) (z : Int) (l : Bytes) (ex co : Bool) (rest : List QItem), s.supplied = true → s.pdOn 10 = true → 0 < (s.queue (396 + n.val)).vis →
    (s.queue (396 + n.val)).items = ⟨z, .frame l ex co⟩ :: rest → takeOf n.val s.tsv.inbox = none →
    (∃ t, exec (.tsvPacketTake n) s = .next t ∧ (t.queue (396 + n.val)).items = rest ∧ s.counted t TSV_CNTi_count 0 ∧
      (s.isReady 8 = false → s.counted t TSV_CNTi_count 3 ∧ t.tsv = s.tsv)) ∧
    (∀ (v : IpView) (m : Bytes), s.isReady 8 = true → ipView l = some v → udpOk l v = true → v.dport = 123 → m = udpPayload l v →
      (m.length < 48 → ∃ t, exec (.tsvPacketTake n) s = .next t ∧ s.counted t TSV_CNTi_count 4 ∧ t.tsv = s.tsv) ∧
      (48 ≤ m.length → s.rb TSV_LANEn_ntp n.val = true → beAt m 0 1 % 8 ≠ 3 → ∃ t, exec (.tsvPacketTake n) s = .next t ∧
        s.counted t TSV_CNTi_count 8 ∧ t.tsv = s.tsv) ∧
      (48 ≤ m.length → s.rb TSV_LANEn_ntp n.val = true → beAt m 0 1 % 8 = 3 → beAt m 0 1 / 8 % 8 = 4 → isNts m = false →
        (s.token = false → ∃ t, exec (.tsvPacketTake n) s = .next t ∧ s.counted t TSV_CNTi_count 18 ∧ t.tsv = s.tsv) ∧
        (s.token = true → (s.police l).2 = true → ∃ t, exec (.tsvPacketTake n) s = .next t ∧
          t.tsv.work = s.tsv.work ++ [⟨.ntp, n.val, z, ex, co, l⟩]) ∧
        (s.token = true → (s.police l).2 = false → s.rb TSV_CTL_kod = false → ∃ t, exec (.tsvPacketTake n) s = .next t ∧
          t.tsv.work = s.tsv.work ∧ s.counted t TSV_CNTi_count 14)))) ∧
  (∀ (s : State) (n : Fin 32), s.supplied = true → s.pdOn 10 = false ∨ ((s.queue (396 + n.val)).vis = 0 ∧ takeOf n.val s.tsv.inbox = none) → exec (.tsvPacketTake n) s = .next s) ∧
  (∀ (s : State) (w : Work) (rest : List Work) (i : Instr) (k h u : Nat), s.supplied = true → s.worksOn w rest →
    (i = .ptpForeignMessage ∧ w.route = .foreign) ∨ (i = .ptpForwardMessage ∧ w.route = .forward) →
    k = s.rf TSV_FWD_SIZE_log2n → k ≤ 17 → h = s.rf TSV_FWD_HEAD_head → u = 1 + ceilDiv w.data.length 64 → h + u ≤ 2 ^ k →
    (ringFill k h (s.rf TSV_FWD_TAIL_tail) + u < 2 ^ k → ∃ t, exec i s = .next t ∧ t.tsv.work = rest ∧ s.counted t TSV_CNTi_count 2 ∧
      t.rf TSV_FWD_HEAD_head = (h + u) % 2 ^ k ∧ t.bit32 SYS_IRQ_CAUSEw_cause 27 = true ∧
      (i = .ptpForeignMessage → s.counted t TSV_CNTi_count 22) ∧
      (s.served (s.rf TSV_FWD_BASE_base * 64 + 64 * h) (64 * u) → Memory.wf s.mem = true →
        t.bytesAt (commonsBase + s.rf TSV_FWD_BASE_base * 64 + 64 * h + 64) w.data.length = w.data)) ∧
    (2 ^ k ≤ ringFill k h (s.rf TSV_FWD_TAIL_tail) + u → ∃ t, exec i s = .next t ∧ t.tsv.work = rest ∧ s.counted t TSV_CNTi_count 17 ∧
      t.mem = s.mem))

/-- R341, R342, R348: a unit without the token drops a request as STANDBY; an NTP request on a lane that answers plain NTP gets a timed response with its version, poll and transmit time, on a listening
lane it counts LISTENING, on a lane without plain NTP it counts NTP_PLAIN_OFF; an NTS request in the wrong form is counted, one whose cookie
does not open is answered NTSN with its unique identifier, and one that verifies is answered with a fresh cookie for its own and for each
placeholder. -/
def Obligations.NtpAndNtsRequestsAreAnswered : Prop :=
  (∀ (s : State) (w : Work) (rest : List Work) (i : Instr), s.supplied = true → s.worksOn w rest → s.token = false →
    (i = .ntpRequest ∧ w.route = .ntp) ∨ (i = .ntsRequest ∧ w.route = .nts) ∨ (i = .ptpDelayReq ∧ w.route = .delayReq) ∨
      (i = .ptpPdelayReq ∧ w.route = .pdelayReq) ∨ (i = .ptpUnicastSignaling ∧ w.route = .signaling) →
    ∃ t, exec i s = .next t ∧ t.tsv.work = rest ∧ s.counted t TSV_CNTi_count 18 ∧ t.lanes = s.lanes) ∧
  (∀ (s : State) (w : Work) (rest : List Work), s.supplied = true → s.worksOn w rest → w.route = .ntp → s.token = true →
    (s.rb TSV_LANEn_plain w.lane = false → ∃ t, exec .ntpRequest s = .next t ∧ t.tsv.work = rest ∧ s.counted t TSV_CNTi_count 13 ∧
      t.lanes = s.lanes) ∧
    (s.rb TSV_LANEn_plain w.lane = true → s.listening w.lane = true → ∃ t, exec .ntpRequest s = .next t ∧ t.tsv.work = rest ∧
      s.counted t TSV_CNTi_count 16 ∧ t.lanes = s.lanes) ∧
    (s.rb TSV_LANEn_plain w.lane = true → s.listening w.lane = false → ∃ t, exec .ntpRequest s = .next t ∧ t.tsv.work = rest ∧
      s.counted t TSV_CNTi_count 1 ∧ s.counted t MACn_CNTi_count (26 * w.lane + 18) ∧
      s.handed t w.lane ⟨s.ntpAddr w.lane w.data, .ntp (beAt (ptpOf w.data) 0 1 / 8 % 8) (beAt (ptpOf w.data) 2 1) (beAt (ptpOf w.data) 40 8)
        w.stamp w.coarse⟩ .plain)) ∧
  (∀ s : State, s.supplied = true → s.tsv.work = [] → exec .ntpRequest s = .next s ∧ exec .ntsRequest s = .next s) ∧
  (∀ (s : State) (w : Work) (rest : List Work), s.supplied = true → s.worksOn w rest → w.route = .nts → s.token = true →
    (ntsReq (ptpOf w.data) = none → ∃ t, exec .ntsRequest s = .next t ∧ t.tsv.work = rest ∧ s.counted t TSV_CNTi_count 12 ∧ t.lanes = s.lanes) ∧
    (∀ x, ntsReq (ptpOf w.data) = some x → s.listening w.lane = false →
      (s.openCookie x.cookie = none → ∃ t, exec .ntsRequest s = .next t ∧ s.counted t TSV_CNTi_count 1 ∧ s.counted t TSV_CNTi_count 20 ∧
        s.handed t w.lane ⟨s.ntpAddr w.lane w.data, .kiss (beAt (ptpOf w.data) 0 1 / 8 % 8) (beAt (ptpOf w.data) 2 1) (beAt (ptpOf w.data) 40 8)
          (ascii "NTSN") (extField 0x0104 x.uid)⟩ .plain) ∧
      (∀ c2s s2c, s.openCookie x.cookie = some (c2s, s2c) →
        (Config.sivOpen c2s [x.head, x.nonce] x.ct = none → ∃ t, exec .ntsRequest s = .next t ∧ s.counted t TSV_CNTi_count 11 ∧
          t.lanes = s.lanes) ∧
        (∀ u cookies, Config.sivOpen c2s [x.head, x.nonce] x.ct ≠ none →
          ((s.setTsv { s.tsv with work := rest }).cookieUse x.cookie).mintCookies c2s s2c (1 + x.holders) = some (u, cookies) →
          ∃ t nonce, exec .ntsRequest s = .next t ∧ s.counted t TSV_CNTi_count 1 ∧ cookies.length = 1 + x.holders ∧ nonce.length = 16 ∧
            s.handed t w.lane ⟨s.ntpAddr w.lane w.data, .nts (beAt (ptpOf w.data) 0 1 / 8 % 8) (beAt (ptpOf w.data) 2 1)
              (beAt (ptpOf w.data) 40 8) w.stamp w.coarse (extField 0x0104 x.uid) s2c nonce (cookies.map (extField 0x0204)).flatten⟩ .plain))))

/-- R329, R331: a Delay_Req in a multicast profile is answered with its sequenceId, its correction less the fraction of the receive time,
the receive time and the requester; in a profile without multicast it counts NO_SESSION where the client holds no live Delay_Resp grant; a
Pdelay_Req in family 5 is answered in two steps
and elsewhere in one that subtracts the turnaround; a Pdelay_Resp of the exchange that runs is held until its follow-up, which gives
the mean link delay and continues or ends the run of good exchanges at 800 ns. A lane that serves a multicast profile sends the Sync
that is due on the profile's transport and remembers when; a family 5 lane whose peer context exists sends the next Pdelay_Req, with
the next sequenceId; a lane that does not serve sends nothing. -/
def Obligations.DelayExchangesAndMulticast : Prop :=
  (∀ (s : State) (w : Work) (rest : List Work) (p : Nat), s.supplied = true → s.worksOn w rest → w.route = .delayReq → s.token = true →
    p = s.rf TSV_LANEn_prof w.lane →
    (s.profMulticast p = false → s.client w.lane (ptpSrc (ptpOf w.data)) = none → ∃ t, exec .ptpDelayReq s = .next t ∧ s.counted t TSV_CNTi_count 15 ∧ t.lanes = s.lanes) ∧
    (s.profMulticast p = true → s.listening w.lane = false → s.client w.lane (ptpSrc (ptpOf w.data)) = none →
      ptpFlags (ptpOf w.data) / flagUnicast % 2 = 0 → ∃ t a by_, exec .ptpDelayReq s = .next t ∧ s.counted t TSV_CNTi_count 1 ∧
        s.handed t w.lane ⟨a, .ptp (s.ptpHdr p ptpDelayResp 0 (ptpCorr (ptpOf w.data) - fracOf w.stamp) (s.portId w.lane)
          (ptpSeq (ptpOf w.data)) (s.profLog p 2) ++ tsBytes w.stamp ++ ptpSrc (ptpOf w.data)) p .none true w.coarse by_⟩ .plain)) ∧
  (∀ (s : State) (w : Work) (rest : List Work) (p : Nat), s.supplied = true → s.worksOn w rest → w.route = .pdelayReq → s.token = true →
    p = s.rf TSV_LANEn_prof w.lane →
    (s.listening w.lane = false → ptpFlags (ptpOf w.data) / flagUnicast % 2 = 0 →
      (s.family p ≠ 5 → ∃ t a by_, exec .ptpPdelayReq s = .next t ∧ s.counted t TSV_CNTi_count 1 ∧
        s.handed t w.lane ⟨a, .ptp (s.ptpHdr p ptpPdelayResp 0 (ptpCorr (ptpOf w.data)) (s.portId w.lane) (ptpSeq (ptpOf w.data)) 0x7F ++
          zeros 10 ++ ptpSrc (ptpOf w.data)) p (.turnaround w.stamp) true w.coarse by_⟩ .plain) ∧
      (s.family p = 5 → ∃ t a b by_, exec .ptpPdelayReq s = .next t ∧ s.counted t TSV_CNTi_count 1 ∧
        s.handed t w.lane ⟨a, .ptp (s.ptpHdr p ptpPdelayResp flagTwoStep (ptpCorr (ptpOf w.data) - fracOf w.stamp) (s.portId w.lane)
          (ptpSeq (ptpOf w.data)) 0x7F ++ tsBytes w.stamp ++ ptpSrc (ptpOf w.data)) p .none true w.coarse by_⟩
          (.twoStep ⟨b, .ptp (s.ptpHdr p ptpPdelayRespFU 0 0 (s.portId w.lane) (ptpSeq (ptpOf w.data)) 0x7F ++ zeros 10 ++
            ptpSrc (ptpOf w.data)) p .none false w.coarse by_⟩)))) ∧
  (∀ (s : State) (w : Work) (rest : List Work) (t1 : Int), s.supplied = true → s.worksOn w rest → w.route = .pdelayResp →
    (s.peer w.lane).seq = ptpSeq (ptpOf w.data) → (s.peer w.lane).t1 = some t1 →
    (ptpType (ptpOf w.data) = ptpPdelayResp → ptpFlags (ptpOf w.data) / flagTwoStep % 2 = 1 → ∃ t, exec .ptpPdelayResp s = .next t ∧
      s.counted t TSV_CNTi_count 2 ∧ (t.peer w.lane).t2 = some (ptpTs (ptpOf w.data)) ∧ (t.peer w.lane).t4 = some w.stamp ∧
      (t.peer w.lane).corr = ptpCorr (ptpOf w.data) ∧ (t.peer w.lane).t1 = some t1) ∧
    (∀ t2 t4 i e, ptpType (ptpOf w.data) ≠ ptpPdelayResp → (s.peer w.lane).t2 = some t2 → (s.peer w.lane).t4 = some t4 →
      tabWf s.tsv.sess = true → s.peerCtx w.lane = some (i, e) → ∀ d : Int, d = (t4 - t1 - (ptpTs (ptpOf w.data) - t2 + (s.peer w.lane).corr +
        ptpCorr (ptpOf w.data))) / 2 → ∃ t e' r, exec .ptpPdelayResp s = .next t ∧ s.counted t TSV_CNTi_count 2 ∧ t.sess i = some e' ∧
        e'.data = peerData d r (if d ≤ 800 * uNs then peerRun e + 1 else 0) ∧ (t.peer w.lane).t1 = none)) ∧
  (∀ (s : State) (n : Fin 32) (p k : Nat) (at_ : Int × Int), s.supplied = true → p = s.rf TSV_LANEn_prof n.val → s.serving n.val = true → s.member n.val = false → s.profMulticast p = true →
    s.family p ≠ 5 → s.profTransports p = [k] → s.tsv.mcAt[n.val]? = some at_ → s.dueNow (logUnits (s.profLog p 0)) at_.1 = true →
    s.dueNow (logUnits (s.profLog p 1)) at_.2 = false → ∃ t b o, exec (.ptpMulticastTx n) s = .next t ∧ s.handed t n.val b o ∧
      t.tsv.mcAt[n.val]? = some (s.now, at_.2) ∧ s.counted t TSV_CNTi_count 19) ∧
  (∀ (s : State) (n : Fin 32) (i : Nat) (e : Sess), s.supplied = true → s.serving n.val = true → s.member n.val = false → s.family (s.rf TSV_LANEn_prof n.val) = 5 →
    s.due (logUnits (s.profLog (s.rf TSV_LANEn_prof n.val) 2)) (s.peer n.val).due = true → s.peerCtx n.val = some (i, e) →
    ∃ t b, exec (.ptpPdelayReqTx n) s = .next t ∧ s.handed t n.val b (.peer (((s.peer n.val).seq + 1) % 65536)) ∧
      (t.peer n.val).seq = ((s.peer n.val).seq + 1) % 65536 ∧ (t.peer n.val).t1 = none ∧ (t.peer n.val).due = s.now ∧
      s.counted t TSV_CNTi_count 19) ∧
  (∀ (s : State) (n : Fin 32) (c : Instr), s.supplied = true → c = .ptpMulticastTx n ∨ c = .ptpPdelayReqTx n → s.serving n.val = false → exec c s = .next s)

/-- R335, R336: a request within the granted intervals and the budget is granted a table entry at the lowest free index with its log interval
and expiry, and answered; one below the least interval is refused in the answer, without an entry; an expired grant ends, and the entry with
its last one; a Sync that is due is sent and its next time set by its interval. -/
def Obligations.UnicastGrants : Prop :=
  (∀ (s : State) (w : Work) (rest : List Work) (p t log dur : Nat) (v : Bytes) (k : Fin 3), s.supplied = true → s.worksOn w rest → w.route = .signaling →
    s.token = true → s.listening w.lane = false → p = s.rf TSV_LANEn_prof w.lane → ptpTlvs (ptpOf w.data) = some [(4, v)] → t = beAt v 0 1 / 16 →
    log = beAt v 1 1 → dur = beAt v 2 4 → s.grantSlot p t = some k → s.client w.lane (ptpSrc (ptpOf w.data)) = none →
    (toSigned 8 log < s.grantMin p k → ∃ u b, exec .ptpUnicastSignaling s = .next u ∧ u.tsv.sess = s.tsv.sess ∧
      s.handed u w.lane b .plain ∧ s.counted u TSV_CNTi_count 1) ∧
    (s.grantMin p k ≤ toSigned 8 log → s.tableRate + rate256 (toSigned 8 log) ≤ s.rf TSV_UNI_BUDGET_rate * 256 →
      lowFree 0 s.tsv.sess < 16384 → s.isReady 11 = false → tabWf s.tsv.sess = true →
      ∃ u e b, exec .ptpUnicastSignaling s = .next u ∧ u.sess (lowFree 0 s.tsv.sess) = some e ∧ e.kind = 1 ∧ e.state = 1 ∧ e.lane = w.lane ∧
        e.prof = p ∧ e.pid = ptpSrc (ptpOf w.data) ∧ e.logs[k] = toSigned 8 log ∧
        e.expiry[k] = (sec32 w.stamp + s.grantDur p dur) % 2 ^ 32 ∧ s.handed u w.lane b .plain ∧ s.counted u TSV_CNTi_count 1)) ∧
  (∀ (s : State) (i : Fin 16384) (x : Sess), s.supplied = true → s.sess i.val = some x → x.kind = 1 →
    ((∀ k : Fin 3, s.grantLive x k = false) → ∃ t, exec (.unicastGrantExpire i) s = .next t ∧ t.sess i.val = none) ∧
    ((∃ k : Fin 3, s.grantLive x k = true) → ∃ t e, exec (.unicastGrantExpire i) s = .next t ∧ t.sess i.val = some e ∧
      (∀ k : Fin 3, e.expiry[k] = if s.grantLive x k then x.expiry[k] else 0) ∧ e.logs = x.logs)) ∧
  (∀ (s : State) (i : Fin 16384) (c : Instr), s.supplied = true → c = .unicastGrantExpire i ∨ c = .ptpUnicastSyncTx i → s.sess i.val = none → exec c s = .next s) ∧
  (∀ (s : State) (i : Fin 16384) (x : Sess), s.supplied = true → s.sess i.val = some x → x.kind = 1 → x.state ≠ 2 → x.lane < 32 → s.serving x.lane = true → s.member x.lane = false →
    s.grantLive x 0 = true → x.next ≤ s.now → s.grantLive x 1 = false → ∃ t e b o, exec (.ptpUnicastSyncTx i) s = .next t ∧
      t.sess i.val = some e ∧ e.next = syncSlot i.val x.logs[0] (s.now + 1) ∧ e.seqs[0] = (x.seqs[0] + 1) % 65536 ∧
      s.handed t x.lane b o ∧ s.counted t TSV_CNTi_count 19)

/-- R338, R340: enabling a session takes a table entry of kind 2 and goes to NEGOTIATE or LISTEN; disabling frees it; an Announce takes LISTEN to
UNCALIB and is copied to the forward ring, or counted under FULL; a message of another source than the recorded one is dropped as NO_SESSION; a two-step Sync waits for its Follow_Up, and a one-step Sync in FEED gives its slot the offset as a feed, which a fatal cause refuses; Delay_Reqs and grant requests leave when they are due; a lapsed grant goes back to NEGOTIATE,
a missing Announce to LISTEN; a HOLDJ session that settled, or is told to resume, feeds again. -/
def Obligations.UpstreamSessions : Prop :=
  (∀ (s : State) (r : Req) (u : Fin 8) (v : BitVec 32), s.supplied = true → s.rb TSV_UPu_CTL_en u.val = false → s.upState u.val = 0 → v.toNat % 2 = 1 →
    lowFree 0 s.tsv.sess < 16384 → ∃ t e, exec (.upstreamSessionEnable r u v) s = .next t ∧
      t.upState u.val = (if v.toNat / 512 % 2 = 1 then 1 else 2) ∧ t.rf TSV_UPu_ENTRY_i u.val = lowFree 0 s.tsv.sess ∧
      t.sess (lowFree 0 s.tsv.sess) = some e ∧ e.kind = 2 ∧ e.lane = v.toNat / 2 % 32 ∧ e.prof = v.toNat / 64 % 8) ∧
  (∀ (s : State) (r : Req) (u : Fin 8) (v : BitVec 32), s.supplied = true → s.rb TSV_UPu_CTL_en u.val = true → s.upState u.val ≠ 0 → v.toNat % 2 = 0 →
    ∃ t, exec (.upstreamSessionEnable r u v) s = .next t ∧ t.upState u.val = 0 ∧ t.sess (s.rf TSV_UPu_ENTRY_i u.val) = none ∧
      t.rb TSV_UPu_STATUS_jump u.val = false) ∧
  (∀ (s : State) (w : Work) (rest : List Work) (u : Nat), s.supplied = true → s.worksOn w rest → w.route = .upstream u → u < 8 →
    s.rb TSV_PROFp_CFG_auth (s.upProf u) = false →
    (∀ k h j : Nat, ptpType (ptpOf w.data) = ptpAnnounce → s.upState u = 2 → k = s.rf TSV_FWD_SIZE_log2n → k ≤ 17 → h = s.rf TSV_FWD_HEAD_head →
      j = 1 + ceilDiv w.data.length 64 → h + j ≤ 2 ^ k → ∃ t, exec .upstreamMessage s = .next t ∧ t.upState u = 3 ∧
      t.rf TSV_UPu_GM_id u = beAt (ptpOf w.data) 53 8 % 2 ^ 64 ∧ (t.up u).annAt = w.stamp ∧
      (ringFill k h (s.rf TSV_FWD_TAIL_tail) + j < 2 ^ k → s.counted t TSV_CNTi_count 2 ∧ t.rf TSV_FWD_HEAD_head = (h + j) % 2 ^ k) ∧
      (2 ^ k ≤ ringFill k h (s.rf TSV_FWD_TAIL_tail) + j → s.counted t TSV_CNTi_count 17)) ∧
    (3 ≤ s.upState u → (s.up u).srcPid ≠ ptpSrc (ptpOf w.data) → ptpType (ptpOf w.data) ≠ ptpAnnounce → ∃ t, exec .upstreamMessage s = .next t ∧
      t.tsv.work = rest ∧ s.counted t TSV_CNTi_count 15 ∧ t.tsv.ups = s.tsv.ups ∧ t.upState u = s.upState u) ∧
    ((s.up u).srcPid = ptpSrc (ptpOf w.data) → ptpType (ptpOf w.data) = ptpSync → ptpFlags (ptpOf w.data) / flagTwoStep % 2 = 1 → ∃ t,
      exec .upstreamMessage s = .next t ∧
      (t.up u).pend = some (ptpSeq (ptpOf w.data), w.stamp, ptpCorr (ptpOf w.data)) ∧ s.counted t TSV_CNTi_count 2) ∧
    (∀ (slot : Nat) (f : Int), (s.up u).srcPid = ptpSrc (ptpOf w.data) → ptpType (ptpOf w.data) = ptpSync → ptpFlags (ptpOf w.data) / flagTwoStep % 2 = 0 → s.upState u = 4 →
      (s.up u).delays ≠ [] → s.upSlot u = some slot → f = w.stamp - (ptpTs (ptpOf w.data) + ptpCorr (ptpOf w.data)) - (s.up u).mean →
      (s.fatalSet = false → 0 < (s.queue 393).c → ∃ t, exec .upstreamMessage s = .next t ∧
        t.queue 393 = (s.queue 393).push ⟨s.domNow 0, .feed ⟨slot, f, w.stamp, s.rf TSV_UPu_UNC_ps u⟩⟩) ∧
      (s.fatalSet = true → ∃ t, exec .upstreamMessage s = .next t ∧ t.queue 393 = s.queue 393 ∧ s.counted t SYS_FATAL_REFUSED_count 0))) ∧
  (∀ (s : State) (u : Fin 8) (n : Nat), s.supplied = true → n = s.rf TSV_UPu_CTL_lane u.val → n < 32 → s.listening n = false → s.member n = false → s.pdOn 10 = true →
    (3 ≤ s.upState u.val → (s.up u.val).reqAt ≤ s.now → ∃ t b, exec (.upstreamDelayReqTx u) s = .next t ∧
      s.handed t n b (.upDelay u.val (s.up u.val).seq) ∧ (t.up u.val).seq = ((s.up u.val).seq + 1) % 65536 ∧
      (t.up u.val).reqAt = s.now + logUnits (s.profLog (s.upProf u.val) 2)) ∧
    (∀ k : Fin 3, s.upState u.val = 1 → s.rb TSV_UPu_CTL_nego u.val = true → (s.up u.val).negoAt[k] ≤ s.now → ∃ t b,
      exec (.upstreamGrantRenew u) s = .next t ∧ s.handed t n b (.up u.val) ∧ (t.up u.val).negoAt[k] = s.now + uSec)) ∧
  (∀ (s : State) (u : Fin 8), s.supplied = true → s.upState u.val = 4 → s.rb TSV_UPu_CTL_nego u.val = true → (s.up u.val).grants[0] ≤ s.now →
    ∃ t, exec (.upstreamGrantRenew u) s = .next t ∧ t.upState u.val = 1) ∧
  (∀ (s : State) (u : Fin 8), s.supplied = true → s.upState u.val = 0 → ∀ c : Instr, c = .upstreamDelayReqTx u ∨ c = .upstreamGrantRenew u ∨
    c = .upstreamAnnounceTimeout u ∨ c = .upstreamSettleComplete u → exec c s = .next s) ∧
  (∀ (s : State) (u : Fin 8), s.supplied = true → s.upState u.val = 4 →
    (s.upDeadline u.val = (s.up u.val).annAt + (s.rf TSV_PROFp_INTV_timeout (s.upProf u.val) : Int) * logUnits (s.up u.val).annLog) ∧
    (s.upDeadline u.val ≤ s.laneMark (s.rf TSV_UPu_CTL_lane u.val) → s.upWaits u.val (s.upDeadline u.val) = false →
      ∃ t, exec (.upstreamAnnounceTimeout u) s = .next t ∧ t.upState u.val = 2 ∧ t.bit32 SYS_IRQ_CAUSEw_cause 28 = true) ∧
    (s.laneMark (s.rf TSV_UPu_CTL_lane u.val) < s.upDeadline u.val ∨ s.upWaits u.val (s.upDeadline u.val) = true →
      exec (.upstreamAnnounceTimeout u) s = .next s)) ∧
  (∀ (s : State) (u : Fin 8), s.supplied = true → s.upState u.val = 5 → (∀ r : Req, ∃ t, exec (.upstreamResume r u) s = .next t ∧ t.upState u.val = 4 ∧
      t.rb TSV_UPu_STATUS_jump u.val = false) ∧
    (∀ z, (s.up u.val).holdFrom = some z → 0 < s.rf TSV_UPu_SETTLE_secs u.val → z + (s.rf TSV_UPu_SETTLE_secs u.val : Int) * uSec ≤ s.now →
      ∃ t, exec (.upstreamSettleComplete u) s = .next t ∧ t.upState u.val = 4 ∧ t.rb TSV_UPu_STATUS_jump u.val = false)) ∧
  (∀ (s : State) (r : Req) (u : Fin 8), s.supplied = true → s.upState u.val ≠ 5 → exec (.upstreamResume r u) s = .next s)

/-- R333, R344, R345, R347: a sealed message with a bad descriptor is answered with status 3, a good one is handed to its lane; a cookie rotation
derives the next generation into both lockers of its pair, or is tried again in a minute; the NTS-KE ring signs, mints or refuses the
descriptor at CONS and advances it; a snapshot latches the counters and the in-flight count together. -/
def Obligations.SealedMessagesAndCookies : Prop :=
  (∀ (s : State) (z z' : Int) (w c n : Nat) (rest : List QItem), s.supplied = true → (s.queue 1281).items = ⟨z, .word w⟩ :: ⟨z', .word c⟩ :: rest →
    2 ≤ (s.queue 1281).vis → n = c % 32 → s.pdOn 10 = true →
    (s.descOk n w = false → 0 < (s.queue 1282).c → ∃ t, exec .sealedMessageSubmit s = .next t ∧ (t.queue 1281).items = rest ∧
      (t.queue 1282).items = (s.queue 1282).items ++ [⟨s.domNow 0, .word (completion 0 3)⟩] ∧ t.lanes = s.lanes) ∧
    (∀ l m : Bytes, s.descOk n w = true → c / 4096 % 2 ^ 52 = 0 → bitsOf w 37 2 = 0 → s.served (bitsOf w 6 17 * 64) (bitsOf w 23 14) →
      l = s.bytesAt (commonsBase + bitsOf w 6 17 * 64) (bitsOf w 23 14) → ipView l = none → m = l.drop (ethView l).off → 34 ≤ m.length →
      ptpLen m ≤ m.length → s.linkUp n = true → s.listening n = false → s.member n = false → s.token = true → ∃ t a by_, exec .sealedMessageSubmit s = .next t ∧
        (t.queue 1281).items = rest ∧ s.counted t TSV_CNTi_count 19 ∧
        s.handed t n ⟨a, .wrapped (l.take (ethView l).off) (m.take (ptpLen m)) .none (bitOf c 11) by_⟩ .sealed)) ∧
  (∀ s : State, s.supplied = true → (s.queue 1281).vis < 2 → exec .sealedMessageSubmit s = .next s) ∧
  (∀ (s : State) (id g e d : Nat) (x y : Locker) (km : Bytes), s.supplied = true → s.tsv.cookieAt ≤ s.now → s.key.commit = none → s.token = true →
    id = (s.rf TSV_COOKIE_ID_id + 1) % 2 ^ 32 → g = id % 3 → e = s.rf TSV_COOKIE_LOCKg_enc g → d = s.rf TSV_COOKIE_LOCKg_dec g →
    s.keyOpen = true → s.locker e = some x → x.attr = 1 → x.p384 = false → s.locker d = some y → y.attr = 2 → y.p384 = false →
    s.lockerKey (s.rf TSV_COOKIE_CTL_master) 4 = some km →
    ∃ t x' y', exec .cookieRotation s = .next t ∧ t.rf TSV_COOKIE_ID_id = id ∧ t.tsv.cookies[g]? = some (some id) ∧ t.locker e = some x' ∧
      t.locker d = some y' ∧ x'.key = deriveKey s.key.chain km (ascii "nts-cookie" ++ leBytes 4 id) ∧ y'.key = x'.key) ∧
  (∀ s : State, s.supplied = true → s.tsv.cookieAt ≤ s.now → s.key.commit = none → s.token = true → s.keyOpen = false → ∃ t, exec .cookieRotation s = .next t ∧
    t.tsv.cookieAt = s.now + 60 * uSec ∧ t.key = s.key ∧ t.rf TSV_COOKIE_ID_id = s.rf TSV_COOKIE_ID_id) ∧
  (∀ s : State, s.supplied = true → s.now < s.tsv.cookieAt → exec .cookieRotation s = .next s) ∧
  (∀ (s : State) (n c off : Nat) (b : Bytes), s.supplied = true → n = 2 ^ s.rf TSV_KE_SIZE_log2n → s.rf TSV_KE_SIZE_log2n ≤ 10 → c = s.rf TSV_KE_CONS_index →
    c ≠ s.rf TSV_KE_PROD_index % n → s.fctl.swapping = none → s.pdOn 10 = true → off = s.rf TSV_KE_BASE_base * 128 + 128 * c → s.served off 128 →
    Memory.wf s.mem = true → b = s.bytesAt (commonsBase + off) 128 →
    (∀ x : Locker, sliceNat b 0 1 = 1 → s.keyOpen = true → s.locker (s.rf TSV_KE_CTL_locker) = some x → x.attr = 5 → x.p384 = true →
      sliceNat b 4 4 % 64 = 0 → inRange (sliceNat b 4 4) 96 = true → s.served (sliceNat b 4 4) 96 →
      sliceNat b 4 4 + 96 ≤ off ∨ off + 128 ≤ sliceNat b 4 4 →
      ∃ t, exec .keSign s = .next t ∧ t.rf TSV_KE_CONS_index = (c + 1) % n ∧ ofLeBytes (t.bytesAt (commonsBase + off + 124) 4) = 0 ∧
        t.bytesAt (commonsBase + sliceNat b 4 4) 96 = fitBytes 96 (Config.ecdsaSign x.key (Config.sha384 (tlsContent (slice b 8 48)))
          (s.draw 48).2) ∧ t.bit32 SYS_IRQ_CAUSEw_cause 26 = true) ∧
    (∀ g : Nat, sliceNat b 0 1 = 2 → 1 ≤ sliceNat b 1 1 → sliceNat b 1 1 ≤ 8 → sliceNat b 2 2 = 15 → sliceNat b 4 4 % 64 = 0 →
      inRange (sliceNat b 4 4) (104 * sliceNat b 1 1) = true → g = s.rf TSV_COOKIE_ID_id % 3 →
      s.tsv.cookies[g]? = some (some (s.rf TSV_COOKIE_ID_id)) → (s.lockerKey (s.rf TSV_COOKIE_LOCKg_enc g) 1).isSome = true →
      sliceNat b 4 4 + 104 * sliceNat b 1 1 ≤ off ∨ off + 128 ≤ sliceNat b 4 4 →
      ∃ t, exec .keMint s = .next t ∧ t.rf TSV_KE_CONS_index = (c + 1) % n ∧ ofLeBytes (t.bytesAt (commonsBase + off + 124) 4) = 0 ∧
        t.bit32 SYS_IRQ_CAUSEw_cause 26 = true) ∧
    (sliceNat b 0 1 = 0 ∨ 2 < sliceNat b 0 1 → ∀ i : Instr, i = .keSign ∨ i = .keMint → ∃ t, exec i s = .next t ∧
      t.rf TSV_KE_CONS_index = (c + 1) % n ∧ ofLeBytes (t.bytesAt (commonsBase + off + 124) 4) = 1)) ∧
  (∀ s : State, s.supplied = true → s.rf TSV_KE_CONS_index = s.rf TSV_KE_PROD_index % 2 ^ s.rf TSV_KE_SIZE_log2n → exec .keSign s = .next s ∧
    exec .keMint s = .next s) ∧
  (∀ (s : State) (r : Req), s.supplied = true → (∃ t, exec (.tsvCntSnap r true) s = .next t ∧ t.rb TSV_CNT_SNAP_snap = true ∧
      t.tsv.snap = some ((List.range 25).map (fun i => s.rf TSV_CNTi_count i)) ∧ t.rf TSV_INFLIGHT_n = (s.tsv.work.length + s.tsv.inbox.length) % 4096) ∧
    (∃ t, exec (.tsvCntSnap r false) s = .next t ∧ t.rb TSV_CNT_SNAP_snap = false ∧ t.tsv.snap = none))

/-! ## Keys -/

/-- R359, R371, R380: UNSEAL measures the boot manifest into the chain and opens the better slot that matches it, or reports UNMATCHED or EMPTY; a
second one is refused. A KEY command of another requester is ignored, and one that comes while a command runs answers 1. -/
def Obligations.UnsealingOpensTheMatchingSlot : Prop :=
  (∀ (s : State) (r : Req) (m : Bytes), s.supplied = true → s.keyIdle r → s.key.unsealed = false → s.keyAlive = true → s.jtag.unlocked = false → m = s.manifestBytes →
    ∃ t, exec (.keyUnseal r) s = .next t ∧ t.rf KEY_RESULT_result = 0 ∧ t.key.unsealed = true ∧ t.key.chain = bootChain m ∧
      t.bit32 SYS_IRQ_CAUSEw_cause 30 = true ∧
      (∀ k x, s.bestKeySlot (fun x => decide (x.mrun = m) || decide (x.mnext = m)) = some (k, x) → t.rf KEY_STATUS_state = 1 ∧
        t.rf KEY_STATUS_slot = k ∧ t.isReady 7 = true ∧ t.key.owners = x.owners ∧ t.key.pin = x.pin) ∧
      (s.bestKeySlot (fun x => decide (x.mrun = m) || decide (x.mnext = m)) = none →
        (s.bestKeySlot (fun _ => true) = none → t.rf KEY_STATUS_state = 3) ∧
        (s.bestKeySlot (fun _ => true) ≠ none → t.rf KEY_STATUS_state = 2 ∧ t.key.lockers = s.key.lockers))) ∧
  (∀ (s : State) (r : Req), s.supplied = true → s.keyIdle r → s.key.unsealed = true → ∃ t, exec (.keyUnseal r) s = .next t ∧ t.rf KEY_RESULT_result = 14 ∧
    t.key = s.key) ∧
  (∀ (s : State) (r : Req) (k : Fin 1024) (f : Fin 16) (i : Instr), s.supplied = true → i = .keyUnseal r ∨ i = .keyAuthorise r f ∨ i = .keyPrepare r ∨
    i = .keyAttest r k ∨ i = .keyQuote r ∨ i = .keyCsr r ∨ i = .keyTransport r ∨ i = .keyPin r →
    (reqIsHostOrF0 r = false → exec i s = .next (s.ignoreWrite r)) ∧
    (reqIsHostOrF0 r = true → s.rb KEY_RESULT_done = false → exec i s = .next (s.wf KEY_RESULT_result 1)))

/-- R365 to R367: APPLY of a message that fails a check answers that check's result, counts it and changes no key; one that passes begins a commit
of its kind to its owner, target and counter, with a slot image that holds the new counter. A commit that ends well installs the change,
advances the owner's counter once, and names the written slot; one whose slot write fails answers 12 and advances nothing. -/
def Obligations.KeyUpdatesAreCheckedAndCommitted : Prop :=
  (∀ (s : State) (r : Req) (i : Instr) (kind : Nat) (m : UpdMsg), s.supplied = true → updKind i = some (r, kind) → s.keyIdle r → m = updMsg s.keyInput →
    m.kind = kind → s.fctl.swapping = none → s.jtag.unlocked = false →
    (∀ res, s.updCheck m = res → res ≠ 0 → ∃ t, exec i s = .next t ∧ t.rf KEY_RESULT_result = res % 16 ∧ s.counted t KEY_REFUSED_count 0 ∧
      t.key = s.key) ∧
    (s.updCheck m = 0 → ∃ t c, exec i s = .next t ∧ t.key.commit = some c ∧ c.kind = kind ∧ c.owner = m.owner ∧ c.target = m.target ∧
      c.counter = m.counter ∧ c.slot.ctrs = s.key.ctrs.toList.set m.owner m.counter ∧ c.slot.valid = true ∧ t.rb KEY_STATUS_busy = true ∧
      t.rb KEY_RESULT_done = false ∧ t.key.lockers = s.key.lockers ∧ t.key.ctrs = s.key.ctrs ∧
      (kind = 1 ∨ kind = 2 ∨ kind = 3 ∨ kind = 7 → ∃ l, c.locker = some (some l) ∧ l.attr = m.attr ∧ l.owner = m.owner ∧
        l.origin = (if kind = 7 then 3 else kind - 1) ∧ l.noexport = m.noexport) ∧
      (kind = 4 → c.locker = some none) ∧ (kind = 5 → c.ownerKey = some m.body) ∧ (kind = 6 → c.locker = none))) ∧
  (∀ (s : State) (r : Req) (i : Instr) (kind : Nat), s.supplied = true → updKind i = some (r, kind) → (updMsg s.keyInput).kind ≠ kind →
    1 ≤ (updMsg s.keyInput).kind → (updMsg s.keyInput).kind ≤ 7 → s.keyIdle r → exec i s = .next s) ∧
  (∀ (s : State) (c : Commit), s.supplied = true → s.key.commit = some c → c.owner < 16 →
    (c.kind ≠ 5 → c.kind ≠ 6 → c.enrol = false → ∃ t, exec (.keyCommitComplete true) s = .next t ∧ t.key.commit = none ∧
      t.keySlot s.inactiveSlot = some c.slot ∧ t.keyCtr c.owner = s.keyCtr c.owner + 1 ∧
      t.key.commitBit = (if s.pwr.aon then some s.inactiveSlot else none) ∧
      t.rf KEY_SLOT_SEQ_seq = c.slot.seq % 2 ^ 32 ∧ s.counted t KEY_APPLIED_count 0 ∧ t.rf KEY_RESULT_result = 0 ∧
      (∀ x, c.locker = some (some x) → x.origin ≠ 2 → t.locker c.target = some x) ∧ (c.locker = some none → t.locker c.target = none)) ∧
    (∃ t, exec (.keyCommitComplete false) s = .next t ∧ t.key.commit = none ∧ t.key.ctrs = s.key.ctrs ∧ t.key.lockers = s.key.lockers ∧
      t.rf KEY_RESULT_result = 12)) ∧
  (∀ (s : State) (ok : Bool), s.supplied = true → s.key.commit = none → exec (.keyCommitComplete ok) s = .next s)

/-- R356, R357, R373, R374, R378: ATTEST, QUOTE and TRANSPORT give signed statements, CSR signs a request for the identity key; AUTHORISE of F0
holds a measurement for ten seconds, and the host may not give it; PREPARE and PIN write a slot image with the manifest to come or the pending
pin; a slot write that ends well makes the image current, one that fails answers 12. -/
def Obligations.KeyCommandsAnswer : Prop :=
  (∀ (s : State) (r : Req), s.supplied = true → s.keyIdle r → s.keyAlive = true →
    (∃ t, exec (.keyTransport r) s = .next t ∧ s.keyGave t (s.stmtSpec 2 transportPub)) ∧
    (s.keyInput.length = 32 → ∃ t, exec (.keyQuote r) s = .next t ∧ s.keyGave t (s.stmtSpec 4 (s.keyInput ++ fitBytes 48 s.key.chain ++
      s.manifestBytes ++ (s.key.ctrs.toList.map (leBytes 2)).flatten))) ∧
    (s.keyInput.length ≠ 32 → ∃ t, exec (.keyQuote r) s = .next t ∧ t.rf KEY_RESULT_result = 3) ∧
    (Config.csrKey s.keyInput = some idPub → ∃ t, exec (.keyCsr r) s = .next t ∧
      s.keyGave t (fitBytes 96 (Config.ecdsaSign idPriv (Config.sha384 s.keyInput) (s.draw 48).2))) ∧
    (Config.csrKey s.keyInput ≠ some idPub → ∃ t, exec (.keyCsr r) s = .next t ∧ t.rf KEY_RESULT_result = 10 ∧ t.key = s.key)) ∧
  (∀ (s : State) (r : Req) (k : Fin 1024), s.supplied = true → s.keyIdle r →
    (s.keyOpen = false → ∃ t, exec (.keyAttest r k) s = .next t ∧ t.rf KEY_RESULT_result = 2 ∧ t.key = s.key) ∧
    (∀ x, s.keyOpen = true → s.locker k.val = some x → s.keyInput.length = 32 → ∃ t, exec (.keyAttest r k) s = .next t ∧
      s.keyGave t (s.stmtSpec 1 (leBytes 2 k.val ++ [BitVec.ofNat 8 x.attr, BitVec.ofNat 8 x.owner, BitVec.ofNat 8 x.origin,
        BitVec.ofNat 8 ((if x.noexport then 1 else 0) + (if x.p384 then 2 else 0))] ++ leBytes 4 (s.keyCtr x.owner) ++
        (if x.p384 then fitBytes 97 (Config.p384Pub x.key) else zeros 97) ++ s.keyInput ++ fitBytes 48 s.key.chain)))) ∧
  (∀ (s : State) (f : Fin 16), s.supplied = true → s.keyIdle (.frond 0) → s.keyInput.length = 48 → ∃ t, exec (.keyAuthorise (.frond 0) f) s = .next t ∧
    t.rf KEY_RESULT_result = 0 ∧ t.authorised f.val s.keyInput = true ∧ t.key.lockers = s.key.lockers) ∧
  (∀ (s : State) (f : Fin 16), s.supplied = true → s.keyIdle .host → ∃ t, exec (.keyAuthorise .host f) s = .next t ∧ t.rf KEY_RESULT_result = 15 ∧ t.key = s.key) ∧
  (∀ (s : State) (f : Fin 16), s.supplied = true → ∃ t, exec (.keyAuthoriseExpire f) s = .next t ∧ t.regs = s.regs ∧ ∀ e, e ∈ t.key.auth ↔ e ∈ s.key.auth ∧
    (e.1 ≠ f.val ∨ s.domNow 0 < e.2.2)) ∧
  (∀ (s : State) (r : Req), s.supplied = true → s.keyIdle r → s.keyOpen = true →
    (s.keyInput.length = 768 → ∃ t w, exec (.keyPrepare r) s = .next t ∧ t.key.write = some w ∧ w.pin = false ∧ w.slot.mnext = s.keyInput ∧
      w.slot.mrun = s.manifestBytes ∧ w.slot.seq = s.rf KEY_SLOT_SEQ_seq + 1 ∧ t.rb KEY_RESULT_done = false) ∧
    (s.key.pend ≠ zeros 48 → s.key.pend ≠ [] → ∃ t w, exec (.keyPin r) s = .next t ∧ t.key.write = some w ∧ w.pin = true ∧
      w.slot.pin = s.key.pend ∧ w.slot.seq = s.rf KEY_SLOT_SEQ_seq + 1 ∧ t.rb KEY_RESULT_done = false)) ∧
  (∀ (s : State) (w : SlotWrite), s.supplied = true → s.key.write = some w → w.pin = false →
    (∃ t, exec (.keySlotWriteComplete true) s = .next t ∧ t.key.write = none ∧ t.keySlot s.inactiveSlot = some w.slot ∧
      t.key.mnext = some w.slot.mnext ∧ t.rb KEY_STATUS_prepared = true ∧ t.rf KEY_RESULT_result = 0) ∧
    (∃ t, exec (.keySlotWriteComplete false) s = .next t ∧ t.key.write = none ∧ t.key.mnext = s.key.mnext ∧ t.rf KEY_RESULT_result = 12)) ∧
  (∀ (s : State) (ok : Bool), s.supplied = true → s.key.write = none → exec (.keySlotWriteComplete ok) s = .next s)

/-- R354, R362, R369: the use ring executes the descriptor at CONS, stores its output, writes its status 0 and advances; a descriptor of no
operation has status 1; the DRBG is reseeded each second and after 2^20 requests, but not after a health test failed; both shares of each locker take
the same fresh mask every 10 s, and a locker's after 2^20 uses of it. -/
def Obligations.KeyUsesAndRandomness : Prop :=
  (∀ (s : State) (i : Instr) (op n c off : Nat) (b out : Bytes), s.supplied = true → useOp i = some op → n = 2 ^ s.rf KEY_USE_SIZE_log2n →
    s.rf KEY_USE_SIZE_log2n ≤ 10 → c = s.rf KEY_USE_CONS_index → c ≠ s.rf KEY_USE_PROD_index % n → s.fctl.swapping = none →
    off = s.rf KEY_USE_BASE_base * 128 + 128 * c → s.served off 128 → Memory.wf s.mem = true → b = s.bytesAt (commonsBase + off) 128 →
    (sliceNat b 0 1 = op → s.keyOpen = true → (op = 3 ∨ op = 7 ∨ s.served (sliceNat b 4 4) (sliceNat b 8 4 + if op = 5 then 16 else 0)) →
      s.useSpec b = some out → s.served (sliceNat b 12 4) out.length →
      (out = [] ∨ sliceNat b 12 4 + out.length ≤ off + 124 ∨ off + 128 ≤ sliceNat b 12 4) → ∃ t, exec i s = .next t ∧
      t.rf KEY_USE_CONS_index = (c + 1) % n ∧ ofLeBytes (t.bytesAt (commonsBase + off + 124) 4) = 0 ∧
      t.bytesAt (commonsBase + sliceNat b 12 4) out.length = out ∧ t.bit32 SYS_IRQ_CAUSEw_cause 29 = true) ∧
    (sliceNat b 0 1 = 0 ∨ 7 < sliceNat b 0 1 → ∃ t, exec i s = .next t ∧ t.rf KEY_USE_CONS_index = (c + 1) % n ∧
      ofLeBytes (t.bytesAt (commonsBase + off + 124) 4) = 1 ∧ t.key = s.key) ∧
    (1 ≤ sliceNat b 0 1 → sliceNat b 0 1 ≤ 7 → sliceNat b 0 1 ≠ op → exec i s = .next s)) ∧
  (∀ (s : State) (i : Instr), s.supplied = true → useOp i ≠ none → s.rf KEY_USE_CONS_index = s.rf KEY_USE_PROD_index % 2 ^ s.rf KEY_USE_SIZE_log2n →
    exec i s = .next s) ∧
  (∀ s : State, s.supplied = true → (s.rb KEY_STATUS_trng_fail = false → s.key.seedAt + uSec ≤ s.now ∨ 2 ^ 20 ≤ s.key.reqs → ∃ t, exec .trngReseed s = .next t ∧
      t.key.seeds = s.key.seeds + 1 ∧ t.key.draws = 0 ∧ t.key.reqs = 0 ∧ t.key.seedAt = s.now ∧ t.regs = s.regs) ∧
    (s.rb KEY_STATUS_trng_fail = true ∨ (s.now < s.key.seedAt + uSec ∧ s.key.reqs < 2 ^ 20) → exec .trngReseed s = .next s)) ∧
  (∀ (s : State) (b : Bool), s.supplied = true → (s.rb KEY_STATUS_trng_fail = false → s.runsTo (.trngHealthFail b) (s.wf KEY_STATUS_trng_fail 1)) ∧
    (s.rb KEY_STATUS_trng_fail = true → exec (.trngHealthFail b) s = .next s)) ∧
  (∀ s : State, s.supplied = true → tabWf s.key.uses = true → tabWf s.key.lockers = true → tabWf s.key.masks = true →
    (s.key.maskAt + 10 * uSec ≤ s.now → ∃ t, exec .keyRemask s = .next t ∧ t.key.uses = [] ∧
      t.key.maskAt = s.now ∧ t.key.lockers = s.key.lockers ∧ s.counted t KEY_REMASKS_count 0 ∧
      ∀ k, ∃ r, t.shares k = (xorBytes (s.shares k).1 r, xorBytes (s.shares k).2 r)) ∧
    (s.now < s.key.maskAt + 10 * uSec → (∃ e ∈ s.key.uses, 2 ^ 20 ≤ e.2) → ∃ t, exec .keyRemask s = .next t ∧
      (∀ e, e ∈ t.key.uses ↔ e ∈ s.key.uses ∧ e.2 < 2 ^ 20) ∧ t.key.lockers = s.key.lockers ∧ s.counted t KEY_REMASKS_count 0) ∧
    (s.now < s.key.maskAt + 10 * uSec → (∀ e ∈ s.key.uses, e.2 < 2 ^ 20) → exec .keyRemask s = .next s))

/-! ## Twin operation -/

/-- R377, R383 to R385, R389, R390: enabling a SOLO unit takes it to LISTEN, or to STANDBY while the partner drives the line; disabling takes it to
SOLO; the link pairs under the pin and unpairs; a LISTEN unit claims the token after its wait while the line is high; a unit whose partner is
lost takes the token when the line is high, and is stuck while it is low; the line's fall makes a LISTEN unit STANDBY, and stuck where its
partner was lost. -/
def Obligations.TwinUnitsTakeTheToken : Prop :=
  (∀ (s : State) (r : Req) (v : BitVec 32), s.supplied = true → v.toNat % 2 = 1 →
    (s.twnSt = 0 → ∃ t, exec (.twinConfigWrite r v) s = .next t ∧ t.rb TWN_CTL_en = true ∧ t.rb TWN_STATUS_gate = false ∧
      t.twnSt = (if s.twn.partnerLow then 2 else 1) ∧ t.rf TWN_CTL_ref_slot = v.toNat / 16 % 32 ∧ t.twn.enAt = s.now) ∧
    (s.twnSt ≠ 0 → ∃ t, exec (.twinConfigWrite r v) s = .next t ∧ t.twnSt = s.twnSt ∧ t.twn = s.twn ∧
      t.rf TWN_CTL_ref_slot = v.toNat / 16 % 32)) ∧
  (∀ (s : State) (r : Req) (v : BitVec 32), s.supplied = true → v.toNat % 2 = 0 → s.twnSt ≠ 0 → s.twnSt ≠ 4 → ∃ t, exec (.twinConfigWrite r v) s = .next t ∧
    t.twnSt = 0 ∧ t.rb TWN_STATUS_link = false ∧ t.rb TWN_STATUS_swap_pending = false ∧ t.isReady 11 = false) ∧
  (∀ (s : State) (p : PairMsg) (h : Bytes), s.supplied = true → h = fitBytes 48 (Config.sha384 p.pub) →
    (∀ u, u = (if (s.dom 41).running then s else s.setDom 41 ⟨true, false, 0⟩) → s.rb TWN_CTL_en = false →
      exec (.twinLinkUp p) s = .next (u.setKey { u.key with partner := some p })) ∧
    (∀ k x, s.rb TWN_CTL_en = true → s.keyOpen = true → s.pairLocker = some (k, x) → pairStmtOk p = true → h ≠ zeros 48 →
      (s.key.pin = h → ∃ t, exec (.twinLinkUp p) s = .next t ∧ t.rb TWN_STATUS_link = true ∧ t.rb KEY_STATUS_pair_ok = true ∧
        t.isReady 11 = true ∧ t.key.partner = some p ∧ (s.key.sent = none → ∃ q, t.key.sent = some q ∧ q.pub = idPub)) ∧
      (s.key.pin ≠ h → ∃ t, exec (.twinLinkUp p) s = .next t ∧ t.rb TWN_STATUS_link = true ∧ t.rb KEY_STATUS_pair_ok = false ∧
        t.rb KEY_STATUS_pin_mismatch = true ∧ t.key.pend = h ∧ t.isReady 11 = false))) ∧
  (∀ s : State, s.supplied = true → ∃ t, exec .twinLinkDown s = .next t ∧ t.rb TWN_STATUS_link = false ∧ t.rb TWN_STATUS_current = false ∧ t.isReady 11 = false ∧
    t.key.partner = none ∧ t.key.sent = none ∧ t.twnSt = s.twnSt ∧ (t.dom 41).running = false) ∧
  (∀ s : State, s.supplied = true → (s.twnSt = 1 → s.pinLow = false → s.isReady 3 = true → s.fatalSet = false → s.rb TWN_STATUS_link = false →
      max s.twn.since (max s.twn.highSince (s.twn.activeBeat.getD s.twn.since)) + (if s.actsPrimary then 20 * uMs else 200 * uMs) ≤ s.now →
      ∃ t, exec .twinClaim s = .next t ∧ t.twnSt = 3 ∧ t.rb TWN_STATUS_gate = (s.isReady 5 && s.live) ∧ t.twn.changed = [] ∧
        t.bit32 SYS_IRQ_CAUSEw_cause 32 = true) ∧
    (s.twnSt ≠ 1 ∨ s.pinLow = true → exec .twinClaim s = .next s)) ∧
  (∀ (s : State) (i : Instr), s.supplied = true → i = .twinPartnerLost ∧ s.linkSilent = true ∧ s.pinSilent = true ∨ i = .twinFaultReceive ∧
      s.rb TWN_STATUS_link = true → s.twnSt = 2 → s.twn.lost = false → ∃ t, exec i s = .next t ∧ t.twn.lost = true ∧
    t.rb TWN_ALARM_partner_lost = true ∧ (s.twn.partnerLow = false → t.twnSt = 3 ∧ s.counted t TWN_TAKEOVERS_count 0) ∧
    (s.twn.partnerLow = true → t.twnSt = 2 ∧ t.rb TWN_ALARM_stuck = true)) ∧
  (∀ (s : State) (i : Instr), s.supplied = true → s.twnSt = 0 → i = .twinPartnerLost ∨ i = .twinFaultReceive → exec i s = .next s) ∧
  (∀ (s : State) (low : Bool), (s.supplied = true → ∃ t, exec (.twnActiveNChange low) s = .next t ∧ t.twn.partnerLow = low ∧
      (s.twnSt = 1 → low = true → t.twnSt = 2) ∧ (s.twnSt = 2 → low = false → s.twn.lost = true → t.twnSt = 3) ∧
      (s.twnSt = 1 ∨ s.twnSt = 2 → low = true → s.twn.lost = true → t.twnSt = 2 ∧ t.rb TWN_ALARM_stuck = true) ∧
      (s.twnSt ≠ 1 → s.twn.lost = false → t.twnSt = s.twnSt)) ∧
    (s.supplied = false → exec (.twnActiveNChange low) s = .next (s.setTwn { s.twn with partnerLow := low })))

/-- R85, R86, R387, R388, R389, R391, R392, R395, R396: heartbeats leave each 250 µs while kicks come, and a kick that lapses, no kick stamped by its
deadline being on its way, takes an active unit to LISTEN; a heartbeat ends a loss, one stamped after the deadline follows it, and one of an active partner makes a LISTEN unit STANDBY and, of two active units, the secondary; a satchel in sequence is
applied, one out of sequence or damaged is refused and a resync asked for; a second of results within the windows counts as good, one without
a result as deviating, and the configured count of them raises cmp_missing. -/
def Obligations.TwinHeartbeatsSatchelsAndComparison : Prop :=
  (∀ s : State, s.supplied = true → (s.live = true → s.twnSt ≠ 0 → s.twnSt ≠ 4 → s.twn.beating = true → s.twn.beatAt + uMs / 4 ≤ s.now → ∃ t, exec .twinHeartbeatSend s = .next t ∧
      t.twn.beatAt = s.now ∧ t.regs = s.regs ∧ (s.rb TWN_STATUS_link = true → ∃ b, t.twn.sent = some (.beat b) ∧ b.state = s.twnSt ∧
        b.bound = s.rf SRV_BOUND_ps ∧ b.cls = s.rf SRV_STATUS_class)) ∧
    (s.live = false ∨ s.twn.beating = false ∨ s.now < s.twn.beatAt + uMs / 4 → exec .twinHeartbeatSend s = .next s)) ∧
  (∀ (s : State) (b : Beat), s.supplied = true → s.twnSt ≠ 0 → s.rb TWN_STATUS_link = true → ∃ t, exec (.twinHeartbeatReceive (.link b)) s = .next t ∧
    t.twn.lastLink = some s.now ∧ t.twn.partner = b ∧ t.twn.lost = false ∧ t.rf TWN_PARTNER_CLASS_state = b.state % 8 ∧
    (b.state ≠ 3 → s.twnSt ≠ 2 ∨ s.twn.lost = true ∨ s.silentAt s.twn.lastLink (s.now - 1) = false ∨ s.silentAt s.twn.lastPin (s.now - 1) = false →
      t.twnSt = s.twnSt) ∧
    (b.state ≠ 3 → s.twnSt = 2 → s.twn.lost = false → s.silentAt s.twn.lastLink (s.now - 1) = true →
      s.silentAt s.twn.lastPin (s.now - 1) = true → s.twn.partnerLow = false → t.twnSt = 3) ∧ (b.state = 3 → s.twnSt = 1 → t.twnSt = 2)) ∧
  (∀ (s : State) (a : Bool), s.supplied = true → s.twnSt ≠ 0 → ∃ t, exec (.twinHeartbeatReceive (.pin a)) s = .next t ∧ t.twn.lastPin = some s.now ∧
    t.twn.lost = false ∧ (a = true → s.twnSt = 3 → t.rb TWN_ALARM_dual = true ∧ t.twnSt = if s.actsPrimary then 3 else 2)) ∧
  (∀ (s : State) (h : HbIn), s.supplied = true → s.twnSt = 0 → exec (.twinHeartbeatReceive h) s = .next s) ∧
  (∀ (s : State) (r : Req), s.supplied = true → s.live = false → exec (.twinKick r) s = .next s) ∧
  (∀ (s : State) (r : Req) (ms : Nat), s.supplied = true → s.live = true → ms = s.rf TWN_KICK_MS_ms →
    (reqIsHostOrF0 r = true → ms = 0 ∨ s.twn.beating = false ∨ s.now ≤ s.twn.kickAt + (ms : Int) * uMs →
      exec (.twinKick r) s = .next (s.setTwn { s.twn with kickAt := s.now, beating := true })) ∧
    (reqIsHostOrF0 r = true → ms ≠ 0 → s.twn.beating = true → s.twnSt = 3 → s.twn.kickAt + (ms : Int) * uMs < s.now → ∃ t,
      exec (.twinKick r) s = .next t ∧ t.twn.kickAt = s.now ∧ t.twn.beating = true ∧ t.twnSt = (if s.twn.partnerLow then 2 else 1)) ∧
    (reqIsHostOrF0 r = false → exec (.twinKick r) s = .next (s.ignoreWrite r))) ∧
  (∀ (s : State) (ms : Nat), s.supplied = true → ms = s.rf TWN_KICK_MS_ms →
    (s.twnSt = 3 → ms ≠ 0 → s.twn.beating = true → s.twn.kickAt + (ms : Int) * uMs ≤ s.watermark 0 → ∃ t, exec .twinKickLapse s = .next t ∧
      t.twn.beating = false ∧ t.twnSt = (if s.twn.partnerLow then 2 else 1) ∧ t.rb TWN_STATUS_gate = false) ∧
    (ms = 0 ∨ s.watermark 0 < s.twn.kickAt + (ms : Int) * uMs → exec .twinKickLapse s = .next s)) ∧
  (∀ (s : State) (l : Bytes), s.supplied = true → s.twnSt = 2 → s.rb TWN_STATUS_link = true → s.rb KEY_STATUS_pair_ok = true →
    (∀ x : Satchel, Satchel.read l = some x → s.twn.rxSeq = none ∨ (∃ q, s.twn.rxSeq = some q ∧ x.seq = (q + 1) % 2 ^ 32) →
      (∀ e ∈ x.slots, e.state ≠ 4) → x.keys = none →
      (x.delta = [] → ∃ t, exec (.satchelApply l) s = .next t ∧ t.twn.rxSeq = some x.seq ∧ t.rf TWN_PARTNER_BOUND_ps = x.bound % 2 ^ 32 ∧
        t.rf TWN_PARTNER_CLASS_class = x.cls % 8 ∧ t.rf TWN_SATCHEL_SEQ_seq = x.seq % 2 ^ 32 ∧ s.counted t TWN_SATCHEL_RX_count 0 ∧
        t.rb TWN_STATUS_current = !x.resync ∧ t.tsv.sess = s.tsv.sess) ∧
      (∀ i y, x.delta = [(i, some y)] → i < 16384 → s.sess i = none → tabGet none i (s.twn.map.map (fun e => (e.1, some e.2))) = none →
        ∃ t, exec (.satchelApply l) s = .next t ∧ t.sess i = some y ∧ s.counted t TWN_SATCHEL_RX_count 0) ∧
      (∀ i y z, x.delta = [(i, some y)] → i < 16384 → tabWf s.tsv.sess = true → s.sess i = some z → z.kind = 1 → s.twn.map = [] →
        ∃ t, exec (.satchelApply l) s = .next t ∧ t.sess i = some y ∧ t.tsv.sess.length = s.tsv.sess.length)) ∧
    (∀ (x : Satchel) (q : Nat), Satchel.read l = some x → s.twn.rxSeq = some q → x.seq ≠ (q + 1) % 2 ^ 32 → ∃ t,
      exec (.satchelApply l) s = .next t ∧ t.tsv = s.tsv ∧ s.counted t TWN_SATCHEL_BAD_count 0 ∧ t.rb TWN_STATUS_current = false ∧
      t.twn.sent = some .resyncReq) ∧
    (Satchel.read l = none → ∃ t, exec (.satchelApply l) s = .next t ∧ t.tsv = s.tsv ∧ s.counted t TWN_SATCHEL_BAD_count 0 ∧
      t.rb TWN_STATUS_current = false ∧ t.twn.sent = some .resyncReq)) ∧
  (∀ (s : State) (l : Bytes), s.supplied = true → s.twnSt = 2 → s.rb TWN_STATUS_link = true → s.rb KEY_STATUS_pair_ok = false → ∃ t,
    exec (.satchelApply l) s = .next t ∧ t.tsv = s.tsv ∧ s.counted t TWN_SATCHEL_BAD_count 0) ∧
  (∀ (s : State) (l : Bytes), s.supplied = true → s.twnSt ≠ 2 → exec (.satchelApply l) s = .next s) ∧
  (∀ (s : State) (b : TwnBy), s.supplied = true → (s.twnSt = 3 → s.isReady 11 = true → ∃ t, exec (.twinResync b) s = .next t ∧ t.twn.resyncing = true ∧
      t.twn.resyncLeft = (s.tsv.sess.filter (fun e => decide (e.2.kind = 1))).map (·.1) ∧ t.rb TWN_STATUS_current = false) ∧
    (s.twnSt ≠ 3 ∨ s.isReady 11 = false → exec (.twinResync b) s = .next s)) ∧
  (∀ s : State, s.supplied = true → s.twnSt = 2 → (∀ y, s.cmpFreq = some y → (y.natAbs : Int) ≤ (s.rf TWN_CMP_FWIN_ppt : Int) * 65536) →
    (∀ r d, (s.unit s.cmpPps).due = [r] → d = s.cmpDelta r.1 → (d.natAbs : Int) * 125 ≤ (s.rf TWN_CMP_WIN_ps : Int) * 8192 →
      ∃ t, exec .twinCompareSecond s = .next t ∧ t.twn.goodRun = s.twn.goodRun + 1 ∧ t.twn.devRun = 0 ∧ t.rf TWN_DELTA_d = ofSigned 64 d ∧
        (s.rb TWN_CTL_bound_feed = true → s.fatalSet = false → 0 < (s.queue 393).c → t.queue 393 = (s.queue 393).push
          ⟨s.domNow 0, .feed ⟨s.rf TWN_CTL_ref_slot, d, r.1, s.rf TWN_CMP_UNC_ps⟩⟩) ∧
        (s.rb TWN_CTL_bound_feed = true → s.fatalSet = true → t.queue 393 = s.queue 393 ∧ s.counted t SYS_FATAL_REFUSED_count 0)) ∧
    ((s.unit s.cmpPps).due = [] → ∃ t, exec .twinCompareSecond s = .next t ∧ t.twn.goodRun = 0 ∧ t.twn.devRun = s.twn.devRun + 1 ∧
      t.twn.missRun = s.twn.missRun + 1 ∧ (s.twn.devRun + 1 = s.cmpCount → s.twn.missRun = s.twn.devRun → t.rb TWN_ALARM_cmp_missing = true ∧
        s.counted t TWN_DEVIATIONS_count 0))) ∧
  (∀ s : State, s.supplied = true → s.twnSt ≠ 2 → exec .twinCompareSecond s = .next s)

/-- R397 to R399, R401: an active unit yields on request unless a fatal cause is set; a standby that is yielded to takes the token, and a request
without an answer for 10 ms raises yield_timeout; a swap that nothing refuses is scheduled, is aborted by a command up to 1 ms before its time and by
the partner's message before the swap, and at its
time the active unit yields; a new active unit that loses a port or a lane within the check yields back; a primary whose revert conditions
held for TWN_WTR requests a swap. -/
def Obligations.TwinYieldsAndSwaps : Prop :=
  (∀ s : State, s.supplied = true → (s.twnSt = 3 → s.fatalSet = false → ∃ t, exec .twinYieldRequestReceive s = .next t ∧ t.twnSt = 2 ∧ t.twn.sent = some .yield_ ∧
      t.rb TWN_STATUS_gate = false) ∧ (s.twnSt ≠ 3 → exec .twinYieldRequestReceive s = .next s)) ∧
  (∀ s : State, s.supplied = true → s.twnSt = 2 → ∃ t, exec .twinYieldReceive s = .next t ∧ t.twnSt = 3 ∧ s.counted t TWN_TAKEOVERS_count 0 ∧
    t.rb TWN_STATUS_gate = (s.isReady 5 && s.live) ∧
    t.twn.yieldAt = none ∧
    (∀ z, s.twn.checkEnd = none → s.twn.swapAt = some z → s.now < z - uMs → t.twn.swapAt = some z) ∧
    (∀ z, s.twn.checkEnd = none → s.twn.swapAt = some z → z - uMs ≤ s.now → t.twn.swapAt = none ∧ t.rb TWN_STATUS_swap_pending = false ∧ t.twn.checkNew = true) ∧
    (∀ z, s.twn.checkEnd = some z → s.now ≤ z → s.twn.checkNew = false → t.rb TWN_ALARM_swap_back = true ∧ t.twn.checkEnd = none)) ∧
  (∀ s : State, s.supplied = true → s.twnSt ≠ 2 → exec .twinYieldReceive s = .next s) ∧
  (∀ (s : State) (z : Int), s.supplied = true → s.twn.yieldAt = some z → (z + 10 * uMs ≤ s.beatMark → ∃ t, exec .twinYieldTimeout s = .next t ∧ t.twn.yieldAt = none ∧
      t.rb TWN_ALARM_yield_timeout = true ∧ t.twnSt = s.twnSt) ∧ (s.beatMark < z + 10 * uMs → exec .twinYieldTimeout s = .next s)) ∧
  (∀ (s : State) (r : Req) (ok : Bool), s.supplied = true → (s.swapRefusal ok ≠ 0 → exec (.twinSwap (.own r) ok) s = .next (s.wf TWN_RESULT_result (s.swapRefusal ok))) ∧
    (s.swapRefusal ok = 0 → s.twn.swapAt = none → ∃ t, exec (.twinSwap (.own r) ok) s = .next t ∧ t.twn.swapAt = some s.swapTime ∧
      t.twn.swapCause = 3 ∧ t.rb TWN_STATUS_swap_pending = true ∧ t.rf TWN_RESULT_result = 0 ∧ t.twn.sent = some (.swapReq s.swapTime false)) ∧
    (s.swapRefusal ok = 0 → s.twn.swapAt ≠ none → exec (.twinSwap (.own r) ok) s = .next (s.wf TWN_RESULT_result 4))) ∧
  (∀ (s : State) (rev ok : Bool) (z : Int), s.supplied = true → (s.twn.swapAt = none → s.twnSt ≠ 0 → ∃ t, exec (.twinSwap (.partner rev z) ok) s = .next t ∧
      t.twn.swapAt = some z ∧ t.twn.swapCause = (if rev then 4 else 3) ∧ t.rb TWN_STATUS_swap_pending = true) ∧
    (s.twnSt = 0 → exec (.twinSwap (.partner rev z) ok) s = .next s)) ∧
  (∀ (s : State) (r : Req) (z : Int), s.supplied = true → s.twn.swapAt = some z →
    (s.now < z - uMs → ∃ t, exec (.twinSwapAbort (.own r)) s = .next t ∧ t.twn.swapAt = none ∧ t.rb TWN_STATUS_swap_pending = false ∧
      t.rf TWN_RESULT_result = 0 ∧ t.twn.sent = some .swapAbort) ∧
    (z - uMs ≤ s.now → exec (.twinSwapAbort (.own r)) s = .next (s.wf TWN_RESULT_result 1)) ∧
    (∀ rev y, ∃ t, exec (.twinSwapAbort (.partner rev y)) s = .next t ∧ t.twn.swapAt = none ∧ t.rb TWN_STATUS_swap_pending = false ∧
      t.twn.sent = s.twn.sent)) ∧
  (∀ (s : State) (ok : Bool) (z : Int), s.supplied = true → s.twn.swapAt = some z → (s.now < z → exec (.twinSwapHandover ok) s = .next s) ∧
    (z ≤ s.now → s.swapRefusal ok ≠ 0 → ∃ t, exec (.twinSwapHandover ok) s = .next t ∧ t.twn.swapAt = none ∧ t.twn.sent = some .swapAbort ∧
      t.rb TWN_STATUS_swap_pending = false ∧ t.twnSt = s.twnSt) ∧
    (z ≤ s.now → s.swapRefusal ok = 0 → s.twnSt = 3 → ∃ t, exec (.twinSwapHandover ok) s = .next t ∧ t.twnSt = 2 ∧ t.twn.swapAt = none ∧
      t.twn.sent = some .yield_ ∧ t.rb TWN_STATUS_gate = false ∧ t.twn.checkNew = false)) ∧
  (∀ (s : State) (z : Int) (n : Nat), s.supplied = true → s.twn.checkEnd = some z →
    (s.twnSt = 3 → s.twn.checkNew = true → s.now ≤ z → (n ∈ s.twn.checkPorts ∧ s.rb TIOn_STATUS_cal_valid n = false) ∨
      (n ∈ s.twn.checkLanes ∧ s.linkUp n = false) → ∃ t, exec .twinSwapBack s = .next t ∧ t.twnSt = 2 ∧ t.twn.sent = some .yield_ ∧
        t.rb TWN_ALARM_swap_back = true) ∧
    (z < s.now → exec .twinSwapBack s = .next s)) ∧
  (∀ (s : State) (z : Int), s.supplied = true → s.twn.revertFrom = some z →
    (s.revertOk = true → s.twn.swapAt = none → z + (s.rf TWN_WTR_secs : Int) * uSec ≤ s.now → s.swapRefusal true = 0 →
      ∃ t, exec .twinRevertWtrExpire s = .next t ∧ t.twn.swapAt = some s.swapTime ∧ t.twn.swapCause = 4) ∧
    (s.now < z + (s.rf TWN_WTR_secs : Int) * uSec → exec .twinRevertWtrExpire s = .next s))

/-! ## Memories -/

/-- R410, R411, R413, R415, R416, R434, R439: an alias write sets or clears exactly the bits that are 1 in its bytes and leaves every other
byte, one at no alias offset is counted and discarded, one to a mailbox whose domain is off is counted, and a Frond has no alias of another
cluster's mailbox; a doorbell is set with its source, and cleared; a test that is due leaves
the region's content, counts a failure and moves the cursor. A flash command that touches the locker slots answers 2, one out of range
3, one during another 1; a good one runs, and its end copies flash to the commons, programs the bytes of the commons, or clears a
sector; an error of a read answers 4. -/
def Obligations.MemoryAndFlashCommands : Prop :=
  (∀ (s : State) (r : Req) (clear : Bool) (x : BitVec 24) (vs : List (BitVec 8)), s.supplied = true → s.unmarked → Memory.wf s.mem = true → s.onBus r = true →
    foreignMailbox r x.toNat = false → (inCommons x.toNat = true ∨ inMailbox x.toNat = true) →
    (∀ i, i < vs.length → (inMailbox (x.toNat + i) = true ∧ s.pdServed (2 + mailboxOf (x.toNat + i)) = true) ∨
      (inCommons (x.toNat + i) = true ∧ s.bank (bankOf (x.toNat + i)) = 0)) →
    ∃ t, exec (.aliasWrite r clear x vs) s = .next t ∧
      (∀ i v, vs[i]? = some v → t.byteAt (x.toNat + i) =
        if clear then s.byteAt (x.toNat + i) &&& ~~~v else s.byteAt (x.toNat + i) ||| v) ∧
      (∀ a, a < x.toNat ∨ x.toNat + vs.length ≤ a → t.byteAt a = s.byteAt a)) ∧
  (∀ (s : State) (r : Req) (clear : Bool) (x : BitVec 24) (v : BitVec 8), s.supplied = true → s.onBus r = true → inMailbox x.toNat = true →
    foreignMailbox r x.toNat = false → s.pdServed (2 + mailboxOf x.toNat) = false → exec (.aliasWrite r clear x [v]) s = .next (s.inc PWR_OFF_ACCESS_count)) ∧
  (∀ (s : State) (r : Req) (clear : Bool) (x : BitVec 24) (vs : List (BitVec 8)), s.supplied = true → s.onBus r = true → inCommons x.toNat = false →
    inMailbox x.toNat = false → exec (.aliasWrite r clear x vs) s = .next (s.inc MEM_ALIAS_ERR_count)) ∧
  (∀ (s : State) (r : Req) (clear : Bool) (x : BitVec 24) (vs : List (BitVec 8)), s.supplied = true → foreignMailbox r x.toNat = true →
    exec (.aliasWrite r clear x vs) s = .next s) ∧
  (∀ (s : State) (r : Req) (c : Fin 4), s.supplied = true → s.runsTo (.doorbellSet r c false) ((s.wf MEM_MBc_H2F_pending 1 c.val).assertSrc (92 + c.val) (s.domNow 0)) ∧
    s.runsTo (.doorbellSet r c true) ((s.wf MEM_MBc_F2H_pending 1 c.val).assertSrc (96 + c.val) (s.domNow 0)) ∧
    (∃ t, exec (.doorbellSet r c true) s = .next t ∧ t.rb MEM_MBc_F2H_pending c.val = true ∧
      t.bit32 SYS_IRQ_CAUSEw_cause (96 + c.val) = true) ∧
    exec (.doorbellClear r c false) s = .next (s.wf MEM_MBc_H2F_pending 0 c.val) ∧
    exec (.doorbellClear r c true) s = .next (s.wf MEM_MBc_F2H_pending 0 c.val)) ∧
  (∀ (s : State) (fails : Bool) (r : Nat), s.supplied = true → s.unmarked → r = s.rf MEM_TEST_CURSOR_region → r < testRegions → s.testable r = true →
    s.rb MEM_TEST_CTL_en = true → s.memx.testAt + ((max 1 (s.rf MEM_TEST_CTL_ms) : Nat) : Int) * uMs ≤ s.now →
    ∃ t, exec (.memTestRegion fails) s = .next t ∧ t.mem = s.mem ∧ t.memx.testAt = s.now ∧
      t.rf MEM_TEST_CURSOR_region = (if r + 1 = testRegions then 0 else r + 1) ∧ (fails = true → s.counted t MEM_TEST_FAIL_count 0) ∧
      (r + 1 = testRegions → s.counted t MEM_TEST_PASSES_count 0)) ∧
  (∀ (s : State) (fails : Bool), s.supplied = true → s.rb MEM_TEST_CTL_en = false ∨
    s.now < s.memx.testAt + ((max 1 (s.rf MEM_TEST_CTL_ms) : Nat) : Int) * uMs → exec (.memTestRegion fails) s = .next s) ∧
  (∀ (s : State) (i : Instr) (r : Req) (op : Nat) (c : FlashCmd), s.supplied = true → flashOp i = some (r, op) →
    c = ⟨op, s.rf CFG_FLASH_ADDR_addr, s.rf CFG_FLASH_BUF_base * 64, s.rf CFG_FLASH_LEN_bytes⟩ →
    (reqIsHostOrF0 r = false → exec i s = .next (s.ignoreWrite r)) ∧
    (reqIsHostOrF0 r = true → s.rb CFG_FLASH_RESULT_done = false → exec i s = .next (s.wf CFG_FLASH_RESULT_result 1)) ∧
    (reqIsHostOrF0 r = true → s.rb CFG_FLASH_RESULT_done = true →
      (flashRefusal c = 0 → ∃ t, exec i s = .next t ∧ t.cfg.cmd = some c ∧ t.cfg.flash = s.cfg.flash ∧ t.rb CFG_FLASH_RESULT_done = false ∧
        t.mem = s.mem) ∧
      (flashRefusal c ≠ 0 → ∃ t, exec i s = .next t ∧ t.cfg = s.cfg ∧ t.rf CFG_FLASH_RESULT_result = flashRefusal c ∧
        t.rb CFG_FLASH_RESULT_done = true ∧ t.bit32 SYS_IRQ_CAUSEw_cause 36 = true))) ∧
  (∀ c : FlashCmd, c.op ≠ 1 → c.addr < 0x880000 → 0x800000 < c.addr + (if c.op = 3 then 0x10000 else c.len) → flashRefusal c = 2) ∧
  (∀ (s : State) (c : FlashCmd), s.supplied = true → s.cfg.cmd = some c →
    (c.op = 1 → s.served c.buf c.len → Memory.wf s.mem = true → ∃ t, exec (.flashComplete true) s = .next t ∧ t.cfg.cmd = none ∧
      t.bytesAt (commonsBase + c.buf) c.len = s.flashBytes c.addr c.len ∧ t.rf CFG_FLASH_RESULT_result = 0 ∧
      t.rb CFG_FLASH_RESULT_done = true) ∧
    (c.op = 2 → s.served c.buf c.len → ∃ t, exec (.flashComplete true) s = .next t ∧ t.cfg.cmd = none ∧
      t.cfg.flash = flashSetList c.addr (s.bytesAt (commonsBase + c.buf) c.len) s.cfg.flash ∧ t.rf CFG_FLASH_RESULT_result = 0) ∧
    (c.op = 3 → ∃ t, exec (.flashComplete true) s = .next t ∧ t.cfg.cmd = none ∧ t.rf CFG_FLASH_RESULT_result = 0 ∧
      ∀ a, c.addr ≤ a → a < c.addr + 0x10000 → inSlots a = false → t.flashByte a = 0xFF) ∧
    (c.op = 1 → ∃ t, exec (.flashComplete false) s = .next t ∧ t.cfg.cmd = none ∧ t.cfg.flash = s.cfg.flash ∧
      t.rf CFG_FLASH_RESULT_result = 4) ∧
    (c.op ≠ 1 → ∃ t, exec (.flashComplete false) s = .next t ∧ t.cfg.cmd = none ∧ t.rf CFG_FLASH_RESULT_result = 4)) ∧
  (∀ (s : State) (ok : Bool), s.supplied = true → s.cfg.cmd = none → exec (.flashComplete ok) s = .next s)

/-! ## Images of Fronds -/

/-- R143 to R147: HALT stops a Frond that runs or halts, RESTART starts a stopped one that holds an image at its entry; STAGE copies an image and
its checks stage it or answer why not; SWAP of a staged image onto a stopped Frond measures it, and its end installs the code, starts the
Frond at the entry and reports the release; UNSTAGE drops it; a Frond may not halt or restart itself as F0, others' commands are ignored,
and one that comes while another runs answers 1. -/
def Obligations.ImagesAreStagedSwappedAndStarted : Prop :=
  (∀ (s : State) (i : Instr) (r : Req) (op : Nat) (f : Fin 16), s.supplied = true → frdOp i = some (r, op, f) →
    (reqIsHostOrF0 r = false → exec i s = .next (s.ignoreWrite r)) ∧
    (reqIsHostOrF0 r = true → s.rb FRD_RESULT_done = false → ∃ t, exec i s = .next t ∧ t.rf FRD_RESULT_result = 1 ∧
      s.counted t SYS_FW_WRITE_IGNORED_count 0 ∧ t.fctl = s.fctl ∧ t.mem = s.mem)) ∧
  (∀ (s : State) (r : Req) (f : Fin 16), s.supplied = true → reqIsHostOrF0 r = true → s.rb FRD_RESULT_done = true → reqIsHost r = true ∨ f ≠ 0 →
    (s.frdState f ≤ 1 → ∃ t, exec (.frdHalt r f) s = .next t ∧ t.frdState f = 2 ∧ (t.frond f).wait = .none ∧ t.frdGave 0) ∧
    (2 ≤ s.frdState f → ∃ t, exec (.frdHalt r f) s = .next t ∧ t.frdState f = s.frdState f ∧ t.frdGave 7) ∧
    (2 ≤ s.frdState f → s.rb FRD_STATUSn_loaded f.val = true → s.pdServed (clusterDom f) = true → ∃ t, exec (.frdRestart r f) s = .next t ∧
      t.frdState f = 0 ∧ (t.frond f).pc = BitVec.ofNat 64 (frdBase + (s.frond f).entry) ∧ (t.frond f).mode = true ∧ (t.frond f).ie = false ∧
      (∀ k : Fin 32, (t.frond f).g[k] = 0) ∧ t.frdGave 0) ∧
    (s.frdState f ≤ 1 ∨ s.rb FRD_STATUSn_loaded f.val = false → ∃ t, exec (.frdRestart r f) s = .next t ∧ t.frdState f = s.frdState f ∧
      t.frdGave 7)) ∧
  (∀ (s : State) (i : Instr), s.supplied = true → s.rb FRD_RESULT_done = true → i = .frdHalt (.frond 0) 0 ∨ i = .frdRestart (.frond 0) 0 ∨
    i = .frdSwap (.frond 0) 0 → ∃ t, exec i s = .next t ∧ t.frdState 0 = s.frdState 0 ∧ t.frdGave 8) ∧
  (∀ (s : State) (r : Req) (f : Fin 16) (off n : Nat), s.supplied = true → reqIsHostOrF0 r = true → s.rb FRD_RESULT_done = true → s.fctl.staged = none →
    off = s.rf FRD_CMD_SRC_base * 64 → s.served off (min 256 (0x800000 - off)) →
    n = min (0x800000 - off) (imageLen (s.bytesAt (commonsBase + off) (min 256 (0x800000 - off)))) → s.served off n →
    ∃ t, exec (.frdStage r f) s = .next t ∧ t.fctl.staging = some (f.val, s.bytesAt (commonsBase + off) n) ∧ t.rb FRD_RESULT_done = false ∧
      t.mem = s.mem) ∧
  (∀ (s : State) (f : Fin 16) (img : Bytes), s.supplied = true → s.fctl.staging = some (f.val, img) →
    (checkImage s.ownerKey f.val img = 0 → ∃ t, exec .stageComplete s = .next t ∧ t.fctl.staged = some (stagedOf f.val img) ∧
      t.fctl.staging = none ∧ t.rb FRD_STATUSn_staged f.val = true ∧ t.frdGave 0) ∧
    (∀ c, checkImage s.ownerKey f.val img = c → c ≠ 0 → ∃ t, exec .stageComplete s = .next t ∧ t.fctl.staged = s.fctl.staged ∧
      t.fctl.staging = none ∧ t.frdGave (if c = 9 then 2 else c))) ∧
  (∀ s : State, s.supplied = true → s.fctl.staging = none → exec .stageComplete s = .next s) ∧
  (∀ (s : State) (r : Req) (f : Fin 16) (x : Staged), s.supplied = true → reqIsHostOrF0 r = true → s.rb FRD_RESULT_done = true → reqIsHost r = true ∨ f ≠ 0 →
    s.fctl.staged = some x →
    (x.frond ≠ f.val → ∃ t, exec (.frdSwap r f) s = .next t ∧ t.fctl = s.fctl ∧ t.frdGave 6) ∧
    (x.frond = f.val → 2 ≤ s.frdState f → s.pdServed (clusterDom f) = true →
      (s.key.readied = true → s.authorised f.val x.measure = false → ∃ t, exec (.frdSwap r f) s = .next t ∧ t.fctl = s.fctl ∧ t.key = s.key ∧
        t.frdGave 5) ∧
      (s.key.readied = false ∨ s.authorised f.val x.measure = true → ∃ t, exec (.frdSwap r f) s = .next t ∧ t.fctl.swapping = some f.val ∧
        t.fctl.staged = some x ∧ t.key.manifest[f] = x.measure ∧ t.rb FRD_RESULT_done = false ∧
        (s.key.unsealed = true → t.key.chain = chainExt s.key.chain f.val x.measure)))) ∧
  (∀ (s : State) (f : Fin 16) (x : Staged), s.supplied = true → s.fctl.swapping = some f.val → s.fctl.staged = some x → Memory.wf s.mem = true →
    x.code.length ≤ 65536 → x.dataSec.length ≤ 65536 → ∃ t, exec .swapComplete s = .next t ∧ t.frdState f = 0 ∧
      t.rb FRD_STATUSn_loaded f.val = true ∧ t.rb FRD_STATUSn_staged f.val = false ∧ t.rf FRD_IMGn_release f.val = x.release % 2 ^ 32 ∧
      (t.frond f).pc = BitVec.ofNat 64 (frdBase + x.entry) ∧ t.fctl.staged = none ∧ t.fctl.swapping = none ∧
      t.bytesAt (imemOf f.val) x.code.length = x.code ∧ t.bytesAt (dmemOf f.val) x.dataSec.length = x.dataSec ∧
      (∀ a, dmemOf f.val + x.dataSec.length ≤ a → a < dmemOf f.val + 0x10000 → t.byteAt a = 0) ∧ t.frdGave 0) ∧
  (∀ s : State, s.supplied = true → s.fctl.swapping = none → exec .swapComplete s = .next s) ∧
  (∀ (s : State) (r : Req) (f : Fin 16), s.supplied = true → reqIsHostOrF0 r = true → s.rb FRD_RESULT_done = true →
    (s.fctl.staged = none → ∃ t, exec (.frdUnstage r f) s = .next t ∧ t.fctl = s.fctl ∧ t.frdGave 6) ∧
    (∀ x, s.fctl.staged = some x → x.frond < 16 → ∃ t, exec (.frdUnstage r f) s = .next t ∧ t.fctl.staged = none ∧
      t.rb FRD_STATUSn_staged x.frond = false ∧ t.frdGave 0))

/-! ## Power -/

/-- R417, R418, R422 to R427, R448: a power command outside its domain's column, to the state it has, or of a domain in use is refused with its
result, and a frozen engine takes none; one that comes while another transition runs is counted as busy; one that is accepted starts a transition,
which ends in the target state with result 0; ON for the domain in transition takes it back before the commit point and is held after it; a bank
that goes OFF loses its content, and the accesses that waited for it follow when it is ON; a cluster in RETAIN keeps its memories, or, where their
signature fails, loses them with its images; a domain goes OFF once both checkpoints hold its save area, and its wake fails where no area of that
time in OFF holds. -/
def Obligations.PowerCommandsMoveDomains : Prop :=
  (∀ (s : State) (i : Instr) (r : Req) (d target : Nat), s.supplied = true → pwrTarget i = some (r, d, target) →
    (reqIsHostOrF0 r = false → exec i s = .next (s.ignoreWrite r)) ∧
    (reqIsHostOrF0 r = true → s.live = false → exec i s = .next s) ∧
    (reqIsHostOrF0 r = true → s.live = true → s.pwr.trans = none →
      (∀ res, (51 < d ∧ res = 2) ∨ (d ≤ 51 ∧ s.pwrOf d = target ∧ res = 4) ∨
        (s.pwrOf d ≠ target ∧ pwrDenied d (s.pwrOf d) target = true ∧ res = 2) ∨
        (pwrDenied d (s.pwrOf d) target = false ∧ s.pwrOf d ≠ target ∧ s.pwrInUse d (s.pwrOf d) target = true ∧ res = 3) →
        ∃ t, exec i s = .next t ∧ t.rf PWR_RESULT_result = res ∧ t.pwr = s.pwr ∧ t.bit32 SYS_IRQ_CAUSEw_cause 35 = true ∧
          ∀ k : Fin 20, t.pd k.val = s.pd k.val) ∧
      (pwrDenied d (s.pwrOf d) target = false → s.pwrOf d ≠ target → s.pwrInUse d (s.pwrOf d) target = false →
        (∃ t, exec i s = .next t ∧ t.pwr.trans = some ⟨d, s.pwrOf d, target, false, false⟩) ∧
        (20 ≤ d ∨ target = 0 → ∃ t, exec i s = .next t ∧ t.rb PWR_RESULT_done = false ∧ t.rf PWR_RESULT_domain = d ∧
          s.counted t PWR_CMDS_count 0 ∧ t.mem = s.mem))) ∧
    (∀ x, reqIsHostOrF0 r = true → s.live = true → s.pwr.trans = some x → target ≠ 0 ∨ d ≠ x.domain → ∃ t, exec i s = .next t ∧ t.rf PWR_RESULT_result = 1 ∧
      s.counted t PWR_BUSY_count 0 ∧ t.pwr = s.pwr)) ∧
  (∀ (s : State) (r : Req) (d : Fin 64) (x : PwrTrans), s.live = true → reqIsHostOrF0 r = true → s.pwr.trans = some x → x.domain = d.val → x.target ≠ 0 →
    (∃ t, exec (.pwrOn r d true) s = .next t ∧ t.pwr.trans = some { x with committed := true, held := true } ∧ t.rb PWR_RESULT_held = true) ∧
    (x.committed = true → exec (.pwrOn r d false) s = exec (.pwrOn r d true) s) ∧
    (x.committed = false → ∃ t, exec (.pwrOn r d false) s = .next t ∧ t.pwr.trans = none ∧ t.rf PWR_RESULT_result = 5 ∧ t.rb PWR_RESULT_done = true)) ∧
  (∀ (s : State) (x : PwrTrans) (fl : List (Nat × BitVec 8)), s.pwr.trans = some x → s.live = true →
    (x.target = 0 → x.old ≠ 4 ∨ 20 ≤ x.domain → x.domain < 52 → ∃ t, exec (.pwrTransitionComplete fl) s = .next t ∧ t.pwr.trans = none ∧
      t.rf PWR_RESULT_result = 0 ∧ t.rb PWR_RESULT_done = true ∧ t.rb PWR_RESULT_held = false ∧
      (20 ≤ x.domain → t.bank (x.domain - 20) = 0) ∧ t.bit32 SYS_IRQ_CAUSEw_cause 35 = true ∧
      (x.old = 3 → 2 ≤ x.domain → x.domain ≤ 5 → (fl = [] → t.mem = s.mem) ∧ (s.retFails x.domain fl = true → ∀ f : Fin 16,
        clusterDom f = x.domain → t.rb FRD_STATUSn_loaded f.val = false ∧ t.key.manifest[f] = zeros 48 ∧
          ∀ a, inLocal a = true → localOf a = f.val → t.byteAt a = 0))) ∧
    (x.target = 0 → x.old = 4 → 20 ≤ x.domain → x.domain < 52 → s.unmarked → Memory.wf s.mem = true → ∀ port a bs, s.memx.held = [.store port a bs] →
      bs ≠ [] → inCommons a = true → inCommons (a + bs.length - 1) = true → bankOf a = x.domain - 20 → bankOf (a + bs.length - 1) = x.domain - 20 →
      ∃ t, exec (.pwrTransitionComplete fl) s = .next t ∧ t.memx.held = [] ∧ t.bytesAt a bs.length = bs) ∧
    (x.target = 0 → x.old = 4 → 0 < x.domain → x.domain < 20 → (fl ≠ [] ∨ x.domain ∈ s.pwr.badSave) →
      (s.pwr.savedCopy x.domain = none → ∃ t, exec (.pwrTransitionComplete fl) s = .next t ∧ t.pwr.trans = none ∧ t.pd x.domain = 4 ∧
        t.rf PWR_RESULT_result = 6 ∧ t.rb PWR_RESULT_done = true) ∧
      (∀ r, s.pwr.savedCopy x.domain = some r → ∃ t, exec (.pwrTransitionComplete fl) s = .next t ∧ t.pwr.trans = none ∧
        t.rf PWR_RESULT_result = 0 ∧ t.rb PWR_RESTART_save_fail = true)) ∧
    (1 ≤ x.target → x.target ≤ 3 → x.held = false → x.domain < 20 → ∃ t, exec (.pwrTransitionComplete fl) s = .next t ∧ t.pwr.trans = none ∧
      t.rf PWR_RESULT_result = 0 ∧ t.rb PWR_RESULT_done = true ∧ t.pd x.domain = x.target) ∧
    (x.target = 4 → x.held = false → 20 ≤ x.domain → x.domain < 52 → ∃ t, exec (.pwrTransitionComplete fl) s = .next t ∧ t.pwr.trans = none ∧
      t.bank (x.domain - 20) = 2 ∧ (∀ a, bankOf a = x.domain - 20 → inCommons a = true → t.byteAt a = 0) ∧
      (∀ a, inCommons a = false ∨ bankOf a ≠ x.domain - 20 → Memory.wf s.mem = true → t.byteAt a = s.byteAt a)) ∧
    (x.target = 4 → x.held = false → 0 < x.domain → x.domain < 20 → s.pwr.savedTwice x.domain = true → ∃ t,
      exec (.pwrTransitionComplete fl) s = .next t ∧ t.pwr.trans = none ∧ t.pd x.domain = 4 ∧ t.rf PWR_RESULT_result = 0) ∧
    (x.target = 4 → x.domain < 20 → s.pwr.savedTwice x.domain = false → exec (.pwrTransitionComplete fl) s = .next s)) ∧
  (∀ (s : State) (fl : List (Nat × BitVec 8)), s.supplied = true → s.pwr.trans = none ∨ s.live = false → exec (.pwrTransitionComplete fl) s = .next s)

/-- R427, R430 to R433, R440 to R444, R445, R446, R463: without its supply, or held in reset, no block takes a command; a checkpoint is taken at
each tenth millisecond strobe and its end moves the pointer and counts; PFAIL_N and RESET_N freeze a running engine, with a final checkpoint once
spine time runs, and a reset of their cause holds the chip once no checkpoint is written; a loss of VDD_CORE loses everything but the Lichen store,
and one of VDD_AON that store and the RTC; a reset that is due starts the chip, both supplies present and PFAIL_N high, with its cause, every domain
ON and memory clear. A restart loads the newest valid checkpoint and starts spine time at its time plus the time that the RTC counted since, or,
without one, at the RTC's time, and reports which; the function's reset clears PEND, and a hot one or PERST takes the link down. -/
def Obligations.CheckpointsResetsAndRestarts : Prop :=
  (∀ (s : State) (i : Instr), s.supplied = false → unpowered i = false → exec i s = .next s) ∧
  (∀ (s : State) (z : Int) (bad : List (Fin 20)), s.supplied = true → z = s.tm.lastStrobe →
    (s.live = true → s.pwr.aon = true → s.tm.run = true → 0 ≤ z → s.now = z → z % uSec / uMs % 10 = 0 →
      s.pwr.writing = none → ∃ t c, exec (.periodicCheckpoint bad) s = .next t ∧ t.pwr.writing = some c ∧ c.final = false ∧ c.time = s.now ∧
        c.seq = s.pwr.nextSeq ∧ (bad = [] → c = s.image false) ∧ t.pwr.nextSeq = s.pwr.nextSeq + 1 ∧ t.regs = s.regs ∧
        ∀ d ∈ bad, s.pwr.saves.any (fun e => decide (e.1 = d.val)) = true → d.val ∈ t.pwr.badSave) ∧
    (s.live = false ∨ s.pwr.aon = false ∨ s.now ≠ z ∨ s.pwr.writing ≠ none → exec (.periodicCheckpoint bad) s = .next s)) ∧
  (∀ (s : State) (c : Ckpt), s.supplied = true → s.pwr.writing = some c →
    (c.final = false → s.pwr.newest ≤ 1 → ∃ t, exec .checkpointWriteComplete s = .next t ∧ t.pwr.writing = none ∧
      t.pwr.newest = 1 - s.pwr.newest ∧ (if s.pwr.newest = 1 then t.pwr.copy0 else t.pwr.copy1) = some c ∧ s.counted t PWR_CKPTS_count 0) ∧
    (c.final = true → s.pwr.chip = .frozen → s.pwr.newest ≤ 1 → ∃ t, exec .finalCheckpointComplete s = .next t ∧ t.pwr.writing = none ∧
      t.pwr.newest = 1 - s.pwr.newest ∧ (if s.pwr.newest = 1 then t.pwr.copy0 else t.pwr.copy1) = some { c with fatal := s.fatalBits } ∧
      (s.pwr.resetCause = 0 → t.pwr.chip = .frozen ∧ t.regs = s.regs) ∧
      (s.pwr.resetCause ≠ 0 → t.pwr.chip = (if s.pwr.aon then .lichen else .dark) ∧ t.pwr.resetCause = s.pwr.resetCause)) ∧
    (c.final = true → s.pwr.chip ≠ .frozen → exec .finalCheckpointComplete s = .next s) ∧
    (c.final = true → exec .checkpointWriteComplete s = .next s) ∧ (c.final = false → exec .finalCheckpointComplete s = .next s)) ∧
  (∀ s : State, s.supplied = true → s.pwr.writing = none → exec .checkpointWriteComplete s = .next s ∧ exec .finalCheckpointComplete s = .next s) ∧
  (∀ (s : State) (b : Bool), (s.pwr.pfail = false → s.live = true → ∃ t, exec (.pfailWarning b) s = .next t ∧ t.pwr.pfail = true ∧
      t.pwr.chip = .frozen ∧ t.live = false ∧ t.key.commit = none ∧
      (s.tm.run = true → s.pwr.aon = true → ∃ c, t.pwr.writing = some c ∧ c.final = true ∧ c.time = s.now)) ∧
    (s.pwr.pfail = true → exec (.pfailWarning b) s = .next s)) ∧
  (∀ s : State, (s.pwr.pfail = true → s.pwr.chip = .frozen → s.pwr.resetCause = 0 → ∃ t, exec .pfailRelease s = .next t ∧
      t.pwr.pfail = false ∧ t.pwr.resetCause = 4 ∧ (s.pwr.writing ≠ none → t.pwr.chip = .frozen ∧ t.regs = s.regs) ∧
      (s.pwr.writing = none → t.pwr.chip = if s.pwr.aon then .lichen else .dark)) ∧
    (s.pwr.pfail = false → exec .pfailRelease s = .next s)) ∧
  (∀ (s : State) (b : Bool), s.live = true → ∃ t, exec (.resetNAssert b) s = .next t ∧ t.pwr.resetCause = 3 ∧ t.jtag.resetLow = true ∧
    (s.tm.run = true → s.pwr.aon = true → t.pwr.chip = .frozen ∧ ∃ c, t.pwr.writing = some c ∧ c.final = true) ∧
    (s.tm.run = false ∨ s.pwr.aon = false → s.pwr.writing = none → t.pwr.chip = if s.pwr.aon then .lichen else .dark)) ∧
  (∀ s : State, (s.pwr.aon = false → ∃ t, exec .vddAonPowerOn s = .next t ∧ t.pwr.aon = true ∧ t.pwr.chip = .lichen ∧ t.pwr.resetCause = 1) ∧
    (s.pwr.aon = true → exec .vddAonPowerOn s = .next s)) ∧
  (∀ s : State, (s.pwr.aon = true → ∃ t, exec .vddAonLoss s = .next t ∧ t.pwr.copy0 = none ∧ t.pwr.copy1 = none ∧ t.pwr.rtcValid = false ∧
      t.key.commitBit = none ∧ t.pwr.aon = false ∧ (s.pwr.chip = .run → t.pwr.chip = .run ∧ t.regs = s.regs) ∧
      (s.pwr.chip = .lichen → t.pwr.chip = .dark)) ∧
    (s.pwr.aon = false → exec .vddAonLoss s = .next s)) ∧
  (∀ (s : State) (b : Bool), (s.pwr.core = true → ∃ t, exec (.vddCoreLoss b) s = .next t ∧ t.pwr.chip = (if s.pwr.aon then .lichen else .dark) ∧
      t.pwr.core = false ∧ t.mem = [] ∧ t.key.lockers = [] ∧ t.pending = s.pending ∧ t.cfg.flash = s.cfg.flash ∧ t.pwr.rtcValid = s.pwr.rtcValid) ∧
    (s.pwr.core = false → exec (.vddCoreLoss b) s = .next s)) ∧
  (∀ s : State, (s.pwr.core = false → ∃ t, exec .vddCoreReturn s = .next t ∧ t.pwr.core = true ∧
      t.pwr.resetCause = if s.pwr.chip = .lichen ∧ s.pwr.resetCause = 0 then 2 else s.pwr.resetCause) ∧
    (s.pwr.core = true → exec .vddCoreReturn s = .next s)) ∧
  (∀ (s : State) (b : Bool) (ran : BitVec 63), (s.pwr.resetCause ≠ 0 → s.supplied = false → s.pwr.core = true → s.pwr.aon = true →
      s.pwr.resetCause < 3 ∨ s.pwr.pfail = false → ∃ t, exec (.chipReset b ran) s = .next t ∧ t.pwr.chip = .run ∧
      t.pwr.resetCause = 0 ∧ t.rf PWR_RESET_CAUSE_cause = s.pwr.resetCause % 8 ∧ t.rb PWR_RESET_CAUSE_rtc_valid = s.pwr.rtcValid ∧
      t.mem = [] ∧ t.pending = s.pending ∧ t.keyAlive = b ∧ t.rf KEY_STATUS_state = (if b then 0 else 3) ∧
      (∀ k : Fin 20, t.pd k.val = 0) ∧ (∀ f : Fin 16, t.frdState f = 2) ∧ t.pwr.copy0 = s.pwr.copy0 ∧ t.pwr.copy1 = s.pwr.copy1 ∧
      t.isReady 5 = false) ∧
    (s.pwr.resetCause = 0 ∨ s.supplied = true ∨ s.pwr.core = false ∨ s.pwr.aon = false ∨ (3 ≤ s.pwr.resetCause ∧ s.pwr.pfail = true) →
      exec (.chipReset b ran) s = .next s)) ∧
  (∀ (s : State) (ran : BitVec 63) (rtc : Nat), s.tm.run = false → s.live = true → s.locked s.active = true →
    rtc = (s.pwr.rtc + ran.toNat) % 2 ^ 63 →
    (s.pwr.copies = [] → ∃ t, exec (.restartRestore ran) s = .next t ∧ t.tm.run = true ∧
      t.tm.time = (if s.pwr.rtcValid then (rtc : Int) * 2000000000 else 0) ∧ t.rf PWR_RESTART_kind = 0 ∧ t.isReady 2 = true) ∧
    (∀ c rest, s.pwr.copies = c :: rest → ∃ t, exec (.restartRestore ran) s = .next t ∧ t.tm.run = true ∧
      t.tm.time = c.time + ((rtc - c.rtc : Nat) : Int) * 2000000000 ∧ t.rf PWR_RESTART_kind = (if c.final then 1 else 2) ∧
      t.rf PWR_OUTAGE_ticks = (rtc - c.rtc) % 2 ^ 64 ∧ t.isReady 2 = true)) ∧
  (∀ (s : State) (ran : BitVec 63), s.tm.run = true ∨ s.live = false ∨ s.locked s.active = false → exec (.restartRestore ran) s = .next s) ∧
  (∀ s : State, s.supplied = true → (∃ t, exec (.pcieFunctionReset false) s = .next t ∧ (∀ w : Fin 16, t.rf SYS_IRQ_PENDw_pend w.val = 0) ∧
      t.pcie.msixEn = false ∧ t.mem = s.mem) ∧
    (∀ i : Instr, i = .pcieFunctionReset true ∨ i = .perstNAssert → ∃ t, exec i s = .next t ∧ t.isReady 10 = false ∧ t.pcie.msixEn = false))

/-! ## Boot, flash and access -/

/-- R435 to R438: before SYS_READY.cfg the sequencer applies the newer slot that holds, or the one that holds, or defaults, and sets the bit; a
record that names no register of its own ranges is skipped and counted; then the Prefect image of the directory, or the recovery image, that
passes is installed, measured and started at its entry, and one that does not is reported. -/
def Obligations.SlotsAndThePrefectBoot : Prop :=
  (∀ (s : State) (ea eb : Bool) (a b : Bytes) (fa fb : Nat), s.supplied = true → s.isReady 5 = false → s.live = true → a = s.flashBytes 0 0x10000 →
    b = s.flashBytes 0x10000 0x10000 → fa = (if ea then 4 else slotFail a) → fb = (if eb then 4 else slotFail b) →
    (fa ≠ 0 → fb ≠ 0 → ∃ t, exec (.configSlotApply ea eb) s = .next t ∧ t.rb CFG_STATUS_defaulted = true ∧ t.rb CFG_STATUS_a_valid = false ∧
      t.rb CFG_STATUS_b_valid = false ∧ t.rf CFG_STATUS_a_fail = fa ∧ t.rf CFG_STATUS_b_fail = fb ∧ t.isReady 5 = true) ∧
    (∀ x useB, useB = (decide (fb = 0) && (decide (fa ≠ 0) || newerSeq (sliceNat b 8 4) (sliceNat a 8 4))) → x = (if useB then b else a) →
      fa = 0 ∨ fb = 0 →
      (sliceNat x 6 2 = 0 → ∃ t, exec (.configSlotApply ea eb) s = .next t ∧ t.rb CFG_STATUS_slot = useB ∧
        t.rf CFG_SEQ_seq = sliceNat x 8 4 ∧ t.rf CFG_RECORDS_applied = 0 ∧ t.rf CFG_RECORDS_skipped = 0 ∧ t.isReady 5 = true ∧
        t.rb CFG_STATUS_a_valid = decide (fa = 0) ∧ t.rb CFG_STATUS_b_valid = decide (fb = 0) ∧
        ∀ f : Fin 16, t.rf CFG_DIRf_ofs f.val = sliceNat x (32 + 16 * f.val) 4) ∧
      (sliceNat x 6 2 = 1 → recordAllowed (sliceNat x 288 4) = false → ∃ t, exec (.configSlotApply ea eb) s = .next t ∧
        t.rf CFG_RECORDS_applied = 0 ∧ t.rf CFG_RECORDS_skipped = 1 ∧ t.isReady 5 = true) ∧
      (sliceNat x 6 2 = 1 → sliceNat x 288 4 = 0xB0018 → s.pdServed 0 = true → ∃ t, exec (.configSlotApply ea eb) s = .next t ∧
        t.rf CFG_RECORDS_applied = 1 ∧ t.rf CFG_RECORDS_skipped = 0 ∧ (∀ k : Fin 16, (t.rf TWN_KICK_MS_ms).testBit k.val =
          if (sliceNat x 296 4).testBit k.val then (sliceNat x 292 4).testBit k.val else (s.rf TWN_KICK_MS_ms).testBit k.val)))) ∧
  (∀ (s : State) (ea eb : Bool), s.supplied = true → s.isReady 5 = true ∨ s.live = false → exec (.configSlotApply ea eb) s = .next s) ∧
  (∀ s : State, s.supplied = true → s.isReady 5 = true → s.rf CFG_BOOT_prefect = 0 → s.live = true →
    (∀ img, s.dirImage = some img → s.prefectCheck img = 1 → ∃ t, exec .prefectBootLoad s = .next t ∧ t.rf CFG_BOOT_prefect = 1 ∧
      t.rb CFG_BOOT_recovery = false ∧ t.frdState 0 = 0 ∧ (t.frond 0).pc = BitVec.ofNat 64 frdBase ∧ t.isReady 6 = true ∧
      t.key.manifest[0] = fitBytes 48 (Config.sha384 img)) ∧
    (s.dirImage = none → s.prefectCheck s.recoveryImage = 1 → ∃ t, exec .prefectBootLoad s = .next t ∧ t.rf CFG_BOOT_prefect = 1 ∧
      t.rb CFG_BOOT_recovery = true ∧ t.frdState 0 = 0 ∧ t.isReady 6 = true) ∧
    (s.dirImage = none → s.prefectCheck s.recoveryImage ≠ 1 → ∃ t, exec .prefectBootLoad s = .next t ∧
      t.rf CFG_BOOT_prefect = s.prefectCheck s.recoveryImage ∧ t.frdState 0 = s.frdState 0 ∧ t.key = s.key ∧ t.mem = s.mem)) ∧
  (∀ s : State, s.supplied = true → s.isReady 5 = false ∨ s.rf CFG_BOOT_prefect ≠ 0 ∨ s.live = false → exec .prefectBootLoad s = .next s)

/-- R13, R93, R417, R423, R432, R452, R453, R454, R455, R457, R458, R462, R464, R465: a command of a requester crosses to its register; the host's does nothing
while the endpoint is in D3hot or off. A write of a register word runs
the register's own write, one of an absent word or of a domain that is off is counted, and one of the commons stores its bytes; an access to a bank that wakes waits. The
host's configuration requests read the endpoint's identifiers and set its bus mastering, its BARs, its power state and its MSI-X, and can reset the
function. A read of a lowest word latches the words above it for its requester, and reads of those return what was latched, or the present words with no such
latch; a write of a lower word waits, an unfinished one of another register is dropped and counted, and the write of the highest applies all
words at once, with the register's own words where none waits. The management slave reads and writes the words of its subset, flags and
counts the others, and answers its status byte; within 50 µs of reset it does no more than answer. -/
def Obligations.RegistersAreReadAndWritten : Prop :=
  (∀ (s u : State) (q : Req) (a : BitVec 24) (v : BitVec 32), s.supplied = true → u = s.reqCross q → s.onBus q = true →
    (∀ x, targetOf a.toNat 4 = .reg → regAt a.toNat = some x →
      (s.unserved a.toNat = true → exec (.registerWrite q false a v) s = .next (u.inc PWR_OFF_ACCESS_count)) ∧
      (s.unserved a.toNat = false → x.reg.multi = false →
        (x.reg.words = 1 → exec (.registerWrite q false a v) s = .next (u.writeReg q x.reg x.inst v.toNat)) ∧
        (x.reg.words ≠ 1 → exec (.registerWrite q false a v) s =
          .next (if x.reg.base = 0x20100 then u else u.putReg x.reg x.inst (setWord (u.getReg x.reg x.inst) x.word v.toNat)))) ∧
      (x.reg.multi = true → (x.word + 1 < x.reg.words → exec (.registerWrite q false a v) s = exec (.multiwordLowerWrite q a v) s) ∧
        (x.word + 1 = x.reg.words → exec (.registerWrite q false a v) s = exec (.multiwordHighWrite q a v) s))) ∧
    (targetOf a.toNat 4 = .unmapped ∨ targetOf a.toNat 4 = .bad → exec (.registerWrite q false a v) s = .next u.badAccess) ∧
    (targetOf a.toNat 4 = .mem → inCommons a.toNat = true →
      (s.bankWakes a.toNat = true → bankOf (a.toNat + 3) = bankOf a.toNat → exec (.registerWrite q false a v) s = .next
        ((u.shared 1 1).hold (.store (portOf q) a.toNat (leBytes 4 v.toNat)))) ∧
      (s.allOn a.toNat 4 = true → Memory.wf s.mem = true → ∃ t, exec (.registerWrite q false a v) s = .next t ∧
        t.bytesAt a.toNat 4 = leBytes 4 v.toNat ∧ ∀ y, y < a.toNat ∨ a.toNat + 4 ≤ y → t.byteAt y = s.byteAt y))) ∧
  (∀ (s u : State) (q : Req) (v : BitVec 32), s.supplied = true → u = s.reqCross q → s.onBus q = true → s.pdServed 0 = true →
    exec (.registerWrite q false 0xB0018 v) s = .next (u.wf TWN_KICK_MS_ms (v.toNat % 65536)) ∧ exec (.registerWrite q false 0xB0054 v) s = .next u ∧
    (s.rf TWN_ALARM_stuck < 2 → ∃ t, exec (.registerWrite q false 0xB0010 v) s = .next t ∧ t.twn = s.twn ∧
      (t.rb TWN_ALARM_stuck = true ↔ s.rb TWN_ALARM_stuck = true ∧ v.toNat / 2 % 2 = 0))) ∧
  (∀ (s : State) (f : Fin 16) (v : BitVec 32), s.supplied = true → f ≠ 0 → s.pdServed 0 = true →
    exec (.registerWrite (.frond f) false 0xE0008 v) s = .next (s.inc SYS_FW_WRITE_IGNORED_count)) ∧
  (∀ (s : State) (q : Req) (a : BitVec 24) (v : BitVec 32), s.supplied = true →
    (s.pdServed 19 = false → exec (.registerWrite q true a v) s = .next s ∧ exec (.multiwordLoRead q true a) s = .next s) ∧
    (s.pdServed 19 = true → exec (.multiwordLoRead q true a) s = .next (s.setRead .host (s.pciWord a.toNat)) ∧
      (tabGet 0 0 s.pcie.cfg = 0 → s.pciWord 0 = 0x96321F4E) ∧
      (∃ t, exec (.registerWrite q true 0x04 v) s = .next t ∧ t.pcie.bme = v.getLsbD 2 ∧ t.regs = s.regs) ∧
      (∃ t, exec (.registerWrite q true 0x10 v) s = .next t ∧ t.pciWord 0x10 = (v &&& 0xFF000000#32).toNat + 4 ∧ t.regs = s.regs) ∧
      (∃ t, exec (.registerWrite q true 0x44 v) s = .next t ∧ (v.toNat % 4 = 3 → t.pcie.d3 = true) ∧ (v.toNat % 4 = 0 → t.pcie.d3 = false)) ∧
      (∃ t, exec (.registerWrite q true 0x50 v) s = .next t ∧ t.pcie.msixEn = v.getLsbD 31 ∧ t.pcie.fmask = v.getLsbD 30) ∧
      (v.getLsbD 15 = true → exec (.registerWrite q true 0x78 v) s = exec (.pcieFunctionReset false) s))) ∧
  (∀ (s u : State) (q : Req) (a : BitVec 24), s.supplied = true → u = s.reqCross q → s.onBus q = true →
    (targetOf a.toNat 4 = .mem → s.waits a.toNat 4 = true → exec (.multiwordLoRead q false a) s = .next (u.hold (.load q (portOf q) a.toNat 4))) ∧
    (∀ x, targetOf a.toNat 4 = .reg → regAt a.toNat = some x →
      (s.unserved a.toNat = true → exec (.multiwordLoRead q false a) s = .next ((u.inc PWR_OFF_ACCESS_count).setRead q 0)) ∧
      (s.unserved a.toNat = false → x.reg.multi = true → x.word = 0 → ∃ t, exec (.multiwordLoRead q false a) s = .next t ∧
        t.lastRead q = u.regValue x.reg x.inst % 2 ^ 32 ∧ t.acc.latch[reqIx q] = some ⟨x.reg.addr x.inst, (List.range (x.reg.words - 1)).map
          (fun i => u.regValue x.reg x.inst / 2 ^ (32 * (i + 1)) % 2 ^ 32)⟩ ∧ t.regs = s.regs) ∧
      (∀ l, s.unserved a.toNat = false → x.reg.multi = true → 0 < x.word → s.acc.latch[reqIx q] = some l → l.reg = x.reg.addr x.inst →
        exec (.multiwordLoRead q false a) s = .next (u.setRead q ((l.words[x.word - 1]?).getD 0))) ∧
      (s.unserved a.toNat = false → x.reg.multi = false ∨ (0 < x.word ∧ ∀ l, s.acc.latch[reqIx q] = some l → l.reg ≠ x.reg.addr x.inst) →
        exec (.multiwordLoRead q false a) s = .next (u.setRead q (u.regValue x.reg x.inst / 2 ^ (32 * x.word) % 2 ^ 32)))) ∧
    (targetOf a.toNat 4 = .unmapped → exec (.multiwordLoRead q false a) s = .next (u.badAccess.setRead q 0)) ∧
    (targetOf a.toNat 4 = .bad → exec (.multiwordLoRead q false a) s = .next (u.badAccess.setRead q (2 ^ 32 - 1)))) ∧
  (∀ (s u : State) (q : Req) (a : BitVec 24) (v : BitVec 32) (x : RegWord), s.supplied = true → u = s.reqCross q → s.onBus q = true → regAt a.toNat = some x →
    x.reg.multi = true →
    (s.unserved a.toNat = true → (x.word + 1 < x.reg.words → exec (.multiwordLowerWrite q a v) s = .next (u.inc PWR_OFF_ACCESS_count)) ∧
      (x.word + 1 = x.reg.words → exec (.multiwordHighWrite q a v) s = .next (u.inc PWR_OFF_ACCESS_count))) ∧
    (∀ t, s.unserved a.toNat = false →
      (x.reg.writable = false ∧ t = u) ∨ (x.reg.writable = true ∧ x.reg.base = 0x32024 ∧ reqIsHost q = false ∧ t = u.ignoreWrite q) →
      (x.word + 1 < x.reg.words → exec (.multiwordLowerWrite q a v) s = .next t) ∧
      (x.word + 1 = x.reg.words → exec (.multiwordHighWrite q a v) s = .next t)) ∧
    (s.unserved a.toNat = false → x.reg.writable = true → x.reg.base ≠ 0x32024 ∨ reqIsHost q = true →
      (x.word + 1 < x.reg.words →
        (s.acc.stage[reqIx q] = none → exec (.multiwordLowerWrite q a v) s =
          .next (u.setStage q (some ⟨x.reg.addr x.inst, [(x.word, v.toNat)]⟩))) ∧
        (∀ g, s.acc.stage[reqIx q] = some g →
          (g.reg = x.reg.addr x.inst → exec (.multiwordLowerWrite q a v) s =
            .next (u.setStage q (some ⟨g.reg, (x.word, v.toNat) :: g.held.filter (fun e => decide (e.1 ≠ x.word))⟩))) ∧
          (g.reg ≠ x.reg.addr x.inst → exec (.multiwordLowerWrite q a v) s =
            .next (u.badAccess.setStage q (some ⟨x.reg.addr x.inst, [(x.word, v.toNat)]⟩))))) ∧
      (x.word + 1 = x.reg.words →
        (s.acc.stage[reqIx q] = none → exec (.multiwordHighWrite q a v) s =
          .next (u.writeReg q x.reg x.inst (setWord (u.getReg x.reg x.inst) x.word v.toNat))) ∧
        (∀ g, s.acc.stage[reqIx q] = some g →
          (g.reg = x.reg.addr x.inst → exec (.multiwordHighWrite q a v) s =
            .next ((u.setStage q none).writeReg q x.reg x.inst (setWord (g.over (u.getReg x.reg x.inst)) x.word v.toNat))) ∧
          (g.reg ≠ x.reg.addr x.inst → exec (.multiwordHighWrite q a v) s =
            .next (u.writeReg q x.reg x.inst (setWord (u.getReg x.reg x.inst) x.word v.toNat)))) ∧
        (∀ lo, x.reg.words = 2 → lo < 2 ^ 32 → u.getReg x.reg x.inst < 2 ^ 64 →
          s.acc.stage[reqIx q] = some ⟨x.reg.addr x.inst, [(0, lo)]⟩ → exec (.multiwordHighWrite q a v) s =
            .next ((u.setStage q none).writeReg q x.reg x.inst (lo + v.toNat * 2 ^ 32)))))) ∧
  (∀ (s : State) (q : Req) (a : BitVec 24) (v : BitVec 32), s.supplied = true →
    (lowerWord a.toNat = false → exec (.multiwordLowerWrite q a v) s = .next s) ∧
    (highWord a.toNat = false → exec (.multiwordHighWrite q a v) s = .next s)) ∧
  (∀ (s : State) (i : Instr) (a : BitVec 24) (v : BitVec 32), s.supplied = true → s.pcie.d3 = true ∨ s.pdServed 19 = false →
    i ∈ [.multiwordLoRead .host false a, .multiwordLowerWrite .host a v, .multiwordHighWrite .host a v, .registerWrite .host false a v] → exec i s = .next s) ∧
  (∀ (s u : State) (a : BitVec 24) (k : Nat) (vs : List (BitVec 32)) (cut : Bool), s.supplied = true → u = s.reqCross .spi →
    (∃ t, exec (.mgmtSpiRead false a k cut) s = .next t ∧ t.acc.spiProtocol = cut ∧ t.mem = s.mem ∧
      (t.acc.spiRange = true ↔ ∃ i, i < k ∧ spiReaches (a.toNat + 4 * i) false = false) ∧
      ((∀ i, i < k → spiReaches (a.toNat + 4 * i) false = true ∧ s.unserved (a.toNat + 4 * i) = false ∧
          ∃ x, regAt (a.toNat + 4 * i) = some x ∧ x.reg.multi = false) →
        t.regs = s.regs ∧ t.lastRead .spi % 256 = u.spiStatus false ∧ ∀ i x, i < k → regAt (a.toNat + 4 * i) = some x →
          t.lastRead .spi / 2 ^ (8 + 32 * i) % 2 ^ 32 = u.regValue x.reg x.inst / 2 ^ (32 * x.word) % 2 ^ 32)) ∧
    (∃ t, exec (.mgmtSpiWrite false a vs cut) s = .next t ∧ t.acc.spiProtocol = cut ∧ t.lastRead .spi = u.spiStatus false ∧
      (t.acc.spiRange = true ↔ ∃ i, i < vs.length ∧ spiReaches (a.toNat + 4 * i) true = false)) ∧
    (∃ t, exec (.mgmtSpiRead true a k cut) s = .next t ∧ exec (.mgmtSpiWrite true a vs cut) s = .next t ∧ t.regs = s.regs ∧ t.mem = s.mem ∧
      t.acc.spiRange = false ∧ t.acc.spiProtocol = cut ∧ t.lastRead .spi = u.spiStatus true)) ∧
  (∀ (s u : State) (a : BitVec 24) (v : BitVec 32) (cut : Bool), s.supplied = true → u = s.reqCross .spi →
    (spiReaches a.toNat false = false → ∃ t, exec (.mgmtSpiRead false a 1 cut) s = .next t ∧ s.counted t SYS_BAD_ACCESS_count 0 ∧
      t.lastRead .spi = u.spiStatus false) ∧
    (spiReaches a.toNat true = false → ∃ t, exec (.mgmtSpiWrite false a [v] cut) s = .next t ∧ s.counted t SYS_BAD_ACCESS_count 0) ∧
    (spiReaches a.toNat true = true → exec (.mgmtSpiWrite false a [v] cut) s =
      .next (((u.writeRegAt .spi a.toNat v.toNat).spiFlags false cut).setRead .spi (u.spiStatus false))))

/-- R486, R487: BYPASS passes the bits through one bit that captures 0; IDCODE gives the chip's code; SAMPLE takes the pins and loads the boundary
register; EXTEST, CLAMP and HIGHZ act on the pins while RESET_N is low, and pass the bits through like BYPASS else; a signed unlock that
verifies under owner 0 enables debug while the lockers are not OPEN. Without VDD_CORE the port does nothing. -/
def Obligations.TheTestPort : Prop :=
  (∀ (s : State) (pins tdi : List Bool) (sig : Bytes) (i : Instr), s.pwr.core = false → i ∈ [.jtagBypass tdi, .jtagIdcode, .jtagSamplePreload pins tdi,
    .jtagExtest pins tdi, .jtagClamp tdi, .jtagHighz tdi, .jtagDebugUnlock sig] → exec i s = .next s) ∧
  (∀ (s : State) (b : Bool) (l : List Bool), s.pwr.core = true → ∃ t, exec (.jtagBypass (l ++ [b])) s = .next t ∧ t.jtag.ir = .bypass ∧ t.jtag.tdo = false :: l ∧
    t.jtag.pins = .none ∧ t.jtag.boundary = s.jtag.boundary ∧ t.regs = s.regs) ∧
  (∀ s : State, s.pwr.core = true → ∃ t, exec .jtagIdcode s = .next t ∧ t.jtag.ir = .idcode ∧ t.jtag.tdo.length = 32 ∧ (∀ k : Fin 32, t.jtag.tdo[k.val]? =
    some ((1 + 0x62D * 2 + 0x9632 * 2 ^ 12 + s.rf SYS_ID_rev_let * 2 ^ 28).testBit k.val))) ∧
  (∀ (s : State) (pins tdi : List Bool), s.pwr.core = true → (∃ t, exec (.jtagSamplePreload pins tdi) s = .next t ∧ t.jtag.ir = .sample ∧ t.jtag.tdo = pins ∧
      t.jtag.boundary = (if tdi = [] then s.jtag.boundary else tdi) ∧ t.jtag.pins = .none) ∧
    (s.jtag.resetLow = true → (∃ t, exec (.jtagExtest pins tdi) s = .next t ∧ t.jtag.ir = .extest ∧ t.jtag.tdo = pins ∧
        t.jtag.pins = .driven (if tdi = [] then s.jtag.boundary else tdi)) ∧
      (∃ t, exec (.jtagClamp tdi) s = .next t ∧ t.jtag.ir = .clamp ∧ t.jtag.pins = .driven s.jtag.boundary) ∧
      (∃ t, exec (.jtagHighz tdi) s = .next t ∧ t.jtag.ir = .highz ∧ t.jtag.pins = .released)) ∧
    (s.jtag.resetLow = false → exec (.jtagExtest pins tdi) s = exec (.jtagBypass tdi) s ∧ exec (.jtagClamp tdi) s = exec (.jtagBypass tdi) s ∧
      exec (.jtagHighz tdi) s = exec (.jtagBypass tdi) s)) ∧
  (∀ (s : State) (sig q : Bytes), s.pwr.core = true → s.ownerKey 0 = some q →
    (s.rf KEY_STATUS_state ≠ 1 → Config.ecdsaVerify q (Config.sha384 (ascii "NYXDBG" ++ idHash ++ s.debugNonce)) (fitBytes 96 sig) = true →
      ∃ t, exec (.jtagDebugUnlock sig) s = .next t ∧ t.jtag.unlocked = true ∧ t.key = s.key) ∧
    (s.rf KEY_STATUS_state = 1 ∨ Config.ecdsaVerify q (Config.sha384 (ascii "NYXDBG" ++ idHash ++ s.debugNonce)) (fitBytes 96 sig) = false →
      exec (.jtagDebugUnlock sig) s = .next s)) ∧
  (∀ (s : State) (sig : Bytes), s.pwr.core = true → s.ownerKey 0 = none → exec (.jtagDebugUnlock sig) s = .next s)

/-- R432, R433, R46, R142: right after reset no command waits, every power domain is ON, every Frond is stopped with clear registers, no readiness bit
is set, spine time does not run, the reset cause is 1, memory lists nothing, and the canonical forms hold. -/
def Obligations.TheResetState : Prop :=
  State.reset.tabsOk ∧ Memory.wf State.reset.mem = true ∧ State.reset.timesOk ∧ State.reset.pending = [] ∧ State.reset.mem = [] ∧
  (∀ k : Fin 20, State.reset.pd k.val = 0) ∧ (∀ b : Fin 32, State.reset.bank b.val = 0) ∧
  (∀ f : Fin 16, State.reset.frdState f = 2 ∧ (State.reset.frond f).evtPend = 0 ∧ ∀ k : Fin 32, (State.reset.frond f).g[k] = 0) ∧
  (∀ b : Fin 17, State.reset.isReady b.val = false) ∧ State.reset.tm.run = false ∧ State.reset.rf PWR_RESET_CAUSE_cause = 1 ∧
  State.reset.rf TWN_STATUS_state = 0 ∧ State.reset.rf KEY_STATUS_state = 0
end

