-- ==== Sys2Proof/Laws/Mem.lean ====
section
/-! SUPPORT. Laws of the byte memory: a read after a write, and the canonical form that every operation keeps. -/

namespace Sys2Proof.Machine

theorem memWfFrom_mono {lo lo' : Nat} (h : lo' ≤ lo) (m : List Host.Cell) (hw : memWfFrom lo m = true) : memWfFrom lo' m = true := by
  cases m with
  | nil => rfl
  | cons e t => simp only [memWfFrom, Bool.and_eq_true, decide_eq_true_eq] at *; exact ⟨⟨by omega, hw.1.2⟩, hw.2⟩

theorem memGet_lt {lo a : Nat} (h : a < lo) (m : List Host.Cell) (hw : memWfFrom lo m = true) : memGet a m = memDefault := by
  cases m with
  | nil => rfl
  | cons e t =>
    obtain ⟨k, v⟩ := e
    simp only [memWfFrom, Bool.and_eq_true, decide_eq_true_eq] at hw
    have h1 : k ≠ a := by omega
    have h2 : a < k := by omega
    simp [memGet, h1, h2]

theorem memGet_memSet_self (a : Nat) (v : Byte) (m : List Host.Cell) (lo : Nat) (hw : memWfFrom lo m = true) :
    memGet a (memSet a v m) = v := by
  induction m generalizing lo with
  | nil => by_cases h : v = memDefault <;> simp [memSet, memGet, h]
  | cons e t ih =>
    obtain ⟨k, w⟩ := e
    simp only [memWfFrom, Bool.and_eq_true, decide_eq_true_eq] at hw
    by_cases h1 : a < k
    · by_cases h : v = memDefault
      · have : k ≠ a := by omega
        simp [memSet, memGet, h, h1, this]
      · simp [memSet, memGet, h, h1]
    · by_cases h2 : k = a
      · subst h2
        by_cases h : v = memDefault
        · simp [memSet, h]; exact memGet_lt (by omega) t hw.2
        · simp [memSet, memGet, h]
      · simp [memSet, memGet, h1, h2, ih _ hw.2]

theorem memGet_memSet_ne {a b : Nat} (v : Byte) (m : List Host.Cell) (hne : a ≠ b) (lo : Nat) (hw : memWfFrom lo m = true) :
    memGet b (memSet a v m) = memGet b m := by
  induction m generalizing lo with
  | nil => by_cases h : v = memDefault <;> simp [memSet, memGet, h, hne]
  | cons e t ih =>
    obtain ⟨k, w⟩ := e
    simp only [memWfFrom, Bool.and_eq_true, decide_eq_true_eq] at hw
    by_cases h1 : a < k
    · by_cases h : v = memDefault
      · simp [memSet, h, h1]
      · by_cases h2 : k = b
        · subst h2
          simp [memSet, memGet, h, h1, hne]
          omega
        · by_cases h3 : b < a
          · have : b < k := by omega
            simp [memSet, memGet, h, h1, h2, h3, hne, this]
          · simp [memSet, memGet, h, h1, h2, h3, hne]
    · by_cases h2 : k = a
      · subst h2
        by_cases h : v = memDefault
        · simp [memSet, memGet, h, hne]
          intro h3
          exact memGet_lt (by omega) t hw.2
        · simp [memSet, memGet, h, hne]
      · simp [memSet, memGet, h1, h2, ih _ hw.2]

theorem memWfFrom_memSet (a : Nat) (v : Byte) (m : List Host.Cell) (lo : Nat) (ha : lo ≤ a) (hw : memWfFrom lo m = true) :
    memWfFrom lo (memSet a v m) = true := by
  induction m generalizing lo with
  | nil => by_cases h : v = memDefault <;> simp [memSet, memWfFrom, h, ha]
  | cons e t ih =>
    obtain ⟨k, w⟩ := e
    have hw' := hw
    simp only [memWfFrom, Bool.and_eq_true, decide_eq_true_eq] at hw
    by_cases h1 : a < k
    · by_cases h : v = memDefault
      · simp [memSet, h, h1]; exact hw'
      · simp only [memSet, if_neg h, if_pos h1, memWfFrom, Bool.and_eq_true, decide_eq_true_eq]; exact ⟨⟨ha, h⟩, ⟨by omega, hw.1.2⟩, hw.2⟩
    · by_cases h2 : k = a
      · subst h2
        by_cases h : v = memDefault
        · simp [memSet, h]; exact memWfFrom_mono (by omega) t hw.2
        · simp [memSet, memWfFrom, h, ha, hw.2]
      · simp [memSet, memWfFrom, h1, h2, hw.1.1, hw.1.2]; exact ih (k + 1) (by omega) hw.2

/-- Storing one byte keeps the canonical form. -/
theorem memory_wf_memSet (a : Nat) (v : Byte) (m : List Host.Cell) (hw : Memory.wf m = true) : Memory.wf (memSet a v m) = true :=
  memWfFrom_memSet a v m 0 (Nat.zero_le _) hw

/-- Storing bytes keeps the canonical form. -/
theorem memory_wf_memSetList (a : Nat) (bs : List Byte) (m : List Host.Cell) (hw : Memory.wf m = true) :
    Memory.wf (memSetList a bs m) = true := by
  induction bs generalizing a m with
  | nil => exact hw
  | cons b t ih => exact ih (a + 1) (memSet a b m) (memory_wf_memSet a b m hw)

theorem memWfFrom_filter (p : Host.Cell → Bool) (m : List Host.Cell) (lo : Nat) (hw : memWfFrom lo m = true) :
    memWfFrom lo (m.filter p) = true := by
  induction m generalizing lo with
  | nil => rfl
  | cons e t ih =>
    simp only [memWfFrom, Bool.and_eq_true, decide_eq_true_eq] at hw
    by_cases h : p e = true
    · simp [List.filter, h, memWfFrom, hw.1.1, hw.1.2, ih _ hw.2]
    · simp [List.filter, h]; exact memWfFrom_mono (by omega) _ (ih _ hw.2)

/-- Clearing a block keeps the canonical form. -/
theorem memory_wf_memClear (lo hi : Nat) (m : List Host.Cell) (hw : Memory.wf m = true) : Memory.wf (memClear lo hi m) = true :=
  memWfFrom_filter _ m 0 hw

/-- A byte outside the stored ones reads as before. -/
theorem memGet_memSetList_out {a b : Nat} (bs : List Byte) (m : List Host.Cell) (hw : Memory.wf m = true)
    (h : b < a ∨ a + bs.length ≤ b) : memGet b (memSetList a bs m) = memGet b m := by
  induction bs generalizing a m with
  | nil => rfl
  | cons x t ih =>
    simp only [List.length_cons] at h
    have h1 : memGet b (memSetList (a + 1) t (memSet a x m)) = memGet b (memSet a x m) :=
      ih (memSet a x m) (memory_wf_memSet a x m hw) (by omega)
    have h2 : memGet b (memSet a x m) = memGet b m := memGet_memSet_ne x m (by omega) 0 hw
    rw [show memSetList a (x :: t) m = memSetList (a + 1) t (memSet a x m) from rfl, h1, h2]

/-- A stored byte reads back. -/
theorem memGet_memSetList_in {a : Nat} (bs : List Byte) (m : List Host.Cell) (hw : Memory.wf m = true) (i : Nat) (h : i < bs.length) :
    memGet (a + i) (memSetList a bs m) = bs[i] := by
  induction bs generalizing a m i with
  | nil => simp at h
  | cons x t ih =>
    have hm := memory_wf_memSet a x m hw
    cases i with
    | zero =>
      rw [show memSetList a (x :: t) m = memSetList (a + 1) t (memSet a x m) from rfl,
        memGet_memSetList_out t _ hm (by omega)]
      exact memGet_memSet_self a x m 0 hw
    | succ j =>
      simp only [List.length_cons] at h
      rw [show memSetList a (x :: t) m = memSetList (a + 1) t (memSet a x m) from rfl, show a + (j + 1) = a + 1 + j by omega]
      exact ih (memSet a x m) hm j (by omega)

/-- The memory of a store, and its canonical form. -/
@[simp] theorem State.rawStore_mem (s : State) (a : Nat) (bs : List Byte) : (s.rawStore a bs).mem = memSetList a bs s.mem := rfl

theorem State.rawStore_wf (s : State) (a : Nat) (bs : List Byte) (hw : Memory.wf s.mem = true) : Memory.wf (s.rawStore a bs).mem = true :=
  memory_wf_memSetList a bs s.mem hw

/-- A store changes the cells and the write stamps alone. -/
theorem State.rawStore_frame (s : State) (a : Nat) (bs : List Byte) :
    ∃ w, s.rawStore a bs = { s with mem := memSetList a bs s.mem, memx := { s.memx with wst := w } } := ⟨_, rfl⟩

end Sys2Proof.Machine
end

