-- ==== Sys2Proof/Laws/Tab.lean ====
section
/-! SUPPORT. Laws of the sparse tables: a read after a write, and the canonical form. -/

namespace Sys2Proof.Machine

variable {α : Type}

theorem tabGet_tabSet_self (d : α) (k : Nat) (v : α) (l : Tab α) : tabGet d k (tabSet k v l) = v := by
  induction l with
  | nil => simp [tabSet, tabGet]
  | cons h t ih =>
    obtain ⟨k', w⟩ := h
    by_cases h1 : k < k'
    · simp [tabSet, tabGet, h1]
    · by_cases h2 : k' = k
      · simp [tabSet, tabGet, h2]
      · simp [tabSet, tabGet, h1, h2, ih]

theorem tabGet_tabSet_ne (d : α) {k j : Nat} (v : α) (l : Tab α) (hne : k ≠ j) : tabGet d j (tabSet k v l) = tabGet d j l := by
  induction l with
  | nil => simp [tabSet, tabGet, hne]
  | cons h t ih =>
    obtain ⟨k', w⟩ := h
    by_cases h1 : k < k'
    · by_cases h2 : k' = j
      · subst h2
        simp [tabSet, tabGet, h1, hne]
        omega
      · by_cases h3 : j < k
        · simp [tabSet, tabGet, h1, h2, h3, hne]
          omega
        · simp [tabSet, tabGet, h1, h2, h3, hne]
    · by_cases h2 : k' = k
      · subst h2
        simp [tabSet, tabGet, hne]
      · simp [tabSet, tabGet, h1, h2, ih]

theorem tabWfFrom_mono {lo lo' : Nat} (h : lo' ≤ lo) (l : Tab α) (hw : tabWfFrom lo l = true) : tabWfFrom lo' l = true := by
  cases l with
  | nil => rfl
  | cons e t => simp only [tabWfFrom, Bool.and_eq_true, decide_eq_true_eq] at *; exact ⟨by omega, hw.2⟩

theorem tabWfFrom_tabSet (k : Nat) (v : α) (l : Tab α) (lo : Nat) (hk : lo ≤ k) (hw : tabWfFrom lo l = true) :
    tabWfFrom lo (tabSet k v l) = true := by
  induction l generalizing lo with
  | nil => simp [tabSet, tabWfFrom, hk]
  | cons e t ih =>
    obtain ⟨k', w⟩ := e
    simp only [tabWfFrom, Bool.and_eq_true, decide_eq_true_eq] at hw
    by_cases h1 : k < k'
    · simp only [tabSet, if_pos h1, tabWfFrom, Bool.and_eq_true, decide_eq_true_eq]; exact ⟨hk, by omega, hw.2⟩
    · by_cases h2 : k' = k
      · simp [tabSet, tabWfFrom, h2, hk]; rw [← h2]; exact hw.2
      · simp [tabSet, tabWfFrom, h1, h2, hw.1]; exact ih (k' + 1) (by omega) hw.2

/-- A write keeps the canonical form. -/
theorem tabWf_tabSet (k : Nat) (v : α) (l : Tab α) (hw : tabWf l = true) : tabWf (tabSet k v l) = true :=
  tabWfFrom_tabSet k v l 0 (Nat.zero_le _) hw

theorem tabWfFrom_filter (p : Nat × α → Bool) (l : Tab α) (lo : Nat) (hw : tabWfFrom lo l = true) : tabWfFrom lo (l.filter p) = true := by
  induction l generalizing lo with
  | nil => rfl
  | cons e t ih =>
    simp only [tabWfFrom, Bool.and_eq_true, decide_eq_true_eq] at hw
    by_cases h : p e = true
    · simp [List.filter, h, tabWfFrom, hw.1, ih _ hw.2]
    · simp [List.filter, h]; exact tabWfFrom_mono (by omega) _ (ih _ hw.2)

theorem tabWf_tabClear (p : Nat → Bool) (l : Tab α) (hw : tabWf l = true) : tabWf (tabClear p l) = true :=
  tabWfFrom_filter _ l 0 hw

end Sys2Proof.Machine
end

