-- ==== Sys2Proof/Laws/State.lean ====
section
/-! SUPPORT. One lemma for each field and each update of the state: what the update leaves, and what it sets. -/

namespace Sys2Proof.Machine
open Sys2Proof

variable (s : State)

/-! ## wf -/

@[simp] theorem State.wf_pending (f : Fld) (v n : Nat) : (s.wf f v n).pending = s.pending := rfl
@[simp] theorem State.wf_mem (f : Fld) (v n : Nat) : (s.wf f v n).mem = s.mem := rfl
@[simp] theorem State.wf_queues (f : Fld) (v n : Nat) : (s.wf f v n).queues = s.queues := rfl
@[simp] theorem State.wf_jnl (f : Fld) (v n : Nat) : (s.wf f v n).jnl = s.jnl := rfl
@[simp] theorem State.wf_tm (f : Fld) (v n : Nat) : (s.wf f v n).tm = s.tm := rfl
@[simp] theorem State.wf_doms (f : Fld) (v n : Nat) : (s.wf f v n).doms = s.doms := rfl
@[simp] theorem State.wf_fronds (f : Fld) (v n : Nat) : (s.wf f v n).fronds = s.fronds := rfl
@[simp] theorem State.wf_srv (f : Fld) (v n : Nat) : (s.wf f v n).srv = s.srv := rfl
@[simp] theorem State.wf_rcl (f : Fld) (v n : Nat) : (s.wf f v n).rcl = s.rcl := rfl
@[simp] theorem State.wf_outs (f : Fld) (v n : Nat) : (s.wf f v n).outs = s.outs := rfl
@[simp] theorem State.wf_tios (f : Fld) (v n : Nat) : (s.wf f v n).tios = s.tios := rfl
@[simp] theorem State.wf_tdc (f : Fld) (v n : Nat) : (s.wf f v n).tdc = s.tdc := rfl
@[simp] theorem State.wf_gns (f : Fld) (v n : Nat) : (s.wf f v n).gns = s.gns := rfl
@[simp] theorem State.wf_key (f : Fld) (v n : Nat) : (s.wf f v n).key = s.key := rfl
@[simp] theorem State.wf_lanes (f : Fld) (v n : Nat) : (s.wf f v n).lanes = s.lanes := rfl
@[simp] theorem State.wf_tsv (f : Fld) (v n : Nat) : (s.wf f v n).tsv = s.tsv := rfl
@[simp] theorem State.wf_twn (f : Fld) (v n : Nat) : (s.wf f v n).twn = s.twn := rfl
@[simp] theorem State.wf_fctl (f : Fld) (v n : Nat) : (s.wf f v n).fctl = s.fctl := rfl
@[simp] theorem State.wf_memx (f : Fld) (v n : Nat) : (s.wf f v n).memx = s.memx := rfl
@[simp] theorem State.wf_pwr (f : Fld) (v n : Nat) : (s.wf f v n).pwr = s.pwr := rfl
@[simp] theorem State.wf_cfg (f : Fld) (v n : Nat) : (s.wf f v n).cfg = s.cfg := rfl
@[simp] theorem State.wf_pcie (f : Fld) (v n : Nat) : (s.wf f v n).pcie = s.pcie := rfl
@[simp] theorem State.wf_acc (f : Fld) (v n : Nat) : (s.wf f v n).acc = s.acc := rfl
@[simp] theorem State.wf_jtag (f : Fld) (v n : Nat) : (s.wf f v n).jtag = s.jtag := rfl
@[simp] theorem State.wf_alarm (f : Fld) (v n : Nat) : (s.wf f v n).alarm = s.alarm := rfl
@[simp] theorem State.wf_free (f : Fld) (v n : Nat) : (s.wf f v n).free = s.free := rfl
@[simp] theorem State.wf_frond (f : Fld) (v n : Nat) (h : Fin 16) : (s.wf f v n).frond h = s.frond h := rfl
@[simp] theorem State.wf_queue (f : Fld) (v n : Nat) (j : Nat) : (s.wf f v n).queue j = s.queue j := rfl
@[simp] theorem State.wf_dom (f : Fld) (v n : Nat) (e : Nat) : (s.wf f v n).dom e = s.dom e := rfl
@[simp] theorem State.wf_now (f : Fld) (v n : Nat) : (s.wf f v n).now = s.now := rfl

/-! ## ws -/

@[simp] theorem State.ws_pending (f : Fld) (z : Int) (n : Nat) : (s.ws f z n).pending = s.pending := rfl
@[simp] theorem State.ws_mem (f : Fld) (z : Int) (n : Nat) : (s.ws f z n).mem = s.mem := rfl
@[simp] theorem State.ws_queues (f : Fld) (z : Int) (n : Nat) : (s.ws f z n).queues = s.queues := rfl
@[simp] theorem State.ws_jnl (f : Fld) (z : Int) (n : Nat) : (s.ws f z n).jnl = s.jnl := rfl
@[simp] theorem State.ws_tm (f : Fld) (z : Int) (n : Nat) : (s.ws f z n).tm = s.tm := rfl
@[simp] theorem State.ws_doms (f : Fld) (z : Int) (n : Nat) : (s.ws f z n).doms = s.doms := rfl
@[simp] theorem State.ws_fronds (f : Fld) (z : Int) (n : Nat) : (s.ws f z n).fronds = s.fronds := rfl
@[simp] theorem State.ws_srv (f : Fld) (z : Int) (n : Nat) : (s.ws f z n).srv = s.srv := rfl
@[simp] theorem State.ws_rcl (f : Fld) (z : Int) (n : Nat) : (s.ws f z n).rcl = s.rcl := rfl
@[simp] theorem State.ws_outs (f : Fld) (z : Int) (n : Nat) : (s.ws f z n).outs = s.outs := rfl
@[simp] theorem State.ws_tios (f : Fld) (z : Int) (n : Nat) : (s.ws f z n).tios = s.tios := rfl
@[simp] theorem State.ws_tdc (f : Fld) (z : Int) (n : Nat) : (s.ws f z n).tdc = s.tdc := rfl
@[simp] theorem State.ws_gns (f : Fld) (z : Int) (n : Nat) : (s.ws f z n).gns = s.gns := rfl
@[simp] theorem State.ws_key (f : Fld) (z : Int) (n : Nat) : (s.ws f z n).key = s.key := rfl
@[simp] theorem State.ws_lanes (f : Fld) (z : Int) (n : Nat) : (s.ws f z n).lanes = s.lanes := rfl
@[simp] theorem State.ws_tsv (f : Fld) (z : Int) (n : Nat) : (s.ws f z n).tsv = s.tsv := rfl
@[simp] theorem State.ws_twn (f : Fld) (z : Int) (n : Nat) : (s.ws f z n).twn = s.twn := rfl
@[simp] theorem State.ws_fctl (f : Fld) (z : Int) (n : Nat) : (s.ws f z n).fctl = s.fctl := rfl
@[simp] theorem State.ws_memx (f : Fld) (z : Int) (n : Nat) : (s.ws f z n).memx = s.memx := rfl
@[simp] theorem State.ws_pwr (f : Fld) (z : Int) (n : Nat) : (s.ws f z n).pwr = s.pwr := rfl
@[simp] theorem State.ws_cfg (f : Fld) (z : Int) (n : Nat) : (s.ws f z n).cfg = s.cfg := rfl
@[simp] theorem State.ws_pcie (f : Fld) (z : Int) (n : Nat) : (s.ws f z n).pcie = s.pcie := rfl
@[simp] theorem State.ws_acc (f : Fld) (z : Int) (n : Nat) : (s.ws f z n).acc = s.acc := rfl
@[simp] theorem State.ws_jtag (f : Fld) (z : Int) (n : Nat) : (s.ws f z n).jtag = s.jtag := rfl
@[simp] theorem State.ws_alarm (f : Fld) (z : Int) (n : Nat) : (s.ws f z n).alarm = s.alarm := rfl
@[simp] theorem State.ws_free (f : Fld) (z : Int) (n : Nat) : (s.ws f z n).free = s.free := rfl
@[simp] theorem State.ws_frond (f : Fld) (z : Int) (n : Nat) (h : Fin 16) : (s.ws f z n).frond h = s.frond h := rfl
@[simp] theorem State.ws_queue (f : Fld) (z : Int) (n : Nat) (j : Nat) : (s.ws f z n).queue j = s.queue j := rfl
@[simp] theorem State.ws_dom (f : Fld) (z : Int) (n : Nat) (e : Nat) : (s.ws f z n).dom e = s.dom e := rfl
@[simp] theorem State.ws_now (f : Fld) (z : Int) (n : Nat) : (s.ws f z n).now = s.now := rfl

/-! ## wb -/

@[simp] theorem State.wb_pending (f : Fld) (b : Bool) (n : Nat) : (s.wb f b n).pending = s.pending := rfl
@[simp] theorem State.wb_mem (f : Fld) (b : Bool) (n : Nat) : (s.wb f b n).mem = s.mem := rfl
@[simp] theorem State.wb_queues (f : Fld) (b : Bool) (n : Nat) : (s.wb f b n).queues = s.queues := rfl
@[simp] theorem State.wb_jnl (f : Fld) (b : Bool) (n : Nat) : (s.wb f b n).jnl = s.jnl := rfl
@[simp] theorem State.wb_tm (f : Fld) (b : Bool) (n : Nat) : (s.wb f b n).tm = s.tm := rfl
@[simp] theorem State.wb_doms (f : Fld) (b : Bool) (n : Nat) : (s.wb f b n).doms = s.doms := rfl
@[simp] theorem State.wb_fronds (f : Fld) (b : Bool) (n : Nat) : (s.wb f b n).fronds = s.fronds := rfl
@[simp] theorem State.wb_srv (f : Fld) (b : Bool) (n : Nat) : (s.wb f b n).srv = s.srv := rfl
@[simp] theorem State.wb_rcl (f : Fld) (b : Bool) (n : Nat) : (s.wb f b n).rcl = s.rcl := rfl
@[simp] theorem State.wb_outs (f : Fld) (b : Bool) (n : Nat) : (s.wb f b n).outs = s.outs := rfl
@[simp] theorem State.wb_tios (f : Fld) (b : Bool) (n : Nat) : (s.wb f b n).tios = s.tios := rfl
@[simp] theorem State.wb_tdc (f : Fld) (b : Bool) (n : Nat) : (s.wb f b n).tdc = s.tdc := rfl
@[simp] theorem State.wb_gns (f : Fld) (b : Bool) (n : Nat) : (s.wb f b n).gns = s.gns := rfl
@[simp] theorem State.wb_key (f : Fld) (b : Bool) (n : Nat) : (s.wb f b n).key = s.key := rfl
@[simp] theorem State.wb_lanes (f : Fld) (b : Bool) (n : Nat) : (s.wb f b n).lanes = s.lanes := rfl
@[simp] theorem State.wb_tsv (f : Fld) (b : Bool) (n : Nat) : (s.wb f b n).tsv = s.tsv := rfl
@[simp] theorem State.wb_twn (f : Fld) (b : Bool) (n : Nat) : (s.wb f b n).twn = s.twn := rfl
@[simp] theorem State.wb_fctl (f : Fld) (b : Bool) (n : Nat) : (s.wb f b n).fctl = s.fctl := rfl
@[simp] theorem State.wb_memx (f : Fld) (b : Bool) (n : Nat) : (s.wb f b n).memx = s.memx := rfl
@[simp] theorem State.wb_pwr (f : Fld) (b : Bool) (n : Nat) : (s.wb f b n).pwr = s.pwr := rfl
@[simp] theorem State.wb_cfg (f : Fld) (b : Bool) (n : Nat) : (s.wb f b n).cfg = s.cfg := rfl
@[simp] theorem State.wb_pcie (f : Fld) (b : Bool) (n : Nat) : (s.wb f b n).pcie = s.pcie := rfl
@[simp] theorem State.wb_acc (f : Fld) (b : Bool) (n : Nat) : (s.wb f b n).acc = s.acc := rfl
@[simp] theorem State.wb_jtag (f : Fld) (b : Bool) (n : Nat) : (s.wb f b n).jtag = s.jtag := rfl
@[simp] theorem State.wb_alarm (f : Fld) (b : Bool) (n : Nat) : (s.wb f b n).alarm = s.alarm := rfl
@[simp] theorem State.wb_free (f : Fld) (b : Bool) (n : Nat) : (s.wb f b n).free = s.free := rfl
@[simp] theorem State.wb_frond (f : Fld) (b : Bool) (n : Nat) (h : Fin 16) : (s.wb f b n).frond h = s.frond h := rfl
@[simp] theorem State.wb_queue (f : Fld) (b : Bool) (n : Nat) (j : Nat) : (s.wb f b n).queue j = s.queue j := rfl
@[simp] theorem State.wb_dom (f : Fld) (b : Bool) (n : Nat) (e : Nat) : (s.wb f b n).dom e = s.dom e := rfl
@[simp] theorem State.wb_now (f : Fld) (b : Bool) (n : Nat) : (s.wb f b n).now = s.now := rfl

/-! ## add -/

@[simp] theorem State.add_pending (f : Fld) (k n : Nat) : (s.add f k n).pending = s.pending := rfl
@[simp] theorem State.add_mem (f : Fld) (k n : Nat) : (s.add f k n).mem = s.mem := rfl
@[simp] theorem State.add_queues (f : Fld) (k n : Nat) : (s.add f k n).queues = s.queues := rfl
@[simp] theorem State.add_jnl (f : Fld) (k n : Nat) : (s.add f k n).jnl = s.jnl := rfl
@[simp] theorem State.add_tm (f : Fld) (k n : Nat) : (s.add f k n).tm = s.tm := rfl
@[simp] theorem State.add_doms (f : Fld) (k n : Nat) : (s.add f k n).doms = s.doms := rfl
@[simp] theorem State.add_fronds (f : Fld) (k n : Nat) : (s.add f k n).fronds = s.fronds := rfl
@[simp] theorem State.add_srv (f : Fld) (k n : Nat) : (s.add f k n).srv = s.srv := rfl
@[simp] theorem State.add_rcl (f : Fld) (k n : Nat) : (s.add f k n).rcl = s.rcl := rfl
@[simp] theorem State.add_outs (f : Fld) (k n : Nat) : (s.add f k n).outs = s.outs := rfl
@[simp] theorem State.add_tios (f : Fld) (k n : Nat) : (s.add f k n).tios = s.tios := rfl
@[simp] theorem State.add_tdc (f : Fld) (k n : Nat) : (s.add f k n).tdc = s.tdc := rfl
@[simp] theorem State.add_gns (f : Fld) (k n : Nat) : (s.add f k n).gns = s.gns := rfl
@[simp] theorem State.add_key (f : Fld) (k n : Nat) : (s.add f k n).key = s.key := rfl
@[simp] theorem State.add_lanes (f : Fld) (k n : Nat) : (s.add f k n).lanes = s.lanes := rfl
@[simp] theorem State.add_tsv (f : Fld) (k n : Nat) : (s.add f k n).tsv = s.tsv := rfl
@[simp] theorem State.add_twn (f : Fld) (k n : Nat) : (s.add f k n).twn = s.twn := rfl
@[simp] theorem State.add_fctl (f : Fld) (k n : Nat) : (s.add f k n).fctl = s.fctl := rfl
@[simp] theorem State.add_memx (f : Fld) (k n : Nat) : (s.add f k n).memx = s.memx := rfl
@[simp] theorem State.add_pwr (f : Fld) (k n : Nat) : (s.add f k n).pwr = s.pwr := rfl
@[simp] theorem State.add_cfg (f : Fld) (k n : Nat) : (s.add f k n).cfg = s.cfg := rfl
@[simp] theorem State.add_pcie (f : Fld) (k n : Nat) : (s.add f k n).pcie = s.pcie := rfl
@[simp] theorem State.add_acc (f : Fld) (k n : Nat) : (s.add f k n).acc = s.acc := rfl
@[simp] theorem State.add_jtag (f : Fld) (k n : Nat) : (s.add f k n).jtag = s.jtag := rfl
@[simp] theorem State.add_alarm (f : Fld) (k n : Nat) : (s.add f k n).alarm = s.alarm := rfl
@[simp] theorem State.add_free (f : Fld) (k n : Nat) : (s.add f k n).free = s.free := rfl
@[simp] theorem State.add_frond (f : Fld) (k n : Nat) (h : Fin 16) : (s.add f k n).frond h = s.frond h := rfl
@[simp] theorem State.add_queue (f : Fld) (k n : Nat) (j : Nat) : (s.add f k n).queue j = s.queue j := rfl
@[simp] theorem State.add_dom (f : Fld) (k n : Nat) (e : Nat) : (s.add f k n).dom e = s.dom e := rfl
@[simp] theorem State.add_now (f : Fld) (k n : Nat) : (s.add f k n).now = s.now := rfl

/-! ## inc -/

@[simp] theorem State.inc_pending (f : Fld) (n : Nat) : (s.inc f n).pending = s.pending := rfl
@[simp] theorem State.inc_mem (f : Fld) (n : Nat) : (s.inc f n).mem = s.mem := rfl
@[simp] theorem State.inc_queues (f : Fld) (n : Nat) : (s.inc f n).queues = s.queues := rfl
@[simp] theorem State.inc_jnl (f : Fld) (n : Nat) : (s.inc f n).jnl = s.jnl := rfl
@[simp] theorem State.inc_tm (f : Fld) (n : Nat) : (s.inc f n).tm = s.tm := rfl
@[simp] theorem State.inc_doms (f : Fld) (n : Nat) : (s.inc f n).doms = s.doms := rfl
@[simp] theorem State.inc_fronds (f : Fld) (n : Nat) : (s.inc f n).fronds = s.fronds := rfl
@[simp] theorem State.inc_srv (f : Fld) (n : Nat) : (s.inc f n).srv = s.srv := rfl
@[simp] theorem State.inc_rcl (f : Fld) (n : Nat) : (s.inc f n).rcl = s.rcl := rfl
@[simp] theorem State.inc_outs (f : Fld) (n : Nat) : (s.inc f n).outs = s.outs := rfl
@[simp] theorem State.inc_tios (f : Fld) (n : Nat) : (s.inc f n).tios = s.tios := rfl
@[simp] theorem State.inc_tdc (f : Fld) (n : Nat) : (s.inc f n).tdc = s.tdc := rfl
@[simp] theorem State.inc_gns (f : Fld) (n : Nat) : (s.inc f n).gns = s.gns := rfl
@[simp] theorem State.inc_key (f : Fld) (n : Nat) : (s.inc f n).key = s.key := rfl
@[simp] theorem State.inc_lanes (f : Fld) (n : Nat) : (s.inc f n).lanes = s.lanes := rfl
@[simp] theorem State.inc_tsv (f : Fld) (n : Nat) : (s.inc f n).tsv = s.tsv := rfl
@[simp] theorem State.inc_twn (f : Fld) (n : Nat) : (s.inc f n).twn = s.twn := rfl
@[simp] theorem State.inc_fctl (f : Fld) (n : Nat) : (s.inc f n).fctl = s.fctl := rfl
@[simp] theorem State.inc_memx (f : Fld) (n : Nat) : (s.inc f n).memx = s.memx := rfl
@[simp] theorem State.inc_pwr (f : Fld) (n : Nat) : (s.inc f n).pwr = s.pwr := rfl
@[simp] theorem State.inc_cfg (f : Fld) (n : Nat) : (s.inc f n).cfg = s.cfg := rfl
@[simp] theorem State.inc_pcie (f : Fld) (n : Nat) : (s.inc f n).pcie = s.pcie := rfl
@[simp] theorem State.inc_acc (f : Fld) (n : Nat) : (s.inc f n).acc = s.acc := rfl
@[simp] theorem State.inc_jtag (f : Fld) (n : Nat) : (s.inc f n).jtag = s.jtag := rfl
@[simp] theorem State.inc_alarm (f : Fld) (n : Nat) : (s.inc f n).alarm = s.alarm := rfl
@[simp] theorem State.inc_free (f : Fld) (n : Nat) : (s.inc f n).free = s.free := rfl
@[simp] theorem State.inc_frond (f : Fld) (n : Nat) (h : Fin 16) : (s.inc f n).frond h = s.frond h := rfl
@[simp] theorem State.inc_queue (f : Fld) (n : Nat) (j : Nat) : (s.inc f n).queue j = s.queue j := rfl
@[simp] theorem State.inc_dom (f : Fld) (n : Nat) (e : Nat) : (s.inc f n).dom e = s.dom e := rfl
@[simp] theorem State.inc_now (f : Fld) (n : Nat) : (s.inc f n).now = s.now := rfl

/-! ## setBit32 -/

@[simp] theorem State.setBit32_pending (f : Fld) (n : Nat) (b : Bool) : (s.setBit32 f n b).pending = s.pending := rfl
@[simp] theorem State.setBit32_mem (f : Fld) (n : Nat) (b : Bool) : (s.setBit32 f n b).mem = s.mem := rfl
@[simp] theorem State.setBit32_queues (f : Fld) (n : Nat) (b : Bool) : (s.setBit32 f n b).queues = s.queues := rfl
@[simp] theorem State.setBit32_jnl (f : Fld) (n : Nat) (b : Bool) : (s.setBit32 f n b).jnl = s.jnl := rfl
@[simp] theorem State.setBit32_tm (f : Fld) (n : Nat) (b : Bool) : (s.setBit32 f n b).tm = s.tm := rfl
@[simp] theorem State.setBit32_doms (f : Fld) (n : Nat) (b : Bool) : (s.setBit32 f n b).doms = s.doms := rfl
@[simp] theorem State.setBit32_fronds (f : Fld) (n : Nat) (b : Bool) : (s.setBit32 f n b).fronds = s.fronds := rfl
@[simp] theorem State.setBit32_srv (f : Fld) (n : Nat) (b : Bool) : (s.setBit32 f n b).srv = s.srv := rfl
@[simp] theorem State.setBit32_rcl (f : Fld) (n : Nat) (b : Bool) : (s.setBit32 f n b).rcl = s.rcl := rfl
@[simp] theorem State.setBit32_outs (f : Fld) (n : Nat) (b : Bool) : (s.setBit32 f n b).outs = s.outs := rfl
@[simp] theorem State.setBit32_tios (f : Fld) (n : Nat) (b : Bool) : (s.setBit32 f n b).tios = s.tios := rfl
@[simp] theorem State.setBit32_tdc (f : Fld) (n : Nat) (b : Bool) : (s.setBit32 f n b).tdc = s.tdc := rfl
@[simp] theorem State.setBit32_gns (f : Fld) (n : Nat) (b : Bool) : (s.setBit32 f n b).gns = s.gns := rfl
@[simp] theorem State.setBit32_key (f : Fld) (n : Nat) (b : Bool) : (s.setBit32 f n b).key = s.key := rfl
@[simp] theorem State.setBit32_lanes (f : Fld) (n : Nat) (b : Bool) : (s.setBit32 f n b).lanes = s.lanes := rfl
@[simp] theorem State.setBit32_tsv (f : Fld) (n : Nat) (b : Bool) : (s.setBit32 f n b).tsv = s.tsv := rfl
@[simp] theorem State.setBit32_twn (f : Fld) (n : Nat) (b : Bool) : (s.setBit32 f n b).twn = s.twn := rfl
@[simp] theorem State.setBit32_fctl (f : Fld) (n : Nat) (b : Bool) : (s.setBit32 f n b).fctl = s.fctl := rfl
@[simp] theorem State.setBit32_memx (f : Fld) (n : Nat) (b : Bool) : (s.setBit32 f n b).memx = s.memx := rfl
@[simp] theorem State.setBit32_pwr (f : Fld) (n : Nat) (b : Bool) : (s.setBit32 f n b).pwr = s.pwr := rfl
@[simp] theorem State.setBit32_cfg (f : Fld) (n : Nat) (b : Bool) : (s.setBit32 f n b).cfg = s.cfg := rfl
@[simp] theorem State.setBit32_pcie (f : Fld) (n : Nat) (b : Bool) : (s.setBit32 f n b).pcie = s.pcie := rfl
@[simp] theorem State.setBit32_acc (f : Fld) (n : Nat) (b : Bool) : (s.setBit32 f n b).acc = s.acc := rfl
@[simp] theorem State.setBit32_jtag (f : Fld) (n : Nat) (b : Bool) : (s.setBit32 f n b).jtag = s.jtag := rfl
@[simp] theorem State.setBit32_alarm (f : Fld) (n : Nat) (b : Bool) : (s.setBit32 f n b).alarm = s.alarm := rfl
@[simp] theorem State.setBit32_free (f : Fld) (n : Nat) (b : Bool) : (s.setBit32 f n b).free = s.free := rfl
@[simp] theorem State.setBit32_frond (f : Fld) (n : Nat) (b : Bool) (h : Fin 16) : (s.setBit32 f n b).frond h = s.frond h := rfl
@[simp] theorem State.setBit32_queue (f : Fld) (n : Nat) (b : Bool) (j : Nat) : (s.setBit32 f n b).queue j = s.queue j := rfl
@[simp] theorem State.setBit32_dom (f : Fld) (n : Nat) (b : Bool) (e : Nat) : (s.setBit32 f n b).dom e = s.dom e := rfl
@[simp] theorem State.setBit32_now (f : Fld) (n : Nat) (b : Bool) : (s.setBit32 f n b).now = s.now := rfl

/-! ## setFrond -/

@[simp] theorem State.setFrond_pending (f : Fin 16) (x : Frond) : (s.setFrond f x).pending = s.pending := rfl
@[simp] theorem State.setFrond_regs (f : Fin 16) (x : Frond) : (s.setFrond f x).regs = s.regs := rfl
@[simp] theorem State.setFrond_mem (f : Fin 16) (x : Frond) : (s.setFrond f x).mem = s.mem := rfl
@[simp] theorem State.setFrond_queues (f : Fin 16) (x : Frond) : (s.setFrond f x).queues = s.queues := rfl
@[simp] theorem State.setFrond_jnl (f : Fin 16) (x : Frond) : (s.setFrond f x).jnl = s.jnl := rfl
@[simp] theorem State.setFrond_tm (f : Fin 16) (x : Frond) : (s.setFrond f x).tm = s.tm := rfl
@[simp] theorem State.setFrond_doms (f : Fin 16) (x : Frond) : (s.setFrond f x).doms = s.doms := rfl
@[simp] theorem State.setFrond_fronds (f : Fin 16) (x : Frond) : (s.setFrond f x).fronds = s.fronds.set f x := rfl
@[simp] theorem State.setFrond_srv (f : Fin 16) (x : Frond) : (s.setFrond f x).srv = s.srv := rfl
@[simp] theorem State.setFrond_rcl (f : Fin 16) (x : Frond) : (s.setFrond f x).rcl = s.rcl := rfl
@[simp] theorem State.setFrond_outs (f : Fin 16) (x : Frond) : (s.setFrond f x).outs = s.outs := rfl
@[simp] theorem State.setFrond_tios (f : Fin 16) (x : Frond) : (s.setFrond f x).tios = s.tios := rfl
@[simp] theorem State.setFrond_tdc (f : Fin 16) (x : Frond) : (s.setFrond f x).tdc = s.tdc := rfl
@[simp] theorem State.setFrond_gns (f : Fin 16) (x : Frond) : (s.setFrond f x).gns = s.gns := rfl
@[simp] theorem State.setFrond_key (f : Fin 16) (x : Frond) : (s.setFrond f x).key = s.key := rfl
@[simp] theorem State.setFrond_lanes (f : Fin 16) (x : Frond) : (s.setFrond f x).lanes = s.lanes := rfl
@[simp] theorem State.setFrond_tsv (f : Fin 16) (x : Frond) : (s.setFrond f x).tsv = s.tsv := rfl
@[simp] theorem State.setFrond_twn (f : Fin 16) (x : Frond) : (s.setFrond f x).twn = s.twn := rfl
@[simp] theorem State.setFrond_fctl (f : Fin 16) (x : Frond) : (s.setFrond f x).fctl = s.fctl := rfl
@[simp] theorem State.setFrond_memx (f : Fin 16) (x : Frond) : (s.setFrond f x).memx = s.memx := rfl
@[simp] theorem State.setFrond_pwr (f : Fin 16) (x : Frond) : (s.setFrond f x).pwr = s.pwr := rfl
@[simp] theorem State.setFrond_cfg (f : Fin 16) (x : Frond) : (s.setFrond f x).cfg = s.cfg := rfl
@[simp] theorem State.setFrond_pcie (f : Fin 16) (x : Frond) : (s.setFrond f x).pcie = s.pcie := rfl
@[simp] theorem State.setFrond_acc (f : Fin 16) (x : Frond) : (s.setFrond f x).acc = s.acc := rfl
@[simp] theorem State.setFrond_jtag (f : Fin 16) (x : Frond) : (s.setFrond f x).jtag = s.jtag := rfl
@[simp] theorem State.setFrond_alarm (f : Fin 16) (x : Frond) : (s.setFrond f x).alarm = s.alarm := rfl
@[simp] theorem State.setFrond_free (f : Fin 16) (x : Frond) : (s.setFrond f x).free = s.free := rfl
@[simp] theorem State.setFrond_rf (f : Fin 16) (x : Frond) (g : Fld) (m : Nat) : (s.setFrond f x).rf g m = s.rf g m := rfl
@[simp] theorem State.setFrond_queue (f : Fin 16) (x : Frond) (j : Nat) : (s.setFrond f x).queue j = s.queue j := rfl
@[simp] theorem State.setFrond_dom (f : Fin 16) (x : Frond) (e : Nat) : (s.setFrond f x).dom e = s.dom e := rfl
@[simp] theorem State.setFrond_now (f : Fin 16) (x : Frond) : (s.setFrond f x).now = s.now := rfl

/-! ## setG -/

@[simp] theorem State.setG_pending (f : Fin 16) (d : BitVec 5) (v : Word) : (s.setG f d v).pending = s.pending := rfl
@[simp] theorem State.setG_regs (f : Fin 16) (d : BitVec 5) (v : Word) : (s.setG f d v).regs = s.regs := rfl
@[simp] theorem State.setG_mem (f : Fin 16) (d : BitVec 5) (v : Word) : (s.setG f d v).mem = s.mem := rfl
@[simp] theorem State.setG_queues (f : Fin 16) (d : BitVec 5) (v : Word) : (s.setG f d v).queues = s.queues := rfl
@[simp] theorem State.setG_jnl (f : Fin 16) (d : BitVec 5) (v : Word) : (s.setG f d v).jnl = s.jnl := rfl
@[simp] theorem State.setG_tm (f : Fin 16) (d : BitVec 5) (v : Word) : (s.setG f d v).tm = s.tm := rfl
@[simp] theorem State.setG_doms (f : Fin 16) (d : BitVec 5) (v : Word) : (s.setG f d v).doms = s.doms := rfl
@[simp] theorem State.setG_srv (f : Fin 16) (d : BitVec 5) (v : Word) : (s.setG f d v).srv = s.srv := rfl
@[simp] theorem State.setG_rcl (f : Fin 16) (d : BitVec 5) (v : Word) : (s.setG f d v).rcl = s.rcl := rfl
@[simp] theorem State.setG_outs (f : Fin 16) (d : BitVec 5) (v : Word) : (s.setG f d v).outs = s.outs := rfl
@[simp] theorem State.setG_tios (f : Fin 16) (d : BitVec 5) (v : Word) : (s.setG f d v).tios = s.tios := rfl
@[simp] theorem State.setG_tdc (f : Fin 16) (d : BitVec 5) (v : Word) : (s.setG f d v).tdc = s.tdc := rfl
@[simp] theorem State.setG_gns (f : Fin 16) (d : BitVec 5) (v : Word) : (s.setG f d v).gns = s.gns := rfl
@[simp] theorem State.setG_key (f : Fin 16) (d : BitVec 5) (v : Word) : (s.setG f d v).key = s.key := rfl
@[simp] theorem State.setG_lanes (f : Fin 16) (d : BitVec 5) (v : Word) : (s.setG f d v).lanes = s.lanes := rfl
@[simp] theorem State.setG_tsv (f : Fin 16) (d : BitVec 5) (v : Word) : (s.setG f d v).tsv = s.tsv := rfl
@[simp] theorem State.setG_twn (f : Fin 16) (d : BitVec 5) (v : Word) : (s.setG f d v).twn = s.twn := rfl
@[simp] theorem State.setG_fctl (f : Fin 16) (d : BitVec 5) (v : Word) : (s.setG f d v).fctl = s.fctl := rfl
@[simp] theorem State.setG_memx (f : Fin 16) (d : BitVec 5) (v : Word) : (s.setG f d v).memx = s.memx := rfl
@[simp] theorem State.setG_pwr (f : Fin 16) (d : BitVec 5) (v : Word) : (s.setG f d v).pwr = s.pwr := rfl
@[simp] theorem State.setG_cfg (f : Fin 16) (d : BitVec 5) (v : Word) : (s.setG f d v).cfg = s.cfg := rfl
@[simp] theorem State.setG_pcie (f : Fin 16) (d : BitVec 5) (v : Word) : (s.setG f d v).pcie = s.pcie := rfl
@[simp] theorem State.setG_acc (f : Fin 16) (d : BitVec 5) (v : Word) : (s.setG f d v).acc = s.acc := rfl
@[simp] theorem State.setG_jtag (f : Fin 16) (d : BitVec 5) (v : Word) : (s.setG f d v).jtag = s.jtag := rfl
@[simp] theorem State.setG_alarm (f : Fin 16) (d : BitVec 5) (v : Word) : (s.setG f d v).alarm = s.alarm := rfl
@[simp] theorem State.setG_free (f : Fin 16) (d : BitVec 5) (v : Word) : (s.setG f d v).free = s.free := rfl
@[simp] theorem State.setG_rf (f : Fin 16) (d : BitVec 5) (v : Word) (g : Fld) (m : Nat) : (s.setG f d v).rf g m = s.rf g m := rfl
@[simp] theorem State.setG_queue (f : Fin 16) (d : BitVec 5) (v : Word) (j : Nat) : (s.setG f d v).queue j = s.queue j := rfl
@[simp] theorem State.setG_dom (f : Fin 16) (d : BitVec 5) (v : Word) (e : Nat) : (s.setG f d v).dom e = s.dom e := rfl
@[simp] theorem State.setG_now (f : Fin 16) (d : BitVec 5) (v : Word) : (s.setG f d v).now = s.now := rfl

/-! ## setT -/

@[simp] theorem State.setT_pending (f : Fin 16) (d : BitVec 5) (v : TimeReg) : (s.setT f d v).pending = s.pending := rfl
@[simp] theorem State.setT_regs (f : Fin 16) (d : BitVec 5) (v : TimeReg) : (s.setT f d v).regs = s.regs := rfl
@[simp] theorem State.setT_mem (f : Fin 16) (d : BitVec 5) (v : TimeReg) : (s.setT f d v).mem = s.mem := rfl
@[simp] theorem State.setT_queues (f : Fin 16) (d : BitVec 5) (v : TimeReg) : (s.setT f d v).queues = s.queues := rfl
@[simp] theorem State.setT_jnl (f : Fin 16) (d : BitVec 5) (v : TimeReg) : (s.setT f d v).jnl = s.jnl := rfl
@[simp] theorem State.setT_tm (f : Fin 16) (d : BitVec 5) (v : TimeReg) : (s.setT f d v).tm = s.tm := rfl
@[simp] theorem State.setT_doms (f : Fin 16) (d : BitVec 5) (v : TimeReg) : (s.setT f d v).doms = s.doms := rfl
@[simp] theorem State.setT_srv (f : Fin 16) (d : BitVec 5) (v : TimeReg) : (s.setT f d v).srv = s.srv := rfl
@[simp] theorem State.setT_rcl (f : Fin 16) (d : BitVec 5) (v : TimeReg) : (s.setT f d v).rcl = s.rcl := rfl
@[simp] theorem State.setT_outs (f : Fin 16) (d : BitVec 5) (v : TimeReg) : (s.setT f d v).outs = s.outs := rfl
@[simp] theorem State.setT_tios (f : Fin 16) (d : BitVec 5) (v : TimeReg) : (s.setT f d v).tios = s.tios := rfl
@[simp] theorem State.setT_tdc (f : Fin 16) (d : BitVec 5) (v : TimeReg) : (s.setT f d v).tdc = s.tdc := rfl
@[simp] theorem State.setT_gns (f : Fin 16) (d : BitVec 5) (v : TimeReg) : (s.setT f d v).gns = s.gns := rfl
@[simp] theorem State.setT_key (f : Fin 16) (d : BitVec 5) (v : TimeReg) : (s.setT f d v).key = s.key := rfl
@[simp] theorem State.setT_lanes (f : Fin 16) (d : BitVec 5) (v : TimeReg) : (s.setT f d v).lanes = s.lanes := rfl
@[simp] theorem State.setT_tsv (f : Fin 16) (d : BitVec 5) (v : TimeReg) : (s.setT f d v).tsv = s.tsv := rfl
@[simp] theorem State.setT_twn (f : Fin 16) (d : BitVec 5) (v : TimeReg) : (s.setT f d v).twn = s.twn := rfl
@[simp] theorem State.setT_fctl (f : Fin 16) (d : BitVec 5) (v : TimeReg) : (s.setT f d v).fctl = s.fctl := rfl
@[simp] theorem State.setT_memx (f : Fin 16) (d : BitVec 5) (v : TimeReg) : (s.setT f d v).memx = s.memx := rfl
@[simp] theorem State.setT_pwr (f : Fin 16) (d : BitVec 5) (v : TimeReg) : (s.setT f d v).pwr = s.pwr := rfl
@[simp] theorem State.setT_cfg (f : Fin 16) (d : BitVec 5) (v : TimeReg) : (s.setT f d v).cfg = s.cfg := rfl
@[simp] theorem State.setT_pcie (f : Fin 16) (d : BitVec 5) (v : TimeReg) : (s.setT f d v).pcie = s.pcie := rfl
@[simp] theorem State.setT_acc (f : Fin 16) (d : BitVec 5) (v : TimeReg) : (s.setT f d v).acc = s.acc := rfl
@[simp] theorem State.setT_jtag (f : Fin 16) (d : BitVec 5) (v : TimeReg) : (s.setT f d v).jtag = s.jtag := rfl
@[simp] theorem State.setT_alarm (f : Fin 16) (d : BitVec 5) (v : TimeReg) : (s.setT f d v).alarm = s.alarm := rfl
@[simp] theorem State.setT_free (f : Fin 16) (d : BitVec 5) (v : TimeReg) : (s.setT f d v).free = s.free := rfl
@[simp] theorem State.setT_rf (f : Fin 16) (d : BitVec 5) (v : TimeReg) (g : Fld) (m : Nat) : (s.setT f d v).rf g m = s.rf g m := rfl
@[simp] theorem State.setT_queue (f : Fin 16) (d : BitVec 5) (v : TimeReg) (j : Nat) : (s.setT f d v).queue j = s.queue j := rfl
@[simp] theorem State.setT_dom (f : Fin 16) (d : BitVec 5) (v : TimeReg) (e : Nat) : (s.setT f d v).dom e = s.dom e := rfl
@[simp] theorem State.setT_now (f : Fin 16) (d : BitVec 5) (v : TimeReg) : (s.setT f d v).now = s.now := rfl

/-! ## setPc -/

@[simp] theorem State.setPc_pending (f : Fin 16) (a : Word) : (s.setPc f a).pending = s.pending := rfl
@[simp] theorem State.setPc_regs (f : Fin 16) (a : Word) : (s.setPc f a).regs = s.regs := rfl
@[simp] theorem State.setPc_mem (f : Fin 16) (a : Word) : (s.setPc f a).mem = s.mem := rfl
@[simp] theorem State.setPc_queues (f : Fin 16) (a : Word) : (s.setPc f a).queues = s.queues := rfl
@[simp] theorem State.setPc_jnl (f : Fin 16) (a : Word) : (s.setPc f a).jnl = s.jnl := rfl
@[simp] theorem State.setPc_tm (f : Fin 16) (a : Word) : (s.setPc f a).tm = s.tm := rfl
@[simp] theorem State.setPc_doms (f : Fin 16) (a : Word) : (s.setPc f a).doms = s.doms := rfl
@[simp] theorem State.setPc_srv (f : Fin 16) (a : Word) : (s.setPc f a).srv = s.srv := rfl
@[simp] theorem State.setPc_rcl (f : Fin 16) (a : Word) : (s.setPc f a).rcl = s.rcl := rfl
@[simp] theorem State.setPc_outs (f : Fin 16) (a : Word) : (s.setPc f a).outs = s.outs := rfl
@[simp] theorem State.setPc_tios (f : Fin 16) (a : Word) : (s.setPc f a).tios = s.tios := rfl
@[simp] theorem State.setPc_tdc (f : Fin 16) (a : Word) : (s.setPc f a).tdc = s.tdc := rfl
@[simp] theorem State.setPc_gns (f : Fin 16) (a : Word) : (s.setPc f a).gns = s.gns := rfl
@[simp] theorem State.setPc_key (f : Fin 16) (a : Word) : (s.setPc f a).key = s.key := rfl
@[simp] theorem State.setPc_lanes (f : Fin 16) (a : Word) : (s.setPc f a).lanes = s.lanes := rfl
@[simp] theorem State.setPc_tsv (f : Fin 16) (a : Word) : (s.setPc f a).tsv = s.tsv := rfl
@[simp] theorem State.setPc_twn (f : Fin 16) (a : Word) : (s.setPc f a).twn = s.twn := rfl
@[simp] theorem State.setPc_fctl (f : Fin 16) (a : Word) : (s.setPc f a).fctl = s.fctl := rfl
@[simp] theorem State.setPc_memx (f : Fin 16) (a : Word) : (s.setPc f a).memx = s.memx := rfl
@[simp] theorem State.setPc_pwr (f : Fin 16) (a : Word) : (s.setPc f a).pwr = s.pwr := rfl
@[simp] theorem State.setPc_cfg (f : Fin 16) (a : Word) : (s.setPc f a).cfg = s.cfg := rfl
@[simp] theorem State.setPc_pcie (f : Fin 16) (a : Word) : (s.setPc f a).pcie = s.pcie := rfl
@[simp] theorem State.setPc_acc (f : Fin 16) (a : Word) : (s.setPc f a).acc = s.acc := rfl
@[simp] theorem State.setPc_jtag (f : Fin 16) (a : Word) : (s.setPc f a).jtag = s.jtag := rfl
@[simp] theorem State.setPc_alarm (f : Fin 16) (a : Word) : (s.setPc f a).alarm = s.alarm := rfl
@[simp] theorem State.setPc_free (f : Fin 16) (a : Word) : (s.setPc f a).free = s.free := rfl
@[simp] theorem State.setPc_rf (f : Fin 16) (a : Word) (g : Fld) (m : Nat) : (s.setPc f a).rf g m = s.rf g m := rfl
@[simp] theorem State.setPc_queue (f : Fin 16) (a : Word) (j : Nat) : (s.setPc f a).queue j = s.queue j := rfl
@[simp] theorem State.setPc_dom (f : Fin 16) (a : Word) (e : Nat) : (s.setPc f a).dom e = s.dom e := rfl
@[simp] theorem State.setPc_now (f : Fin 16) (a : Word) : (s.setPc f a).now = s.now := rfl

/-! ## setTf -/

@[simp] theorem State.setTf_pending (f : Fin 16) (b : Bool) : (s.setTf f b).pending = s.pending := rfl
@[simp] theorem State.setTf_regs (f : Fin 16) (b : Bool) : (s.setTf f b).regs = s.regs := rfl
@[simp] theorem State.setTf_mem (f : Fin 16) (b : Bool) : (s.setTf f b).mem = s.mem := rfl
@[simp] theorem State.setTf_queues (f : Fin 16) (b : Bool) : (s.setTf f b).queues = s.queues := rfl
@[simp] theorem State.setTf_jnl (f : Fin 16) (b : Bool) : (s.setTf f b).jnl = s.jnl := rfl
@[simp] theorem State.setTf_tm (f : Fin 16) (b : Bool) : (s.setTf f b).tm = s.tm := rfl
@[simp] theorem State.setTf_doms (f : Fin 16) (b : Bool) : (s.setTf f b).doms = s.doms := rfl
@[simp] theorem State.setTf_srv (f : Fin 16) (b : Bool) : (s.setTf f b).srv = s.srv := rfl
@[simp] theorem State.setTf_rcl (f : Fin 16) (b : Bool) : (s.setTf f b).rcl = s.rcl := rfl
@[simp] theorem State.setTf_outs (f : Fin 16) (b : Bool) : (s.setTf f b).outs = s.outs := rfl
@[simp] theorem State.setTf_tios (f : Fin 16) (b : Bool) : (s.setTf f b).tios = s.tios := rfl
@[simp] theorem State.setTf_tdc (f : Fin 16) (b : Bool) : (s.setTf f b).tdc = s.tdc := rfl
@[simp] theorem State.setTf_gns (f : Fin 16) (b : Bool) : (s.setTf f b).gns = s.gns := rfl
@[simp] theorem State.setTf_key (f : Fin 16) (b : Bool) : (s.setTf f b).key = s.key := rfl
@[simp] theorem State.setTf_lanes (f : Fin 16) (b : Bool) : (s.setTf f b).lanes = s.lanes := rfl
@[simp] theorem State.setTf_tsv (f : Fin 16) (b : Bool) : (s.setTf f b).tsv = s.tsv := rfl
@[simp] theorem State.setTf_twn (f : Fin 16) (b : Bool) : (s.setTf f b).twn = s.twn := rfl
@[simp] theorem State.setTf_fctl (f : Fin 16) (b : Bool) : (s.setTf f b).fctl = s.fctl := rfl
@[simp] theorem State.setTf_memx (f : Fin 16) (b : Bool) : (s.setTf f b).memx = s.memx := rfl
@[simp] theorem State.setTf_pwr (f : Fin 16) (b : Bool) : (s.setTf f b).pwr = s.pwr := rfl
@[simp] theorem State.setTf_cfg (f : Fin 16) (b : Bool) : (s.setTf f b).cfg = s.cfg := rfl
@[simp] theorem State.setTf_pcie (f : Fin 16) (b : Bool) : (s.setTf f b).pcie = s.pcie := rfl
@[simp] theorem State.setTf_acc (f : Fin 16) (b : Bool) : (s.setTf f b).acc = s.acc := rfl
@[simp] theorem State.setTf_jtag (f : Fin 16) (b : Bool) : (s.setTf f b).jtag = s.jtag := rfl
@[simp] theorem State.setTf_alarm (f : Fin 16) (b : Bool) : (s.setTf f b).alarm = s.alarm := rfl
@[simp] theorem State.setTf_free (f : Fin 16) (b : Bool) : (s.setTf f b).free = s.free := rfl
@[simp] theorem State.setTf_rf (f : Fin 16) (b : Bool) (g : Fld) (m : Nat) : (s.setTf f b).rf g m = s.rf g m := rfl
@[simp] theorem State.setTf_queue (f : Fin 16) (b : Bool) (j : Nat) : (s.setTf f b).queue j = s.queue j := rfl
@[simp] theorem State.setTf_dom (f : Fin 16) (b : Bool) (e : Nat) : (s.setTf f b).dom e = s.dom e := rfl
@[simp] theorem State.setTf_now (f : Fin 16) (b : Bool) : (s.setTf f b).now = s.now := rfl

/-! ## setWait -/

@[simp] theorem State.setWait_pending (f : Fin 16) (w : FWait) : (s.setWait f w).pending = s.pending := rfl
@[simp] theorem State.setWait_regs (f : Fin 16) (w : FWait) : (s.setWait f w).regs = s.regs := rfl
@[simp] theorem State.setWait_mem (f : Fin 16) (w : FWait) : (s.setWait f w).mem = s.mem := rfl
@[simp] theorem State.setWait_queues (f : Fin 16) (w : FWait) : (s.setWait f w).queues = s.queues := rfl
@[simp] theorem State.setWait_jnl (f : Fin 16) (w : FWait) : (s.setWait f w).jnl = s.jnl := rfl
@[simp] theorem State.setWait_tm (f : Fin 16) (w : FWait) : (s.setWait f w).tm = s.tm := rfl
@[simp] theorem State.setWait_doms (f : Fin 16) (w : FWait) : (s.setWait f w).doms = s.doms := rfl
@[simp] theorem State.setWait_srv (f : Fin 16) (w : FWait) : (s.setWait f w).srv = s.srv := rfl
@[simp] theorem State.setWait_rcl (f : Fin 16) (w : FWait) : (s.setWait f w).rcl = s.rcl := rfl
@[simp] theorem State.setWait_outs (f : Fin 16) (w : FWait) : (s.setWait f w).outs = s.outs := rfl
@[simp] theorem State.setWait_tios (f : Fin 16) (w : FWait) : (s.setWait f w).tios = s.tios := rfl
@[simp] theorem State.setWait_tdc (f : Fin 16) (w : FWait) : (s.setWait f w).tdc = s.tdc := rfl
@[simp] theorem State.setWait_gns (f : Fin 16) (w : FWait) : (s.setWait f w).gns = s.gns := rfl
@[simp] theorem State.setWait_key (f : Fin 16) (w : FWait) : (s.setWait f w).key = s.key := rfl
@[simp] theorem State.setWait_lanes (f : Fin 16) (w : FWait) : (s.setWait f w).lanes = s.lanes := rfl
@[simp] theorem State.setWait_tsv (f : Fin 16) (w : FWait) : (s.setWait f w).tsv = s.tsv := rfl
@[simp] theorem State.setWait_twn (f : Fin 16) (w : FWait) : (s.setWait f w).twn = s.twn := rfl
@[simp] theorem State.setWait_fctl (f : Fin 16) (w : FWait) : (s.setWait f w).fctl = s.fctl := rfl
@[simp] theorem State.setWait_memx (f : Fin 16) (w : FWait) : (s.setWait f w).memx = s.memx := rfl
@[simp] theorem State.setWait_pwr (f : Fin 16) (w : FWait) : (s.setWait f w).pwr = s.pwr := rfl
@[simp] theorem State.setWait_cfg (f : Fin 16) (w : FWait) : (s.setWait f w).cfg = s.cfg := rfl
@[simp] theorem State.setWait_pcie (f : Fin 16) (w : FWait) : (s.setWait f w).pcie = s.pcie := rfl
@[simp] theorem State.setWait_acc (f : Fin 16) (w : FWait) : (s.setWait f w).acc = s.acc := rfl
@[simp] theorem State.setWait_jtag (f : Fin 16) (w : FWait) : (s.setWait f w).jtag = s.jtag := rfl
@[simp] theorem State.setWait_alarm (f : Fin 16) (w : FWait) : (s.setWait f w).alarm = s.alarm := rfl
@[simp] theorem State.setWait_free (f : Fin 16) (w : FWait) : (s.setWait f w).free = s.free := rfl
@[simp] theorem State.setWait_rf (f : Fin 16) (w : FWait) (g : Fld) (m : Nat) : (s.setWait f w).rf g m = s.rf g m := rfl
@[simp] theorem State.setWait_queue (f : Fin 16) (w : FWait) (j : Nat) : (s.setWait f w).queue j = s.queue j := rfl
@[simp] theorem State.setWait_dom (f : Fin 16) (w : FWait) (e : Nat) : (s.setWait f w).dom e = s.dom e := rfl
@[simp] theorem State.setWait_now (f : Fin 16) (w : FWait) : (s.setWait f w).now = s.now := rfl

/-! ## setQueue -/

@[simp] theorem State.setQueue_pending (i : Nat) (q : Queue) : (s.setQueue i q).pending = s.pending := rfl
@[simp] theorem State.setQueue_regs (i : Nat) (q : Queue) : (s.setQueue i q).regs = s.regs := rfl
@[simp] theorem State.setQueue_mem (i : Nat) (q : Queue) : (s.setQueue i q).mem = s.mem := rfl
@[simp] theorem State.setQueue_queues (i : Nat) (q : Queue) : (s.setQueue i q).queues = tabSet i q s.queues := rfl
@[simp] theorem State.setQueue_jnl (i : Nat) (q : Queue) : (s.setQueue i q).jnl = s.jnl := rfl
@[simp] theorem State.setQueue_tm (i : Nat) (q : Queue) : (s.setQueue i q).tm = s.tm := rfl
@[simp] theorem State.setQueue_doms (i : Nat) (q : Queue) : (s.setQueue i q).doms = s.doms := rfl
@[simp] theorem State.setQueue_fronds (i : Nat) (q : Queue) : (s.setQueue i q).fronds = s.fronds := rfl
@[simp] theorem State.setQueue_srv (i : Nat) (q : Queue) : (s.setQueue i q).srv = s.srv := rfl
@[simp] theorem State.setQueue_rcl (i : Nat) (q : Queue) : (s.setQueue i q).rcl = s.rcl := rfl
@[simp] theorem State.setQueue_outs (i : Nat) (q : Queue) : (s.setQueue i q).outs = s.outs := rfl
@[simp] theorem State.setQueue_tios (i : Nat) (q : Queue) : (s.setQueue i q).tios = s.tios := rfl
@[simp] theorem State.setQueue_tdc (i : Nat) (q : Queue) : (s.setQueue i q).tdc = s.tdc := rfl
@[simp] theorem State.setQueue_gns (i : Nat) (q : Queue) : (s.setQueue i q).gns = s.gns := rfl
@[simp] theorem State.setQueue_key (i : Nat) (q : Queue) : (s.setQueue i q).key = s.key := rfl
@[simp] theorem State.setQueue_lanes (i : Nat) (q : Queue) : (s.setQueue i q).lanes = s.lanes := rfl
@[simp] theorem State.setQueue_tsv (i : Nat) (q : Queue) : (s.setQueue i q).tsv = s.tsv := rfl
@[simp] theorem State.setQueue_twn (i : Nat) (q : Queue) : (s.setQueue i q).twn = s.twn := rfl
@[simp] theorem State.setQueue_fctl (i : Nat) (q : Queue) : (s.setQueue i q).fctl = s.fctl := rfl
@[simp] theorem State.setQueue_memx (i : Nat) (q : Queue) : (s.setQueue i q).memx = s.memx := rfl
@[simp] theorem State.setQueue_pwr (i : Nat) (q : Queue) : (s.setQueue i q).pwr = s.pwr := rfl
@[simp] theorem State.setQueue_cfg (i : Nat) (q : Queue) : (s.setQueue i q).cfg = s.cfg := rfl
@[simp] theorem State.setQueue_pcie (i : Nat) (q : Queue) : (s.setQueue i q).pcie = s.pcie := rfl
@[simp] theorem State.setQueue_acc (i : Nat) (q : Queue) : (s.setQueue i q).acc = s.acc := rfl
@[simp] theorem State.setQueue_jtag (i : Nat) (q : Queue) : (s.setQueue i q).jtag = s.jtag := rfl
@[simp] theorem State.setQueue_alarm (i : Nat) (q : Queue) : (s.setQueue i q).alarm = s.alarm := rfl
@[simp] theorem State.setQueue_free (i : Nat) (q : Queue) : (s.setQueue i q).free = s.free := rfl
@[simp] theorem State.setQueue_rf (i : Nat) (q : Queue) (g : Fld) (m : Nat) : (s.setQueue i q).rf g m = s.rf g m := rfl
@[simp] theorem State.setQueue_frond (i : Nat) (q : Queue) (h : Fin 16) : (s.setQueue i q).frond h = s.frond h := rfl
@[simp] theorem State.setQueue_dom (i : Nat) (q : Queue) (e : Nat) : (s.setQueue i q).dom e = s.dom e := rfl
@[simp] theorem State.setQueue_now (i : Nat) (q : Queue) : (s.setQueue i q).now = s.now := rfl

/-! ## qPush -/

@[simp] theorem State.qPush_pending (i : Nat) (x : QItem) : (s.qPush i x).pending = s.pending := rfl
@[simp] theorem State.qPush_regs (i : Nat) (x : QItem) : (s.qPush i x).regs = s.regs := rfl
@[simp] theorem State.qPush_mem (i : Nat) (x : QItem) : (s.qPush i x).mem = s.mem := rfl
@[simp] theorem State.qPush_jnl (i : Nat) (x : QItem) : (s.qPush i x).jnl = s.jnl := rfl
@[simp] theorem State.qPush_tm (i : Nat) (x : QItem) : (s.qPush i x).tm = s.tm := rfl
@[simp] theorem State.qPush_doms (i : Nat) (x : QItem) : (s.qPush i x).doms = s.doms := rfl
@[simp] theorem State.qPush_fronds (i : Nat) (x : QItem) : (s.qPush i x).fronds = s.fronds := rfl
@[simp] theorem State.qPush_srv (i : Nat) (x : QItem) : (s.qPush i x).srv = s.srv := rfl
@[simp] theorem State.qPush_rcl (i : Nat) (x : QItem) : (s.qPush i x).rcl = s.rcl := rfl
@[simp] theorem State.qPush_outs (i : Nat) (x : QItem) : (s.qPush i x).outs = s.outs := rfl
@[simp] theorem State.qPush_tios (i : Nat) (x : QItem) : (s.qPush i x).tios = s.tios := rfl
@[simp] theorem State.qPush_tdc (i : Nat) (x : QItem) : (s.qPush i x).tdc = s.tdc := rfl
@[simp] theorem State.qPush_gns (i : Nat) (x : QItem) : (s.qPush i x).gns = s.gns := rfl
@[simp] theorem State.qPush_key (i : Nat) (x : QItem) : (s.qPush i x).key = s.key := rfl
@[simp] theorem State.qPush_lanes (i : Nat) (x : QItem) : (s.qPush i x).lanes = s.lanes := rfl
@[simp] theorem State.qPush_tsv (i : Nat) (x : QItem) : (s.qPush i x).tsv = s.tsv := rfl
@[simp] theorem State.qPush_twn (i : Nat) (x : QItem) : (s.qPush i x).twn = s.twn := rfl
@[simp] theorem State.qPush_fctl (i : Nat) (x : QItem) : (s.qPush i x).fctl = s.fctl := rfl
@[simp] theorem State.qPush_memx (i : Nat) (x : QItem) : (s.qPush i x).memx = s.memx := rfl
@[simp] theorem State.qPush_pwr (i : Nat) (x : QItem) : (s.qPush i x).pwr = s.pwr := rfl
@[simp] theorem State.qPush_cfg (i : Nat) (x : QItem) : (s.qPush i x).cfg = s.cfg := rfl
@[simp] theorem State.qPush_pcie (i : Nat) (x : QItem) : (s.qPush i x).pcie = s.pcie := rfl
@[simp] theorem State.qPush_acc (i : Nat) (x : QItem) : (s.qPush i x).acc = s.acc := rfl
@[simp] theorem State.qPush_jtag (i : Nat) (x : QItem) : (s.qPush i x).jtag = s.jtag := rfl
@[simp] theorem State.qPush_alarm (i : Nat) (x : QItem) : (s.qPush i x).alarm = s.alarm := rfl
@[simp] theorem State.qPush_free (i : Nat) (x : QItem) : (s.qPush i x).free = s.free := rfl
@[simp] theorem State.qPush_rf (i : Nat) (x : QItem) (g : Fld) (m : Nat) : (s.qPush i x).rf g m = s.rf g m := rfl
@[simp] theorem State.qPush_frond (i : Nat) (x : QItem) (h : Fin 16) : (s.qPush i x).frond h = s.frond h := rfl
@[simp] theorem State.qPush_dom (i : Nat) (x : QItem) (e : Nat) : (s.qPush i x).dom e = s.dom e := rfl
@[simp] theorem State.qPush_now (i : Nat) (x : QItem) : (s.qPush i x).now = s.now := rfl

/-! ## qPop -/

@[simp] theorem State.qPop_pending (i : Nat) : (s.qPop i).pending = s.pending := rfl
@[simp] theorem State.qPop_regs (i : Nat) : (s.qPop i).regs = s.regs := rfl
@[simp] theorem State.qPop_mem (i : Nat) : (s.qPop i).mem = s.mem := rfl
@[simp] theorem State.qPop_jnl (i : Nat) : (s.qPop i).jnl = s.jnl := rfl
@[simp] theorem State.qPop_tm (i : Nat) : (s.qPop i).tm = s.tm := rfl
@[simp] theorem State.qPop_doms (i : Nat) : (s.qPop i).doms = s.doms := rfl
@[simp] theorem State.qPop_fronds (i : Nat) : (s.qPop i).fronds = s.fronds := rfl
@[simp] theorem State.qPop_srv (i : Nat) : (s.qPop i).srv = s.srv := rfl
@[simp] theorem State.qPop_rcl (i : Nat) : (s.qPop i).rcl = s.rcl := rfl
@[simp] theorem State.qPop_outs (i : Nat) : (s.qPop i).outs = s.outs := rfl
@[simp] theorem State.qPop_tios (i : Nat) : (s.qPop i).tios = s.tios := rfl
@[simp] theorem State.qPop_tdc (i : Nat) : (s.qPop i).tdc = s.tdc := rfl
@[simp] theorem State.qPop_gns (i : Nat) : (s.qPop i).gns = s.gns := rfl
@[simp] theorem State.qPop_key (i : Nat) : (s.qPop i).key = s.key := rfl
@[simp] theorem State.qPop_lanes (i : Nat) : (s.qPop i).lanes = s.lanes := rfl
@[simp] theorem State.qPop_tsv (i : Nat) : (s.qPop i).tsv = s.tsv := rfl
@[simp] theorem State.qPop_twn (i : Nat) : (s.qPop i).twn = s.twn := rfl
@[simp] theorem State.qPop_fctl (i : Nat) : (s.qPop i).fctl = s.fctl := rfl
@[simp] theorem State.qPop_memx (i : Nat) : (s.qPop i).memx = s.memx := rfl
@[simp] theorem State.qPop_pwr (i : Nat) : (s.qPop i).pwr = s.pwr := rfl
@[simp] theorem State.qPop_cfg (i : Nat) : (s.qPop i).cfg = s.cfg := rfl
@[simp] theorem State.qPop_pcie (i : Nat) : (s.qPop i).pcie = s.pcie := rfl
@[simp] theorem State.qPop_acc (i : Nat) : (s.qPop i).acc = s.acc := rfl
@[simp] theorem State.qPop_jtag (i : Nat) : (s.qPop i).jtag = s.jtag := rfl
@[simp] theorem State.qPop_alarm (i : Nat) : (s.qPop i).alarm = s.alarm := rfl
@[simp] theorem State.qPop_free (i : Nat) : (s.qPop i).free = s.free := rfl
@[simp] theorem State.qPop_rf (i : Nat) (g : Fld) (m : Nat) : (s.qPop i).rf g m = s.rf g m := rfl
@[simp] theorem State.qPop_frond (i : Nat) (h : Fin 16) : (s.qPop i).frond h = s.frond h := rfl
@[simp] theorem State.qPop_dom (i : Nat) (e : Nat) : (s.qPop i).dom e = s.dom e := rfl
@[simp] theorem State.qPop_now (i : Nat) : (s.qPop i).now = s.now := rfl

/-! ## qReset -/

@[simp] theorem State.qReset_pending (i : Nat) : (s.qReset i).pending = s.pending := rfl
@[simp] theorem State.qReset_regs (i : Nat) : (s.qReset i).regs = s.regs := rfl
@[simp] theorem State.qReset_mem (i : Nat) : (s.qReset i).mem = s.mem := rfl
@[simp] theorem State.qReset_jnl (i : Nat) : (s.qReset i).jnl = s.jnl := rfl
@[simp] theorem State.qReset_tm (i : Nat) : (s.qReset i).tm = s.tm := rfl
@[simp] theorem State.qReset_doms (i : Nat) : (s.qReset i).doms = s.doms := rfl
@[simp] theorem State.qReset_fronds (i : Nat) : (s.qReset i).fronds = s.fronds := rfl
@[simp] theorem State.qReset_srv (i : Nat) : (s.qReset i).srv = s.srv := rfl
@[simp] theorem State.qReset_rcl (i : Nat) : (s.qReset i).rcl = s.rcl := rfl
@[simp] theorem State.qReset_outs (i : Nat) : (s.qReset i).outs = s.outs := rfl
@[simp] theorem State.qReset_tios (i : Nat) : (s.qReset i).tios = s.tios := rfl
@[simp] theorem State.qReset_tdc (i : Nat) : (s.qReset i).tdc = s.tdc := rfl
@[simp] theorem State.qReset_gns (i : Nat) : (s.qReset i).gns = s.gns := rfl
@[simp] theorem State.qReset_key (i : Nat) : (s.qReset i).key = s.key := rfl
@[simp] theorem State.qReset_lanes (i : Nat) : (s.qReset i).lanes = s.lanes := rfl
@[simp] theorem State.qReset_tsv (i : Nat) : (s.qReset i).tsv = s.tsv := rfl
@[simp] theorem State.qReset_twn (i : Nat) : (s.qReset i).twn = s.twn := rfl
@[simp] theorem State.qReset_fctl (i : Nat) : (s.qReset i).fctl = s.fctl := rfl
@[simp] theorem State.qReset_memx (i : Nat) : (s.qReset i).memx = s.memx := rfl
@[simp] theorem State.qReset_pwr (i : Nat) : (s.qReset i).pwr = s.pwr := rfl
@[simp] theorem State.qReset_cfg (i : Nat) : (s.qReset i).cfg = s.cfg := rfl
@[simp] theorem State.qReset_pcie (i : Nat) : (s.qReset i).pcie = s.pcie := rfl
@[simp] theorem State.qReset_acc (i : Nat) : (s.qReset i).acc = s.acc := rfl
@[simp] theorem State.qReset_jtag (i : Nat) : (s.qReset i).jtag = s.jtag := rfl
@[simp] theorem State.qReset_alarm (i : Nat) : (s.qReset i).alarm = s.alarm := rfl
@[simp] theorem State.qReset_free (i : Nat) : (s.qReset i).free = s.free := rfl
@[simp] theorem State.qReset_rf (i : Nat) (g : Fld) (m : Nat) : (s.qReset i).rf g m = s.rf g m := rfl
@[simp] theorem State.qReset_frond (i : Nat) (h : Fin 16) : (s.qReset i).frond h = s.frond h := rfl
@[simp] theorem State.qReset_dom (i : Nat) (e : Nat) : (s.qReset i).dom e = s.dom e := rfl
@[simp] theorem State.qReset_now (i : Nat) : (s.qReset i).now = s.now := rfl

/-! ## setDom -/

@[simp] theorem State.setDom_pending (d : Nat) (c : DomCopy) : (s.setDom d c).pending = s.pending := rfl
@[simp] theorem State.setDom_regs (d : Nat) (c : DomCopy) : (s.setDom d c).regs = s.regs := rfl
@[simp] theorem State.setDom_mem (d : Nat) (c : DomCopy) : (s.setDom d c).mem = s.mem := rfl
@[simp] theorem State.setDom_queues (d : Nat) (c : DomCopy) : (s.setDom d c).queues = s.queues := rfl
@[simp] theorem State.setDom_jnl (d : Nat) (c : DomCopy) : (s.setDom d c).jnl = s.jnl := rfl
@[simp] theorem State.setDom_tm (d : Nat) (c : DomCopy) : (s.setDom d c).tm = s.tm := rfl
@[simp] theorem State.setDom_doms (d : Nat) (c : DomCopy) : (s.setDom d c).doms = s.doms.set! d c := rfl
@[simp] theorem State.setDom_fronds (d : Nat) (c : DomCopy) : (s.setDom d c).fronds = s.fronds := rfl
@[simp] theorem State.setDom_srv (d : Nat) (c : DomCopy) : (s.setDom d c).srv = s.srv := rfl
@[simp] theorem State.setDom_rcl (d : Nat) (c : DomCopy) : (s.setDom d c).rcl = s.rcl := rfl
@[simp] theorem State.setDom_outs (d : Nat) (c : DomCopy) : (s.setDom d c).outs = s.outs := rfl
@[simp] theorem State.setDom_tios (d : Nat) (c : DomCopy) : (s.setDom d c).tios = s.tios := rfl
@[simp] theorem State.setDom_tdc (d : Nat) (c : DomCopy) : (s.setDom d c).tdc = s.tdc := rfl
@[simp] theorem State.setDom_gns (d : Nat) (c : DomCopy) : (s.setDom d c).gns = s.gns := rfl
@[simp] theorem State.setDom_key (d : Nat) (c : DomCopy) : (s.setDom d c).key = s.key := rfl
@[simp] theorem State.setDom_lanes (d : Nat) (c : DomCopy) : (s.setDom d c).lanes = s.lanes := rfl
@[simp] theorem State.setDom_tsv (d : Nat) (c : DomCopy) : (s.setDom d c).tsv = s.tsv := rfl
@[simp] theorem State.setDom_twn (d : Nat) (c : DomCopy) : (s.setDom d c).twn = s.twn := rfl
@[simp] theorem State.setDom_fctl (d : Nat) (c : DomCopy) : (s.setDom d c).fctl = s.fctl := rfl
@[simp] theorem State.setDom_memx (d : Nat) (c : DomCopy) : (s.setDom d c).memx = s.memx := rfl
@[simp] theorem State.setDom_pwr (d : Nat) (c : DomCopy) : (s.setDom d c).pwr = s.pwr := rfl
@[simp] theorem State.setDom_cfg (d : Nat) (c : DomCopy) : (s.setDom d c).cfg = s.cfg := rfl
@[simp] theorem State.setDom_pcie (d : Nat) (c : DomCopy) : (s.setDom d c).pcie = s.pcie := rfl
@[simp] theorem State.setDom_acc (d : Nat) (c : DomCopy) : (s.setDom d c).acc = s.acc := rfl
@[simp] theorem State.setDom_jtag (d : Nat) (c : DomCopy) : (s.setDom d c).jtag = s.jtag := rfl
@[simp] theorem State.setDom_alarm (d : Nat) (c : DomCopy) : (s.setDom d c).alarm = s.alarm := rfl
@[simp] theorem State.setDom_free (d : Nat) (c : DomCopy) : (s.setDom d c).free = s.free := rfl
@[simp] theorem State.setDom_rf (d : Nat) (c : DomCopy) (g : Fld) (m : Nat) : (s.setDom d c).rf g m = s.rf g m := rfl
@[simp] theorem State.setDom_frond (d : Nat) (c : DomCopy) (h : Fin 16) : (s.setDom d c).frond h = s.frond h := rfl
@[simp] theorem State.setDom_queue (d : Nat) (c : DomCopy) (j : Nat) : (s.setDom d c).queue j = s.queue j := rfl
@[simp] theorem State.setDom_now (d : Nat) (c : DomCopy) : (s.setDom d c).now = s.now := rfl

/-! ## setTm -/

@[simp] theorem State.setTm_pending (t : TimeState) : (s.setTm t).pending = s.pending := rfl
@[simp] theorem State.setTm_regs (t : TimeState) : (s.setTm t).regs = s.regs := rfl
@[simp] theorem State.setTm_mem (t : TimeState) : (s.setTm t).mem = s.mem := rfl
@[simp] theorem State.setTm_queues (t : TimeState) : (s.setTm t).queues = s.queues := rfl
@[simp] theorem State.setTm_jnl (t : TimeState) : (s.setTm t).jnl = s.jnl := rfl
@[simp] theorem State.setTm_tm (t : TimeState) : (s.setTm t).tm = t := rfl
@[simp] theorem State.setTm_doms (t : TimeState) : (s.setTm t).doms = s.doms := rfl
@[simp] theorem State.setTm_fronds (t : TimeState) : (s.setTm t).fronds = s.fronds := rfl
@[simp] theorem State.setTm_srv (t : TimeState) : (s.setTm t).srv = s.srv := rfl
@[simp] theorem State.setTm_rcl (t : TimeState) : (s.setTm t).rcl = s.rcl := rfl
@[simp] theorem State.setTm_outs (t : TimeState) : (s.setTm t).outs = s.outs := rfl
@[simp] theorem State.setTm_tios (t : TimeState) : (s.setTm t).tios = s.tios := rfl
@[simp] theorem State.setTm_tdc (t : TimeState) : (s.setTm t).tdc = s.tdc := rfl
@[simp] theorem State.setTm_gns (t : TimeState) : (s.setTm t).gns = s.gns := rfl
@[simp] theorem State.setTm_key (t : TimeState) : (s.setTm t).key = s.key := rfl
@[simp] theorem State.setTm_lanes (t : TimeState) : (s.setTm t).lanes = s.lanes := rfl
@[simp] theorem State.setTm_tsv (t : TimeState) : (s.setTm t).tsv = s.tsv := rfl
@[simp] theorem State.setTm_twn (t : TimeState) : (s.setTm t).twn = s.twn := rfl
@[simp] theorem State.setTm_fctl (t : TimeState) : (s.setTm t).fctl = s.fctl := rfl
@[simp] theorem State.setTm_memx (t : TimeState) : (s.setTm t).memx = s.memx := rfl
@[simp] theorem State.setTm_pwr (t : TimeState) : (s.setTm t).pwr = s.pwr := rfl
@[simp] theorem State.setTm_cfg (t : TimeState) : (s.setTm t).cfg = s.cfg := rfl
@[simp] theorem State.setTm_pcie (t : TimeState) : (s.setTm t).pcie = s.pcie := rfl
@[simp] theorem State.setTm_acc (t : TimeState) : (s.setTm t).acc = s.acc := rfl
@[simp] theorem State.setTm_jtag (t : TimeState) : (s.setTm t).jtag = s.jtag := rfl
@[simp] theorem State.setTm_alarm (t : TimeState) : (s.setTm t).alarm = s.alarm := rfl
@[simp] theorem State.setTm_free (t : TimeState) : (s.setTm t).free = s.free := rfl
@[simp] theorem State.setTm_rf (t : TimeState) (g : Fld) (m : Nat) : (s.setTm t).rf g m = s.rf g m := rfl
@[simp] theorem State.setTm_frond (t : TimeState) (h : Fin 16) : (s.setTm t).frond h = s.frond h := rfl
@[simp] theorem State.setTm_queue (t : TimeState) (j : Nat) : (s.setTm t).queue j = s.queue j := rfl
@[simp] theorem State.setTm_dom (t : TimeState) (e : Nat) : (s.setTm t).dom e = s.dom e := rfl

/-! ## setChain -/

@[simp] theorem State.setChain_pending (c : Nat) (x : Chain) : (s.setChain c x).pending = s.pending := rfl
@[simp] theorem State.setChain_regs (c : Nat) (x : Chain) : (s.setChain c x).regs = s.regs := rfl
@[simp] theorem State.setChain_mem (c : Nat) (x : Chain) : (s.setChain c x).mem = s.mem := rfl
@[simp] theorem State.setChain_queues (c : Nat) (x : Chain) : (s.setChain c x).queues = s.queues := rfl
@[simp] theorem State.setChain_jnl (c : Nat) (x : Chain) : (s.setChain c x).jnl = s.jnl := rfl
@[simp] theorem State.setChain_doms (c : Nat) (x : Chain) : (s.setChain c x).doms = s.doms := rfl
@[simp] theorem State.setChain_fronds (c : Nat) (x : Chain) : (s.setChain c x).fronds = s.fronds := rfl
@[simp] theorem State.setChain_srv (c : Nat) (x : Chain) : (s.setChain c x).srv = s.srv := rfl
@[simp] theorem State.setChain_rcl (c : Nat) (x : Chain) : (s.setChain c x).rcl = s.rcl := rfl
@[simp] theorem State.setChain_outs (c : Nat) (x : Chain) : (s.setChain c x).outs = s.outs := rfl
@[simp] theorem State.setChain_tios (c : Nat) (x : Chain) : (s.setChain c x).tios = s.tios := rfl
@[simp] theorem State.setChain_tdc (c : Nat) (x : Chain) : (s.setChain c x).tdc = s.tdc := rfl
@[simp] theorem State.setChain_gns (c : Nat) (x : Chain) : (s.setChain c x).gns = s.gns := rfl
@[simp] theorem State.setChain_key (c : Nat) (x : Chain) : (s.setChain c x).key = s.key := rfl
@[simp] theorem State.setChain_lanes (c : Nat) (x : Chain) : (s.setChain c x).lanes = s.lanes := rfl
@[simp] theorem State.setChain_tsv (c : Nat) (x : Chain) : (s.setChain c x).tsv = s.tsv := rfl
@[simp] theorem State.setChain_twn (c : Nat) (x : Chain) : (s.setChain c x).twn = s.twn := rfl
@[simp] theorem State.setChain_fctl (c : Nat) (x : Chain) : (s.setChain c x).fctl = s.fctl := rfl
@[simp] theorem State.setChain_memx (c : Nat) (x : Chain) : (s.setChain c x).memx = s.memx := rfl
@[simp] theorem State.setChain_pwr (c : Nat) (x : Chain) : (s.setChain c x).pwr = s.pwr := rfl
@[simp] theorem State.setChain_cfg (c : Nat) (x : Chain) : (s.setChain c x).cfg = s.cfg := rfl
@[simp] theorem State.setChain_pcie (c : Nat) (x : Chain) : (s.setChain c x).pcie = s.pcie := rfl
@[simp] theorem State.setChain_acc (c : Nat) (x : Chain) : (s.setChain c x).acc = s.acc := rfl
@[simp] theorem State.setChain_jtag (c : Nat) (x : Chain) : (s.setChain c x).jtag = s.jtag := rfl
@[simp] theorem State.setChain_alarm (c : Nat) (x : Chain) : (s.setChain c x).alarm = s.alarm := rfl
@[simp] theorem State.setChain_free (c : Nat) (x : Chain) : (s.setChain c x).free = s.free := rfl
@[simp] theorem State.setChain_rf (c : Nat) (x : Chain) (g : Fld) (m : Nat) : (s.setChain c x).rf g m = s.rf g m := rfl
@[simp] theorem State.setChain_frond (c : Nat) (x : Chain) (h : Fin 16) : (s.setChain c x).frond h = s.frond h := rfl
@[simp] theorem State.setChain_queue (c : Nat) (x : Chain) (j : Nat) : (s.setChain c x).queue j = s.queue j := rfl
@[simp] theorem State.setChain_dom (c : Nat) (x : Chain) (e : Nat) : (s.setChain c x).dom e = s.dom e := rfl

/-! ## setSrv -/

@[simp] theorem State.setSrv_pending (v : SrvState) : (s.setSrv v).pending = s.pending := rfl
@[simp] theorem State.setSrv_regs (v : SrvState) : (s.setSrv v).regs = s.regs := rfl
@[simp] theorem State.setSrv_mem (v : SrvState) : (s.setSrv v).mem = s.mem := rfl
@[simp] theorem State.setSrv_queues (v : SrvState) : (s.setSrv v).queues = s.queues := rfl
@[simp] theorem State.setSrv_jnl (v : SrvState) : (s.setSrv v).jnl = s.jnl := rfl
@[simp] theorem State.setSrv_tm (v : SrvState) : (s.setSrv v).tm = s.tm := rfl
@[simp] theorem State.setSrv_doms (v : SrvState) : (s.setSrv v).doms = s.doms := rfl
@[simp] theorem State.setSrv_fronds (v : SrvState) : (s.setSrv v).fronds = s.fronds := rfl
@[simp] theorem State.setSrv_srv (v : SrvState) : (s.setSrv v).srv = v := rfl
@[simp] theorem State.setSrv_rcl (v : SrvState) : (s.setSrv v).rcl = s.rcl := rfl
@[simp] theorem State.setSrv_outs (v : SrvState) : (s.setSrv v).outs = s.outs := rfl
@[simp] theorem State.setSrv_tios (v : SrvState) : (s.setSrv v).tios = s.tios := rfl
@[simp] theorem State.setSrv_tdc (v : SrvState) : (s.setSrv v).tdc = s.tdc := rfl
@[simp] theorem State.setSrv_gns (v : SrvState) : (s.setSrv v).gns = s.gns := rfl
@[simp] theorem State.setSrv_key (v : SrvState) : (s.setSrv v).key = s.key := rfl
@[simp] theorem State.setSrv_lanes (v : SrvState) : (s.setSrv v).lanes = s.lanes := rfl
@[simp] theorem State.setSrv_tsv (v : SrvState) : (s.setSrv v).tsv = s.tsv := rfl
@[simp] theorem State.setSrv_twn (v : SrvState) : (s.setSrv v).twn = s.twn := rfl
@[simp] theorem State.setSrv_fctl (v : SrvState) : (s.setSrv v).fctl = s.fctl := rfl
@[simp] theorem State.setSrv_memx (v : SrvState) : (s.setSrv v).memx = s.memx := rfl
@[simp] theorem State.setSrv_pwr (v : SrvState) : (s.setSrv v).pwr = s.pwr := rfl
@[simp] theorem State.setSrv_cfg (v : SrvState) : (s.setSrv v).cfg = s.cfg := rfl
@[simp] theorem State.setSrv_pcie (v : SrvState) : (s.setSrv v).pcie = s.pcie := rfl
@[simp] theorem State.setSrv_acc (v : SrvState) : (s.setSrv v).acc = s.acc := rfl
@[simp] theorem State.setSrv_jtag (v : SrvState) : (s.setSrv v).jtag = s.jtag := rfl
@[simp] theorem State.setSrv_alarm (v : SrvState) : (s.setSrv v).alarm = s.alarm := rfl
@[simp] theorem State.setSrv_free (v : SrvState) : (s.setSrv v).free = s.free := rfl
@[simp] theorem State.setSrv_rf (v : SrvState) (g : Fld) (m : Nat) : (s.setSrv v).rf g m = s.rf g m := rfl
@[simp] theorem State.setSrv_frond (v : SrvState) (h : Fin 16) : (s.setSrv v).frond h = s.frond h := rfl
@[simp] theorem State.setSrv_queue (v : SrvState) (j : Nat) : (s.setSrv v).queue j = s.queue j := rfl
@[simp] theorem State.setSrv_dom (v : SrvState) (e : Nat) : (s.setSrv v).dom e = s.dom e := rfl
@[simp] theorem State.setSrv_now (v : SrvState) : (s.setSrv v).now = s.now := rfl

/-! ## setRcl -/

@[simp] theorem State.setRcl_pending (r : RclState) : (s.setRcl r).pending = s.pending := rfl
@[simp] theorem State.setRcl_regs (r : RclState) : (s.setRcl r).regs = s.regs := rfl
@[simp] theorem State.setRcl_mem (r : RclState) : (s.setRcl r).mem = s.mem := rfl
@[simp] theorem State.setRcl_queues (r : RclState) : (s.setRcl r).queues = s.queues := rfl
@[simp] theorem State.setRcl_jnl (r : RclState) : (s.setRcl r).jnl = s.jnl := rfl
@[simp] theorem State.setRcl_tm (r : RclState) : (s.setRcl r).tm = s.tm := rfl
@[simp] theorem State.setRcl_doms (r : RclState) : (s.setRcl r).doms = s.doms := rfl
@[simp] theorem State.setRcl_fronds (r : RclState) : (s.setRcl r).fronds = s.fronds := rfl
@[simp] theorem State.setRcl_srv (r : RclState) : (s.setRcl r).srv = s.srv := rfl
@[simp] theorem State.setRcl_rcl (r : RclState) : (s.setRcl r).rcl = r := rfl
@[simp] theorem State.setRcl_outs (r : RclState) : (s.setRcl r).outs = s.outs := rfl
@[simp] theorem State.setRcl_tios (r : RclState) : (s.setRcl r).tios = s.tios := rfl
@[simp] theorem State.setRcl_tdc (r : RclState) : (s.setRcl r).tdc = s.tdc := rfl
@[simp] theorem State.setRcl_gns (r : RclState) : (s.setRcl r).gns = s.gns := rfl
@[simp] theorem State.setRcl_key (r : RclState) : (s.setRcl r).key = s.key := rfl
@[simp] theorem State.setRcl_lanes (r : RclState) : (s.setRcl r).lanes = s.lanes := rfl
@[simp] theorem State.setRcl_tsv (r : RclState) : (s.setRcl r).tsv = s.tsv := rfl
@[simp] theorem State.setRcl_twn (r : RclState) : (s.setRcl r).twn = s.twn := rfl
@[simp] theorem State.setRcl_fctl (r : RclState) : (s.setRcl r).fctl = s.fctl := rfl
@[simp] theorem State.setRcl_memx (r : RclState) : (s.setRcl r).memx = s.memx := rfl
@[simp] theorem State.setRcl_pwr (r : RclState) : (s.setRcl r).pwr = s.pwr := rfl
@[simp] theorem State.setRcl_cfg (r : RclState) : (s.setRcl r).cfg = s.cfg := rfl
@[simp] theorem State.setRcl_pcie (r : RclState) : (s.setRcl r).pcie = s.pcie := rfl
@[simp] theorem State.setRcl_acc (r : RclState) : (s.setRcl r).acc = s.acc := rfl
@[simp] theorem State.setRcl_jtag (r : RclState) : (s.setRcl r).jtag = s.jtag := rfl
@[simp] theorem State.setRcl_alarm (r : RclState) : (s.setRcl r).alarm = s.alarm := rfl
@[simp] theorem State.setRcl_free (r : RclState) : (s.setRcl r).free = s.free := rfl
@[simp] theorem State.setRcl_rf (r : RclState) (g : Fld) (m : Nat) : (s.setRcl r).rf g m = s.rf g m := rfl
@[simp] theorem State.setRcl_frond (r : RclState) (h : Fin 16) : (s.setRcl r).frond h = s.frond h := rfl
@[simp] theorem State.setRcl_queue (r : RclState) (j : Nat) : (s.setRcl r).queue j = s.queue j := rfl
@[simp] theorem State.setRcl_dom (r : RclState) (e : Nat) : (s.setRcl r).dom e = s.dom e := rfl
@[simp] theorem State.setRcl_now (r : RclState) : (s.setRcl r).now = s.now := rfl

/-! ## setSlot -/

@[simp] theorem State.setSlot_pending (n : Nat) (x : Slot) : (s.setSlot n x).pending = s.pending := rfl
@[simp] theorem State.setSlot_regs (n : Nat) (x : Slot) : (s.setSlot n x).regs = s.regs := rfl
@[simp] theorem State.setSlot_mem (n : Nat) (x : Slot) : (s.setSlot n x).mem = s.mem := rfl
@[simp] theorem State.setSlot_queues (n : Nat) (x : Slot) : (s.setSlot n x).queues = s.queues := rfl
@[simp] theorem State.setSlot_jnl (n : Nat) (x : Slot) : (s.setSlot n x).jnl = s.jnl := rfl
@[simp] theorem State.setSlot_tm (n : Nat) (x : Slot) : (s.setSlot n x).tm = s.tm := rfl
@[simp] theorem State.setSlot_doms (n : Nat) (x : Slot) : (s.setSlot n x).doms = s.doms := rfl
@[simp] theorem State.setSlot_fronds (n : Nat) (x : Slot) : (s.setSlot n x).fronds = s.fronds := rfl
@[simp] theorem State.setSlot_srv (n : Nat) (x : Slot) : (s.setSlot n x).srv = s.srv := rfl
@[simp] theorem State.setSlot_outs (n : Nat) (x : Slot) : (s.setSlot n x).outs = s.outs := rfl
@[simp] theorem State.setSlot_tios (n : Nat) (x : Slot) : (s.setSlot n x).tios = s.tios := rfl
@[simp] theorem State.setSlot_tdc (n : Nat) (x : Slot) : (s.setSlot n x).tdc = s.tdc := rfl
@[simp] theorem State.setSlot_gns (n : Nat) (x : Slot) : (s.setSlot n x).gns = s.gns := rfl
@[simp] theorem State.setSlot_key (n : Nat) (x : Slot) : (s.setSlot n x).key = s.key := rfl
@[simp] theorem State.setSlot_lanes (n : Nat) (x : Slot) : (s.setSlot n x).lanes = s.lanes := rfl
@[simp] theorem State.setSlot_tsv (n : Nat) (x : Slot) : (s.setSlot n x).tsv = s.tsv := rfl
@[simp] theorem State.setSlot_twn (n : Nat) (x : Slot) : (s.setSlot n x).twn = s.twn := rfl
@[simp] theorem State.setSlot_fctl (n : Nat) (x : Slot) : (s.setSlot n x).fctl = s.fctl := rfl
@[simp] theorem State.setSlot_memx (n : Nat) (x : Slot) : (s.setSlot n x).memx = s.memx := rfl
@[simp] theorem State.setSlot_pwr (n : Nat) (x : Slot) : (s.setSlot n x).pwr = s.pwr := rfl
@[simp] theorem State.setSlot_cfg (n : Nat) (x : Slot) : (s.setSlot n x).cfg = s.cfg := rfl
@[simp] theorem State.setSlot_pcie (n : Nat) (x : Slot) : (s.setSlot n x).pcie = s.pcie := rfl
@[simp] theorem State.setSlot_acc (n : Nat) (x : Slot) : (s.setSlot n x).acc = s.acc := rfl
@[simp] theorem State.setSlot_jtag (n : Nat) (x : Slot) : (s.setSlot n x).jtag = s.jtag := rfl
@[simp] theorem State.setSlot_alarm (n : Nat) (x : Slot) : (s.setSlot n x).alarm = s.alarm := rfl
@[simp] theorem State.setSlot_free (n : Nat) (x : Slot) : (s.setSlot n x).free = s.free := rfl
@[simp] theorem State.setSlot_rf (n : Nat) (x : Slot) (g : Fld) (m : Nat) : (s.setSlot n x).rf g m = s.rf g m := rfl
@[simp] theorem State.setSlot_frond (n : Nat) (x : Slot) (h : Fin 16) : (s.setSlot n x).frond h = s.frond h := rfl
@[simp] theorem State.setSlot_queue (n : Nat) (x : Slot) (j : Nat) : (s.setSlot n x).queue j = s.queue j := rfl
@[simp] theorem State.setSlot_dom (n : Nat) (x : Slot) (e : Nat) : (s.setSlot n x).dom e = s.dom e := rfl
@[simp] theorem State.setSlot_now (n : Nat) (x : Slot) : (s.setSlot n x).now = s.now := rfl

/-! ## setOut -/

@[simp] theorem State.setOut_pending (n : Nat) (x : OutCh) : (s.setOut n x).pending = s.pending := rfl
@[simp] theorem State.setOut_regs (n : Nat) (x : OutCh) : (s.setOut n x).regs = s.regs := rfl
@[simp] theorem State.setOut_mem (n : Nat) (x : OutCh) : (s.setOut n x).mem = s.mem := rfl
@[simp] theorem State.setOut_queues (n : Nat) (x : OutCh) : (s.setOut n x).queues = s.queues := rfl
@[simp] theorem State.setOut_jnl (n : Nat) (x : OutCh) : (s.setOut n x).jnl = s.jnl := rfl
@[simp] theorem State.setOut_tm (n : Nat) (x : OutCh) : (s.setOut n x).tm = s.tm := rfl
@[simp] theorem State.setOut_doms (n : Nat) (x : OutCh) : (s.setOut n x).doms = s.doms := rfl
@[simp] theorem State.setOut_fronds (n : Nat) (x : OutCh) : (s.setOut n x).fronds = s.fronds := rfl
@[simp] theorem State.setOut_srv (n : Nat) (x : OutCh) : (s.setOut n x).srv = s.srv := rfl
@[simp] theorem State.setOut_rcl (n : Nat) (x : OutCh) : (s.setOut n x).rcl = s.rcl := rfl
@[simp] theorem State.setOut_outs (n : Nat) (x : OutCh) : (s.setOut n x).outs = s.outs.set! n x := rfl
@[simp] theorem State.setOut_tios (n : Nat) (x : OutCh) : (s.setOut n x).tios = s.tios := rfl
@[simp] theorem State.setOut_tdc (n : Nat) (x : OutCh) : (s.setOut n x).tdc = s.tdc := rfl
@[simp] theorem State.setOut_gns (n : Nat) (x : OutCh) : (s.setOut n x).gns = s.gns := rfl
@[simp] theorem State.setOut_key (n : Nat) (x : OutCh) : (s.setOut n x).key = s.key := rfl
@[simp] theorem State.setOut_lanes (n : Nat) (x : OutCh) : (s.setOut n x).lanes = s.lanes := rfl
@[simp] theorem State.setOut_tsv (n : Nat) (x : OutCh) : (s.setOut n x).tsv = s.tsv := rfl
@[simp] theorem State.setOut_twn (n : Nat) (x : OutCh) : (s.setOut n x).twn = s.twn := rfl
@[simp] theorem State.setOut_fctl (n : Nat) (x : OutCh) : (s.setOut n x).fctl = s.fctl := rfl
@[simp] theorem State.setOut_memx (n : Nat) (x : OutCh) : (s.setOut n x).memx = s.memx := rfl
@[simp] theorem State.setOut_pwr (n : Nat) (x : OutCh) : (s.setOut n x).pwr = s.pwr := rfl
@[simp] theorem State.setOut_cfg (n : Nat) (x : OutCh) : (s.setOut n x).cfg = s.cfg := rfl
@[simp] theorem State.setOut_pcie (n : Nat) (x : OutCh) : (s.setOut n x).pcie = s.pcie := rfl
@[simp] theorem State.setOut_acc (n : Nat) (x : OutCh) : (s.setOut n x).acc = s.acc := rfl
@[simp] theorem State.setOut_jtag (n : Nat) (x : OutCh) : (s.setOut n x).jtag = s.jtag := rfl
@[simp] theorem State.setOut_alarm (n : Nat) (x : OutCh) : (s.setOut n x).alarm = s.alarm := rfl
@[simp] theorem State.setOut_free (n : Nat) (x : OutCh) : (s.setOut n x).free = s.free := rfl
@[simp] theorem State.setOut_rf (n : Nat) (x : OutCh) (g : Fld) (m : Nat) : (s.setOut n x).rf g m = s.rf g m := rfl
@[simp] theorem State.setOut_frond (n : Nat) (x : OutCh) (h : Fin 16) : (s.setOut n x).frond h = s.frond h := rfl
@[simp] theorem State.setOut_queue (n : Nat) (x : OutCh) (j : Nat) : (s.setOut n x).queue j = s.queue j := rfl
@[simp] theorem State.setOut_dom (n : Nat) (x : OutCh) (e : Nat) : (s.setOut n x).dom e = s.dom e := rfl
@[simp] theorem State.setOut_now (n : Nat) (x : OutCh) : (s.setOut n x).now = s.now := rfl

/-! ## setTio -/

@[simp] theorem State.setTio_pending (n : Nat) (x : TioPort) : (s.setTio n x).pending = s.pending := rfl
@[simp] theorem State.setTio_regs (n : Nat) (x : TioPort) : (s.setTio n x).regs = s.regs := rfl
@[simp] theorem State.setTio_mem (n : Nat) (x : TioPort) : (s.setTio n x).mem = s.mem := rfl
@[simp] theorem State.setTio_queues (n : Nat) (x : TioPort) : (s.setTio n x).queues = s.queues := rfl
@[simp] theorem State.setTio_jnl (n : Nat) (x : TioPort) : (s.setTio n x).jnl = s.jnl := rfl
@[simp] theorem State.setTio_tm (n : Nat) (x : TioPort) : (s.setTio n x).tm = s.tm := rfl
@[simp] theorem State.setTio_doms (n : Nat) (x : TioPort) : (s.setTio n x).doms = s.doms := rfl
@[simp] theorem State.setTio_fronds (n : Nat) (x : TioPort) : (s.setTio n x).fronds = s.fronds := rfl
@[simp] theorem State.setTio_srv (n : Nat) (x : TioPort) : (s.setTio n x).srv = s.srv := rfl
@[simp] theorem State.setTio_rcl (n : Nat) (x : TioPort) : (s.setTio n x).rcl = s.rcl := rfl
@[simp] theorem State.setTio_outs (n : Nat) (x : TioPort) : (s.setTio n x).outs = s.outs := rfl
@[simp] theorem State.setTio_tios (n : Nat) (x : TioPort) : (s.setTio n x).tios = s.tios.set! n x := rfl
@[simp] theorem State.setTio_tdc (n : Nat) (x : TioPort) : (s.setTio n x).tdc = s.tdc := rfl
@[simp] theorem State.setTio_gns (n : Nat) (x : TioPort) : (s.setTio n x).gns = s.gns := rfl
@[simp] theorem State.setTio_key (n : Nat) (x : TioPort) : (s.setTio n x).key = s.key := rfl
@[simp] theorem State.setTio_lanes (n : Nat) (x : TioPort) : (s.setTio n x).lanes = s.lanes := rfl
@[simp] theorem State.setTio_tsv (n : Nat) (x : TioPort) : (s.setTio n x).tsv = s.tsv := rfl
@[simp] theorem State.setTio_twn (n : Nat) (x : TioPort) : (s.setTio n x).twn = s.twn := rfl
@[simp] theorem State.setTio_fctl (n : Nat) (x : TioPort) : (s.setTio n x).fctl = s.fctl := rfl
@[simp] theorem State.setTio_memx (n : Nat) (x : TioPort) : (s.setTio n x).memx = s.memx := rfl
@[simp] theorem State.setTio_pwr (n : Nat) (x : TioPort) : (s.setTio n x).pwr = s.pwr := rfl
@[simp] theorem State.setTio_cfg (n : Nat) (x : TioPort) : (s.setTio n x).cfg = s.cfg := rfl
@[simp] theorem State.setTio_pcie (n : Nat) (x : TioPort) : (s.setTio n x).pcie = s.pcie := rfl
@[simp] theorem State.setTio_acc (n : Nat) (x : TioPort) : (s.setTio n x).acc = s.acc := rfl
@[simp] theorem State.setTio_jtag (n : Nat) (x : TioPort) : (s.setTio n x).jtag = s.jtag := rfl
@[simp] theorem State.setTio_alarm (n : Nat) (x : TioPort) : (s.setTio n x).alarm = s.alarm := rfl
@[simp] theorem State.setTio_free (n : Nat) (x : TioPort) : (s.setTio n x).free = s.free := rfl
@[simp] theorem State.setTio_rf (n : Nat) (x : TioPort) (g : Fld) (m : Nat) : (s.setTio n x).rf g m = s.rf g m := rfl
@[simp] theorem State.setTio_frond (n : Nat) (x : TioPort) (h : Fin 16) : (s.setTio n x).frond h = s.frond h := rfl
@[simp] theorem State.setTio_queue (n : Nat) (x : TioPort) (j : Nat) : (s.setTio n x).queue j = s.queue j := rfl
@[simp] theorem State.setTio_dom (n : Nat) (x : TioPort) (e : Nat) : (s.setTio n x).dom e = s.dom e := rfl
@[simp] theorem State.setTio_now (n : Nat) (x : TioPort) : (s.setTio n x).now = s.now := rfl

/-! ## setUnit -/

@[simp] theorem State.setUnit_pending (n : Nat) (x : TdcUnit) : (s.setUnit n x).pending = s.pending := rfl
@[simp] theorem State.setUnit_regs (n : Nat) (x : TdcUnit) : (s.setUnit n x).regs = s.regs := rfl
@[simp] theorem State.setUnit_mem (n : Nat) (x : TdcUnit) : (s.setUnit n x).mem = s.mem := rfl
@[simp] theorem State.setUnit_queues (n : Nat) (x : TdcUnit) : (s.setUnit n x).queues = s.queues := rfl
@[simp] theorem State.setUnit_jnl (n : Nat) (x : TdcUnit) : (s.setUnit n x).jnl = s.jnl := rfl
@[simp] theorem State.setUnit_tm (n : Nat) (x : TdcUnit) : (s.setUnit n x).tm = s.tm := rfl
@[simp] theorem State.setUnit_doms (n : Nat) (x : TdcUnit) : (s.setUnit n x).doms = s.doms := rfl
@[simp] theorem State.setUnit_fronds (n : Nat) (x : TdcUnit) : (s.setUnit n x).fronds = s.fronds := rfl
@[simp] theorem State.setUnit_srv (n : Nat) (x : TdcUnit) : (s.setUnit n x).srv = s.srv := rfl
@[simp] theorem State.setUnit_rcl (n : Nat) (x : TdcUnit) : (s.setUnit n x).rcl = s.rcl := rfl
@[simp] theorem State.setUnit_outs (n : Nat) (x : TdcUnit) : (s.setUnit n x).outs = s.outs := rfl
@[simp] theorem State.setUnit_tios (n : Nat) (x : TdcUnit) : (s.setUnit n x).tios = s.tios := rfl
@[simp] theorem State.setUnit_tdc (n : Nat) (x : TdcUnit) : (s.setUnit n x).tdc = s.tdc.set! n x := rfl
@[simp] theorem State.setUnit_gns (n : Nat) (x : TdcUnit) : (s.setUnit n x).gns = s.gns := rfl
@[simp] theorem State.setUnit_key (n : Nat) (x : TdcUnit) : (s.setUnit n x).key = s.key := rfl
@[simp] theorem State.setUnit_lanes (n : Nat) (x : TdcUnit) : (s.setUnit n x).lanes = s.lanes := rfl
@[simp] theorem State.setUnit_tsv (n : Nat) (x : TdcUnit) : (s.setUnit n x).tsv = s.tsv := rfl
@[simp] theorem State.setUnit_twn (n : Nat) (x : TdcUnit) : (s.setUnit n x).twn = s.twn := rfl
@[simp] theorem State.setUnit_fctl (n : Nat) (x : TdcUnit) : (s.setUnit n x).fctl = s.fctl := rfl
@[simp] theorem State.setUnit_memx (n : Nat) (x : TdcUnit) : (s.setUnit n x).memx = s.memx := rfl
@[simp] theorem State.setUnit_pwr (n : Nat) (x : TdcUnit) : (s.setUnit n x).pwr = s.pwr := rfl
@[simp] theorem State.setUnit_cfg (n : Nat) (x : TdcUnit) : (s.setUnit n x).cfg = s.cfg := rfl
@[simp] theorem State.setUnit_pcie (n : Nat) (x : TdcUnit) : (s.setUnit n x).pcie = s.pcie := rfl
@[simp] theorem State.setUnit_acc (n : Nat) (x : TdcUnit) : (s.setUnit n x).acc = s.acc := rfl
@[simp] theorem State.setUnit_jtag (n : Nat) (x : TdcUnit) : (s.setUnit n x).jtag = s.jtag := rfl
@[simp] theorem State.setUnit_alarm (n : Nat) (x : TdcUnit) : (s.setUnit n x).alarm = s.alarm := rfl
@[simp] theorem State.setUnit_free (n : Nat) (x : TdcUnit) : (s.setUnit n x).free = s.free := rfl
@[simp] theorem State.setUnit_rf (n : Nat) (x : TdcUnit) (g : Fld) (m : Nat) : (s.setUnit n x).rf g m = s.rf g m := rfl
@[simp] theorem State.setUnit_frond (n : Nat) (x : TdcUnit) (h : Fin 16) : (s.setUnit n x).frond h = s.frond h := rfl
@[simp] theorem State.setUnit_queue (n : Nat) (x : TdcUnit) (j : Nat) : (s.setUnit n x).queue j = s.queue j := rfl
@[simp] theorem State.setUnit_dom (n : Nat) (x : TdcUnit) (e : Nat) : (s.setUnit n x).dom e = s.dom e := rfl
@[simp] theorem State.setUnit_now (n : Nat) (x : TdcUnit) : (s.setUnit n x).now = s.now := rfl

/-! ## setGns -/

@[simp] theorem State.setGns_pending (x : GnsState) : (s.setGns x).pending = s.pending := rfl
@[simp] theorem State.setGns_regs (x : GnsState) : (s.setGns x).regs = s.regs := rfl
@[simp] theorem State.setGns_mem (x : GnsState) : (s.setGns x).mem = s.mem := rfl
@[simp] theorem State.setGns_queues (x : GnsState) : (s.setGns x).queues = s.queues := rfl
@[simp] theorem State.setGns_jnl (x : GnsState) : (s.setGns x).jnl = s.jnl := rfl
@[simp] theorem State.setGns_tm (x : GnsState) : (s.setGns x).tm = s.tm := rfl
@[simp] theorem State.setGns_doms (x : GnsState) : (s.setGns x).doms = s.doms := rfl
@[simp] theorem State.setGns_fronds (x : GnsState) : (s.setGns x).fronds = s.fronds := rfl
@[simp] theorem State.setGns_srv (x : GnsState) : (s.setGns x).srv = s.srv := rfl
@[simp] theorem State.setGns_rcl (x : GnsState) : (s.setGns x).rcl = s.rcl := rfl
@[simp] theorem State.setGns_outs (x : GnsState) : (s.setGns x).outs = s.outs := rfl
@[simp] theorem State.setGns_tios (x : GnsState) : (s.setGns x).tios = s.tios := rfl
@[simp] theorem State.setGns_tdc (x : GnsState) : (s.setGns x).tdc = s.tdc := rfl
@[simp] theorem State.setGns_gns (x : GnsState) : (s.setGns x).gns = x := rfl
@[simp] theorem State.setGns_key (x : GnsState) : (s.setGns x).key = s.key := rfl
@[simp] theorem State.setGns_lanes (x : GnsState) : (s.setGns x).lanes = s.lanes := rfl
@[simp] theorem State.setGns_tsv (x : GnsState) : (s.setGns x).tsv = s.tsv := rfl
@[simp] theorem State.setGns_twn (x : GnsState) : (s.setGns x).twn = s.twn := rfl
@[simp] theorem State.setGns_fctl (x : GnsState) : (s.setGns x).fctl = s.fctl := rfl
@[simp] theorem State.setGns_memx (x : GnsState) : (s.setGns x).memx = s.memx := rfl
@[simp] theorem State.setGns_pwr (x : GnsState) : (s.setGns x).pwr = s.pwr := rfl
@[simp] theorem State.setGns_cfg (x : GnsState) : (s.setGns x).cfg = s.cfg := rfl
@[simp] theorem State.setGns_pcie (x : GnsState) : (s.setGns x).pcie = s.pcie := rfl
@[simp] theorem State.setGns_acc (x : GnsState) : (s.setGns x).acc = s.acc := rfl
@[simp] theorem State.setGns_jtag (x : GnsState) : (s.setGns x).jtag = s.jtag := rfl
@[simp] theorem State.setGns_alarm (x : GnsState) : (s.setGns x).alarm = s.alarm := rfl
@[simp] theorem State.setGns_free (x : GnsState) : (s.setGns x).free = s.free := rfl
@[simp] theorem State.setGns_rf (x : GnsState) (g : Fld) (m : Nat) : (s.setGns x).rf g m = s.rf g m := rfl
@[simp] theorem State.setGns_frond (x : GnsState) (h : Fin 16) : (s.setGns x).frond h = s.frond h := rfl
@[simp] theorem State.setGns_queue (x : GnsState) (j : Nat) : (s.setGns x).queue j = s.queue j := rfl
@[simp] theorem State.setGns_dom (x : GnsState) (e : Nat) : (s.setGns x).dom e = s.dom e := rfl
@[simp] theorem State.setGns_now (x : GnsState) : (s.setGns x).now = s.now := rfl

/-! ## setGport -/

@[simp] theorem State.setGport_pending (p : Nat) (x : GPort) : (s.setGport p x).pending = s.pending := rfl
@[simp] theorem State.setGport_regs (p : Nat) (x : GPort) : (s.setGport p x).regs = s.regs := rfl
@[simp] theorem State.setGport_mem (p : Nat) (x : GPort) : (s.setGport p x).mem = s.mem := rfl
@[simp] theorem State.setGport_queues (p : Nat) (x : GPort) : (s.setGport p x).queues = s.queues := rfl
@[simp] theorem State.setGport_jnl (p : Nat) (x : GPort) : (s.setGport p x).jnl = s.jnl := rfl
@[simp] theorem State.setGport_tm (p : Nat) (x : GPort) : (s.setGport p x).tm = s.tm := rfl
@[simp] theorem State.setGport_doms (p : Nat) (x : GPort) : (s.setGport p x).doms = s.doms := rfl
@[simp] theorem State.setGport_fronds (p : Nat) (x : GPort) : (s.setGport p x).fronds = s.fronds := rfl
@[simp] theorem State.setGport_srv (p : Nat) (x : GPort) : (s.setGport p x).srv = s.srv := rfl
@[simp] theorem State.setGport_rcl (p : Nat) (x : GPort) : (s.setGport p x).rcl = s.rcl := rfl
@[simp] theorem State.setGport_outs (p : Nat) (x : GPort) : (s.setGport p x).outs = s.outs := rfl
@[simp] theorem State.setGport_tios (p : Nat) (x : GPort) : (s.setGport p x).tios = s.tios := rfl
@[simp] theorem State.setGport_tdc (p : Nat) (x : GPort) : (s.setGport p x).tdc = s.tdc := rfl
@[simp] theorem State.setGport_key (p : Nat) (x : GPort) : (s.setGport p x).key = s.key := rfl
@[simp] theorem State.setGport_lanes (p : Nat) (x : GPort) : (s.setGport p x).lanes = s.lanes := rfl
@[simp] theorem State.setGport_tsv (p : Nat) (x : GPort) : (s.setGport p x).tsv = s.tsv := rfl
@[simp] theorem State.setGport_twn (p : Nat) (x : GPort) : (s.setGport p x).twn = s.twn := rfl
@[simp] theorem State.setGport_fctl (p : Nat) (x : GPort) : (s.setGport p x).fctl = s.fctl := rfl
@[simp] theorem State.setGport_memx (p : Nat) (x : GPort) : (s.setGport p x).memx = s.memx := rfl
@[simp] theorem State.setGport_pwr (p : Nat) (x : GPort) : (s.setGport p x).pwr = s.pwr := rfl
@[simp] theorem State.setGport_cfg (p : Nat) (x : GPort) : (s.setGport p x).cfg = s.cfg := rfl
@[simp] theorem State.setGport_pcie (p : Nat) (x : GPort) : (s.setGport p x).pcie = s.pcie := rfl
@[simp] theorem State.setGport_acc (p : Nat) (x : GPort) : (s.setGport p x).acc = s.acc := rfl
@[simp] theorem State.setGport_jtag (p : Nat) (x : GPort) : (s.setGport p x).jtag = s.jtag := rfl
@[simp] theorem State.setGport_alarm (p : Nat) (x : GPort) : (s.setGport p x).alarm = s.alarm := rfl
@[simp] theorem State.setGport_free (p : Nat) (x : GPort) : (s.setGport p x).free = s.free := rfl
@[simp] theorem State.setGport_rf (p : Nat) (x : GPort) (g : Fld) (m : Nat) : (s.setGport p x).rf g m = s.rf g m := rfl
@[simp] theorem State.setGport_frond (p : Nat) (x : GPort) (h : Fin 16) : (s.setGport p x).frond h = s.frond h := rfl
@[simp] theorem State.setGport_queue (p : Nat) (x : GPort) (j : Nat) : (s.setGport p x).queue j = s.queue j := rfl
@[simp] theorem State.setGport_dom (p : Nat) (x : GPort) (e : Nat) : (s.setGport p x).dom e = s.dom e := rfl
@[simp] theorem State.setGport_now (p : Nat) (x : GPort) : (s.setGport p x).now = s.now := rfl

/-! ## setChan -/

@[simp] theorem State.setChan_pending (c : Nat) (x : GChan) : (s.setChan c x).pending = s.pending := rfl
@[simp] theorem State.setChan_regs (c : Nat) (x : GChan) : (s.setChan c x).regs = s.regs := rfl
@[simp] theorem State.setChan_mem (c : Nat) (x : GChan) : (s.setChan c x).mem = s.mem := rfl
@[simp] theorem State.setChan_queues (c : Nat) (x : GChan) : (s.setChan c x).queues = s.queues := rfl
@[simp] theorem State.setChan_jnl (c : Nat) (x : GChan) : (s.setChan c x).jnl = s.jnl := rfl
@[simp] theorem State.setChan_tm (c : Nat) (x : GChan) : (s.setChan c x).tm = s.tm := rfl
@[simp] theorem State.setChan_doms (c : Nat) (x : GChan) : (s.setChan c x).doms = s.doms := rfl
@[simp] theorem State.setChan_fronds (c : Nat) (x : GChan) : (s.setChan c x).fronds = s.fronds := rfl
@[simp] theorem State.setChan_srv (c : Nat) (x : GChan) : (s.setChan c x).srv = s.srv := rfl
@[simp] theorem State.setChan_rcl (c : Nat) (x : GChan) : (s.setChan c x).rcl = s.rcl := rfl
@[simp] theorem State.setChan_outs (c : Nat) (x : GChan) : (s.setChan c x).outs = s.outs := rfl
@[simp] theorem State.setChan_tios (c : Nat) (x : GChan) : (s.setChan c x).tios = s.tios := rfl
@[simp] theorem State.setChan_tdc (c : Nat) (x : GChan) : (s.setChan c x).tdc = s.tdc := rfl
@[simp] theorem State.setChan_key (c : Nat) (x : GChan) : (s.setChan c x).key = s.key := rfl
@[simp] theorem State.setChan_lanes (c : Nat) (x : GChan) : (s.setChan c x).lanes = s.lanes := rfl
@[simp] theorem State.setChan_tsv (c : Nat) (x : GChan) : (s.setChan c x).tsv = s.tsv := rfl
@[simp] theorem State.setChan_twn (c : Nat) (x : GChan) : (s.setChan c x).twn = s.twn := rfl
@[simp] theorem State.setChan_fctl (c : Nat) (x : GChan) : (s.setChan c x).fctl = s.fctl := rfl
@[simp] theorem State.setChan_memx (c : Nat) (x : GChan) : (s.setChan c x).memx = s.memx := rfl
@[simp] theorem State.setChan_pwr (c : Nat) (x : GChan) : (s.setChan c x).pwr = s.pwr := rfl
@[simp] theorem State.setChan_cfg (c : Nat) (x : GChan) : (s.setChan c x).cfg = s.cfg := rfl
@[simp] theorem State.setChan_pcie (c : Nat) (x : GChan) : (s.setChan c x).pcie = s.pcie := rfl
@[simp] theorem State.setChan_acc (c : Nat) (x : GChan) : (s.setChan c x).acc = s.acc := rfl
@[simp] theorem State.setChan_jtag (c : Nat) (x : GChan) : (s.setChan c x).jtag = s.jtag := rfl
@[simp] theorem State.setChan_alarm (c : Nat) (x : GChan) : (s.setChan c x).alarm = s.alarm := rfl
@[simp] theorem State.setChan_free (c : Nat) (x : GChan) : (s.setChan c x).free = s.free := rfl
@[simp] theorem State.setChan_rf (c : Nat) (x : GChan) (g : Fld) (m : Nat) : (s.setChan c x).rf g m = s.rf g m := rfl
@[simp] theorem State.setChan_frond (c : Nat) (x : GChan) (h : Fin 16) : (s.setChan c x).frond h = s.frond h := rfl
@[simp] theorem State.setChan_queue (c : Nat) (x : GChan) (j : Nat) : (s.setChan c x).queue j = s.queue j := rfl
@[simp] theorem State.setChan_dom (c : Nat) (x : GChan) (e : Nat) : (s.setChan c x).dom e = s.dom e := rfl
@[simp] theorem State.setChan_now (c : Nat) (x : GChan) : (s.setChan c x).now = s.now := rfl

/-! ## setKey -/

@[simp] theorem State.setKey_pending (k : KeyState) : (s.setKey k).pending = s.pending := rfl
@[simp] theorem State.setKey_regs (k : KeyState) : (s.setKey k).regs = s.regs := rfl
@[simp] theorem State.setKey_mem (k : KeyState) : (s.setKey k).mem = s.mem := rfl
@[simp] theorem State.setKey_queues (k : KeyState) : (s.setKey k).queues = s.queues := rfl
@[simp] theorem State.setKey_jnl (k : KeyState) : (s.setKey k).jnl = s.jnl := rfl
@[simp] theorem State.setKey_tm (k : KeyState) : (s.setKey k).tm = s.tm := rfl
@[simp] theorem State.setKey_doms (k : KeyState) : (s.setKey k).doms = s.doms := rfl
@[simp] theorem State.setKey_fronds (k : KeyState) : (s.setKey k).fronds = s.fronds := rfl
@[simp] theorem State.setKey_srv (k : KeyState) : (s.setKey k).srv = s.srv := rfl
@[simp] theorem State.setKey_rcl (k : KeyState) : (s.setKey k).rcl = s.rcl := rfl
@[simp] theorem State.setKey_outs (k : KeyState) : (s.setKey k).outs = s.outs := rfl
@[simp] theorem State.setKey_tios (k : KeyState) : (s.setKey k).tios = s.tios := rfl
@[simp] theorem State.setKey_tdc (k : KeyState) : (s.setKey k).tdc = s.tdc := rfl
@[simp] theorem State.setKey_gns (k : KeyState) : (s.setKey k).gns = s.gns := rfl
@[simp] theorem State.setKey_key (k : KeyState) : (s.setKey k).key = k := rfl
@[simp] theorem State.setKey_lanes (k : KeyState) : (s.setKey k).lanes = s.lanes := rfl
@[simp] theorem State.setKey_tsv (k : KeyState) : (s.setKey k).tsv = s.tsv := rfl
@[simp] theorem State.setKey_twn (k : KeyState) : (s.setKey k).twn = s.twn := rfl
@[simp] theorem State.setKey_fctl (k : KeyState) : (s.setKey k).fctl = s.fctl := rfl
@[simp] theorem State.setKey_memx (k : KeyState) : (s.setKey k).memx = s.memx := rfl
@[simp] theorem State.setKey_pwr (k : KeyState) : (s.setKey k).pwr = s.pwr := rfl
@[simp] theorem State.setKey_cfg (k : KeyState) : (s.setKey k).cfg = s.cfg := rfl
@[simp] theorem State.setKey_pcie (k : KeyState) : (s.setKey k).pcie = s.pcie := rfl
@[simp] theorem State.setKey_acc (k : KeyState) : (s.setKey k).acc = s.acc := rfl
@[simp] theorem State.setKey_jtag (k : KeyState) : (s.setKey k).jtag = s.jtag := rfl
@[simp] theorem State.setKey_alarm (k : KeyState) : (s.setKey k).alarm = s.alarm := rfl
@[simp] theorem State.setKey_free (k : KeyState) : (s.setKey k).free = s.free := rfl
@[simp] theorem State.setKey_rf (k : KeyState) (g : Fld) (m : Nat) : (s.setKey k).rf g m = s.rf g m := rfl
@[simp] theorem State.setKey_frond (k : KeyState) (h : Fin 16) : (s.setKey k).frond h = s.frond h := rfl
@[simp] theorem State.setKey_queue (k : KeyState) (j : Nat) : (s.setKey k).queue j = s.queue j := rfl
@[simp] theorem State.setKey_dom (k : KeyState) (e : Nat) : (s.setKey k).dom e = s.dom e := rfl
@[simp] theorem State.setKey_now (k : KeyState) : (s.setKey k).now = s.now := rfl

/-! ## setLane -/

@[simp] theorem State.setLane_pending (n : Nat) (x : Lane) : (s.setLane n x).pending = s.pending := rfl
@[simp] theorem State.setLane_regs (n : Nat) (x : Lane) : (s.setLane n x).regs = s.regs := rfl
@[simp] theorem State.setLane_mem (n : Nat) (x : Lane) : (s.setLane n x).mem = s.mem := rfl
@[simp] theorem State.setLane_queues (n : Nat) (x : Lane) : (s.setLane n x).queues = s.queues := rfl
@[simp] theorem State.setLane_jnl (n : Nat) (x : Lane) : (s.setLane n x).jnl = s.jnl := rfl
@[simp] theorem State.setLane_tm (n : Nat) (x : Lane) : (s.setLane n x).tm = s.tm := rfl
@[simp] theorem State.setLane_doms (n : Nat) (x : Lane) : (s.setLane n x).doms = s.doms := rfl
@[simp] theorem State.setLane_fronds (n : Nat) (x : Lane) : (s.setLane n x).fronds = s.fronds := rfl
@[simp] theorem State.setLane_srv (n : Nat) (x : Lane) : (s.setLane n x).srv = s.srv := rfl
@[simp] theorem State.setLane_rcl (n : Nat) (x : Lane) : (s.setLane n x).rcl = s.rcl := rfl
@[simp] theorem State.setLane_outs (n : Nat) (x : Lane) : (s.setLane n x).outs = s.outs := rfl
@[simp] theorem State.setLane_tios (n : Nat) (x : Lane) : (s.setLane n x).tios = s.tios := rfl
@[simp] theorem State.setLane_tdc (n : Nat) (x : Lane) : (s.setLane n x).tdc = s.tdc := rfl
@[simp] theorem State.setLane_gns (n : Nat) (x : Lane) : (s.setLane n x).gns = s.gns := rfl
@[simp] theorem State.setLane_key (n : Nat) (x : Lane) : (s.setLane n x).key = s.key := rfl
@[simp] theorem State.setLane_lanes (n : Nat) (x : Lane) : (s.setLane n x).lanes = s.lanes.set! n x := rfl
@[simp] theorem State.setLane_tsv (n : Nat) (x : Lane) : (s.setLane n x).tsv = s.tsv := rfl
@[simp] theorem State.setLane_twn (n : Nat) (x : Lane) : (s.setLane n x).twn = s.twn := rfl
@[simp] theorem State.setLane_fctl (n : Nat) (x : Lane) : (s.setLane n x).fctl = s.fctl := rfl
@[simp] theorem State.setLane_memx (n : Nat) (x : Lane) : (s.setLane n x).memx = s.memx := rfl
@[simp] theorem State.setLane_pwr (n : Nat) (x : Lane) : (s.setLane n x).pwr = s.pwr := rfl
@[simp] theorem State.setLane_cfg (n : Nat) (x : Lane) : (s.setLane n x).cfg = s.cfg := rfl
@[simp] theorem State.setLane_pcie (n : Nat) (x : Lane) : (s.setLane n x).pcie = s.pcie := rfl
@[simp] theorem State.setLane_acc (n : Nat) (x : Lane) : (s.setLane n x).acc = s.acc := rfl
@[simp] theorem State.setLane_jtag (n : Nat) (x : Lane) : (s.setLane n x).jtag = s.jtag := rfl
@[simp] theorem State.setLane_alarm (n : Nat) (x : Lane) : (s.setLane n x).alarm = s.alarm := rfl
@[simp] theorem State.setLane_free (n : Nat) (x : Lane) : (s.setLane n x).free = s.free := rfl
@[simp] theorem State.setLane_rf (n : Nat) (x : Lane) (g : Fld) (m : Nat) : (s.setLane n x).rf g m = s.rf g m := rfl
@[simp] theorem State.setLane_frond (n : Nat) (x : Lane) (h : Fin 16) : (s.setLane n x).frond h = s.frond h := rfl
@[simp] theorem State.setLane_queue (n : Nat) (x : Lane) (j : Nat) : (s.setLane n x).queue j = s.queue j := rfl
@[simp] theorem State.setLane_dom (n : Nat) (x : Lane) (e : Nat) : (s.setLane n x).dom e = s.dom e := rfl
@[simp] theorem State.setLane_now (n : Nat) (x : Lane) : (s.setLane n x).now = s.now := rfl

/-! ## setTsv -/

@[simp] theorem State.setTsv_pending (t : TsvState) : (s.setTsv t).pending = s.pending := rfl
@[simp] theorem State.setTsv_regs (t : TsvState) : (s.setTsv t).regs = s.regs := rfl
@[simp] theorem State.setTsv_mem (t : TsvState) : (s.setTsv t).mem = s.mem := rfl
@[simp] theorem State.setTsv_queues (t : TsvState) : (s.setTsv t).queues = s.queues := rfl
@[simp] theorem State.setTsv_jnl (t : TsvState) : (s.setTsv t).jnl = s.jnl := rfl
@[simp] theorem State.setTsv_tm (t : TsvState) : (s.setTsv t).tm = s.tm := rfl
@[simp] theorem State.setTsv_doms (t : TsvState) : (s.setTsv t).doms = s.doms := rfl
@[simp] theorem State.setTsv_fronds (t : TsvState) : (s.setTsv t).fronds = s.fronds := rfl
@[simp] theorem State.setTsv_srv (t : TsvState) : (s.setTsv t).srv = s.srv := rfl
@[simp] theorem State.setTsv_rcl (t : TsvState) : (s.setTsv t).rcl = s.rcl := rfl
@[simp] theorem State.setTsv_outs (t : TsvState) : (s.setTsv t).outs = s.outs := rfl
@[simp] theorem State.setTsv_tios (t : TsvState) : (s.setTsv t).tios = s.tios := rfl
@[simp] theorem State.setTsv_tdc (t : TsvState) : (s.setTsv t).tdc = s.tdc := rfl
@[simp] theorem State.setTsv_gns (t : TsvState) : (s.setTsv t).gns = s.gns := rfl
@[simp] theorem State.setTsv_key (t : TsvState) : (s.setTsv t).key = s.key := rfl
@[simp] theorem State.setTsv_lanes (t : TsvState) : (s.setTsv t).lanes = s.lanes := rfl
@[simp] theorem State.setTsv_tsv (t : TsvState) : (s.setTsv t).tsv = t := rfl
@[simp] theorem State.setTsv_twn (t : TsvState) : (s.setTsv t).twn = s.twn := rfl
@[simp] theorem State.setTsv_fctl (t : TsvState) : (s.setTsv t).fctl = s.fctl := rfl
@[simp] theorem State.setTsv_memx (t : TsvState) : (s.setTsv t).memx = s.memx := rfl
@[simp] theorem State.setTsv_pwr (t : TsvState) : (s.setTsv t).pwr = s.pwr := rfl
@[simp] theorem State.setTsv_cfg (t : TsvState) : (s.setTsv t).cfg = s.cfg := rfl
@[simp] theorem State.setTsv_pcie (t : TsvState) : (s.setTsv t).pcie = s.pcie := rfl
@[simp] theorem State.setTsv_acc (t : TsvState) : (s.setTsv t).acc = s.acc := rfl
@[simp] theorem State.setTsv_jtag (t : TsvState) : (s.setTsv t).jtag = s.jtag := rfl
@[simp] theorem State.setTsv_alarm (t : TsvState) : (s.setTsv t).alarm = s.alarm := rfl
@[simp] theorem State.setTsv_free (t : TsvState) : (s.setTsv t).free = s.free := rfl
@[simp] theorem State.setTsv_rf (t : TsvState) (g : Fld) (m : Nat) : (s.setTsv t).rf g m = s.rf g m := rfl
@[simp] theorem State.setTsv_frond (t : TsvState) (h : Fin 16) : (s.setTsv t).frond h = s.frond h := rfl
@[simp] theorem State.setTsv_queue (t : TsvState) (j : Nat) : (s.setTsv t).queue j = s.queue j := rfl
@[simp] theorem State.setTsv_dom (t : TsvState) (e : Nat) : (s.setTsv t).dom e = s.dom e := rfl
@[simp] theorem State.setTsv_now (t : TsvState) : (s.setTsv t).now = s.now := rfl

/-! ## setPeer -/

@[simp] theorem State.setPeer_pending (n : Nat) (x : PeerX) : (s.setPeer n x).pending = s.pending := rfl
@[simp] theorem State.setPeer_regs (n : Nat) (x : PeerX) : (s.setPeer n x).regs = s.regs := rfl
@[simp] theorem State.setPeer_mem (n : Nat) (x : PeerX) : (s.setPeer n x).mem = s.mem := rfl
@[simp] theorem State.setPeer_queues (n : Nat) (x : PeerX) : (s.setPeer n x).queues = s.queues := rfl
@[simp] theorem State.setPeer_jnl (n : Nat) (x : PeerX) : (s.setPeer n x).jnl = s.jnl := rfl
@[simp] theorem State.setPeer_tm (n : Nat) (x : PeerX) : (s.setPeer n x).tm = s.tm := rfl
@[simp] theorem State.setPeer_doms (n : Nat) (x : PeerX) : (s.setPeer n x).doms = s.doms := rfl
@[simp] theorem State.setPeer_fronds (n : Nat) (x : PeerX) : (s.setPeer n x).fronds = s.fronds := rfl
@[simp] theorem State.setPeer_srv (n : Nat) (x : PeerX) : (s.setPeer n x).srv = s.srv := rfl
@[simp] theorem State.setPeer_rcl (n : Nat) (x : PeerX) : (s.setPeer n x).rcl = s.rcl := rfl
@[simp] theorem State.setPeer_outs (n : Nat) (x : PeerX) : (s.setPeer n x).outs = s.outs := rfl
@[simp] theorem State.setPeer_tios (n : Nat) (x : PeerX) : (s.setPeer n x).tios = s.tios := rfl
@[simp] theorem State.setPeer_tdc (n : Nat) (x : PeerX) : (s.setPeer n x).tdc = s.tdc := rfl
@[simp] theorem State.setPeer_gns (n : Nat) (x : PeerX) : (s.setPeer n x).gns = s.gns := rfl
@[simp] theorem State.setPeer_key (n : Nat) (x : PeerX) : (s.setPeer n x).key = s.key := rfl
@[simp] theorem State.setPeer_lanes (n : Nat) (x : PeerX) : (s.setPeer n x).lanes = s.lanes := rfl
@[simp] theorem State.setPeer_twn (n : Nat) (x : PeerX) : (s.setPeer n x).twn = s.twn := rfl
@[simp] theorem State.setPeer_fctl (n : Nat) (x : PeerX) : (s.setPeer n x).fctl = s.fctl := rfl
@[simp] theorem State.setPeer_memx (n : Nat) (x : PeerX) : (s.setPeer n x).memx = s.memx := rfl
@[simp] theorem State.setPeer_pwr (n : Nat) (x : PeerX) : (s.setPeer n x).pwr = s.pwr := rfl
@[simp] theorem State.setPeer_cfg (n : Nat) (x : PeerX) : (s.setPeer n x).cfg = s.cfg := rfl
@[simp] theorem State.setPeer_pcie (n : Nat) (x : PeerX) : (s.setPeer n x).pcie = s.pcie := rfl
@[simp] theorem State.setPeer_acc (n : Nat) (x : PeerX) : (s.setPeer n x).acc = s.acc := rfl
@[simp] theorem State.setPeer_jtag (n : Nat) (x : PeerX) : (s.setPeer n x).jtag = s.jtag := rfl
@[simp] theorem State.setPeer_alarm (n : Nat) (x : PeerX) : (s.setPeer n x).alarm = s.alarm := rfl
@[simp] theorem State.setPeer_free (n : Nat) (x : PeerX) : (s.setPeer n x).free = s.free := rfl
@[simp] theorem State.setPeer_rf (n : Nat) (x : PeerX) (g : Fld) (m : Nat) : (s.setPeer n x).rf g m = s.rf g m := rfl
@[simp] theorem State.setPeer_frond (n : Nat) (x : PeerX) (h : Fin 16) : (s.setPeer n x).frond h = s.frond h := rfl
@[simp] theorem State.setPeer_queue (n : Nat) (x : PeerX) (j : Nat) : (s.setPeer n x).queue j = s.queue j := rfl
@[simp] theorem State.setPeer_dom (n : Nat) (x : PeerX) (e : Nat) : (s.setPeer n x).dom e = s.dom e := rfl
@[simp] theorem State.setPeer_now (n : Nat) (x : PeerX) : (s.setPeer n x).now = s.now := rfl

/-! ## setUp -/

@[simp] theorem State.setUp_pending (u : Nat) (x : UpSess) : (s.setUp u x).pending = s.pending := rfl
@[simp] theorem State.setUp_regs (u : Nat) (x : UpSess) : (s.setUp u x).regs = s.regs := rfl
@[simp] theorem State.setUp_mem (u : Nat) (x : UpSess) : (s.setUp u x).mem = s.mem := rfl
@[simp] theorem State.setUp_queues (u : Nat) (x : UpSess) : (s.setUp u x).queues = s.queues := rfl
@[simp] theorem State.setUp_jnl (u : Nat) (x : UpSess) : (s.setUp u x).jnl = s.jnl := rfl
@[simp] theorem State.setUp_tm (u : Nat) (x : UpSess) : (s.setUp u x).tm = s.tm := rfl
@[simp] theorem State.setUp_doms (u : Nat) (x : UpSess) : (s.setUp u x).doms = s.doms := rfl
@[simp] theorem State.setUp_fronds (u : Nat) (x : UpSess) : (s.setUp u x).fronds = s.fronds := rfl
@[simp] theorem State.setUp_srv (u : Nat) (x : UpSess) : (s.setUp u x).srv = s.srv := rfl
@[simp] theorem State.setUp_rcl (u : Nat) (x : UpSess) : (s.setUp u x).rcl = s.rcl := rfl
@[simp] theorem State.setUp_outs (u : Nat) (x : UpSess) : (s.setUp u x).outs = s.outs := rfl
@[simp] theorem State.setUp_tios (u : Nat) (x : UpSess) : (s.setUp u x).tios = s.tios := rfl
@[simp] theorem State.setUp_tdc (u : Nat) (x : UpSess) : (s.setUp u x).tdc = s.tdc := rfl
@[simp] theorem State.setUp_gns (u : Nat) (x : UpSess) : (s.setUp u x).gns = s.gns := rfl
@[simp] theorem State.setUp_key (u : Nat) (x : UpSess) : (s.setUp u x).key = s.key := rfl
@[simp] theorem State.setUp_lanes (u : Nat) (x : UpSess) : (s.setUp u x).lanes = s.lanes := rfl
@[simp] theorem State.setUp_twn (u : Nat) (x : UpSess) : (s.setUp u x).twn = s.twn := rfl
@[simp] theorem State.setUp_fctl (u : Nat) (x : UpSess) : (s.setUp u x).fctl = s.fctl := rfl
@[simp] theorem State.setUp_memx (u : Nat) (x : UpSess) : (s.setUp u x).memx = s.memx := rfl
@[simp] theorem State.setUp_pwr (u : Nat) (x : UpSess) : (s.setUp u x).pwr = s.pwr := rfl
@[simp] theorem State.setUp_cfg (u : Nat) (x : UpSess) : (s.setUp u x).cfg = s.cfg := rfl
@[simp] theorem State.setUp_pcie (u : Nat) (x : UpSess) : (s.setUp u x).pcie = s.pcie := rfl
@[simp] theorem State.setUp_acc (u : Nat) (x : UpSess) : (s.setUp u x).acc = s.acc := rfl
@[simp] theorem State.setUp_jtag (u : Nat) (x : UpSess) : (s.setUp u x).jtag = s.jtag := rfl
@[simp] theorem State.setUp_alarm (u : Nat) (x : UpSess) : (s.setUp u x).alarm = s.alarm := rfl
@[simp] theorem State.setUp_free (u : Nat) (x : UpSess) : (s.setUp u x).free = s.free := rfl
@[simp] theorem State.setUp_rf (u : Nat) (x : UpSess) (g : Fld) (m : Nat) : (s.setUp u x).rf g m = s.rf g m := rfl
@[simp] theorem State.setUp_frond (u : Nat) (x : UpSess) (h : Fin 16) : (s.setUp u x).frond h = s.frond h := rfl
@[simp] theorem State.setUp_queue (u : Nat) (x : UpSess) (j : Nat) : (s.setUp u x).queue j = s.queue j := rfl
@[simp] theorem State.setUp_dom (u : Nat) (x : UpSess) (e : Nat) : (s.setUp u x).dom e = s.dom e := rfl
@[simp] theorem State.setUp_now (u : Nat) (x : UpSess) : (s.setUp u x).now = s.now := rfl

/-! ## setTwn -/

@[simp] theorem State.setTwn_pending (t : TwnState) : (s.setTwn t).pending = s.pending := rfl
@[simp] theorem State.setTwn_regs (t : TwnState) : (s.setTwn t).regs = s.regs := rfl
@[simp] theorem State.setTwn_mem (t : TwnState) : (s.setTwn t).mem = s.mem := rfl
@[simp] theorem State.setTwn_queues (t : TwnState) : (s.setTwn t).queues = s.queues := rfl
@[simp] theorem State.setTwn_jnl (t : TwnState) : (s.setTwn t).jnl = s.jnl := rfl
@[simp] theorem State.setTwn_tm (t : TwnState) : (s.setTwn t).tm = s.tm := rfl
@[simp] theorem State.setTwn_doms (t : TwnState) : (s.setTwn t).doms = s.doms := rfl
@[simp] theorem State.setTwn_fronds (t : TwnState) : (s.setTwn t).fronds = s.fronds := rfl
@[simp] theorem State.setTwn_srv (t : TwnState) : (s.setTwn t).srv = s.srv := rfl
@[simp] theorem State.setTwn_rcl (t : TwnState) : (s.setTwn t).rcl = s.rcl := rfl
@[simp] theorem State.setTwn_outs (t : TwnState) : (s.setTwn t).outs = s.outs := rfl
@[simp] theorem State.setTwn_tios (t : TwnState) : (s.setTwn t).tios = s.tios := rfl
@[simp] theorem State.setTwn_tdc (t : TwnState) : (s.setTwn t).tdc = s.tdc := rfl
@[simp] theorem State.setTwn_gns (t : TwnState) : (s.setTwn t).gns = s.gns := rfl
@[simp] theorem State.setTwn_key (t : TwnState) : (s.setTwn t).key = s.key := rfl
@[simp] theorem State.setTwn_lanes (t : TwnState) : (s.setTwn t).lanes = s.lanes := rfl
@[simp] theorem State.setTwn_tsv (t : TwnState) : (s.setTwn t).tsv = s.tsv := rfl
@[simp] theorem State.setTwn_twn (t : TwnState) : (s.setTwn t).twn = t := rfl
@[simp] theorem State.setTwn_fctl (t : TwnState) : (s.setTwn t).fctl = s.fctl := rfl
@[simp] theorem State.setTwn_memx (t : TwnState) : (s.setTwn t).memx = s.memx := rfl
@[simp] theorem State.setTwn_pwr (t : TwnState) : (s.setTwn t).pwr = s.pwr := rfl
@[simp] theorem State.setTwn_cfg (t : TwnState) : (s.setTwn t).cfg = s.cfg := rfl
@[simp] theorem State.setTwn_pcie (t : TwnState) : (s.setTwn t).pcie = s.pcie := rfl
@[simp] theorem State.setTwn_acc (t : TwnState) : (s.setTwn t).acc = s.acc := rfl
@[simp] theorem State.setTwn_jtag (t : TwnState) : (s.setTwn t).jtag = s.jtag := rfl
@[simp] theorem State.setTwn_alarm (t : TwnState) : (s.setTwn t).alarm = s.alarm := rfl
@[simp] theorem State.setTwn_free (t : TwnState) : (s.setTwn t).free = s.free := rfl
@[simp] theorem State.setTwn_rf (t : TwnState) (g : Fld) (m : Nat) : (s.setTwn t).rf g m = s.rf g m := rfl
@[simp] theorem State.setTwn_frond (t : TwnState) (h : Fin 16) : (s.setTwn t).frond h = s.frond h := rfl
@[simp] theorem State.setTwn_queue (t : TwnState) (j : Nat) : (s.setTwn t).queue j = s.queue j := rfl
@[simp] theorem State.setTwn_dom (t : TwnState) (e : Nat) : (s.setTwn t).dom e = s.dom e := rfl
@[simp] theorem State.setTwn_now (t : TwnState) : (s.setTwn t).now = s.now := rfl

/-! ## setFctl -/

@[simp] theorem State.setFctl_pending (c : FrdCtl) : (s.setFctl c).pending = s.pending := rfl
@[simp] theorem State.setFctl_regs (c : FrdCtl) : (s.setFctl c).regs = s.regs := rfl
@[simp] theorem State.setFctl_mem (c : FrdCtl) : (s.setFctl c).mem = s.mem := rfl
@[simp] theorem State.setFctl_queues (c : FrdCtl) : (s.setFctl c).queues = s.queues := rfl
@[simp] theorem State.setFctl_jnl (c : FrdCtl) : (s.setFctl c).jnl = s.jnl := rfl
@[simp] theorem State.setFctl_tm (c : FrdCtl) : (s.setFctl c).tm = s.tm := rfl
@[simp] theorem State.setFctl_doms (c : FrdCtl) : (s.setFctl c).doms = s.doms := rfl
@[simp] theorem State.setFctl_fronds (c : FrdCtl) : (s.setFctl c).fronds = s.fronds := rfl
@[simp] theorem State.setFctl_srv (c : FrdCtl) : (s.setFctl c).srv = s.srv := rfl
@[simp] theorem State.setFctl_rcl (c : FrdCtl) : (s.setFctl c).rcl = s.rcl := rfl
@[simp] theorem State.setFctl_outs (c : FrdCtl) : (s.setFctl c).outs = s.outs := rfl
@[simp] theorem State.setFctl_tios (c : FrdCtl) : (s.setFctl c).tios = s.tios := rfl
@[simp] theorem State.setFctl_tdc (c : FrdCtl) : (s.setFctl c).tdc = s.tdc := rfl
@[simp] theorem State.setFctl_gns (c : FrdCtl) : (s.setFctl c).gns = s.gns := rfl
@[simp] theorem State.setFctl_key (c : FrdCtl) : (s.setFctl c).key = s.key := rfl
@[simp] theorem State.setFctl_lanes (c : FrdCtl) : (s.setFctl c).lanes = s.lanes := rfl
@[simp] theorem State.setFctl_tsv (c : FrdCtl) : (s.setFctl c).tsv = s.tsv := rfl
@[simp] theorem State.setFctl_twn (c : FrdCtl) : (s.setFctl c).twn = s.twn := rfl
@[simp] theorem State.setFctl_fctl (c : FrdCtl) : (s.setFctl c).fctl = c := rfl
@[simp] theorem State.setFctl_memx (c : FrdCtl) : (s.setFctl c).memx = s.memx := rfl
@[simp] theorem State.setFctl_pwr (c : FrdCtl) : (s.setFctl c).pwr = s.pwr := rfl
@[simp] theorem State.setFctl_cfg (c : FrdCtl) : (s.setFctl c).cfg = s.cfg := rfl
@[simp] theorem State.setFctl_pcie (c : FrdCtl) : (s.setFctl c).pcie = s.pcie := rfl
@[simp] theorem State.setFctl_acc (c : FrdCtl) : (s.setFctl c).acc = s.acc := rfl
@[simp] theorem State.setFctl_jtag (c : FrdCtl) : (s.setFctl c).jtag = s.jtag := rfl
@[simp] theorem State.setFctl_alarm (c : FrdCtl) : (s.setFctl c).alarm = s.alarm := rfl
@[simp] theorem State.setFctl_free (c : FrdCtl) : (s.setFctl c).free = s.free := rfl
@[simp] theorem State.setFctl_rf (c : FrdCtl) (g : Fld) (m : Nat) : (s.setFctl c).rf g m = s.rf g m := rfl
@[simp] theorem State.setFctl_frond (c : FrdCtl) (h : Fin 16) : (s.setFctl c).frond h = s.frond h := rfl
@[simp] theorem State.setFctl_queue (c : FrdCtl) (j : Nat) : (s.setFctl c).queue j = s.queue j := rfl
@[simp] theorem State.setFctl_dom (c : FrdCtl) (e : Nat) : (s.setFctl c).dom e = s.dom e := rfl
@[simp] theorem State.setFctl_now (c : FrdCtl) : (s.setFctl c).now = s.now := rfl

/-! ## setPwr -/

@[simp] theorem State.setPwr_pending (p : PwrState) : (s.setPwr p).pending = s.pending := rfl
@[simp] theorem State.setPwr_regs (p : PwrState) : (s.setPwr p).regs = s.regs := rfl
@[simp] theorem State.setPwr_mem (p : PwrState) : (s.setPwr p).mem = s.mem := rfl
@[simp] theorem State.setPwr_queues (p : PwrState) : (s.setPwr p).queues = s.queues := rfl
@[simp] theorem State.setPwr_jnl (p : PwrState) : (s.setPwr p).jnl = s.jnl := rfl
@[simp] theorem State.setPwr_tm (p : PwrState) : (s.setPwr p).tm = s.tm := rfl
@[simp] theorem State.setPwr_doms (p : PwrState) : (s.setPwr p).doms = s.doms := rfl
@[simp] theorem State.setPwr_fronds (p : PwrState) : (s.setPwr p).fronds = s.fronds := rfl
@[simp] theorem State.setPwr_srv (p : PwrState) : (s.setPwr p).srv = s.srv := rfl
@[simp] theorem State.setPwr_rcl (p : PwrState) : (s.setPwr p).rcl = s.rcl := rfl
@[simp] theorem State.setPwr_outs (p : PwrState) : (s.setPwr p).outs = s.outs := rfl
@[simp] theorem State.setPwr_tios (p : PwrState) : (s.setPwr p).tios = s.tios := rfl
@[simp] theorem State.setPwr_tdc (p : PwrState) : (s.setPwr p).tdc = s.tdc := rfl
@[simp] theorem State.setPwr_gns (p : PwrState) : (s.setPwr p).gns = s.gns := rfl
@[simp] theorem State.setPwr_key (p : PwrState) : (s.setPwr p).key = s.key := rfl
@[simp] theorem State.setPwr_lanes (p : PwrState) : (s.setPwr p).lanes = s.lanes := rfl
@[simp] theorem State.setPwr_tsv (p : PwrState) : (s.setPwr p).tsv = s.tsv := rfl
@[simp] theorem State.setPwr_twn (p : PwrState) : (s.setPwr p).twn = s.twn := rfl
@[simp] theorem State.setPwr_fctl (p : PwrState) : (s.setPwr p).fctl = s.fctl := rfl
@[simp] theorem State.setPwr_memx (p : PwrState) : (s.setPwr p).memx = s.memx := rfl
@[simp] theorem State.setPwr_pwr (p : PwrState) : (s.setPwr p).pwr = p := rfl
@[simp] theorem State.setPwr_cfg (p : PwrState) : (s.setPwr p).cfg = s.cfg := rfl
@[simp] theorem State.setPwr_pcie (p : PwrState) : (s.setPwr p).pcie = s.pcie := rfl
@[simp] theorem State.setPwr_acc (p : PwrState) : (s.setPwr p).acc = s.acc := rfl
@[simp] theorem State.setPwr_jtag (p : PwrState) : (s.setPwr p).jtag = s.jtag := rfl
@[simp] theorem State.setPwr_alarm (p : PwrState) : (s.setPwr p).alarm = s.alarm := rfl
@[simp] theorem State.setPwr_free (p : PwrState) : (s.setPwr p).free = s.free := rfl
@[simp] theorem State.setPwr_rf (p : PwrState) (g : Fld) (m : Nat) : (s.setPwr p).rf g m = s.rf g m := rfl
@[simp] theorem State.setPwr_frond (p : PwrState) (h : Fin 16) : (s.setPwr p).frond h = s.frond h := rfl
@[simp] theorem State.setPwr_queue (p : PwrState) (j : Nat) : (s.setPwr p).queue j = s.queue j := rfl
@[simp] theorem State.setPwr_dom (p : PwrState) (e : Nat) : (s.setPwr p).dom e = s.dom e := rfl
@[simp] theorem State.setPwr_now (p : PwrState) : (s.setPwr p).now = s.now := rfl

/-! ## setCfg -/

@[simp] theorem State.setCfg_pending (c : CfgState) : (s.setCfg c).pending = s.pending := rfl
@[simp] theorem State.setCfg_regs (c : CfgState) : (s.setCfg c).regs = s.regs := rfl
@[simp] theorem State.setCfg_mem (c : CfgState) : (s.setCfg c).mem = s.mem := rfl
@[simp] theorem State.setCfg_queues (c : CfgState) : (s.setCfg c).queues = s.queues := rfl
@[simp] theorem State.setCfg_jnl (c : CfgState) : (s.setCfg c).jnl = s.jnl := rfl
@[simp] theorem State.setCfg_tm (c : CfgState) : (s.setCfg c).tm = s.tm := rfl
@[simp] theorem State.setCfg_doms (c : CfgState) : (s.setCfg c).doms = s.doms := rfl
@[simp] theorem State.setCfg_fronds (c : CfgState) : (s.setCfg c).fronds = s.fronds := rfl
@[simp] theorem State.setCfg_srv (c : CfgState) : (s.setCfg c).srv = s.srv := rfl
@[simp] theorem State.setCfg_rcl (c : CfgState) : (s.setCfg c).rcl = s.rcl := rfl
@[simp] theorem State.setCfg_outs (c : CfgState) : (s.setCfg c).outs = s.outs := rfl
@[simp] theorem State.setCfg_tios (c : CfgState) : (s.setCfg c).tios = s.tios := rfl
@[simp] theorem State.setCfg_tdc (c : CfgState) : (s.setCfg c).tdc = s.tdc := rfl
@[simp] theorem State.setCfg_gns (c : CfgState) : (s.setCfg c).gns = s.gns := rfl
@[simp] theorem State.setCfg_key (c : CfgState) : (s.setCfg c).key = s.key := rfl
@[simp] theorem State.setCfg_lanes (c : CfgState) : (s.setCfg c).lanes = s.lanes := rfl
@[simp] theorem State.setCfg_tsv (c : CfgState) : (s.setCfg c).tsv = s.tsv := rfl
@[simp] theorem State.setCfg_twn (c : CfgState) : (s.setCfg c).twn = s.twn := rfl
@[simp] theorem State.setCfg_fctl (c : CfgState) : (s.setCfg c).fctl = s.fctl := rfl
@[simp] theorem State.setCfg_memx (c : CfgState) : (s.setCfg c).memx = s.memx := rfl
@[simp] theorem State.setCfg_pwr (c : CfgState) : (s.setCfg c).pwr = s.pwr := rfl
@[simp] theorem State.setCfg_cfg (c : CfgState) : (s.setCfg c).cfg = c := rfl
@[simp] theorem State.setCfg_pcie (c : CfgState) : (s.setCfg c).pcie = s.pcie := rfl
@[simp] theorem State.setCfg_acc (c : CfgState) : (s.setCfg c).acc = s.acc := rfl
@[simp] theorem State.setCfg_jtag (c : CfgState) : (s.setCfg c).jtag = s.jtag := rfl
@[simp] theorem State.setCfg_alarm (c : CfgState) : (s.setCfg c).alarm = s.alarm := rfl
@[simp] theorem State.setCfg_free (c : CfgState) : (s.setCfg c).free = s.free := rfl
@[simp] theorem State.setCfg_rf (c : CfgState) (g : Fld) (m : Nat) : (s.setCfg c).rf g m = s.rf g m := rfl
@[simp] theorem State.setCfg_frond (c : CfgState) (h : Fin 16) : (s.setCfg c).frond h = s.frond h := rfl
@[simp] theorem State.setCfg_queue (c : CfgState) (j : Nat) : (s.setCfg c).queue j = s.queue j := rfl
@[simp] theorem State.setCfg_dom (c : CfgState) (e : Nat) : (s.setCfg c).dom e = s.dom e := rfl
@[simp] theorem State.setCfg_now (c : CfgState) : (s.setCfg c).now = s.now := rfl

/-! ## setJtag -/

@[simp] theorem State.setJtag_pending (x : JtagState) : (s.setJtag x).pending = s.pending := rfl
@[simp] theorem State.setJtag_regs (x : JtagState) : (s.setJtag x).regs = s.regs := rfl
@[simp] theorem State.setJtag_mem (x : JtagState) : (s.setJtag x).mem = s.mem := rfl
@[simp] theorem State.setJtag_queues (x : JtagState) : (s.setJtag x).queues = s.queues := rfl
@[simp] theorem State.setJtag_jnl (x : JtagState) : (s.setJtag x).jnl = s.jnl := rfl
@[simp] theorem State.setJtag_tm (x : JtagState) : (s.setJtag x).tm = s.tm := rfl
@[simp] theorem State.setJtag_doms (x : JtagState) : (s.setJtag x).doms = s.doms := rfl
@[simp] theorem State.setJtag_fronds (x : JtagState) : (s.setJtag x).fronds = s.fronds := rfl
@[simp] theorem State.setJtag_srv (x : JtagState) : (s.setJtag x).srv = s.srv := rfl
@[simp] theorem State.setJtag_rcl (x : JtagState) : (s.setJtag x).rcl = s.rcl := rfl
@[simp] theorem State.setJtag_outs (x : JtagState) : (s.setJtag x).outs = s.outs := rfl
@[simp] theorem State.setJtag_tios (x : JtagState) : (s.setJtag x).tios = s.tios := rfl
@[simp] theorem State.setJtag_tdc (x : JtagState) : (s.setJtag x).tdc = s.tdc := rfl
@[simp] theorem State.setJtag_gns (x : JtagState) : (s.setJtag x).gns = s.gns := rfl
@[simp] theorem State.setJtag_key (x : JtagState) : (s.setJtag x).key = s.key := rfl
@[simp] theorem State.setJtag_lanes (x : JtagState) : (s.setJtag x).lanes = s.lanes := rfl
@[simp] theorem State.setJtag_tsv (x : JtagState) : (s.setJtag x).tsv = s.tsv := rfl
@[simp] theorem State.setJtag_twn (x : JtagState) : (s.setJtag x).twn = s.twn := rfl
@[simp] theorem State.setJtag_fctl (x : JtagState) : (s.setJtag x).fctl = s.fctl := rfl
@[simp] theorem State.setJtag_memx (x : JtagState) : (s.setJtag x).memx = s.memx := rfl
@[simp] theorem State.setJtag_pwr (x : JtagState) : (s.setJtag x).pwr = s.pwr := rfl
@[simp] theorem State.setJtag_cfg (x : JtagState) : (s.setJtag x).cfg = s.cfg := rfl
@[simp] theorem State.setJtag_pcie (x : JtagState) : (s.setJtag x).pcie = s.pcie := rfl
@[simp] theorem State.setJtag_acc (x : JtagState) : (s.setJtag x).acc = s.acc := rfl
@[simp] theorem State.setJtag_jtag (x : JtagState) : (s.setJtag x).jtag = x := rfl
@[simp] theorem State.setJtag_alarm (x : JtagState) : (s.setJtag x).alarm = s.alarm := rfl
@[simp] theorem State.setJtag_free (x : JtagState) : (s.setJtag x).free = s.free := rfl
@[simp] theorem State.setJtag_rf (x : JtagState) (g : Fld) (m : Nat) : (s.setJtag x).rf g m = s.rf g m := rfl
@[simp] theorem State.setJtag_frond (x : JtagState) (h : Fin 16) : (s.setJtag x).frond h = s.frond h := rfl
@[simp] theorem State.setJtag_queue (x : JtagState) (j : Nat) : (s.setJtag x).queue j = s.queue j := rfl
@[simp] theorem State.setJtag_dom (x : JtagState) (e : Nat) : (s.setJtag x).dom e = s.dom e := rfl
@[simp] theorem State.setJtag_now (x : JtagState) : (s.setJtag x).now = s.now := rfl

/-! ## setLatch -/

@[simp] theorem State.setLatch_pending (q : Req) (l : Option Latch) : (s.setLatch q l).pending = s.pending := rfl
@[simp] theorem State.setLatch_regs (q : Req) (l : Option Latch) : (s.setLatch q l).regs = s.regs := rfl
@[simp] theorem State.setLatch_mem (q : Req) (l : Option Latch) : (s.setLatch q l).mem = s.mem := rfl
@[simp] theorem State.setLatch_queues (q : Req) (l : Option Latch) : (s.setLatch q l).queues = s.queues := rfl
@[simp] theorem State.setLatch_jnl (q : Req) (l : Option Latch) : (s.setLatch q l).jnl = s.jnl := rfl
@[simp] theorem State.setLatch_tm (q : Req) (l : Option Latch) : (s.setLatch q l).tm = s.tm := rfl
@[simp] theorem State.setLatch_doms (q : Req) (l : Option Latch) : (s.setLatch q l).doms = s.doms := rfl
@[simp] theorem State.setLatch_fronds (q : Req) (l : Option Latch) : (s.setLatch q l).fronds = s.fronds := rfl
@[simp] theorem State.setLatch_srv (q : Req) (l : Option Latch) : (s.setLatch q l).srv = s.srv := rfl
@[simp] theorem State.setLatch_rcl (q : Req) (l : Option Latch) : (s.setLatch q l).rcl = s.rcl := rfl
@[simp] theorem State.setLatch_outs (q : Req) (l : Option Latch) : (s.setLatch q l).outs = s.outs := rfl
@[simp] theorem State.setLatch_tios (q : Req) (l : Option Latch) : (s.setLatch q l).tios = s.tios := rfl
@[simp] theorem State.setLatch_tdc (q : Req) (l : Option Latch) : (s.setLatch q l).tdc = s.tdc := rfl
@[simp] theorem State.setLatch_gns (q : Req) (l : Option Latch) : (s.setLatch q l).gns = s.gns := rfl
@[simp] theorem State.setLatch_key (q : Req) (l : Option Latch) : (s.setLatch q l).key = s.key := rfl
@[simp] theorem State.setLatch_lanes (q : Req) (l : Option Latch) : (s.setLatch q l).lanes = s.lanes := rfl
@[simp] theorem State.setLatch_tsv (q : Req) (l : Option Latch) : (s.setLatch q l).tsv = s.tsv := rfl
@[simp] theorem State.setLatch_twn (q : Req) (l : Option Latch) : (s.setLatch q l).twn = s.twn := rfl
@[simp] theorem State.setLatch_fctl (q : Req) (l : Option Latch) : (s.setLatch q l).fctl = s.fctl := rfl
@[simp] theorem State.setLatch_memx (q : Req) (l : Option Latch) : (s.setLatch q l).memx = s.memx := rfl
@[simp] theorem State.setLatch_pwr (q : Req) (l : Option Latch) : (s.setLatch q l).pwr = s.pwr := rfl
@[simp] theorem State.setLatch_cfg (q : Req) (l : Option Latch) : (s.setLatch q l).cfg = s.cfg := rfl
@[simp] theorem State.setLatch_pcie (q : Req) (l : Option Latch) : (s.setLatch q l).pcie = s.pcie := rfl
@[simp] theorem State.setLatch_jtag (q : Req) (l : Option Latch) : (s.setLatch q l).jtag = s.jtag := rfl
@[simp] theorem State.setLatch_alarm (q : Req) (l : Option Latch) : (s.setLatch q l).alarm = s.alarm := rfl
@[simp] theorem State.setLatch_free (q : Req) (l : Option Latch) : (s.setLatch q l).free = s.free := rfl
@[simp] theorem State.setLatch_rf (q : Req) (l : Option Latch) (g : Fld) (m : Nat) : (s.setLatch q l).rf g m = s.rf g m := rfl
@[simp] theorem State.setLatch_frond (q : Req) (l : Option Latch) (h : Fin 16) : (s.setLatch q l).frond h = s.frond h := rfl
@[simp] theorem State.setLatch_queue (q : Req) (l : Option Latch) (j : Nat) : (s.setLatch q l).queue j = s.queue j := rfl
@[simp] theorem State.setLatch_dom (q : Req) (l : Option Latch) (e : Nat) : (s.setLatch q l).dom e = s.dom e := rfl
@[simp] theorem State.setLatch_now (q : Req) (l : Option Latch) : (s.setLatch q l).now = s.now := rfl

/-! ## setStage -/

@[simp] theorem State.setStage_pending (q : Req) (x : Option Stage) : (s.setStage q x).pending = s.pending := rfl
@[simp] theorem State.setStage_regs (q : Req) (x : Option Stage) : (s.setStage q x).regs = s.regs := rfl
@[simp] theorem State.setStage_mem (q : Req) (x : Option Stage) : (s.setStage q x).mem = s.mem := rfl
@[simp] theorem State.setStage_queues (q : Req) (x : Option Stage) : (s.setStage q x).queues = s.queues := rfl
@[simp] theorem State.setStage_jnl (q : Req) (x : Option Stage) : (s.setStage q x).jnl = s.jnl := rfl
@[simp] theorem State.setStage_tm (q : Req) (x : Option Stage) : (s.setStage q x).tm = s.tm := rfl
@[simp] theorem State.setStage_doms (q : Req) (x : Option Stage) : (s.setStage q x).doms = s.doms := rfl
@[simp] theorem State.setStage_fronds (q : Req) (x : Option Stage) : (s.setStage q x).fronds = s.fronds := rfl
@[simp] theorem State.setStage_srv (q : Req) (x : Option Stage) : (s.setStage q x).srv = s.srv := rfl
@[simp] theorem State.setStage_rcl (q : Req) (x : Option Stage) : (s.setStage q x).rcl = s.rcl := rfl
@[simp] theorem State.setStage_outs (q : Req) (x : Option Stage) : (s.setStage q x).outs = s.outs := rfl
@[simp] theorem State.setStage_tios (q : Req) (x : Option Stage) : (s.setStage q x).tios = s.tios := rfl
@[simp] theorem State.setStage_tdc (q : Req) (x : Option Stage) : (s.setStage q x).tdc = s.tdc := rfl
@[simp] theorem State.setStage_gns (q : Req) (x : Option Stage) : (s.setStage q x).gns = s.gns := rfl
@[simp] theorem State.setStage_key (q : Req) (x : Option Stage) : (s.setStage q x).key = s.key := rfl
@[simp] theorem State.setStage_lanes (q : Req) (x : Option Stage) : (s.setStage q x).lanes = s.lanes := rfl
@[simp] theorem State.setStage_tsv (q : Req) (x : Option Stage) : (s.setStage q x).tsv = s.tsv := rfl
@[simp] theorem State.setStage_twn (q : Req) (x : Option Stage) : (s.setStage q x).twn = s.twn := rfl
@[simp] theorem State.setStage_fctl (q : Req) (x : Option Stage) : (s.setStage q x).fctl = s.fctl := rfl
@[simp] theorem State.setStage_memx (q : Req) (x : Option Stage) : (s.setStage q x).memx = s.memx := rfl
@[simp] theorem State.setStage_pwr (q : Req) (x : Option Stage) : (s.setStage q x).pwr = s.pwr := rfl
@[simp] theorem State.setStage_cfg (q : Req) (x : Option Stage) : (s.setStage q x).cfg = s.cfg := rfl
@[simp] theorem State.setStage_pcie (q : Req) (x : Option Stage) : (s.setStage q x).pcie = s.pcie := rfl
@[simp] theorem State.setStage_jtag (q : Req) (x : Option Stage) : (s.setStage q x).jtag = s.jtag := rfl
@[simp] theorem State.setStage_alarm (q : Req) (x : Option Stage) : (s.setStage q x).alarm = s.alarm := rfl
@[simp] theorem State.setStage_free (q : Req) (x : Option Stage) : (s.setStage q x).free = s.free := rfl
@[simp] theorem State.setStage_rf (q : Req) (x : Option Stage) (g : Fld) (m : Nat) : (s.setStage q x).rf g m = s.rf g m := rfl
@[simp] theorem State.setStage_frond (q : Req) (x : Option Stage) (h : Fin 16) : (s.setStage q x).frond h = s.frond h := rfl
@[simp] theorem State.setStage_queue (q : Req) (x : Option Stage) (j : Nat) : (s.setStage q x).queue j = s.queue j := rfl
@[simp] theorem State.setStage_dom (q : Req) (x : Option Stage) (e : Nat) : (s.setStage q x).dom e = s.dom e := rfl
@[simp] theorem State.setStage_now (q : Req) (x : Option Stage) : (s.setStage q x).now = s.now := rfl

/-! ## setRead -/

@[simp] theorem State.setRead_pending (q : Req) (v : Nat) : (s.setRead q v).pending = s.pending := rfl
@[simp] theorem State.setRead_regs (q : Req) (v : Nat) : (s.setRead q v).regs = s.regs := rfl
@[simp] theorem State.setRead_mem (q : Req) (v : Nat) : (s.setRead q v).mem = s.mem := rfl
@[simp] theorem State.setRead_queues (q : Req) (v : Nat) : (s.setRead q v).queues = s.queues := rfl
@[simp] theorem State.setRead_jnl (q : Req) (v : Nat) : (s.setRead q v).jnl = s.jnl := rfl
@[simp] theorem State.setRead_tm (q : Req) (v : Nat) : (s.setRead q v).tm = s.tm := rfl
@[simp] theorem State.setRead_doms (q : Req) (v : Nat) : (s.setRead q v).doms = s.doms := rfl
@[simp] theorem State.setRead_fronds (q : Req) (v : Nat) : (s.setRead q v).fronds = s.fronds := rfl
@[simp] theorem State.setRead_srv (q : Req) (v : Nat) : (s.setRead q v).srv = s.srv := rfl
@[simp] theorem State.setRead_rcl (q : Req) (v : Nat) : (s.setRead q v).rcl = s.rcl := rfl
@[simp] theorem State.setRead_outs (q : Req) (v : Nat) : (s.setRead q v).outs = s.outs := rfl
@[simp] theorem State.setRead_tios (q : Req) (v : Nat) : (s.setRead q v).tios = s.tios := rfl
@[simp] theorem State.setRead_tdc (q : Req) (v : Nat) : (s.setRead q v).tdc = s.tdc := rfl
@[simp] theorem State.setRead_gns (q : Req) (v : Nat) : (s.setRead q v).gns = s.gns := rfl
@[simp] theorem State.setRead_key (q : Req) (v : Nat) : (s.setRead q v).key = s.key := rfl
@[simp] theorem State.setRead_lanes (q : Req) (v : Nat) : (s.setRead q v).lanes = s.lanes := rfl
@[simp] theorem State.setRead_tsv (q : Req) (v : Nat) : (s.setRead q v).tsv = s.tsv := rfl
@[simp] theorem State.setRead_twn (q : Req) (v : Nat) : (s.setRead q v).twn = s.twn := rfl
@[simp] theorem State.setRead_fctl (q : Req) (v : Nat) : (s.setRead q v).fctl = s.fctl := rfl
@[simp] theorem State.setRead_memx (q : Req) (v : Nat) : (s.setRead q v).memx = s.memx := rfl
@[simp] theorem State.setRead_pwr (q : Req) (v : Nat) : (s.setRead q v).pwr = s.pwr := rfl
@[simp] theorem State.setRead_cfg (q : Req) (v : Nat) : (s.setRead q v).cfg = s.cfg := rfl
@[simp] theorem State.setRead_pcie (q : Req) (v : Nat) : (s.setRead q v).pcie = s.pcie := rfl
@[simp] theorem State.setRead_jtag (q : Req) (v : Nat) : (s.setRead q v).jtag = s.jtag := rfl
@[simp] theorem State.setRead_alarm (q : Req) (v : Nat) : (s.setRead q v).alarm = s.alarm := rfl
@[simp] theorem State.setRead_free (q : Req) (v : Nat) : (s.setRead q v).free = s.free := rfl
@[simp] theorem State.setRead_rf (q : Req) (v : Nat) (g : Fld) (m : Nat) : (s.setRead q v).rf g m = s.rf g m := rfl
@[simp] theorem State.setRead_frond (q : Req) (v : Nat) (h : Fin 16) : (s.setRead q v).frond h = s.frond h := rfl
@[simp] theorem State.setRead_queue (q : Req) (v : Nat) (j : Nat) : (s.setRead q v).queue j = s.queue j := rfl
@[simp] theorem State.setRead_dom (q : Req) (v : Nat) (e : Nat) : (s.setRead q v).dom e = s.dom e := rfl
@[simp] theorem State.setRead_now (q : Req) (v : Nat) : (s.setRead q v).now = s.now := rfl

/-! ## rawStore -/

@[simp] theorem State.rawStore_pending (a : Nat) (bs : List Byte) : (s.rawStore a bs).pending = s.pending := rfl
@[simp] theorem State.rawStore_regs (a : Nat) (bs : List Byte) : (s.rawStore a bs).regs = s.regs := rfl
@[simp] theorem State.rawStore_queues (a : Nat) (bs : List Byte) : (s.rawStore a bs).queues = s.queues := rfl
@[simp] theorem State.rawStore_jnl (a : Nat) (bs : List Byte) : (s.rawStore a bs).jnl = s.jnl := rfl
@[simp] theorem State.rawStore_tm (a : Nat) (bs : List Byte) : (s.rawStore a bs).tm = s.tm := rfl
@[simp] theorem State.rawStore_doms (a : Nat) (bs : List Byte) : (s.rawStore a bs).doms = s.doms := rfl
@[simp] theorem State.rawStore_fronds (a : Nat) (bs : List Byte) : (s.rawStore a bs).fronds = s.fronds := rfl
@[simp] theorem State.rawStore_srv (a : Nat) (bs : List Byte) : (s.rawStore a bs).srv = s.srv := rfl
@[simp] theorem State.rawStore_rcl (a : Nat) (bs : List Byte) : (s.rawStore a bs).rcl = s.rcl := rfl
@[simp] theorem State.rawStore_outs (a : Nat) (bs : List Byte) : (s.rawStore a bs).outs = s.outs := rfl
@[simp] theorem State.rawStore_tios (a : Nat) (bs : List Byte) : (s.rawStore a bs).tios = s.tios := rfl
@[simp] theorem State.rawStore_tdc (a : Nat) (bs : List Byte) : (s.rawStore a bs).tdc = s.tdc := rfl
@[simp] theorem State.rawStore_gns (a : Nat) (bs : List Byte) : (s.rawStore a bs).gns = s.gns := rfl
@[simp] theorem State.rawStore_key (a : Nat) (bs : List Byte) : (s.rawStore a bs).key = s.key := rfl
@[simp] theorem State.rawStore_lanes (a : Nat) (bs : List Byte) : (s.rawStore a bs).lanes = s.lanes := rfl
@[simp] theorem State.rawStore_tsv (a : Nat) (bs : List Byte) : (s.rawStore a bs).tsv = s.tsv := rfl
@[simp] theorem State.rawStore_twn (a : Nat) (bs : List Byte) : (s.rawStore a bs).twn = s.twn := rfl
@[simp] theorem State.rawStore_fctl (a : Nat) (bs : List Byte) : (s.rawStore a bs).fctl = s.fctl := rfl
@[simp] theorem State.rawStore_pwr (a : Nat) (bs : List Byte) : (s.rawStore a bs).pwr = s.pwr := rfl
@[simp] theorem State.rawStore_cfg (a : Nat) (bs : List Byte) : (s.rawStore a bs).cfg = s.cfg := rfl
@[simp] theorem State.rawStore_pcie (a : Nat) (bs : List Byte) : (s.rawStore a bs).pcie = s.pcie := rfl
@[simp] theorem State.rawStore_acc (a : Nat) (bs : List Byte) : (s.rawStore a bs).acc = s.acc := rfl
@[simp] theorem State.rawStore_jtag (a : Nat) (bs : List Byte) : (s.rawStore a bs).jtag = s.jtag := rfl
@[simp] theorem State.rawStore_alarm (a : Nat) (bs : List Byte) : (s.rawStore a bs).alarm = s.alarm := rfl
@[simp] theorem State.rawStore_free (a : Nat) (bs : List Byte) : (s.rawStore a bs).free = s.free := rfl
@[simp] theorem State.rawStore_rf (a : Nat) (bs : List Byte) (g : Fld) (m : Nat) : (s.rawStore a bs).rf g m = s.rf g m := rfl
@[simp] theorem State.rawStore_frond (a : Nat) (bs : List Byte) (h : Fin 16) : (s.rawStore a bs).frond h = s.frond h := rfl
@[simp] theorem State.rawStore_queue (a : Nat) (bs : List Byte) (j : Nat) : (s.rawStore a bs).queue j = s.queue j := rfl
@[simp] theorem State.rawStore_dom (a : Nat) (bs : List Byte) (e : Nat) : (s.rawStore a bs).dom e = s.dom e := rfl
@[simp] theorem State.rawStore_now (a : Nat) (bs : List Byte) : (s.rawStore a bs).now = s.now := rfl

/-! ## A field after a write -/

@[simp] theorem State.rf_wf_self (f : Fld) (v n : Nat) : (s.wf f v n).rf f n = v % 2 ^ f.width := by
  simp [State.rf, State.wf, tabGet_tabSet_self]

theorem State.rf_wf_ne (f g : Fld) (v n m : Nat) (h : f.key n ≠ g.key m) :
    (s.wf f v n).rf g m = s.rf g m := by
  simp [State.rf, State.wf, tabGet_tabSet_ne _ _ _ h]

/-- A field write keeps the canonical form of the register file. -/
theorem State.wf_regs_wf (f : Fld) (v n : Nat) (hw : tabWf s.regs = true) : tabWf (s.wf f v n).regs = true :=
  tabWf_tabSet _ _ _ hw

@[simp] theorem State.frond_setFrond_self (f : Fin 16) (x : Frond) : (s.setFrond f x).frond f = x := by
  simp [State.frond, State.setFrond]

theorem State.frond_setFrond_ne (f g : Fin 16) (x : Frond) (h : f ≠ g) : (s.setFrond f x).frond g = s.frond g := by
  have : f.val ≠ g.val := fun e => h (Fin.ext e)
  simp [State.frond, State.setFrond, this]

@[simp] theorem State.queue_setQueue_self (i : Nat) (q : Queue) : (s.setQueue i q).queue i = q := by
  simp [State.queue, State.setQueue, tabGet_tabSet_self]

theorem State.queue_setQueue_ne (i j : Nat) (q : Queue) (h : i ≠ j) :
    (s.setQueue i q).queue j = s.queue j := by
  simp [State.queue, State.setQueue, tabGet_tabSet_ne _ _ _ h]

end Sys2Proof.Machine
end

