-- ==== Sys2Proof/Laws/Ops.lean ====
section
/-! SUPPORT. What the shared operations of telling an event can do, said once: journal, event lines, performance counters, interrupt
sources, retirement. -/

namespace Sys2Proof.Machine
open Sys2Proof Reg

theorem State.ToldFrom.refl (s : State) : s.ToldFrom s :=
  ⟨rfl, fun _ => rfl, fun _ _ _ => rfl, fun _ _ => rfl⟩

theorem State.ToldFrom.trans {s t u : State} (a : s.ToldFrom t) (b : t.ToldFrom u) : s.ToldFrom u := by
  refine ⟨?_, fun f => ?_, fun g n h => ?_, fun i h => ?_⟩
  · rw [b.shape, a.shape]
  · rw [b.frond f, a.frond f]; rfl
  · rw [b.reg g n h, a.reg g n h]
  · rw [b.queue i h, a.queue i h]

/-- A field that no told key covers is read the same across a write of a told one. -/
theorem State.toldFrom_wf (s : State) (f : Fld) (v n : Nat) (h : toldKey (f.key n) = true) : s.ToldFrom (s.wf f v n) := by
  refine ⟨rfl, fun _ => rfl, fun g m hg => ?_, fun _ _ => rfl⟩
  exact State.rf_wf_ne s f g v n m (fun e => by rw [e, hg] at h; cases h)

theorem State.toldFrom_setFrond (s : State) (f : Fin 16) (x : Frond) (h : x = (s.frond f).withLines x) : s.ToldFrom (s.setFrond f x) := by
  refine ⟨rfl, fun g => ?_, fun _ _ _ => rfl, fun _ _ => rfl⟩
  by_cases e : f = g
  · subst e; rw [State.frond_setFrond_self]; exact h
  · rw [State.frond_setFrond_ne s f g x e]; rfl

theorem toldKey_ovf (d : Nat) (h : d < 44) : toldKey (JNL_OVFn_count.key d) = true := by
  simp [toldKey, Fld.key, JNL_OVFn_count]; omega

theorem toldKey_ovr (f : Fin 16) : toldKey (FRD_EVT_OVRn_count.key f.val) = true := by
  have := f.isLt
  simp [toldKey, Fld.key, FRD_EVT_OVRn_count]; omega

theorem toldKey_pend (n : Nat) (h : n < 512) : toldKey (SYS_IRQ_PENDw_pend.key (n / 32)) = true := by
  simp [toldKey, Fld.key, SYS_IRQ_PENDw_pend]; omega

theorem toldKey_cause (n : Nat) (h : n < 512) : toldKey (SYS_IRQ_CAUSEw_cause.key (n / 32)) = true := by
  simp [toldKey, Fld.key, SYS_IRQ_CAUSEw_cause]; omega

/-- A journal event, stored or counted as lost. -/
theorem State.journalAt_told (s : State) (d src code payload flags : Nat) (stamp : Int) (hd : d < 44) :
    s.ToldFrom (s.journalAt d src code payload flags stamp) := by
  unfold State.journalAt
  simp only
  split
  · refine ⟨rfl, fun _ => rfl, fun _ _ _ => rfl, fun i h => ?_⟩
    show (State.queue _ i) = _
    have hne : streamOf d ≠ i := by unfold streamOf; omega
    simp only [State.queue, State.setQueue, tabGet_tabSet_ne _ _ _ hne]
  · refine ⟨rfl, fun _ => rfl, fun g n h => ?_, fun _ _ => rfl⟩
    have hne : JNL_OVFn_count.key d ≠ g.key n := fun e => by
      have := toldKey_ovf d hd
      rw [e, h] at this; cases this
    simp only [State.rf, State.inc, State.add, State.wf, tabGet_tabSet_ne _ _ _ hne]

theorem State.journal_told (s : State) (d src code payload : Nat) (hd : d < 44) : s.ToldFrom (s.journal d src code payload) :=
  s.journalAt_told d src code payload 0 (s.domNow d) hd

theorem State.raiseLine0_told (s : State) (f : Fin 16) (l : Fin 64) (stamp : Int) : s.ToldFrom (s.raiseLine0 f l stamp) := by
  unfold State.raiseLine0
  simp only
  have h1 : s.ToldFrom (s.setFrond f ((s.frond f).raise l stamp)) := s.toldFrom_setFrond f _ rfl
  split
  · exact (h1.trans (State.toldFrom_wf _ _ _ _ (toldKey_ovr f))).trans (State.journal_told _ _ _ _ _ (by decide))
  · exact h1

theorem Frond.countOne_lines (x : Frond) (i : Fin 8) (k : Nat) : (x.countOne i k).1 = x.withLines (x.countOne i k).1 := rfl

theorem State.foldl_told {α : Type} (step : State → α → State) (h : ∀ (s : State) (a : α), s.ToldFrom (step s a)) (l : List α) (s : State) :
    s.ToldFrom (l.foldl step s) := by
  induction l generalizing s with
  | nil => exact State.ToldFrom.refl s
  | cons a t ih => exact (h s a).trans (ih (step s a))

theorem State.perfOnce_told (s : State) (f : Fin 16) (ev k : Nat) : s.ToldFrom (s.perfOnce f ev k).1 := by
  unfold State.perfOnce
  suffices H : ∀ (l : List (Fin 8)) (p : State × Nat), s.ToldFrom p.1 → s.ToldFrom (l.foldl _ p).1 from H _ _ (State.ToldFrom.refl s)
  intro l
  induction l with
  | nil => exact fun _ h => h
  | cons i t ih =>
    intro p h
    refine ih _ (h.trans ?_)
    dsimp only
    split
    · have h1 : p.1.ToldFrom (p.1.setFrond f ((p.1.frond f).countOne i k).1) := p.1.toldFrom_setFrond f _ rfl
      split
      · exact h1.trans (State.raiseLine0_told _ _ _ _)
      · exact h1
    · exact State.ToldFrom.refl p.1

theorem State.perfAll_told (n : Nat) (s : State) (f : Fin 16) (ev k : Nat) : s.ToldFrom (State.perfAll n s f ev k) := by
  induction n generalizing s ev k with
  | zero => exact s.perfOnce_told f ev k
  | succ n ih =>
    unfold State.perfAll
    dsimp only
    split
    · exact s.perfOnce_told f ev k
    · exact (s.perfOnce_told f ev k).trans (ih _ _ _)

theorem State.perf_told (s : State) (f : Fin 16) (ev k : Nat) : s.ToldFrom (s.perf f ev k) := s.perfAll_told 9 f ev k

theorem State.raiseLine_told (s : State) (f : Fin 16) (l : Fin 64) (stamp : Int) : s.ToldFrom (s.raiseLine f l stamp) := by
  unfold State.raiseLine
  simp only
  split
  · exact (s.raiseLine0_told f l stamp).trans (State.perf_told _ _ _ _)
  · exact s.raiseLine0_told f l stamp

theorem srcListed_lt {n : Nat} (h : srcListed n = true) : n < 512 := by
  simp [srcListed] at h; omega

/-- A source asserts (R462). -/
theorem State.assertSrc_told (s : State) (n : Nat) (stamp : Int) : s.ToldFrom (s.assertSrc n stamp) := by
  unfold State.assertSrc
  split
  · rename_i h
    have hn := srcListed_lt h
    simp only
    have h1 : s.ToldFrom (s.setBit32 SYS_IRQ_CAUSEw_cause n true) := State.toldFrom_wf _ _ _ _ (toldKey_cause n hn)
    have step2 : ∀ u : State, u.ToldFrom (if u.irqEn n = true then u.setBit32 SYS_IRQ_PENDw_pend n true else u) := by
      intro u
      split
      · exact State.toldFrom_wf _ _ _ _ (toldKey_pend n hn)
      · exact State.ToldFrom.refl u
    have step3 : ∀ u : State, u.ToldFrom (if n = 0 then u.raiseLine 0 0 stamp else u) := by
      intro u
      split
      · exact State.raiseLine_told _ _ _ _
      · exact State.ToldFrom.refl u
    have step4 : ∀ u : State, u.ToldFrom (u.raiseRoutes n stamp) := by
      intro u
      unfold State.raiseRoutes
      apply State.foldl_told
      intro v f
      simp only
      split
      · split
        · exact State.ToldFrom.refl v
        · exact State.raiseLine_told _ _ _ _
      · exact State.ToldFrom.refl v
    exact ((h1.trans (step2 _)).trans (step3 _)).trans (step4 _)
  · exact State.ToldFrom.refl s

theorem toldKey_cnt (k : Nat) (h : k < 16) : toldKey (PRF_CNTk_count.key k) = true := by
  simp [toldKey, Fld.key, PRF_CNTk_count]; omega

theorem toldKey_prfOvf : toldKey (PRF_OVF_ovf.key 0) = true := by decide

theorem State.prfAdd_told (s : State) (k n : Nat) (hk : k < 16) : s.ToldFrom (s.prfAdd k n) := by
  unfold State.prfAdd
  simp only
  have h1 : s.ToldFrom (s.wf PRF_CNTk_count (s.rf PRF_CNTk_count k + n) k) := State.toldFrom_wf _ _ _ _ (toldKey_cnt k hk)
  split
  · split
    · exact (h1.trans (State.toldFrom_wf _ _ _ _ toldKey_prfOvf)).trans (State.assertSrc_told _ _ _)
    · exact h1.trans (State.toldFrom_wf _ _ _ _ toldKey_prfOvf)
  · exact h1

/-- Shared counters count an event (R154). -/
theorem State.shared_told (s : State) (ev n : Nat) : s.ToldFrom (s.shared ev n) := by
  unfold State.shared
  suffices H : ∀ (l : List Nat) (s : State), (∀ k ∈ l, k < 16) → s.ToldFrom
      (l.foldl (fun s k => if s.rb PRF_SELk_en k = true ∧ s.rf PRF_SELk_event k = ev then s.prfAdd k n else s) s) from
    H _ s (fun k hk => by simpa using hk)
  intro l
  induction l with
  | nil => intro s _; exact State.ToldFrom.refl s
  | cons k t ih =>
    intro s hl
    have hk : k < 16 := hl k (by simp)
    refine State.ToldFrom.trans ?_ (ih _ (fun j hj => hl j (by simp [hj])))
    dsimp only
    split
    · exact State.prfAdd_told s k n hk
    · exact State.ToldFrom.refl s

/-! ## Consequences that later proofs cite -/

theorem State.ToldFrom.g {s t : State} (h : s.ToldFrom t) (f : Fin 16) : (t.frond f).g = (s.frond f).g := by rw [h.frond f]; rfl
theorem State.ToldFrom.t {s t : State} (h : s.ToldFrom t) (f : Fin 16) : (t.frond f).t = (s.frond f).t := by rw [h.frond f]; rfl
theorem State.ToldFrom.pc {s t : State} (h : s.ToldFrom t) (f : Fin 16) : (t.frond f).pc = (s.frond f).pc := by rw [h.frond f]; rfl
theorem State.ToldFrom.mem {s t : State} (h : s.ToldFrom t) : t.mem = s.mem := by rw [h.shape]
theorem State.ToldFrom.tm {s t : State} (h : s.ToldFrom t) : t.tm = s.tm := by rw [h.shape]
theorem State.ToldFrom.pending {s t : State} (h : s.ToldFrom t) : t.pending = s.pending := by rw [h.shape]

/-- Telling an event, and a Frond written whole before or after it: the writes agree but for its lines. -/
theorem State.ToldFrom.setFrond_both {s t : State} (h : s.ToldFrom t) (f : Fin 16) {x y : Frond} (hxy : y = x.withLines y) :
    (s.setFrond f x).ToldFrom (t.setFrond f y) := by
  refine ⟨?_, fun g => ?_, fun g n hg => h.reg g n hg, fun i hi => h.queue i hi⟩
  · have := h.shape
    rw [State.setFrond, State.setFrond, this]
  · by_cases e : f = g
    · subst e; rw [State.frond_setFrond_self, State.frond_setFrond_self]; exact hxy
    · rw [State.frond_setFrond_ne _ _ _ _ e, State.frond_setFrond_ne _ _ _ _ e]; exact h.frond g

/-- An instruction retires in the mode in which it ran (R151). -/
theorem State.retire_told (s : State) (f : Fin 16) (m : Bool) : s.ToldFrom (s.retire f m) := by
  unfold State.retire
  simp only
  generalize hx : ({ s.frond f with mode := m } : Frond) = x
  generalize hu : ((s.setFrond f x).perf f 1 1).perf f 2 1 = u
  have hp : (s.setFrond f x).ToldFrom u := by
    rw [← hu]; exact (State.perf_told _ _ _ _).trans (State.perf_told _ _ _ _)
  have hxm : x.withLines (u.frond f) = u.frond f := by
    have := hp.frond f
    rw [State.frond_setFrond_self] at this
    exact this.symm
  refine ⟨?_, fun g => ?_, fun g n h => ?_, fun i h => ?_⟩
  · have := hp.shape
    rw [State.setFrond] at this
    rw [this]; rfl
  · by_cases e : f = g
    · subst e
      rw [State.frond_setFrond_self, ← hxm, ← hx]; rfl
    · rw [State.frond_setFrond_ne _ _ _ _ e, hp.frond g, State.frond_setFrond_ne _ _ _ _ e]; rfl
  · exact hp.reg g n h
  · exact hp.queue i h

/-! ## The issue of an instruction, said once -/

/-- With no TSTEP on its way a Frond's instruction waits for no register of one. -/
theorem State.stepWrites_false {s : State} {f : Fin 16} (h : s.stepOut f = false) (l : List (BitVec 5)) : l.any (s.stepWrites f) = false := by
  have : ∀ r, s.stepWrites f r = false := fun r => by
    unfold State.stepWrites
    unfold State.stepOut at h
    rw [List.any_eq_false] at h
    simp only [Bool.and_eq_false_iff]
    refine .inr (List.any_eq_false.mpr fun c hc => ?_)
    have := h c hc
    simp_all
  rw [List.any_eq_false]
  exact fun r _ => by simp [this r]

/-- What an instruction comes to when nothing keeps it from issuing. -/
theorem State.frdIssue_eq {s u : State} {f : Fin 16} (uses : List (BitVec 5)) (body : State → FOut) (hi : s.issues f u) :
    s.frdIssue f uses body = u.frdFinish f (body u) := by
  unfold State.frdIssue
  simp [hi.1, hi.2.1, hi.2.2, State.stepWrites_false hi.2.1 uses]

/-- An instruction whose body is done: the program counter moves on and the retirement is counted. -/
theorem State.frdIssue_done {s u v : State} {f : Fin 16} {uses : List (BitVec 5)} {body : State → FOut} (hi : s.issues f u) (hb : body u = .done v) :
    (v.setPc f ((u.frond f).pc + 4)).ToldFrom (s.frdIssue f uses body) := by
  rw [State.frdIssue_eq uses body hi]
  simp only [hb, State.frdFinish]
  exact State.retire_told _ _ _

/-- Entry to the handler for an exception while no handler runs (R125). -/
theorem State.raiseExc_told (s : State) (f : Fin 16) (code fault trap : Nat) (resume : Word) (h : (s.frond f).inh = false) :
    (s.setFrond f ((s.frond f).enter code 0 trap fault (0x20 * code) resume)).ToldFrom (s.raiseExc f code fault trap resume) := by
  unfold State.raiseExc
  simp only [h, Bool.false_eq_true, if_false]
  have hp := s.perf_told f 0x0E 1
  generalize s.perf f 0x0E 1 = t at hp ⊢
  exact hp.setFrond_both f ((congrArg (fun z : Frond => z.enter code 0 trap fault (0x20 * code) resume) (hp.frond f)).trans rfl)

/-- An instruction whose body raises an exception. -/
theorem State.frdIssue_exc {s u : State} {f : Fin 16} {uses : List (BitVec 5)} {body : State → FOut} {code fault : Nat} (hi : s.issues f u)
    (hb : body u = .exc u code fault) (h : (u.frond f).inh = false) :
    (u.setFrond f ((u.frond f).enter code 0 0 fault (0x20 * code) (u.frond f).pc)).ToldFrom (s.frdIssue f uses body) := by
  rw [State.frdIssue_eq uses body hi]
  simp only [hb, State.frdFinish]
  exact State.raiseExc_told _ _ _ _ _ _ h

/-- A branch or jump to a place in instruction memory. -/
theorem State.frdIssue_jump {s u v : State} {f : Fin 16} {uses : List (BitVec 5)} {body : State → FOut} {a : Word} (hi : s.issues f u) (hb : body u = .jump v a)
    (ha : fetchOk a = true) : (v.setPc f a).ToldFrom (s.frdIssue f uses body) := by
  rw [State.frdIssue_eq uses body hi]
  simp only [hb, State.frdFinish, ha, if_true]
  exact State.retire_told _ _ _

/-- An instruction that holds at its place. -/
theorem State.frdIssue_hold {s u v : State} {f : Fin 16} {uses : List (BitVec 5)} {body : State → FOut} (hi : s.issues f u) (hb : body u = .hold v) :
    s.frdIssue f uses body = v := by
  rw [State.frdIssue_eq uses body hi]
  simp only [hb, State.frdFinish]

end Sys2Proof.Machine
end

