-- ==== Sys2Proof/Laws/PerInstr.lean ====
section
/-! SUPPORT. Per command: a command that is an instruction of a Frond encodes to a word with an assigned major opcode (R97). -/

namespace Sys2Proof.Laws.Major
open Sys2Proof

/-- The major opcodes that R97 assigns. -/
def assigned (m : Nat) : Bool :=
  decide (m ≤ 0x0A) || (decide (0x10 ≤ m) && decide (m ≤ 0x1D)) || (decide (0x20 ≤ m) && decide (m ≤ 0x34)) || (decide (0x38 ≤ m) && decide (m ≤ 0x3B))

def Statement (i : Instr) : Prop := ∀ f w, frondEncode i = some (f, w) → assigned (majorOf w) = true

theorem none_case {i : Instr} (h : frondEncode i = none) : Statement i := fun _ _ e => by rw [h] at e; cases e

theorem some_case {i : Instr} {f : Fin 16} {v : BitVec 32} (h : frondEncode i = some (f, v)) (hv : assigned (majorOf v) = true) : Statement i := by
  intro g w e
  rw [h] at e
  cases e
  exact hv

theorem major_of {m r : Nat} (hm : m < 64) (hr : r < 2 ^ 26) : majorOf (BitVec.ofNat 32 (m * 2 ^ 26 + r)) = m := by
  simp only [majorOf, fieldOf, BitVec.toNat_ofNat]
  omega

theorem major_wordR (m : Nat) (d a b : BitVec 5) (fn : Nat) (hm : m < 64) (hf : fn < 2048) : majorOf (wordR m d a b fn) = m := by
  have := d.isLt
  have := a.isLt
  have := b.isLt
  rw [wordR, show m * 2 ^ 26 + d.toNat * 2 ^ 21 + a.toNat * 2 ^ 16 + b.toNat * 2 ^ 11 + fn =
    m * 2 ^ 26 + (d.toNat * 2 ^ 21 + a.toNat * 2 ^ 16 + b.toNat * 2 ^ 11 + fn) by omega]
  exact major_of hm (by omega)

theorem major_wordI (m : Nat) (d a : BitVec 5) (i : Nat) (hm : m < 64) (hi : i < 65536) : majorOf (wordI m d a i) = m := by
  have := d.isLt
  have := a.isLt
  rw [wordI, show m * 2 ^ 26 + d.toNat * 2 ^ 21 + a.toNat * 2 ^ 16 + i = m * 2 ^ 26 + (d.toNat * 2 ^ 21 + a.toNat * 2 ^ 16 + i) by omega]
  exact major_of hm (by omega)

theorem major_wordB (m : Nat) (c : BitVec 5) (o : BitVec 21) (hm : m < 64) : majorOf (wordB m c o) = m := by
  have := c.isLt
  have := o.isLt
  rw [wordB, show m * 2 ^ 26 + c.toNat * 2 ^ 21 + o.toNat = m * 2 ^ 26 + (c.toNat * 2 ^ 21 + o.toNat) by omega]
  exact major_of hm (by omega)

theorem major_wordQ (m : Nat) (d a : BitVec 5) (k : BitVec 2) (q : BitVec 11) (hm : m < 64) : majorOf (wordQ m d a k q) = m := by
  have := d.isLt
  have := a.isLt
  have := k.isLt
  have := q.isLt
  rw [wordQ, show m * 2 ^ 26 + d.toNat * 2 ^ 21 + a.toNat * 2 ^ 16 + k.toNat * 2 ^ 14 + q.toNat =
    m * 2 ^ 26 + (d.toNat * 2 ^ 21 + a.toNat * 2 ^ 16 + k.toNat * 2 ^ 14 + q.toNat) by omega]
  exact major_of hm (by omega)

theorem spineTick (x0 : Int) : Statement (.spineTick x0) := none_case rfl
theorem millisecondStrobe (x0 : List (Fin 24 × BitVec 48)) : Statement (.millisecondStrobe x0) := none_case rfl
theorem tallyDrainCopy : Statement (.tallyDrainCopy) := none_case rfl
theorem tlyDrainTailWrite (x0 : Req) (x1 : BitVec 16) : Statement (.tlyDrainTailWrite x0 x1) := none_case rfl
theorem tlyDrainRingWrite (x0 : Req) (x1 : Bool) (x2 : BitVec 32) : Statement (.tlyDrainRingWrite x0 x1 x2) := none_case rfl
theorem queueEntryVisible (x0 : Fin 1792) : Statement (.queueEntryVisible x0) := none_case rfl
theorem creditReturn (x0 : Fin 1792) : Statement (.creditReturn x0) := none_case rfl
theorem interruptSourceAssert (x0 : Fin 512) (x1 : Int) : Statement (.interruptSourceAssert x0 x1) := none_case rfl
theorem msixMessageSend (x0 : Fin 64) : Statement (.msixMessageSend x0) := none_case rfl
theorem irqRouteWrite (x0 : Req) (x1 : Fin 512) (x2 : BitVec 32) : Statement (.irqRouteWrite x0 x1 x2) := none_case rfl
theorem readyBitChange (x0 : Fin 16) (x1 : Bool) : Statement (.readyBitChange x0 x1) := none_case rfl
theorem snapshotRequest (x0 : Req) : Statement (.snapshotRequest x0) := none_case rfl
theorem snapshotLatch : Statement (.snapshotLatch) := none_case rfl
theorem leapAdd (x0 : Req) : Statement (.leapAdd x0) := none_case rfl
theorem leapCancel (x0 : Req) (x1 : Fin 16) : Statement (.leapCancel x0 x1) := none_case rfl
theorem leapWarningStart : Statement (.leapWarningStart) := none_case rfl
theorem leapSecondStart : Statement (.leapSecondStart) := none_case rfl
theorem leapApply : Statement (.leapApply) := none_case rfl
theorem journalStreamPush (x0 : Fin 44) (x1 : BitVec 16) (x2 : BitVec 16) (x3 : BitVec 64) (x4 : Option Int) : Statement (.journalStreamPush x0 x1 x2 x3 x4) := none_case rfl
theorem gradebookMergeWrite : Statement (.gradebookMergeWrite) := none_case rfl
theorem gradebookDmaCopy : Statement (.gradebookDmaCopy) := none_case rfl
theorem jnlDmaTailWrite (x0 : Req) (x1 : BitVec 20) : Statement (.jnlDmaTailWrite x0 x1) := none_case rfl
theorem jnlDrainWaitExpire : Statement (.jnlDrainWaitExpire) := none_case rfl
theorem jnlHostPush (x0 : Req) : Statement (.jnlHostPush x0) := none_case rfl
theorem timeoutDeclare (x0 : Fin 16) : Statement (.timeoutDeclare x0) := none_case rfl
theorem add (x0 : Fin 16) (x1 : BitVec 5) (x2 : BitVec 5) (x3 : BitVec 5) : Statement (.add x0 x1 x2 x3) := some_case rfl (by rw [major_wordR _ _ _ _ _ (by decide) (by decide)]; decide)
theorem sub (x0 : Fin 16) (x1 : BitVec 5) (x2 : BitVec 5) (x3 : BitVec 5) : Statement (.sub x0 x1 x2 x3) := some_case rfl (by rw [major_wordR _ _ _ _ _ (by decide) (by decide)]; decide)
theorem and (x0 : Fin 16) (x1 : BitVec 5) (x2 : BitVec 5) (x3 : BitVec 5) : Statement (.and x0 x1 x2 x3) := some_case rfl (by rw [major_wordR _ _ _ _ _ (by decide) (by decide)]; decide)
theorem or (x0 : Fin 16) (x1 : BitVec 5) (x2 : BitVec 5) (x3 : BitVec 5) : Statement (.or x0 x1 x2 x3) := some_case rfl (by rw [major_wordR _ _ _ _ _ (by decide) (by decide)]; decide)
theorem xor (x0 : Fin 16) (x1 : BitVec 5) (x2 : BitVec 5) (x3 : BitVec 5) : Statement (.xor x0 x1 x2 x3) := some_case rfl (by rw [major_wordR _ _ _ _ _ (by decide) (by decide)]; decide)
theorem nor (x0 : Fin 16) (x1 : BitVec 5) (x2 : BitVec 5) (x3 : BitVec 5) : Statement (.nor x0 x1 x2 x3) := some_case rfl (by rw [major_wordR _ _ _ _ _ (by decide) (by decide)]; decide)
theorem slt (x0 : Fin 16) (x1 : BitVec 5) (x2 : BitVec 5) (x3 : BitVec 5) : Statement (.slt x0 x1 x2 x3) := some_case rfl (by rw [major_wordR _ _ _ _ _ (by decide) (by decide)]; decide)
theorem sltu (x0 : Fin 16) (x1 : BitVec 5) (x2 : BitVec 5) (x3 : BitVec 5) : Statement (.sltu x0 x1 x2 x3) := some_case rfl (by rw [major_wordR _ _ _ _ _ (by decide) (by decide)]; decide)
theorem sll (x0 : Fin 16) (x1 : BitVec 5) (x2 : BitVec 5) (x3 : BitVec 5) : Statement (.sll x0 x1 x2 x3) := some_case rfl (by rw [major_wordR _ _ _ _ _ (by decide) (by decide)]; decide)
theorem srl (x0 : Fin 16) (x1 : BitVec 5) (x2 : BitVec 5) (x3 : BitVec 5) : Statement (.srl x0 x1 x2 x3) := some_case rfl (by rw [major_wordR _ _ _ _ _ (by decide) (by decide)]; decide)
theorem sra (x0 : Fin 16) (x1 : BitVec 5) (x2 : BitVec 5) (x3 : BitVec 5) : Statement (.sra x0 x1 x2 x3) := some_case rfl (by rw [major_wordR _ _ _ _ _ (by decide) (by decide)]; decide)
theorem min (x0 : Fin 16) (x1 : BitVec 5) (x2 : BitVec 5) (x3 : BitVec 5) : Statement (.min x0 x1 x2 x3) := some_case rfl (by rw [major_wordR _ _ _ _ _ (by decide) (by decide)]; decide)
theorem max (x0 : Fin 16) (x1 : BitVec 5) (x2 : BitVec 5) (x3 : BitVec 5) : Statement (.max x0 x1 x2 x3) := some_case rfl (by rw [major_wordR _ _ _ _ _ (by decide) (by decide)]; decide)
theorem minu (x0 : Fin 16) (x1 : BitVec 5) (x2 : BitVec 5) (x3 : BitVec 5) : Statement (.minu x0 x1 x2 x3) := some_case rfl (by rw [major_wordR _ _ _ _ _ (by decide) (by decide)]; decide)
theorem maxu (x0 : Fin 16) (x1 : BitVec 5) (x2 : BitVec 5) (x3 : BitVec 5) : Statement (.maxu x0 x1 x2 x3) := some_case rfl (by rw [major_wordR _ _ _ _ _ (by decide) (by decide)]; decide)
theorem clz (x0 : Fin 16) (x1 : BitVec 5) (x2 : BitVec 5) : Statement (.clz x0 x1 x2) := some_case rfl (by rw [major_wordR _ _ _ _ _ (by decide) (by decide)]; decide)
theorem popc (x0 : Fin 16) (x1 : BitVec 5) (x2 : BitVec 5) : Statement (.popc x0 x1 x2) := some_case rfl (by rw [major_wordR _ _ _ _ _ (by decide) (by decide)]; decide)
theorem addi (x0 : Fin 16) (x1 : BitVec 5) (x2 : BitVec 5) (x3 : BitVec 16) : Statement (.addi x0 x1 x2 x3) := some_case rfl (by have := x3.isLt; rw [major_wordI _ _ _ _ (by decide) (by omega)]; decide)
theorem andi (x0 : Fin 16) (x1 : BitVec 5) (x2 : BitVec 5) (x3 : BitVec 16) : Statement (.andi x0 x1 x2 x3) := some_case rfl (by have := x3.isLt; rw [major_wordI _ _ _ _ (by decide) (by omega)]; decide)
theorem ori (x0 : Fin 16) (x1 : BitVec 5) (x2 : BitVec 5) (x3 : BitVec 16) : Statement (.ori x0 x1 x2 x3) := some_case rfl (by have := x3.isLt; rw [major_wordI _ _ _ _ (by decide) (by omega)]; decide)
theorem xori (x0 : Fin 16) (x1 : BitVec 5) (x2 : BitVec 5) (x3 : BitVec 16) : Statement (.xori x0 x1 x2 x3) := some_case rfl (by have := x3.isLt; rw [major_wordI _ _ _ _ (by decide) (by omega)]; decide)
theorem slti (x0 : Fin 16) (x1 : BitVec 5) (x2 : BitVec 5) (x3 : BitVec 16) : Statement (.slti x0 x1 x2 x3) := some_case rfl (by have := x3.isLt; rw [major_wordI _ _ _ _ (by decide) (by omega)]; decide)
theorem sltiu (x0 : Fin 16) (x1 : BitVec 5) (x2 : BitVec 5) (x3 : BitVec 16) : Statement (.sltiu x0 x1 x2 x3) := some_case rfl (by have := x3.isLt; rw [major_wordI _ _ _ _ (by decide) (by omega)]; decide)
theorem lui (x0 : Fin 16) (x1 : BitVec 5) (x2 : BitVec 16) : Statement (.lui x0 x1 x2) := some_case rfl (by have := x2.isLt; rw [major_wordI _ _ _ _ (by decide) (by omega)]; decide)
theorem slli (x0 : Fin 16) (x1 : BitVec 5) (x2 : BitVec 5) (x3 : BitVec 6) : Statement (.slli x0 x1 x2 x3) := some_case rfl (by have := x3.isLt; rw [major_wordI _ _ _ _ (by decide) (by omega)]; decide)
theorem srli (x0 : Fin 16) (x1 : BitVec 5) (x2 : BitVec 5) (x3 : BitVec 6) : Statement (.srli x0 x1 x2 x3) := some_case rfl (by have := x3.isLt; rw [major_wordI _ _ _ _ (by decide) (by omega)]; decide)
theorem srai (x0 : Fin 16) (x1 : BitVec 5) (x2 : BitVec 5) (x3 : BitVec 6) : Statement (.srai x0 x1 x2 x3) := some_case rfl (by have := x3.isLt; rw [major_wordI _ _ _ _ (by decide) (by omega)]; decide)
theorem mullo (x0 : Fin 16) (x1 : BitVec 5) (x2 : BitVec 5) (x3 : BitVec 5) : Statement (.mullo x0 x1 x2 x3) := some_case rfl (by rw [major_wordR _ _ _ _ _ (by decide) (by decide)]; decide)
theorem mulss (x0 : Fin 16) (x1 : BitVec 5) (x2 : BitVec 5) (x3 : BitVec 5) : Statement (.mulss x0 x1 x2 x3) := some_case rfl (by rw [major_wordR _ _ _ _ _ (by decide) (by decide)]; decide)
theorem muluu (x0 : Fin 16) (x1 : BitVec 5) (x2 : BitVec 5) (x3 : BitVec 5) : Statement (.muluu x0 x1 x2 x3) := some_case rfl (by rw [major_wordR _ _ _ _ _ (by decide) (by decide)]; decide)
theorem mulsu (x0 : Fin 16) (x1 : BitVec 5) (x2 : BitVec 5) (x3 : BitVec 5) : Statement (.mulsu x0 x1 x2 x3) := some_case rfl (by rw [major_wordR _ _ _ _ _ (by decide) (by decide)]; decide)
theorem divs (x0 : Fin 16) (x1 : BitVec 5) (x2 : BitVec 5) (x3 : BitVec 5) : Statement (.divs x0 x1 x2 x3) := some_case rfl (by rw [major_wordR _ _ _ _ _ (by decide) (by decide)]; decide)
theorem divu (x0 : Fin 16) (x1 : BitVec 5) (x2 : BitVec 5) (x3 : BitVec 5) : Statement (.divu x0 x1 x2 x3) := some_case rfl (by rw [major_wordR _ _ _ _ _ (by decide) (by decide)]; decide)
theorem tadd (x0 : Fin 16) (x1 : BitVec 5) (x2 : BitVec 5) (x3 : BitVec 5) : Statement (.tadd x0 x1 x2 x3) := some_case rfl (by rw [major_wordR _ _ _ _ _ (by decide) (by decide)]; decide)
theorem tsub (x0 : Fin 16) (x1 : BitVec 5) (x2 : BitVec 5) (x3 : BitVec 5) : Statement (.tsub x0 x1 x2 x3) := some_case rfl (by rw [major_wordR _ _ _ _ _ (by decide) (by decide)]; decide)
theorem taddd (x0 : Fin 16) (x1 : BitVec 5) (x2 : BitVec 5) (x3 : BitVec 5) : Statement (.taddd x0 x1 x2 x3) := some_case rfl (by rw [major_wordR _ _ _ _ _ (by decide) (by decide)]; decide)
theorem tsubd (x0 : Fin 16) (x1 : BitVec 5) (x2 : BitVec 5) (x3 : BitVec 5) : Statement (.tsubd x0 x1 x2 x3) := some_case rfl (by rw [major_wordR _ _ _ _ _ (by decide) (by decide)]; decide)
theorem tneg (x0 : Fin 16) (x1 : BitVec 5) (x2 : BitVec 5) : Statement (.tneg x0 x1 x2) := some_case rfl (by rw [major_wordR _ _ _ _ _ (by decide) (by decide)]; decide)
theorem tmov (x0 : Fin 16) (x1 : BitVec 5) (x2 : BitVec 5) : Statement (.tmov x0 x1 x2) := some_case rfl (by rw [major_wordR _ _ _ _ _ (by decide) (by decide)]; decide)
theorem tcmp (x0 : Fin 16) (x1 : BitVec 5) (x2 : BitVec 5) (x3 : BitVec 5) : Statement (.tcmp x0 x1 x2 x3) := some_case rfl (by rw [major_wordR _ _ _ _ _ (by decide) (by decide)]; decide)
theorem tcmpd (x0 : Fin 16) (x1 : BitVec 5) (x2 : BitVec 5) (x3 : BitVec 5) : Statement (.tcmpd x0 x1 x2 x3) := some_case rfl (by rw [major_wordR _ _ _ _ _ (by decide) (by decide)]; decide)
theorem tscl (x0 : Fin 16) (x1 : BitVec 5) (x2 : BitVec 5) (x3 : BitVec 5) : Statement (.tscl x0 x1 x2 x3) := some_case rfl (by rw [major_wordR _ _ _ _ _ (by decide) (by decide)]; decide)
theorem tjoin (x0 : Fin 16) (x1 : BitVec 5) (x2 : BitVec 5) (x3 : BitVec 5) : Statement (.tjoin x0 x1 x2 x3) := some_case rfl (by rw [major_wordR _ _ _ _ _ (by decide) (by decide)]; decide)
theorem tsecs (x0 : Fin 16) (x1 : BitVec 5) (x2 : BitVec 5) : Statement (.tsecs x0 x1 x2) := some_case rfl (by rw [major_wordR _ _ _ _ _ (by decide) (by decide)]; decide)
theorem tfrac (x0 : Fin 16) (x1 : BitVec 5) (x2 : BitVec 5) : Statement (.tfrac x0 x1 x2) := some_case rfl (by rw [major_wordR _ _ _ _ _ (by decide) (by decide)]; decide)
theorem tfrg (x0 : Fin 16) (x1 : BitVec 5) (x2 : BitVec 5) : Statement (.tfrg x0 x1 x2) := some_case rfl (by rw [major_wordR _ _ _ _ _ (by decide) (by decide)]; decide)
theorem ttog (x0 : Fin 16) (x1 : BitVec 5) (x2 : BitVec 5) : Statement (.ttog x0 x1 x2) := some_case rfl (by rw [major_wordR _ _ _ _ _ (by decide) (by decide)]; decide)
theorem lb (x0 : Fin 16) (x1 : BitVec 5) (x2 : BitVec 5) (x3 : BitVec 16) : Statement (.lb x0 x1 x2 x3) := some_case rfl (by have := x3.isLt; rw [major_wordI _ _ _ _ (by decide) (by omega)]; decide)
theorem lbu (x0 : Fin 16) (x1 : BitVec 5) (x2 : BitVec 5) (x3 : BitVec 16) : Statement (.lbu x0 x1 x2 x3) := some_case rfl (by have := x3.isLt; rw [major_wordI _ _ _ _ (by decide) (by omega)]; decide)
theorem lh (x0 : Fin 16) (x1 : BitVec 5) (x2 : BitVec 5) (x3 : BitVec 16) : Statement (.lh x0 x1 x2 x3) := some_case rfl (by have := x3.isLt; rw [major_wordI _ _ _ _ (by decide) (by omega)]; decide)
theorem lhu (x0 : Fin 16) (x1 : BitVec 5) (x2 : BitVec 5) (x3 : BitVec 16) : Statement (.lhu x0 x1 x2 x3) := some_case rfl (by have := x3.isLt; rw [major_wordI _ _ _ _ (by decide) (by omega)]; decide)
theorem lw (x0 : Fin 16) (x1 : BitVec 5) (x2 : BitVec 5) (x3 : BitVec 16) : Statement (.lw x0 x1 x2 x3) := some_case rfl (by have := x3.isLt; rw [major_wordI _ _ _ _ (by decide) (by omega)]; decide)
theorem lwu (x0 : Fin 16) (x1 : BitVec 5) (x2 : BitVec 5) (x3 : BitVec 16) : Statement (.lwu x0 x1 x2 x3) := some_case rfl (by have := x3.isLt; rw [major_wordI _ _ _ _ (by decide) (by omega)]; decide)
theorem ld (x0 : Fin 16) (x1 : BitVec 5) (x2 : BitVec 5) (x3 : BitVec 16) : Statement (.ld x0 x1 x2 x3) := some_case rfl (by have := x3.isLt; rw [major_wordI _ _ _ _ (by decide) (by omega)]; decide)
theorem ldt (x0 : Fin 16) (x1 : BitVec 5) (x2 : BitVec 5) (x3 : BitVec 16) : Statement (.ldt x0 x1 x2 x3) := some_case rfl (by have := x3.isLt; rw [major_wordI _ _ _ _ (by decide) (by omega)]; decide)
theorem sb (x0 : Fin 16) (x1 : BitVec 5) (x2 : BitVec 5) (x3 : BitVec 16) : Statement (.sb x0 x1 x2 x3) := some_case rfl (by have := x3.isLt; rw [major_wordI _ _ _ _ (by decide) (by omega)]; decide)
theorem sh (x0 : Fin 16) (x1 : BitVec 5) (x2 : BitVec 5) (x3 : BitVec 16) : Statement (.sh x0 x1 x2 x3) := some_case rfl (by have := x3.isLt; rw [major_wordI _ _ _ _ (by decide) (by omega)]; decide)
theorem sw (x0 : Fin 16) (x1 : BitVec 5) (x2 : BitVec 5) (x3 : BitVec 16) : Statement (.sw x0 x1 x2 x3) := some_case rfl (by have := x3.isLt; rw [major_wordI _ _ _ _ (by decide) (by omega)]; decide)
theorem sd (x0 : Fin 16) (x1 : BitVec 5) (x2 : BitVec 5) (x3 : BitVec 16) : Statement (.sd x0 x1 x2 x3) := some_case rfl (by have := x3.isLt; rw [major_wordI _ _ _ _ (by decide) (by omega)]; decide)
theorem stt (x0 : Fin 16) (x1 : BitVec 5) (x2 : BitVec 5) (x3 : BitVec 16) : Statement (.stt x0 x1 x2 x3) := some_case rfl (by have := x3.isLt; rw [major_wordI _ _ _ _ (by decide) (by omega)]; decide)
theorem aadd (x0 : Fin 16) (x1 : BitVec 5) (x2 : BitVec 5) (x3 : BitVec 5) : Statement (.aadd x0 x1 x2 x3) := some_case rfl (by rw [major_wordR _ _ _ _ _ (by decide) (by decide)]; decide)
theorem aswp (x0 : Fin 16) (x1 : BitVec 5) (x2 : BitVec 5) (x3 : BitVec 5) : Statement (.aswp x0 x1 x2 x3) := some_case rfl (by rw [major_wordR _ _ _ _ _ (by decide) (by decide)]; decide)
theorem aset (x0 : Fin 16) (x1 : BitVec 5) (x2 : BitVec 5) (x3 : BitVec 5) : Statement (.aset x0 x1 x2 x3) := some_case rfl (by rw [major_wordR _ _ _ _ _ (by decide) (by decide)]; decide)
theorem aclr (x0 : Fin 16) (x1 : BitVec 5) (x2 : BitVec 5) (x3 : BitVec 5) : Statement (.aclr x0 x1 x2 x3) := some_case rfl (by rw [major_wordR _ _ _ _ _ (by decide) (by decide)]; decide)
theorem amin (x0 : Fin 16) (x1 : BitVec 5) (x2 : BitVec 5) (x3 : BitVec 5) : Statement (.amin x0 x1 x2 x3) := some_case rfl (by rw [major_wordR _ _ _ _ _ (by decide) (by decide)]; decide)
theorem amax (x0 : Fin 16) (x1 : BitVec 5) (x2 : BitVec 5) (x3 : BitVec 5) : Statement (.amax x0 x1 x2 x3) := some_case rfl (by rw [major_wordR _ _ _ _ _ (by decide) (by decide)]; decide)
theorem acas (x0 : Fin 16) (x1 : BitVec 5) (x2 : BitVec 5) (x3 : BitVec 5) : Statement (.acas x0 x1 x2 x3) := some_case rfl (by rw [major_wordR _ _ _ _ _ (by decide) (by decide)]; decide)
theorem br (x0 : Fin 16) (x1 : BitVec 21) : Statement (.br x0 x1) := some_case rfl (by rw [major_wordB _ _ _ (by decide)]; decide)
theorem bl (x0 : Fin 16) (x1 : BitVec 21) : Statement (.bl x0 x1) := some_case rfl (by rw [major_wordB _ _ _ (by decide)]; decide)
theorem beqz (x0 : Fin 16) (x1 : BitVec 5) (x2 : BitVec 21) : Statement (.beqz x0 x1 x2) := some_case rfl (by rw [major_wordB _ _ _ (by decide)]; decide)
theorem bnez (x0 : Fin 16) (x1 : BitVec 5) (x2 : BitVec 21) : Statement (.bnez x0 x1 x2) := some_case rfl (by rw [major_wordB _ _ _ (by decide)]; decide)
theorem bltz (x0 : Fin 16) (x1 : BitVec 5) (x2 : BitVec 21) : Statement (.bltz x0 x1 x2) := some_case rfl (by rw [major_wordB _ _ _ (by decide)]; decide)
theorem bgez (x0 : Fin 16) (x1 : BitVec 5) (x2 : BitVec 21) : Statement (.bgez x0 x1 x2) := some_case rfl (by rw [major_wordB _ _ _ (by decide)]; decide)
theorem bto (x0 : Fin 16) (x1 : BitVec 21) : Statement (.bto x0 x1) := some_case rfl (by rw [major_wordB _ _ _ (by decide)]; decide)
theorem bnto (x0 : Fin 16) (x1 : BitVec 21) : Statement (.bnto x0 x1) := some_case rfl (by rw [major_wordB _ _ _ (by decide)]; decide)
theorem jr (x0 : Fin 16) (x1 : BitVec 5) : Statement (.jr x0 x1) := some_case rfl (by rw [major_wordR _ _ _ _ _ (by decide) (by decide)]; decide)
theorem jlr (x0 : Fin 16) (x1 : BitVec 5) (x2 : BitVec 5) : Statement (.jlr x0 x1 x2) := some_case rfl (by rw [major_wordR _ _ _ _ _ (by decide) (by decide)]; decide)
theorem ati (x0 : Fin 16) (x1 : BitVec 5) (x2 : BitVec 5) : Statement (.ati x0 x1 x2) := some_case rfl (by rw [major_wordR _ _ _ _ _ (by decide) (by decide)]; decide)
theorem atiRelease (x0 : Fin 16) : Statement (.atiRelease x0) := none_case rfl
theorem wtu (x0 : Fin 16) (x1 : BitVec 5) (x2 : BitVec 5) (x3 : BitVec 5) (x4 : BitVec 2) : Statement (.wtu x0 x1 x2 x3 x4) := some_case rfl (by rw [major_wordR _ _ _ _ _ (by decide) (by first | decide | exact Nat.lt_trans x4.isLt (by decide))]; decide)
theorem wfe (x0 : Fin 16) (x1 : BitVec 5) (x2 : BitVec 5) (x3 : BitVec 5) (x4 : BitVec 2) : Statement (.wfe x0 x1 x2 x3 x4) := some_case rfl (by rw [major_wordR _ _ _ _ _ (by decide) (by first | decide | exact Nat.lt_trans x4.isLt (by decide))]; decide)
theorem qpush (x0 : Fin 16) (x1 : BitVec 5) (x2 : BitVec 5) (x3 : BitVec 2) (x4 : BitVec 11) : Statement (.qpush x0 x1 x2 x3 x4) := some_case rfl (by rw [major_wordQ _ _ _ _ _ (by decide)]; decide)
theorem qpop (x0 : Fin 16) (x1 : BitVec 5) (x2 : BitVec 5) (x3 : BitVec 2) (x4 : BitVec 11) : Statement (.qpop x0 x1 x2 x3 x4) := some_case rfl (by rw [major_wordQ _ _ _ _ _ (by decide)]; decide)
theorem waitComplete (x0 : Fin 16) : Statement (.waitComplete x0) := none_case rfl
theorem stamp (x0 : Fin 16) (x1 : BitVec 5) (x2 : BitVec 16) : Statement (.stamp x0 x1 x2) := some_case rfl (by have := x2.isLt; rw [major_wordI _ _ _ _ (by decide) (by omega)]; decide)
theorem edge (x0 : Fin 16) (x1 : BitVec 5) (x2 : BitVec 5) (x3 : BitVec 5) : Statement (.edge x0 x1 x2 x3) := some_case rfl (by rw [major_wordR _ _ _ _ _ (by decide) (by decide)]; decide)
theorem tarm (x0 : Fin 16) (x1 : BitVec 5) (x2 : BitVec 5) (x3 : BitVec 5) : Statement (.tarm x0 x1 x2 x3) := some_case rfl (by rw [major_wordR _ _ _ _ _ (by decide) (by decide)]; decide)
theorem sfeed (x0 : Fin 16) (x1 : BitVec 5) (x2 : BitVec 5) (x3 : BitVec 5) : Statement (.sfeed x0 x1 x2 x3) := some_case rfl (by rw [major_wordR _ _ _ _ _ (by decide) (by decide)]; decide)
theorem tslew (x0 : Fin 16) (x1 : BitVec 5) (x2 : BitVec 5) (x3 : BitVec 5) : Statement (.tslew x0 x1 x2 x3) := some_case rfl (by rw [major_wordR _ _ _ _ _ (by decide) (by decide)]; decide)
theorem tstep (x0 : Fin 16) (x1 : BitVec 5) (x2 : BitVec 5) : Statement (.tstep x0 x1 x2) := some_case rfl (by rw [major_wordR _ _ _ _ _ (by decide) (by decide)]; decide)
theorem tstepApply : Statement (.tstepApply) := none_case rfl
theorem slewEnd : Statement (.slewEnd) := none_case rfl
theorem eret (x0 : Fin 16) : Statement (.eret x0) := some_case rfl (by rw [major_wordR _ _ _ _ _ (by decide) (by decide)]; decide)
theorem fence (x0 : Fin 16) : Statement (.fence x0) := some_case rfl (by rw [major_wordR _ _ _ _ _ (by decide) (by decide)]; decide)
theorem halt (x0 : Fin 16) : Statement (.halt x0) := some_case rfl (by rw [major_wordR _ _ _ _ _ (by decide) (by decide)]; decide)
theorem mfc (x0 : Fin 16) (x1 : BitVec 5) (x2 : BitVec 12) : Statement (.mfc x0 x1 x2) := some_case rfl (by have := x2.isLt; rw [major_wordI _ _ _ _ (by decide) (by omega)]; decide)
theorem mtc (x0 : Fin 16) (x1 : BitVec 5) (x2 : BitVec 12) : Statement (.mtc x0 x1 x2) := some_case rfl (by have := x2.isLt; rw [major_wordI _ _ _ _ (by decide) (by omega)]; decide)
theorem trap (x0 : Fin 16) (x1 : BitVec 16) : Statement (.trap x0 x1) := some_case rfl (by have := x1.isLt; rw [major_wordI _ _ _ _ (by decide) (by omega)]; decide)
theorem interruptEntry (x0 : Fin 16) : Statement (.interruptEntry x0) := none_case rfl
theorem perfCounterOverflow (x0 : Fin 16) (x1 : Fin 8) : Statement (.perfCounterOverflow x0 x1) := none_case rfl
theorem sharedCounterOverflow (x0 : Fin 16) : Statement (.sharedCounterOverflow x0) := none_case rfl
theorem frdHalt (x0 : Req) (x1 : Fin 16) : Statement (.frdHalt x0 x1) := none_case rfl
theorem frdRestart (x0 : Req) (x1 : Fin 16) : Statement (.frdRestart x0 x1) := none_case rfl
theorem frdStage (x0 : Req) (x1 : Fin 16) : Statement (.frdStage x0 x1) := none_case rfl
theorem stageComplete : Statement (.stageComplete) := none_case rfl
theorem frdSwap (x0 : Req) (x1 : Fin 16) : Statement (.frdSwap x0 x1) := none_case rfl
theorem swapComplete : Statement (.swapComplete) := none_case rfl
theorem frdUnstage (x0 : Req) (x1 : Fin 16) : Statement (.frdUnstage x0 x1) := none_case rfl
theorem oscFreqDetect (x0 : Fin 2) (x1 : Nat) : Statement (.oscFreqDetect x0 x1) := none_case rfl
theorem chainLock (x0 : Fin 2) (x1 : Int) (x2 : Int) : Statement (.chainLock x0 x1 x2) := none_case rfl
theorem chainLost (x0 : Fin 2) (x1 : Bool) (x2 : Int) : Statement (.chainLost x0 x1 x2) := none_case rfl
theorem crossMonitorTrip (x0 : Int) : Statement (.crossMonitorTrip x0) := none_case rfl
theorem xdisputeClear : Statement (.xdisputeClear) := none_case rfl
theorem synOscConfigWrite (x0 : Req) (x1 : Fin 2) (x2 : BitVec 32) (x3 : Int) : Statement (.synOscConfigWrite x0 x1 x2 x3) := none_case rfl
theorem synSwitch (x0 : Req) (x1 : Int) : Statement (.synSwitch x0 x1) := none_case rfl
theorem timebaseRevert (x0 : Int) : Statement (.timebaseRevert x0) := none_case rfl
theorem synAgeingCommit (x0 : Req) (x1 : Fin 2) : Statement (.synAgeingCommit x0 x1) := none_case rfl
theorem tuneCodeStep : Statement (.tuneCodeStep) := none_case rfl
theorem outEnableWrite (x0 : Req) (x1 : Fin 36) (x2 : BitVec 32) : Statement (.outEnableWrite x0 x1 x2) := none_case rfl
theorem outFreqChange (x0 : Req) (x1 : Fin 36) (x2 : OutPlan) : Statement (.outFreqChange x0 x1 x2) := none_case rfl
theorem glideTargetReached (x0 : Fin 36) : Statement (.glideTargetReached x0) := none_case rfl
theorem outMdllSearchDone (x0 : Fin 36) : Statement (.outMdllSearchDone x0) := none_case rfl
theorem outSyncBoundary (x0 : Fin 36) : Statement (.outSyncBoundary x0) := none_case rfl
theorem syncEdge (x0 : Fin 32) : Statement (.syncEdge x0) := none_case rfl
theorem bellPulse (x0 : Fin 32) : Statement (.bellPulse x0) := none_case rfl
theorem bellConfigWrite (x0 : Req) (x1 : Fin 32) (x2 : BellReg) (x3 : BitVec 32) : Statement (.bellConfigWrite x0 x1 x2 x3) := none_case rfl
theorem bellAlignInputEdge (x0 : Fin 32) : Statement (.bellAlignInputEdge x0) := none_case rfl
theorem tioCfgWrite (x0 : Req) (x1 : Fin 32) (x2 : BitVec 32) : Statement (.tioCfgWrite x0 x1 x2) := none_case rfl
theorem edgeTake (x0 : Fin 32) : Statement (.edgeTake x0) := none_case rfl
theorem edgePlace (x0 : Fin 32) : Statement (.edgePlace x0) := none_case rfl
theorem todOutStart (x0 : Fin 32) : Statement (.todOutStart x0) := none_case rfl
theorem todInCharacter (x0 : Fin 32) (x1 : BitVec 8) (x2 : Bool) (x3 : Int) : Statement (.todInCharacter x0 x1 x2 x3) := none_case rfl
theorem loopbackCalBurst (x0 : Fin 32) : Statement (.loopbackCalBurst x0) := none_case rfl
theorem loopbackCalComplete (x0 : Fin 32) : Statement (.loopbackCalComplete x0) := none_case rfl
theorem tdcArm (x0 : Req) (x1 : Fin 40) : Statement (.tdcArm x0 x1) := none_case rfl
theorem tdcDisarm (x0 : Req) (x1 : Fin 40) : Statement (.tdcDisarm x0 x1) := none_case rfl
theorem tdcScheduledArm (x0 : Fin 40) : Statement (.tdcScheduledArm x0) := none_case rfl
theorem tdcConfigWrite (x0 : Req) (x1 : Fin 40) (x2 : TdcReg) (x3 : BitVec 32) : Statement (.tdcConfigWrite x0 x1 x2 x3) := none_case rfl
theorem tdcEdgeCapture (x0 : Fin 40) (x1 : BitVec 8) (x2 : Bool) (x3 : Fin 8) (x4 : Fin 256) : Statement (.tdcEdgeCapture x0 x1 x2 x3 x4) := none_case rfl
theorem tdcLimitExpire (x0 : Fin 40) : Statement (.tdcLimitExpire x0) := none_case rfl
theorem tdcRearm (x0 : Fin 40) : Statement (.tdcRearm x0) := none_case rfl
theorem tdcClaimChange (x0 : Fin 40) : Statement (.tdcClaimChange x0) := none_case rfl
theorem tdcStartupCalDone (x0 : BitVec 16) (x1 : List (List Nat)) : Statement (.tdcStartupCalDone x0 x1) := none_case rfl
theorem tdcBgTableReady (x0 : Fin 40) (x1 : BitVec 16) (x2 : List Nat) : Statement (.tdcBgTableReady x0 x1 x2) := none_case rfl
theorem mossRoundWake (x0 : Fin 40) : Statement (.mossRoundWake x0) := none_case rfl
theorem mossRoundEnd (x0 : Fin 40) : Statement (.mossRoundEnd x0) := none_case rfl
theorem mossGRound (x0 : Fin 4) (x1 : List Byte) (x2 : Option (BitVec 32)) : Statement (.mossGRound x0 x1 x2) := none_case rfl
theorem mossGRoundEnd (x0 : Fin 4) : Statement (.mossGRoundEnd x0) := none_case rfl
theorem mossGRelease (x0 : Req) (x1 : Fin 4) : Statement (.mossGRelease x0 x1) := none_case rfl
theorem rclSlotConfigWrite (x0 : Req) (x1 : Fin 24) (x2 : BitVec 32) : Statement (.rclSlotConfigWrite x0 x1 x2) := none_case rfl
theorem rclMeasurement (x0 : Fin 24) : Statement (.rclMeasurement x0) := none_case rfl
theorem rclQualTimerExpire (x0 : Fin 24) : Statement (.rclQualTimerExpire x0) := none_case rfl
theorem rclMiss (x0 : Fin 24) : Statement (.rclMiss x0) := none_case rfl
theorem rclCommit : Statement (.rclCommit) := none_case rfl
theorem rclSlewStart : Statement (.rclSlewStart) := none_case rfl
theorem rclWtrExpire (x0 : Fin 24) : Statement (.rclWtrExpire x0) := none_case rfl
theorem rclSettleComplete (x0 : Fin 24) : Statement (.rclSettleComplete x0) := none_case rfl
theorem rclForce (x0 : Req) (x1 : Fin 32) : Statement (.rclForce x0 x1) := none_case rfl
theorem rclUnforce (x0 : Req) (x1 : Fin 32) : Statement (.rclUnforce x0 x1) := none_case rfl
theorem rclReadmit (x0 : Req) (x1 : Fin 32) : Statement (.rclReadmit x0 x1) := none_case rfl
theorem rclSkipWtr (x0 : Req) (x1 : Fin 32) : Statement (.rclSkipWtr x0 x1) := none_case rfl
theorem rclReeval (x0 : Req) (x1 : Fin 32) : Statement (.rclReeval x0 x1) := none_case rfl
theorem servoFeedTake (x0 : Fin 3) : Statement (.servoFeedTake x0) := none_case rfl
theorem spineSecond : Statement (.spineSecond) := none_case rfl
theorem servoAccept (x0 : Req) : Statement (.servoAccept x0) := none_case rfl
theorem servoDismiss (x0 : Req) : Statement (.servoDismiss x0) := none_case rfl
theorem servoReset (x0 : Req) : Statement (.servoReset x0) := none_case rfl
theorem servoRestore : Statement (.servoRestore) := none_case rfl
theorem gnssPortStart (x0 : Fin 4) : Statement (.gnssPortStart x0) := none_case rfl
theorem gnssPortStop (x0 : Fin 4) : Statement (.gnssPortStop x0) := none_case rfl
theorem gnssPortConfigWrite (x0 : Req) (x1 : Fin 4) (x2 : BitVec 32) : Statement (.gnssPortConfigWrite x0 x1 x2) := none_case rfl
theorem gnssEpoch (x0 : Fin 4) (x1 : Fin 131072) (x2 : List Byte) (x3 : List Byte) : Statement (.gnssEpoch x0 x1 x2 x3) := none_case rfl
theorem gnssDumpReady (x0 : Fin 4) : Statement (.gnssDumpReady x0) := none_case rfl
theorem gnssChannelStart (x0 : Req) (x1 : Fin 512) (x2 : Fin 81840) : Statement (.gnssChannelStart x0 x1 x2) := none_case rfl
theorem gnssChannelStop (x0 : Req) (x1 : Fin 512) : Statement (.gnssChannelStop x0 x1) := none_case rfl
theorem gnssChannelCommit (x0 : Req) (x1 : Fin 512) : Statement (.gnssChannelCommit x0 x1) := none_case rfl
theorem gnssPendingStart (x0 : Fin 512) : Statement (.gnssPendingStart x0) := none_case rfl
theorem gnssDumpBoundary (x0 : Fin 512) (x1 : List Byte) : Statement (.gnssDumpBoundary x0 x1) := none_case rfl
theorem gnssDumpRingWrite (x0 : Fin 4) : Statement (.gnssDumpRingWrite x0) := none_case rfl
theorem gnssXlatchArm (x0 : Req) : Statement (.gnssXlatchArm x0) := none_case rfl
theorem gnssXlatchCapture (x0 : Fin 4) : Statement (.gnssXlatchCapture x0) := none_case rfl
theorem gnssSolBoundWrite (x0 : Req) (x1 : Fin 5) (x2 : BitVec 32) : Statement (.gnssSolBoundWrite x0 x1 x2) := none_case rfl
theorem gnssSolBoundExpire (x0 : Fin 5) : Statement (.gnssSolBoundExpire x0) := none_case rfl
theorem gnssAcqSubmit (x0 : Req) (x1 : Fin 64) : Statement (.gnssAcqSubmit x0 x1) := none_case rfl
theorem gnssAcqRequestStart : Statement (.gnssAcqRequestStart) := none_case rfl
theorem gnssAcqRequestComplete : Statement (.gnssAcqRequestComplete) := none_case rfl
theorem gnssSnapGo (x0 : Req) : Statement (.gnssSnapGo x0) := none_case rfl
theorem gnssSnapAbort (x0 : Req) : Statement (.gnssSnapAbort x0) := none_case rfl
theorem gnssSnapCaptureStart (x0 : Fin 4) : Statement (.gnssSnapCaptureStart x0) := none_case rfl
theorem gnssSnapComplete : Statement (.gnssSnapComplete) := none_case rfl
theorem macModeWrite (x0 : Req) (x1 : Fin 32) (x2 : BitVec 32) : Statement (.macModeWrite x0 x1 x2) := none_case rfl
theorem linkUp (x0 : Fin 32) (x1 : BitVec 32) (x2 : BitVec 32) : Statement (.linkUp x0 x1 x2) := none_case rfl
theorem linkDown (x0 : Fin 32) : Statement (.linkDown x0) := none_case rfl
theorem frameReceive (x0 : Fin 32) (x1 : Rx) : Statement (.frameReceive x0 x1) := none_case rfl
theorem macCntSnap (x0 : Req) (x1 : Fin 32) (x2 : Bool) : Statement (.macCntSnap x0 x1 x2) := none_case rfl
theorem timedRequest (x0 : Fin 32) : Statement (.timedRequest x0) := none_case rfl
theorem launchReadyLine (x0 : Fin 32) : Statement (.launchReadyLine x0) := none_case rfl
theorem frameLaunch (x0 : Fin 32) : Statement (.frameLaunch x0) := none_case rfl
theorem txDescriptorSubmit (x0 : Fin 32) : Statement (.txDescriptorSubmit x0) := none_case rfl
theorem preemptStateChange (x0 : Fin 32) (x1 : BitVec 2) : Statement (.preemptStateChange x0 x1) := none_case rfl
theorem esmcTimeout (x0 : Fin 32) : Statement (.esmcTimeout x0) := none_case rfl
theorem esmcInfoTx (x0 : Fin 32) : Statement (.esmcInfoTx x0) := none_case rfl
theorem macSelfCal (x0 : Req) (x1 : Fin 32) : Statement (.macSelfCal x0 x1) := none_case rfl
theorem macSelfCalComplete (x0 : Fin 32) (x1 : Int) : Statement (.macSelfCalComplete x0 x1) := none_case rfl
theorem tsvPacketTake (x0 : Fin 32) : Statement (.tsvPacketTake x0) := none_case rfl
theorem ntpRequest : Statement (.ntpRequest) := none_case rfl
theorem ntsRequest : Statement (.ntsRequest) := none_case rfl
theorem ptpDelayReq : Statement (.ptpDelayReq) := none_case rfl
theorem ptpPdelayReq : Statement (.ptpPdelayReq) := none_case rfl
theorem ptpPdelayResp : Statement (.ptpPdelayResp) := none_case rfl
theorem ptpUnicastSignaling : Statement (.ptpUnicastSignaling) := none_case rfl
theorem ptpForeignMessage : Statement (.ptpForeignMessage) := none_case rfl
theorem ptpForwardMessage : Statement (.ptpForwardMessage) := none_case rfl
theorem upstreamMessage : Statement (.upstreamMessage) := none_case rfl
theorem ptpMulticastTx (x0 : Fin 32) : Statement (.ptpMulticastTx x0) := none_case rfl
theorem ptpPdelayReqTx (x0 : Fin 32) : Statement (.ptpPdelayReqTx x0) := none_case rfl
theorem ptpUnicastSyncTx (x0 : Fin 16384) : Statement (.ptpUnicastSyncTx x0) := none_case rfl
theorem unicastGrantExpire (x0 : Fin 16384) : Statement (.unicastGrantExpire x0) := none_case rfl
theorem upstreamSessionEnable (x0 : Req) (x1 : Fin 8) (x2 : BitVec 32) : Statement (.upstreamSessionEnable x0 x1 x2) := none_case rfl
theorem upstreamDelayReqTx (x0 : Fin 8) : Statement (.upstreamDelayReqTx x0) := none_case rfl
theorem upstreamGrantRenew (x0 : Fin 8) : Statement (.upstreamGrantRenew x0) := none_case rfl
theorem upstreamAnnounceTimeout (x0 : Fin 8) : Statement (.upstreamAnnounceTimeout x0) := none_case rfl
theorem upstreamSettleComplete (x0 : Fin 8) : Statement (.upstreamSettleComplete x0) := none_case rfl
theorem upstreamResume (x0 : Req) (x1 : Fin 8) : Statement (.upstreamResume x0 x1) := none_case rfl
theorem sealedMessageSubmit : Statement (.sealedMessageSubmit) := none_case rfl
theorem cookieRotation : Statement (.cookieRotation) := none_case rfl
theorem keSign : Statement (.keSign) := none_case rfl
theorem keMint : Statement (.keMint) := none_case rfl
theorem tsvCntSnap (x0 : Req) (x1 : Bool) : Statement (.tsvCntSnap x0 x1) := none_case rfl
theorem trngReseed : Statement (.trngReseed) := none_case rfl
theorem trngHealthFail (x0 : Bool) : Statement (.trngHealthFail x0) := none_case rfl
theorem keyUnseal (x0 : Req) : Statement (.keyUnseal x0) := none_case rfl
theorem keyUpdateImport (x0 : Req) : Statement (.keyUpdateImport x0) := none_case rfl
theorem keyUpdateGenerate (x0 : Req) : Statement (.keyUpdateGenerate x0) := none_case rfl
theorem keyUpdateDerive (x0 : Req) : Statement (.keyUpdateDerive x0) := none_case rfl
theorem keyUpdateErase (x0 : Req) : Statement (.keyUpdateErase x0) := none_case rfl
theorem keyUpdateOwner (x0 : Req) : Statement (.keyUpdateOwner x0) := none_case rfl
theorem keyUpdateReseal (x0 : Req) : Statement (.keyUpdateReseal x0) := none_case rfl
theorem keyUpdatePair (x0 : Req) : Statement (.keyUpdatePair x0) := none_case rfl
theorem keyCommitComplete (x0 : Bool) : Statement (.keyCommitComplete x0) := none_case rfl
theorem keyAuthorise (x0 : Req) (x1 : Fin 16) : Statement (.keyAuthorise x0 x1) := none_case rfl
theorem keyAuthoriseExpire (x0 : Fin 16) : Statement (.keyAuthoriseExpire x0) := none_case rfl
theorem keyPrepare (x0 : Req) : Statement (.keyPrepare x0) := none_case rfl
theorem keyAttest (x0 : Req) (x1 : Fin 1024) : Statement (.keyAttest x0 x1) := none_case rfl
theorem keyQuote (x0 : Req) : Statement (.keyQuote x0) := none_case rfl
theorem keyCsr (x0 : Req) : Statement (.keyCsr x0) := none_case rfl
theorem keyTransport (x0 : Req) : Statement (.keyTransport x0) := none_case rfl
theorem keyPin (x0 : Req) : Statement (.keyPin x0) := none_case rfl
theorem keyUseSeal : Statement (.keyUseSeal) := none_case rfl
theorem keyUseOpen : Statement (.keyUseOpen) := none_case rfl
theorem keyUseWrap : Statement (.keyUseWrap) := none_case rfl
theorem keyUseMac : Statement (.keyUseMac) := none_case rfl
theorem keyUseVerify : Statement (.keyUseVerify) := none_case rfl
theorem keyUseSign : Statement (.keyUseSign) := none_case rfl
theorem keyUsePubkey : Statement (.keyUsePubkey) := none_case rfl
theorem keyRemask : Statement (.keyRemask) := none_case rfl
theorem twinConfigWrite (x0 : Req) (x1 : BitVec 32) : Statement (.twinConfigWrite x0 x1) := none_case rfl
theorem twinLinkUp (x0 : Machine.PairMsg) : Statement (.twinLinkUp x0) := none_case rfl
theorem twinClaim : Statement (.twinClaim) := none_case rfl
theorem twinHeartbeatSend : Statement (.twinHeartbeatSend) := none_case rfl
theorem twinHeartbeatReceive (x0 : HbIn) : Statement (.twinHeartbeatReceive x0) := none_case rfl
theorem twinPartnerLost : Statement (.twinPartnerLost) := none_case rfl
theorem twinFaultReceive : Statement (.twinFaultReceive) := none_case rfl
theorem twinYieldRequestReceive : Statement (.twinYieldRequestReceive) := none_case rfl
theorem twinYieldReceive : Statement (.twinYieldReceive) := none_case rfl
theorem twinKick (x0 : Req) : Statement (.twinKick x0) := none_case rfl
theorem twinKickLapse : Statement (.twinKickLapse) := none_case rfl
theorem satchelApply (x0 : Machine.Bytes) : Statement (.satchelApply x0) := none_case rfl
theorem twinCompareSecond : Statement (.twinCompareSecond) := none_case rfl
theorem twinYieldTimeout : Statement (.twinYieldTimeout) := none_case rfl
theorem twinSwap (x0 : TwnBy) (x1 : Bool) : Statement (.twinSwap x0 x1) := none_case rfl
theorem twinSwapAbort (x0 : TwnBy) : Statement (.twinSwapAbort x0) := none_case rfl
theorem twinResync (x0 : TwnBy) : Statement (.twinResync x0) := none_case rfl
theorem twinSwapHandover (x0 : Bool) : Statement (.twinSwapHandover x0) := none_case rfl
theorem twinSwapBack : Statement (.twinSwapBack) := none_case rfl
theorem twinRevertWtrExpire : Statement (.twinRevertWtrExpire) := none_case rfl
theorem aliasWrite (x0 : Req) (x1 : Bool) (x2 : BitVec 24) (x3 : List (BitVec 8)) : Statement (.aliasWrite x0 x1 x2 x3) := none_case rfl
theorem doorbellSet (x0 : Req) (x1 : Fin 4) (x2 : Bool) : Statement (.doorbellSet x0 x1 x2) := none_case rfl
theorem doorbellClear (x0 : Req) (x1 : Fin 4) (x2 : Bool) : Statement (.doorbellClear x0 x1 x2) := none_case rfl
theorem memTestRegion (x0 : Bool) : Statement (.memTestRegion x0) := none_case rfl
theorem pwrOn (x0 : Req) (x1 : Fin 64) (x2 : Bool) : Statement (.pwrOn x0 x1 x2) := none_case rfl
theorem pwrIdle (x0 : Req) (x1 : Fin 64) : Statement (.pwrIdle x0 x1) := none_case rfl
theorem pwrMoss (x0 : Req) (x1 : Fin 64) : Statement (.pwrMoss x0 x1) := none_case rfl
theorem pwrRetain (x0 : Req) (x1 : Fin 64) : Statement (.pwrRetain x0 x1) := none_case rfl
theorem pwrOff (x0 : Req) (x1 : Fin 64) : Statement (.pwrOff x0 x1) := none_case rfl
theorem pwrTransitionComplete (x0 : List (Nat × BitVec 8)) : Statement (.pwrTransitionComplete x0) := none_case rfl
theorem periodicCheckpoint (x0 : List (Fin 20)) : Statement (.periodicCheckpoint x0) := none_case rfl
theorem checkpointWriteComplete : Statement (.checkpointWriteComplete) := none_case rfl
theorem pfailWarning (x0 : Bool) : Statement (.pfailWarning x0) := none_case rfl
theorem finalCheckpointComplete : Statement (.finalCheckpointComplete) := none_case rfl
theorem pfailRelease : Statement (.pfailRelease) := none_case rfl
theorem resetNAssert (x0 : Bool) : Statement (.resetNAssert x0) := none_case rfl
theorem vddAonPowerOn : Statement (.vddAonPowerOn) := none_case rfl
theorem vddCoreLoss (x0 : Bool) : Statement (.vddCoreLoss x0) := none_case rfl
theorem vddCoreReturn : Statement (.vddCoreReturn) := none_case rfl
theorem chipReset (x0 : Bool) (x1 : BitVec 63) : Statement (.chipReset x0 x1) := none_case rfl
theorem restartRestore (x0 : BitVec 63) : Statement (.restartRestore x0) := none_case rfl
theorem configSlotApply (x0 : Bool) (x1 : Bool) : Statement (.configSlotApply x0 x1) := none_case rfl
theorem prefectBootLoad : Statement (.prefectBootLoad) := none_case rfl
theorem flashRead (x0 : Req) : Statement (.flashRead x0) := none_case rfl
theorem flashProgram (x0 : Req) : Statement (.flashProgram x0) := none_case rfl
theorem flashErase (x0 : Req) : Statement (.flashErase x0) := none_case rfl
theorem flashComplete (x0 : Bool) : Statement (.flashComplete x0) := none_case rfl
theorem pcieFunctionReset (x0 : Bool) : Statement (.pcieFunctionReset x0) := none_case rfl
theorem multiwordLoRead (x0 : Req) (x1 : Bool) (x2 : BitVec 24) : Statement (.multiwordLoRead x0 x1 x2) := none_case rfl
theorem multiwordLowerWrite (x0 : Req) (x1 : BitVec 24) (x2 : BitVec 32) : Statement (.multiwordLowerWrite x0 x1 x2) := none_case rfl
theorem multiwordHighWrite (x0 : Req) (x1 : BitVec 24) (x2 : BitVec 32) : Statement (.multiwordHighWrite x0 x1 x2) := none_case rfl
theorem badAccess (x0 : Req) (x1 : BitVec 26) (x2 : Nat) (x3 : Bool) : Statement (.badAccess x0 x1 x2 x3) := none_case rfl
theorem mgmtSpiRead (x0 : Bool) (x1 : BitVec 24) (x2 : Nat) (x3 : Bool) : Statement (.mgmtSpiRead x0 x1 x2 x3) := none_case rfl
theorem mgmtSpiWrite (x0 : Bool) (x1 : BitVec 24) (x2 : List (BitVec 32)) (x3 : Bool) : Statement (.mgmtSpiWrite x0 x1 x2 x3) := none_case rfl
theorem jtagBypass (x0 : List Bool) : Statement (.jtagBypass x0) := none_case rfl
theorem jtagIdcode : Statement (.jtagIdcode) := none_case rfl
theorem jtagSamplePreload (x0 : List Bool) (x1 : List Bool) : Statement (.jtagSamplePreload x0 x1) := none_case rfl
theorem jtagExtest (x0 : List Bool) (x1 : List Bool) : Statement (.jtagExtest x0 x1) := none_case rfl
theorem jtagClamp (x0 : List Bool) : Statement (.jtagClamp x0) := none_case rfl
theorem jtagHighz (x0 : List Bool) : Statement (.jtagHighz x0) := none_case rfl
theorem jtagDebugUnlock (x0 : Machine.Bytes) : Statement (.jtagDebugUnlock x0) := none_case rfl
theorem registerWrite (x0 : Req) (x1 : Bool) (x2 : BitVec 24) (x3 : BitVec 32) : Statement (.registerWrite x0 x1 x2 x3) := none_case rfl
theorem twnActiveNChange (x0 : Bool) : Statement (.twnActiveNChange x0) := none_case rfl
theorem twinLinkDown : Statement (.twinLinkDown) := none_case rfl
theorem tioVddoChange (x0 : Fin 4) (x1 : BitVec 2) : Statement (.tioVddoChange x0 x1) := none_case rfl
theorem vddAonLoss : Statement (.vddAonLoss) := none_case rfl
theorem perstNAssert : Statement (.perstNAssert) := none_case rfl
theorem keySlotWriteComplete (x0 : Bool) : Statement (.keySlotWriteComplete x0) := none_case rfl

end Sys2Proof.Laws.Major
end

