-- ==== Sys2Proof/Tests/Slice0.lean ====
section
/-!
SUPPORT. Tests: ill-formed commands that WellFormed refuses, words of Frond instructions written out from the spec's encodings, and for each
statement states that meet its hypotheses, with what the command then does. Expected values come from the rules of spec/.
-/

set_option Elab.async false

namespace Sys2Proof.Tests
open Sys2Proof Sys2Proof.Machine Sys2Proof.Machine.Reg

/-! ## Helpers -/

/-- The reset state with fields set: field, instance, value. -/
def setFs (s : State) (l : List (Fld × Nat × Nat)) : State := l.foldl (fun s e => s.wf e.1 e.2.2 e.2.1) s

/-- The command answers a next state with a property. -/
def ends (i : Instr) (s : State) (p : State → Bool) : Bool :=
  match exec i s with
  | .next t => p t
  | _ => false

def allB (l : List Bool) : Bool := l.all id

/-- Two register files, or two memories, list the same. -/
def regsB : List (Nat × Nat) → List (Nat × Nat) → Bool
  | [], [] => true
  | a :: l, b :: m => Nat.beq a.1 b.1 && Nat.beq a.2 b.2 && regsB l m
  | _, _ => false

def cellsB (l m : List Host.Cell) : Bool := regsB (l.map (fun c => (c.1, c.2.toNat))) (m.map (fun c => (c.1, c.2.toNat)))

/-- What a program sees of a Frond, as numbers. -/
def frondSeen (x : Frond) : List (Nat × Nat) :=
  [(x.pc.toNat, x.retpc.toNat), (x.code.toNat, x.faultAddr.toNat), (x.line.toNat, x.trap.toNat), ((if x.mode then 1 else 0) + (if x.ie then 2 else 0) + if x.inh then 4 else 0,
    x.evtEn.toNat)] ++ x.g.toList.map (fun v => (v.toNat, 0)) ++ x.t.toList.map (fun v => (v.toNat, 0))

/-- Two states agree in their registers but for those that telling events changes, in memory, time and two Fronds. -/
def alike (s t : State) : Bool :=
  regsB (s.regs.filter (fun e => !toldKey e.1)) (t.regs.filter (fun e => !toldKey e.1)) && cellsB s.mem t.mem && decide (s.tm.time = t.tm.time) &&
  [(2 : Fin 16), 5].all (fun f => regsB (frondSeen (s.frond f)) (frondSeen (t.frond f)))

/-- The command leaves the state as it is. -/
def stays (i : Instr) (s : State) : Bool := ends i s (fun t => regsB s.regs t.regs && alike s t)

/-- The command runs to `v`, up to what telling events does. -/
def runsB (i : Instr) (s v : State) : Bool := ends i s (alike v)

/-- Frond `f` in RUN from reset, with general registers and time registers set: number, value. -/
def up (f : Fin 16) (g : List (Nat × Nat)) (t : List (Nat × Nat)) : State :=
  let s := State.reset.wf FRD_STATUSn_state 0 f.val
  let x := s.frond f
  s.setFrond f { x with
    g := g.foldl (fun v e => v.setIfInBounds e.1 (BitVec.ofNat 64 e.2)) x.g, t := t.foldl (fun v e => v.setIfInBounds e.1 (BitVec.ofNat 96 e.2)) x.t }

/-- A Frond changed. -/
def withF (s : State) (f : Fin 16) (k : Frond → Frond) : State := s.setFrond f (k (s.frond f))

/-- `issues`, decided in full; and by what a program sees. -/
def issuesAll (s : State) (f : Fin 16) : Bool := s.canIssue f && (!s.stepOut f && decide (s.frdFetch f = (s, none)))

theorem issues_of (s : State) (f : Fin 16) (h : issuesAll s f = true) : s.issues f s := by
  simp only [issuesAll, Bool.and_eq_true, Bool.not_eq_true', decide_eq_true_eq] at h
  exact h

def issuesB (s : State) (f : Fin 16) : Bool := s.canIssue f && !s.stepOut f && (s.frdFetch f).2.isNone && alike s (s.frdFetch f).1

/-- Bytes placed in memory. -/
def withMem (s : State) (a : Nat) (bs : List Byte) : State := { s with mem := memSetList a bs s.mem }

/-- `reaches`, decided. -/
def reachesB (s : State) (f : Fin 16) (store : Bool) (ea n p : Nat) : Bool :=
  decide (s.memx.ecc1 = []) && decide (s.memx.ecc2 = []) && decide ((s.frond f).refused (if store then 1 else 0) ea n = false) &&
  (decide (0x10010000 ≤ ea ∧ ea + n ≤ 0x10020000 ∧ p = dmemOf f.val + (ea - 0x10010000) ∧ s.unserved p = false) ||
   decide (0x800000 ≤ ea ∧ ea + n ≤ 0x1000000 ∧ p = ea ∧ s.bank (bankOf p) = 0))

/-- An instruction of Frond `f` enters its handler for a code, with a fault address. -/
def entersB (i : Instr) (s : State) (f : Fin 16) (code fault : Nat) : Bool :=
  issuesB s f && runsB i s (s.setFrond f ((s.frond f).enter code 0 0 fault (0x20 * code) (s.frond f).pc))

/-- Spine time runs, and stands at `z`. -/
def atTime (s : State) (z : Int) : State := { s with tm := { s.tm with time := z, run := true } }

/-- A queue with items, all visible. -/
def withQ (s : State) (i : Nat) (l : List QItem) : State := s.setQueue i { s.queue i with items := l, vis := l.length }

/-- Spine time runs on chain 0, which is locked; time and raw time are equal. -/
def runs (z : Int) : State :=
  let s := setFs State.reset [(SYN_STATUS_lock_a, 0, 1), (readyFld 0, 0, 1), (readyFld 2, 0, 1)]
  let c := { s.tm.chains[0] with raw := z, rawOn := true }
  { s with tm := { s.tm with run := true, time := z, chains := s.tm.chains.set 0 c, strobeFrom := z }, doms := s.doms.map (fun d => { d with loaded := true }) }

/-- A number handed on as a numeral, so that a long fold evaluates step by step. -/
def forced (c : Nat) (k : Nat → Nat) : Nat :=
  match c with
  | 0 => k 0
  | n + 1 => k (n + 1)

theorem forced_eq (c : Nat) (k : Nat → Nat) : forced c k = k c := by cases c <;> rfl

def crcByteForced (c : Nat) (b : Byte) (k : Nat → Nat) : Nat :=
  forced (c ^^^ b.toNat) fun c => forced (crc32cBit c) fun c => forced (crc32cBit c) fun c => forced (crc32cBit c) fun c => forced (crc32cBit c) fun c =>
    forced (crc32cBit c) fun c => forced (crc32cBit c) fun c => forced (crc32cBit c) fun c => forced (crc32cBit c) k

theorem crcByteForced_eq (c : Nat) (b : Byte) (k : Nat → Nat) : crcByteForced c b k = k (crc32cByte c b) := by
  simp only [crcByteForced, forced_eq]
  rfl

def crcForced : Bytes → Nat → Nat
  | [], c => c
  | b :: t, c => crcByteForced c b (crcForced t)

theorem crcForced_eq (l : Bytes) (c : Nat) : crcForced l c = l.foldl crc32cByte c := by
  induction l generalizing c with
  | nil => rfl
  | cons b t ih => simp only [crcForced, crcByteForced_eq, List.foldl_cons, ih]

/-- The check value of the polynomial, over the digits 1 to 9. -/
theorem test_crc : crc32c (ascii "123456789") = 0xE3069283 := by decide +kernel

/-! ## Ill-formed commands -/

/-- Each check refuses a command: two copies of one domain, times before 0, no byte, an access of three bytes, a
configuration request of the SPI slave or a Frond. -/
theorem test_ill_formed : (Instr.millisecondStrobe [(3, 5), (4, 6), (3, 7)]).wf = false ∧ (Instr.interruptSourceAssert 511 (-1)).wf = false ∧ (Instr.todInCharacter 31 0x24 false (-1)).wf = false ∧
    (Instr.registerWrite .spi true 4 0).wf = false ∧ (Instr.multiwordLoRead (.frond 0) true 0).wf = false ∧ (Instr.aliasWrite .host false 0x800000 []).wf = false ∧ (Instr.badAccess .host 0 3 false).wf = false ∧ (Instr.badAccess .host 0x2FFFFFF 4 false).wf = false ∧
    (Instr.twinSwap (.partner true (-1)) true).wf = false ∧ (Instr.twinSwapAbort (.partner false (-1))).wf = false ∧ (Instr.twinResync (.partner false (-1))).wf = false := by decide +kernel

theorem test_well_formed : (Instr.millisecondStrobe [(3, 5), (4, 6)]).wf = true ∧ (Instr.interruptSourceAssert 511 0).wf = true ∧ (Instr.badAccess .host 0 16 true).wf = true ∧
    (Instr.twinSwap (.own .host) true).wf = true ∧ (Instr.twinSwap (.partner true 0) true).wf = true := by decide +kernel

/-! ## The queue and the words of a Frond -/

theorem test_empty_queue_idles : (match step State.reset with | .next t => alike t State.reset | _ => false) = true := by decide +kernel

/-- R97, R98, R114: words written out from the encodings, and words that are none. -/
theorem test_words : frondDecode 3 0x04A3FFF4 = some (.addi 3 5 3 0xFFF4) ∧ frondDecode 0 0xD1020024 = some (.qpop 0 8 2 0 0x024) ∧
    frondDecode 1 0x28070801 = some (.tsub 1 0 7 1) ∧ frondDecode 2 0xC0802800 = some (.sfeed 2 4 0 5) ∧
    frondDecode 0 0xE0000000 = some (.eret 0) ∧ frondDecode 0 0xE0000003 = none ∧ frondDecode 0 0x80200000 = none ∧
    frondDecode 0 0x0000000F = some (.clz 0 0 0) ∧ frondDecode 0 0x0000080F = none ∧ frondDecode 0 0x200000C0 = none ∧
    frondDecode 0 0xFC000000 = none ∧ frondEncode (.addi 3 5 3 0xFFF4) = some (3, 0x04A3FFF4) := by decide +kernel

/-! ## Integer and time instructions -/

def up1 : State := up 5 [(1, 7), (2, 2 ^ 64 - 3)] [(1, 5 * 2 ^ 48 + 999999999 * 2 ^ 16 + 1), (2, (2 ^ 48 - 1) * 2 ^ 48 + 7 * 2 ^ 16)]

/-- Hypotheses of the statements on integer and time instructions: a Frond that issues. -/
theorem test_issues : issuesAll up1 5 = true := by decide +kernel

/-- One integer instruction runs to its value of R98. -/
def aluB (i : Instr) : Bool :=
  match aluSpec (up1.frond 5) i with
  | some (d, v) => decide (frondOf i = some 5) && runsB i up1 (up1.setFrond 5 ((up1.frond 5).wg d v).pass)
  | none => false

theorem test_integer1 : [Instr.add 5 3 1 2, .sub 5 3 1 2, .and 5 3 1 2, .or 5 3 1 2, .xor 5 3 1 2, .nor 5 3 1 2, .slt 5 3 1 2,
    .sltu 5 3 1 2].all aluB = true := by decide +kernel
theorem test_integer2 : [Instr.sll 5 3 2 1, .srl 5 3 2 1, .sra 5 3 2 1, .min 5 3 1 2, .max 5 3 1 2, .minu 5 3 1 2, .maxu 5 3 1 2,
    .clz 5 3 1, .popc 5 3 2, .mullo 5 0 1 2].all aluB = true := by decide +kernel
theorem test_integer3 : [Instr.addi 5 3 1 0xFFF0, .andi 5 3 2 0xFFF0, .ori 5 3 1 0x8000, .xori 5 3 1 0x8000, .slti 5 3 2 0xFFFE,
    .sltiu 5 3 1 0xFFFE, .lui 5 3 0x8000, .slli 5 3 2 63, .srli 5 3 2 63, .srai 5 3 2 63].all aluB = true := by decide +kernel

/-- A pair instruction does what R99 says. -/
def pairB (i : Instr) : Bool :=
  let x := up1.frond 5
  match pairSpec x i with
  | some (d, r) =>
    decide (frondOf i = some 5) &&
    (if d.toNat % 2 = 1 ∨ d = 0 then runsB i up1 (up1.setFrond 5 (x.enter 1 0 0 0 0x20 x.pc))
     else
       match r with
       | some p => runsB i up1 (up1.setFrond 5 (((x.wg d (BitVec.ofInt 64 p.1)).wg (d + 1) (BitVec.ofInt 64 p.2)).pass))
       | none => runsB i up1 (up1.setFrond 5 (x.enter 0x0D 0 0 0 0x1A0 x.pc)))
  | none => false

theorem test_pairs : [Instr.mulss 5 4 1 2, .muluu 5 4 1 2, .mulsu 5 30 1 2, .divs 5 4 2 1, .divu 5 4 2 1, .divs 5 4 1 0, .divu 5 4 1 0,
    .divs 5 0 1 2, .mulss 5 31 1 2].all pairB = true := by decide +kernel

/-- −7 divided by 2: quotient −4, remainder 1 (R99: toward minus infinity). -/
theorem test_divs_floor : ends (.divs 5 4 1 2) (up 5 [(1, 2 ^ 64 - 7), (2, 2)] []) (fun t =>
    decide ((t.frond 5).rg 4 = BitVec.ofInt 64 (-4)) && decide ((t.frond 5).rg 5 = 1)) = true := by decide +kernel

/-- A time instruction does what R100 to R102 say. -/
def timeB (s : State) (i : Instr) : Bool :=
  let x := s.frond 5
  decide (frondOf i = some 5) && issuesB s 5 &&
  match timeSpec x i with
  | some (.exc c) => runsB i s (s.setFrond 5 (x.enter c 0 0 0 (0x20 * c) x.pc))
  | some (.general d v) => runsB i s (s.setFrond 5 ((x.wg d (BitVec.ofInt 64 v)).pass))
  | some (.time d n) => runsB i s (s.setFrond 5 ((x.wt d (BitVec.ofNat 96 (packTime n))).pass))
  | none => false

theorem test_time1 : [Instr.tadd 5 3 1 2, .tadd 5 3 2 1, .tsub 5 3 1 1, .taddd 5 0 1 2, .tsubd 5 0 1 2, .tneg 5 3 2, .tcmp 5 3 1 2,
    .tcmpd 5 3 1 2].all (timeB up1) = true := by decide +kernel
theorem test_time2 : [Instr.tscl 5 3 1 1, .tscl 5 3 1 2, .tsecs 5 3 1, .tfrac 5 3 1, .tfrg 5 3 1, .ttog 5 3 1, .ttog 5 3 2,
    .tadd 5 8 1 2, .tadd 5 1 8 2, .tcmp 5 9 1 8, .tfrg 5 8 0].all (timeB up1) = true := by decide +kernel

/-- The worked example after R102. -/
theorem test_tscl_example : ends (.tscl 5 3 2 9) (up 5 [(9, 209715200)] [(2, (2 ^ 48 - 1) * 2 ^ 48)]) (fun t =>
    decide ((t.frond 5).rt 3 = BitVec.ofNat 96 ((2 ^ 48 - 1) * 2 ^ 48 + 999999996 * 65536 + 52428))) = true := by decide +kernel

/-- R102. -/
theorem test_tjoin : runsB (.tjoin 5 3 1 2) (up 5 [(2, 65536000000000)] []) ((up 5 [(2, 65536000000000)] []).setFrond 5
      (((up 5 [(2, 65536000000000)] []).frond 5).enter 9 0 0 0 0x120 0x10000000)) = true ∧
    ends (.tjoin 5 3 1 2) (up 5 [(1, 2 ^ 47), (2, 1)] []) (fun t => decide ((t.frond 5).code = 0x0A)) = true ∧
    ends (.tjoin 5 3 1 2) (up 5 [(1, 2 ^ 64 - 1), (2, 65535999999999)] []) (fun t =>
      decide ((t.frond 5).rt 3 = BitVec.ofNat 96 ((2 ^ 48 - 1) * 2 ^ 48 + 999999999 * 65536 + 65535))) = true ∧
    ends (.tjoin 5 8 1 2) up1 (fun t => decide ((t.frond 5).code = 1)) = true ∧
    ends (.tmov 5 7 2) up1 (fun t => decide ((t.frond 5).rt 7 = (up1.frond 5).rt 2)) = true ∧
    ends (.tmov 5 7 9) up1 (fun t => decide ((t.frond 5).code = 1)) = true := by decide +kernel

/-- R91: a field of 8 or more, for one instruction of each shape. -/
theorem test_time_fields : [Instr.tadd 5 8 1 2, .tscl 5 1 31 0, .tfrac 5 1 8, .ldt 5 8 0 0, .stt 5 8 0 0, .ati 5 1 8, .wtu 5 1 0 8 0,
    .wfe 5 1 0 8 0, .qpush 5 1 8 0 3, .qpop 5 1 8 0 3, .stamp 5 8 0, .edge 5 1 8 1, .tarm 5 1 1 8, .sfeed 5 1 8 1, .tslew 5 1 8 1,
    .tstep 5 1 8].all (fun i => decide (∃ a ∈ timeFields i, a.toNat / 8 ≠ 0) &&
      runsB i up1 (up1.setFrond 5 ((up1.frond 5).enter 1 0 0 0 0x20 0x10000000))) = true := by decide +kernel

/-- Hypotheses of `TimeRegistersStayNormal`. -/
theorem test_times_stay : (List.finRange 16).all (fun f => (List.finRange 8).all (fun k => timeOk (up1.frond f).t[k].toNat) &&
    timeOk (up1.frond f).t7save.toNat) = true ∧ ends (.tneg 5 3 2) up1 (fun t => timeOk (t.frond 5).t[3].toNat) = true ∧
    ends (.stamp 5 3 0) up1 (fun t => timeOk (t.frond 5).t[3].toNat) = true := by decide +kernel

/-! ## Loads, stores, atomics, branches -/

/-- Own data memory ends with these bytes at its last 16, and the commons with the same at its last. -/
def up2 : State :=
  let bs := leBytes 16 0x00000000_0000FFFE_3B9AC9FF_FFFF8081
  withMem (withMem (up 2 [(1, 0x1001FFF0), (2, 0xFFFFF8), (3, 0x8877665544332211)] [(1, 5 * 2 ^ 48 + 7)]) (0x450000 + 0xFFF0) bs) 0xFFFFF0 bs

/-- A load of `n` bytes at g[a] + o, where `p` is the place in BAR0. -/
def loadB (i : Instr) (p : Nat) : Bool :=
  match loadForm i with
  | some (d, a, o, n, sx) =>
    let x := up2.frond 2
    let ea := (x.rg a + o.signExtend 64).toNat
    issuesB up2 2 && reachesB up2 2 false ea n p && decide (ea % n = 0) &&
    runsB i up2 (up2.setFrond 2 ((x.wg d (if sx then BitVec.ofInt 64 (toSigned (8 * n) (ofLeBytes (up2.bytesAt p n)))
      else BitVec.ofNat 64 (ofLeBytes (up2.bytesAt p n)))).pass))
  | none => false

theorem test_loads : allB [loadB (.lb 2 4 1 0) 0x45FFF0, loadB (.lbu 2 4 1 15) 0x45FFFF, loadB (.lh 2 4 1 0) 0x45FFF0,
    loadB (.lhu 2 4 1 14) 0x45FFFE, loadB (.lw 2 4 1 0) 0x45FFF0, loadB (.lwu 2 4 1 12) 0x45FFFC, loadB (.ld 2 4 2 0) 0xFFFFF8,
    loadB (.lb 2 0 2 7) 0xFFFFFF] = true := by decide +kernel

theorem test_load_signs : allB [ends (.lb 2 4 1 0) up2 (fun t => decide ((t.frond 2).rg 4 = BitVec.ofInt 64 (-127))),
    ends (.lhu 2 4 1 0) up2 (fun t => decide ((t.frond 2).rg 4 = 0x8081)),
    ends (.lw 2 4 1 4) up2 (fun t => decide ((t.frond 2).rg 4 = 0x3B9AC9FF)),
    ends (.lw 2 4 1 0) up2 (fun t => decide ((t.frond 2).rg 4 = BitVec.ofInt 64 (-32639)))] = true := by decide +kernel

/-- LDT of a time, and of one whose nanoseconds are 1,000,000,000. -/
theorem test_ldt : allB [reachesB up2 2 false 0x1001FFF0 12 0x45FFF0,
    issuesB up2 2, timeOk (ofLeBytes (up2.bytesAt 0x45FFF0 12)) == false,
    ends (.ldt 2 3 1 0) up2 (fun t => decide ((t.frond 2).code = 9 ∧ (t.frond 2).retpc = 0x10000000)),
    (let s := withMem up2 0x45FFF0 (leBytes 12 (3 * 2 ^ 48 + 999999999 * 65536 + 1))
     ends (.ldt 2 3 1 0) s (fun t => decide ((t.frond 2).rt 3 = BitVec.ofNat 96 (3 * 2 ^ 48 + 999999999 * 65536 + 1))))] = true := by
  decide +kernel

/-- A register word: SYS_FATAL_REFUSED's first word at F2's load. -/
theorem test_load_register : (let s := up 2 [(1, 0x20)] []
    allB [targetOf 0x20 4 == .reg, issuesB s 2, ends (.lwu 2 4 1 0) s (fun t =>
      decide ((t.frond 2).rg 4 = BitVec.ofNat 64 (s.readReg (.frond 2) 0x20).2))]) = true := by decide +kernel

/-- Task mode with region 1 for loads of [0x10010000, 0x100100FF], and region 0, without a grant, inside it at 0x10010000. -/
def task2 : State := withF (up 2 [(1, 0x10010000), (3, 9)] []) 2 (fun x => { x with
  mode := false, prgBase := (x.prgBase.set 0 0x1000000C).set 1 0x1001000D, prgLimit := (x.prgLimit.set 0 0x10000000).set 1 0x10010000 })

theorem test_regions : allB [(task2.frond 2).refused 0 0x100100F8 8 == false, (task2.frond 2).refused 0 0x100100FC 8 == true,
    (task2.frond 2).refused 1 0x10010000 1 == true, (task2.frond 2).refused 2 0x10000000 4 == false,
    (up2.frond 2).refused 1 0 8 == false, issuesB task2 2,
    entersB (.sb 2 3 1 0) task2 2 6 0x10010000, entersB (.ld 2 3 1 0x100) task2 2 5 0x10010100,
    ends (.lb 2 3 1 0xFF) task2 (fun t => decide ((t.frond 2).code = 0)),
    entersB (.lh 2 3 1 1) task2 2 7 0x10010001, entersB (.sd 2 3 1 4) up2 2 7 0x1001FFF4] = true := by decide +kernel

/-- A store of `n` bytes at g[a] + o. -/
def storeB (i : Instr) (p : Nat) : Bool :=
  match storeForm i with
  | some (d, a, o, n) =>
    let x := up2.frond 2
    let ea := (x.rg a + o.signExtend 64).toNat
    issuesB up2 2 && reachesB up2 2 true ea n p && decide (ea % n = 0) && Memory.wf up2.mem &&
    runsB i up2 ((up2.rawStore p (leBytes n (x.rg d).toNat)).setFrond 2 x.pass)
  | none => false

theorem test_stores : allB [storeB (.sb 2 3 1 15) 0x45FFFF, storeB (.sh 2 3 1 14) 0x45FFFE, storeB (.sw 2 3 1 0) 0x45FFF0,
    storeB (.sd 2 3 2 0) 0xFFFFF8, ends (.sh 2 3 1 14) up2 (fun t => decide (t.bytesAt 0x45FFFC 4 = [0, 0, 0x11, 0x22]))] = true := by decide +kernel

theorem test_stt : allB [issuesB up2 2, reachesB up2 2 true 0x1001FFF0 12 0x45FFF0, ends (.stt 2 1 1 0) up2 (fun t =>
    decide (t.bytesAt 0x45FFF0 12 = [7, 0, 0, 0, 0, 0, 5, 0, 0, 0, 0, 0]) && decide (t.bytesAt 0x45FFFC 4 = up2.bytesAt 0x45FFFC 4))] = true := by
  decide +kernel

theorem test_store_register : (let s := up 2 [(1, 0xE0008), (3, 0x55)] []
    allB [targetOf 0xE0008 4 == .reg, issuesB s 2, runsB (.sw 2 3 1 0) s ((s.writeRegAt (.frond 2) 0xE0008 0x55).setPc 2 0x10000004)]) = true := by
  decide +kernel

/-- An atomic at the last word of the commons: the old value in g[d], the new one in memory. -/
def atomB (i : Instr) : Bool :=
  let x := up2.frond 2
  let m := up2.word64 0xFFFFF8
  match atomicSpec x (BitVec.ofNat 64 m) i with
  | some (d, a, v) => issuesB up2 2 && decide (frondOf i = some 2) && decide ((x.rg a).toNat = 0xFFFFF8) && reachesB up2 2 true 0xFFFFF8 8 0xFFFFF8 &&
    ends i up2 (fun t => decide ((t.frond 2).g = (x.wg d (BitVec.ofNat 64 m)).g) && decide (t.mem = memSetList 0xFFFFF8 (leBytes 8 v.toNat) up2.mem) &&
      decide ((t.frond 2).pc = 0x10000004))
  | none => false

theorem test_atomics : allB ([Instr.aadd 2 4 2 3, .aswp 2 4 2 3, .aset 2 4 2 3, .aclr 2 4 2 3, .amin 2 4 2 3, .amax 2 4 2 3, .acas 2 4 2 3,
    .acas 2 3 2 1].map atomB) = true := by decide +kernel
theorem test_atomic_faults : allB [entersB (.aadd 2 4 1 3) up2 2 8 0x1001FFF0, entersB (.aadd 2 4 3 3) (up 2 [(3, 0x800004)] []) 2 7 0x800004,
    entersB (.aswp 2 4 3 3) (up 2 [(3, 0x1000000)] []) 2 8 0x1000000] = true := by decide +kernel

/-- A branch or jump from 0x10000100. -/
def brB (s0 : State) (i : Instr) : Bool :=
  let s := withF s0 2 (fun x => { x with pc := 0x10000100 })
  let x := s.frond 2
  match branchSpec x i with
  | some (taken, target, link) =>
    let y := match link with
      | some d => x.wg d (x.pc + 4)
      | none => x
    issuesB s 2 && decide (frondOf i = some 2) &&
    runsB i s (s.setFrond 2 (if ¬ taken then y.pass
      else if 0x10000000 ≤ target.toNat ∧ target.toNat < 0x10010000 ∧ target.toNat % 4 = 0 then { y with pc := target }
      else ({ y with pc := target } : Frond).enter 0x03 0 0 target.toNat 0x60 target))
  | none => false

theorem test_branches : allB ([Instr.br 2 0x1FFFC0, .br 2 0x1FFFBF, .bl 2 0x3FBF, .bl 2 0x3FC0, .beqz 2 0 1, .beqz 2 1 1, .bnez 2 0 1, .bnez 2 1 1, .bltz 2 3 1,
    .bltz 2 1 1, .bgez 2 0 1, .bgez 2 3 1, .bto 2 1, .bnto 2 1, .jr 2 1, .jlr 2 1 1, .jlr 2 5 5].map (brB (up 2 [(1, 0x10000002), (3, 2 ^ 63), (5, 0x1000FFFC)] []))) = true := by decide +kernel

/-! ## Waits and message queues -/

theorem test_ati : (let s := fun (z : Int) => atTime (up 2 [] [(1, 5 * 65536)]) z
    allB [issuesB (s 327680) 2, runsB (.ati 2 4 1) (s 327680) ((s 327680).setFrond 2 (((s 327680).frond 2).wg 4 0).pass),
      ends (.ati 2 4 1) (s (327680 + 131072)) (fun t => decide ((t.frond 2).rg 4 = 0)),
      ends (.ati 2 4 1) (s (327680 + 131073)) (fun t => decide ((t.frond 2).rg 4 = 0)),
      ends (.ati 2 4 1) (s (327680 + 196608)) (fun t => decide ((t.frond 2).rg 4 = 196608)),
      ends (.ati 2 4 1) (s (2 ^ 70)) (fun t => decide ((t.frond 2).rg 4 = BitVec.ofInt 64 (2 ^ 63 - 1))),
      ends (.ati 2 4 1) (s 327679) (fun t => alike t ((s 327679).setFrond 2 { (s 327679).frond 2 with wait := .ati 327680 4 })),
      (let w := withF (s 327680) 2 (fun x => { x with wait := .ati 327680 4, g := x.g.set 4 9 })
       w.frdRuns 2 && runsB (.atiRelease 2) w (w.setFrond 2 { ((w.frond 2).wg 4 0).pass with wait := .none })),
      (let w := withF (s 327679) 2 (fun x => { x with wait := .ati 327680 4 }); stays (.atiRelease 2) w)]) = true := by decide +kernel

theorem test_wtu : (let s := withMem (up 2 [(1, 0x1001FFF8), (2, 0xFFFFF8), (3, 5)] []) 0x45FFF8 [5]
    let x := s.frond 2
    allB [issuesB s 2, reachesB s 2 false 0x1001FFF8 8 0x45FFF8, reachesB s 2 false 0xFFFFF8 8 0xFFFFF8,
      runsB (.wtu 2 3 2 0 1) s (s.setFrond 2 { (x.wg 3 0).pass with tf := false }),
      runsB (.wtu 2 3 1 0 2) s (s.setFrond 2 { (x.wg 3 5).pass with tf := true }),
      runsB (.wtu 2 3 1 0 1) s (s.setFrond 2 { x with wait := .wtu 0x45FFF8 3 1 0 })]) = true := by decide +kernel

theorem test_wfe : (let s := withF (up 2 [(1, 2 ^ 63 + 6)] []) 2 (fun x => { x with evtPend := 12, tf := true })
    let x := s.frond 2
    let q := withF s 2 (fun x => { x with evtPend := 8 })
    allB [issuesB s 2, ends (.wfe 2 3 1 0 1) s (fun t => decide ((t.frond 2).g = (x.wg 3 4).g ∧ (t.frond 2).tf = false ∧ (t.frond 2).evtPend = 12)),
      runsB (.wfe 2 3 1 0 2) q (q.setFrond 2 { ((q.frond 2).wg 3 0).pass with tf := true }),
      ends (.wfe 2 3 1 0 1) q (fun t => alike t (q.setFrond 2 { q.frond 2 with wait := .wfe (2 ^ 63 + 6) 3 1 0 }))]) = true := by decide +kernel

theorem test_wait_end : (let w := withF (withQ (up 2 [] []) 0x32 [⟨7, .word 99⟩, ⟨8, .word 1⟩]) 2 (fun x => { x with wait := .qpop 0x32 4 0 7, tf := true })
    let o := withF (atTime (up 2 [] []) (16 * 65536 + 131072)) 2 (fun x => { x with wait := .qpop 0x32 4 0 131072 })
    allB [w.frdRuns 2, ends (.waitComplete 2) w (fun t => decide ((t.queue 0x32).items = [⟨8, .word 1⟩] ∧ (t.frond 2).rg 4 = 99 ∧ (t.frond 2).tf = false ∧
        (t.frond 2).wait = .none ∧ (t.frond 2).pc = 0x10000004)),
      decide (o.watermark 0 = 131072), runsB (.timeoutDeclare 2) o (o.setFrond 2 { (o.frond 2).pass with tf := true, wait := .none }),
      stays (.timeoutDeclare 2) (atTime o (16 * 65536 + 131072 - 1)),
      stays (.waitComplete 2) (withF w 2 (fun x => { x with wait := .qpop 0x32 4 0 6 })) ]) = true := by decide +kernel

theorem test_wait_end2 : (let s := withMem (up 2 [(3, 5)] []) 0x45FFF8 [6]
    let w := fun (k : FWait) => withF s 2 (fun x => { x with wait := k, evtPend := 12 })
    let o := fun (k : FWait) => atTime (w k) (16 * 65536 + 131072)
    let empty := (o (.qpush 0x23 77 0 131072)).setQueue 0x23 { s.queue 0x23 with c := 0 }
    allB [decide (s.word64 0x45FFF8 = 6), runsB (.waitComplete 2) (w (.wtu 0x45FFF8 3 1 0))
        ((w (.wtu 0x45FFF8 3 1 0)).setFrond 2 { (((w .none).frond 2).wg 3 6).pass with tf := false, wait := .none }),
      stays (.waitComplete 2) (withF (w (.wtu 0x45FFF8 3 1 0)) 2 (fun x => { x with g := x.g.set 3 6 })),
      (let e := withF (o (.wtu 0x45FFF8 3 0 131072)) 2 (fun x => { x with g := x.g.set 3 6 })
       runsB (.timeoutDeclare 2) e (e.setFrond 2 { ((e.frond 2).wg 3 6).pass with tf := true, wait := .none })),
      ends (.waitComplete 2) (w (.wfe 4 3 1 0)) (fun t => decide ((t.frond 2).rg 3 = 4 ∧ (t.frond 2).wait = .none ∧ (t.frond 2).pc = 0x10000004)),
      stays (.waitComplete 2) (w (.wfe 1 3 1 0)),
      runsB (.timeoutDeclare 2) (o (.wfe 1 3 0 131072)) ((o (.wfe 1 3 0 131072)).setFrond 2 { (((w .none).frond 2).wg 3 0).pass with tf := true, wait := .none }),
      ends (.waitComplete 2) (w (.qpush 0x23 77 1 0)) (fun t => decide (t.queue 0x23 = (s.queue 0x23).push ⟨0, .word 77⟩ ∧ (t.frond 2).wait = .none)),
      stays (.waitComplete 2) empty, runsB (.timeoutDeclare 2) empty (empty.setFrond 2 { (empty.frond 2).pass with tf := true, wait := .none })]) = true := by decide +kernel

theorem test_qpush : (let s := up 2 [(4, 77)] []
    let i := 0x23
    let full := s.setQueue i { s.queue i with c := 0 }
    allB [decide (s.frdQueue 2 true 3 = some i), !(s.frond 2).noTio, decide ((s.queue i).c = 16),
      ends (.qpush 2 4 0 1 3) s (fun t => decide (t.queue i = (s.queue i).push ⟨0, .word 77⟩ ∧ (t.frond 2).pc = 0x10000004 ∧ (t.frond 2).tf = false)),
      ends (.qpush 2 4 0 2 15) s (fun t => decide (t.queue 0x2F = (s.queue 0x2F).push ⟨0, .word 77⟩)),
      runsB (.qpush 2 4 0 2 3) full (full.setFrond 2 { (full.frond 2).pass with tf := true }),
      ends (.qpush 2 4 0 1 3) full (fun t => alike t (full.setFrond 2 { full.frond 2 with wait := .qpush i 77 1 0 }))]) = true := by decide +kernel

theorem test_qpop : (let s := withQ (up 2 [] []) 0x32 [⟨7, .word 99⟩]
    allB [decide (s.frdQueue 2 false 3 = some 0x32), ends (.qpop 2 4 0 2 3) s (fun t => decide ((t.queue 0x32).items = [] ∧ (t.frond 2).rg 4 = 99)),
      runsB (.qpop 2 4 0 2 15) s (s.setFrond 2 { (s.frond 2).pass with tf := true }), decide (s.frdQueue 2 false 15 = some 0xF2),
      decide (s.frdQueue 2 false 0x10 = none), entersB (.qpop 2 4 0 2 0x10) s 2 0x0B 0, decide (s.frdQueue 2 true 0x7FF = none),
      entersB (.qpush 2 4 0 1 0x7FF) s 2 0x0B 0,
      (let u := withF s 2 (fun x => { x with mode := false, prgBase := x.prgBase.set 0 0x1000000F, prgLimit := x.prgLimit.set 0 0x1000FF00 })
       (u.frond 2).noTio && entersB (.qpush 2 4 0 1 3) u 2 2 0 && entersB (.qpop 2 4 0 2 3) u 2 2 0)]) = true := by decide +kernel

/-! ## Blocks and the system -/

theorem test_stamp : (let s := withF (atTime (up 2 [] []) (65536000000000 + 131072 + 5)) 2 (fun x => { x with lineStamp := x.lineStamp.set 63 77 })
    let y := fun (z : Int) => s.setFrond 2 (((s.frond 2).wt 3 (BitVec.ofNat 96 (packTime z))).pass)
    allB [issuesB s 2, ends (.stamp 2 3 0) s (fun t => decide ((t.frond 2).rt 3 = BitVec.ofNat 96 (2 ^ 48 + 2 * 65536))),
      runsB (.stamp 2 3 0) s (y (s.domNow 0)), runsB (.stamp 2 3 0x2000) s (y s.raw), runsB (.stamp 2 3 0x403F) s (y 77),
      entersB (.stamp 2 3 0x6000) s 2 1 0, entersB (.stamp 2 3 0x8000) s 2 1 0, entersB (.stamp 2 3 0x1040) s 2 1 0,
      entersB (.stamp 2 8 0) s 2 1 0]) = true := by decide +kernel

theorem test_control_words : (let s := withF (up 2 [(1, 2 ^ 64 - 1), (2, 1000000000 * 65536)] []) 2 (fun x => { x with evtPend := 7, lineObs := 5, faultAddr := 9 })
    let x := s.frond 2
    allB [runsB (.mfc 2 4 3) s (s.setFrond 2 (x.wg 4 9).pass), entersB (.mfc 2 4 0xD) s 2 1 0, decide (x.cword 2 0x111 = some 0),
      entersB (.mfc 2 4 0xFFF) s 2 1 0, runsB (.mtc 2 1 1) s (s.setFrond 2 { x.pass with retpc := 2 ^ 64 - 1 }),
      runsB (.mtc 2 1 4) s (s.setFrond 2 { x.pass with htable := 31 }), runsB (.mtc 2 1 0xA) s (s.setFrond 2 { x.pass with evtPend := 2 }),
      runsB (.mtc 2 1 2) s (s.setFrond 2 x.pass), entersB (.mtc 2 2 6) s 2 9 0,
      runsB (.mtc 2 1 0xC) s (s.setFrond 2 { x.pass with scratch := 2 ^ 64 - 1 }), decide (x.cword 2 0 = some 1),
      (let u := withF s 2 (fun x => { x with mode := false, prgBase := x.prgBase.set 0 0x1000000F, prgLimit := x.prgLimit.set 0 0x1000FF00 })
       entersB (.mfc 2 4 3) u 2 2 0 && runsB (.mtc 2 1 0xC) u (u.setFrond 2 { (u.frond 2).pass with scratch := 2 ^ 64 - 1 }))]) = true := by decide +kernel

theorem test_edge : (let s := (up 2 [(5, 63)] [(1, 100 * 65536), (2, 100 * 65536 - 1)]).wf TIOn_CFG_func 1 31
    let full := s.setQueue 343 { s.queue 343 with c := 0 }
    allB [issuesB s 2, decide (s.tioFunc 31 = 1), s.pdOn (tioDom 31),
      runsB (.edge 2 4 1 5) s ((s.qPush 343 ⟨0, .edge (100 * 65536) true⟩).setFrond 2 ((s.frond 2).wg 4 0).pass),
      runsB (.edge 2 4 1 5) full (full.setFrond 2 ((full.frond 2).wg 4 1).pass),
      runsB (.edge 2 4 2 5) s (s.setFrond 2 ((s.frond 2).wg 4 2).pass),
      (let u := withF s 2 (fun x => { x with mode := false, prgBase := x.prgBase.set 0 0x1000000F, prgLimit := x.prgLimit.set 0 0x1000FF00 })
       entersB (.edge 2 4 1 5) u 2 2 0 && entersB (.tarm 2 4 1 5) u 2 2 0 && entersB (.sfeed 2 4 6 5) u 2 2 0)]) = true := by decide +kernel

theorem test_tarm : (let s := setFs (up 2 [(1, 39)] []) [(TDCn_CTL_route_en, 39, 1), (TDCn_CTL_frond, 39, 2), (readyFld 4, 0, 1)]
    let o := s.wf TDCn_CTL_frond 3 39
    allB [issuesB s 2, s.pdOn 1, decide (s.claim 39 = 0 ∧ s.rf TDCn_CTL_mode 39 ≠ 3 ∧ s.tdcState 39 = 0 ∧ s.isReady 4 = true),
      ends (.tarm 2 4 1 5) s (fun t => decide ((t.frond 2).rg 4 = 0 ∧ t.tdcState 39 = 2 ∧ (t.unit 39).armAt = s.raw ∧ (t.frond 2).pc = 0x10000004)),
      runsB (.tarm 2 4 1 5) o (o.setFrond 2 ((o.frond 2).wg 4 2).pass)]) = true := by decide +kernel

theorem test_sfeed : (let s := up 2 [(5, 7 * 2 ^ 32 + 255)] [(6, 9), (7, 77)]
    let full := s.setQueue 393 { s.queue 393 with c := 0 }
    let dead := s.wf SYS_FATAL_credit 1
    allB [issuesB s 2, !s.fatalSet, dead.fatalSet, runsB (.sfeed 2 4 6 5) s
        ((s.qPush 393 ⟨0, .feed ⟨255, 9, 77, 7⟩⟩).setFrond 2 ((s.frond 2).wg 4 0).pass),
      runsB (.sfeed 2 4 6 5) full (full.setFrond 2 ((full.frond 2).wg 4 1).pass),
      runsB (.sfeed 2 4 6 5) dead ((dead.inc SYS_FATAL_REFUSED_count).setFrond 2 ((dead.frond 2).wg 4 2).pass)]) = true := by decide +kernel

theorem test_tslew : (let s := (up 2 [(5, 2 ^ 40)] [(1, (2 ^ 48 - 1) * 2 ^ 48 + 1), (2, 2 ^ 48)]).wf FRD_TIME_GRANT_grant 4
    allB [entersB (.tslew 2 4 1 5) (s.wf FRD_TIME_GRANT_grant 8) 2 2 0, entersB (.tstep 2 4 1) (s.wf FRD_TIME_GRANT_grant 8) 2 2 0,
      decide ((s.frond 2).dur 1 = 1 - uSec ∧ s.tm.slewSource = 0 ∧ s.tm.slewWait = none), ends (.tslew 2 4 1 5) s (fun t =>
        decide ((t.frond 2).rg 4 = 0 ∧ t.rb SRV_STATUS_paused = true ∧ t.now = s.now ∧ (t.tm.slew.map (fun x => (x.remaining, x.source, x.frond, x.rate))) =
          some (1 - uSec, 1, 2, slewWord s.slewMax))),
      runsB (.tslew 2 4 1 5) (s.wf SYS_FATAL_clock 1) (((s.wf SYS_FATAL_clock 1).inc SYS_FATAL_REFUSED_count).setFrond 2 ((s.frond 2).wg 4 2).pass),
      runsB (.tslew 2 4 1 5) (s.wf TLY_RING_FILL_reserve 1) ((s.wf TLY_RING_FILL_reserve 1).setFrond 2 ((s.frond 2).wg 4 1).pass),
      ends (.tslew 2 4 2 5) s (fun t => decide ((t.frond 2).rg 4 = 4)),
      runsB (.tstep 2 4 1) s ((s.setTm { s.tm with steps := [⟨2, 4, 1 - uSec⟩] }).setFrond 2 (s.frond 2).pass)]) = true := by decide +kernel

theorem test_tstep_apply : (let s := fun (z : Int) => let u := atTime (up 2 [] []) 1000; u.setTm { u.tm with steps := [⟨2, 4, z⟩] }
    allB [ends .tstepApply (s (-1000)) (fun t => decide (t.now = 0 ∧ t.raw = (s 0).raw ∧ (t.frond 2).rg 4 = 0 ∧ t.tm.steps = [])),
      ends .tstepApply (s 9) (fun t => decide (t.now = 1009)), ends .tstepApply (s (-1001)) (fun t => decide (t.now = 1000)),
      runsB .tstepApply ((s 9).wf SYS_FATAL_stamp 1) (((((s 9).wf SYS_FATAL_stamp 1).setTm { (s 9).tm with steps := [] }).inc SYS_FATAL_REFUSED_count).setFrond 2
        (((s 9).frond 2).wg 4 2)),
      runsB .tstepApply ((s 9).wf TLY_RING_FILL_reserve 1) ((((s 9).wf TLY_RING_FILL_reserve 1).setTm { (s 9).tm with steps := [] }).setFrond 2
        (((s 9).frond 2).wg 4 1))]) = true := by decide +kernel

theorem test_system : (let s := up 2 [] []
    let h := withF s 2 (fun x => { x with inh := true, retpc := 0x1000FFFC, retMode := false, retIe := true, t7saved := true, t7save := 5 })
    let st := s.setTm { s.tm with steps := [⟨2, 0, 1⟩] }
    allB [entersB (.eret 2) s 2 1 0, issuesB h 2, ends (.eret 2) h (fun t => decide (t.frond 2 = { h.frond 2 with
        mode := false, ie := true, inh := false, pc := 0x1000FFFC, t7saved := false, t := (h.frond 2).t.set 7 5 })),
      runsB (.trap 2 0xFFFF) s (s.setFrond 2 ((s.frond 2).enter 0x0C 0 0xFFFF 0 0x180 0x10000004)),
      runsB (.fence 2) s (s.setFrond 2 (s.frond 2).pass), stays (.fence 2) st, runsB (.fence 2) (s.setTm { s.tm with steps := [⟨3, 0, 1⟩] })
        ((s.setTm { s.tm with steps := [⟨3, 0, 1⟩] }).setFrond 2 (s.frond 2).pass),
      runsB (.halt 2) s ((s.setFrond 2 (s.frond 2).pass).wf FRD_STATUSn_state 1 2),
      (let u := withF s 2 (fun x => { x with ie := true, evtPend := 2 ^ 63, evtEn := 2 ^ 63 }); runsB (.halt 2) u (u.setFrond 2 (u.frond 2).pass)),
      (let u := withF s 2 (fun x => { x with mode := false, prgBase := x.prgBase.set 0 0x1000000F, prgLimit := x.prgLimit.set 0 0x1000FF00 })
       entersB (.halt 2) u 2 2 0),
      ends (.trap 2 1) h (fun t => decide (t.frdState 2 = 3 ∧ (t.frond 2).retpc = 0x1000FFFC ∧ (t.frond 2).code = 0 ∧ t.bit32 SYS_IRQ_CAUSEw_cause 66 = true))]) =
    true := by decide +kernel

/-- R122, R490: what FENCE waits for, and what waits for a TSTEP that is on its way. -/
theorem test_outstanding : (let s := up 2 [(4, 77)] []
    let q := (match exec (.qpush 2 4 0 1 3) s with | .next t => t | _ => s)
    let st := s.setTm { s.tm with steps := [⟨2, 4, 1⟩] }
    allB [decide ((q.frond 2).sent = [(0x23, 1)]), q.inFlight (0x23, 1), ends (.fence 2) q (fun t => decide ((t.frond 2).pc = (q.frond 2).pc)),
      ends (.fence 2) (q.setQueue 0x23 { q.queue 0x23 with vis := 1 }) (fun t => decide ((t.frond 2).pc = (q.frond 2).pc + 4 ∧ (t.frond 2).sent = [])),
      st.stepOut 2, stays (.add 2 4 1 1) st, stays (.add 2 1 4 1) st, stays (.add 2 1 1 4) st, stays (.trap 2 1) st,
      stays (.interruptEntry 2) (withF st 2 (fun x => { x with ie := true, evtPend := 8, evtEn := 8 })),
      ends (.add 2 5 1 1) st (fun t => decide ((t.frond 2).pc = 0x10000004))]) = true := by decide +kernel

/-- R129: a branch that is taken trains its counter, and BL pushes its return address. -/
theorem test_predictor : (let s := up 2 [(1, 1)] []
    allB [ends (.bnez 2 1 4) s (fun t => decide ((t.frond 2).bp = [(0, 2)] ∧ (t.frond 2).pc = 0x10000010)),
      ends (.bnez 2 0 4) s (fun t => decide ((t.frond 2).bp = [(0, 0)] ∧ (t.frond 2).pc = 0x10000004)),
      ends (.bl 2 4) s (fun t => decide ((t.frond 2).ras = [0x10000004] ∧ (t.frond 2).bp = [(0, 2)]))]) = true := by decide +kernel

theorem test_interrupt : (let s := withF ((up 2 [] [(7, 3)]).wf FRD_STATUSn_state 1 2) 2 (fun x => { x with
      ie := true, mode := false, evtPend := 2 ^ 63 + 8, evtEn := 2 ^ 63 + 4, lineStamp := x.lineStamp.set 63 131072, htable := 2 })
    allB [ends (.interruptEntry 2) s (fun t => decide (t.frdState 2 = 0 ∧ (t.frond 2).pc = BitVec.ofNat 64 (0x10001000 + 0x400 + 0x3F0) ∧
        (t.frond 2).t7save = 3 ∧ (t.frond 2).t[7] = 0x20000 ∧ (t.frond 2).retpc = 0x10000000 ∧ (t.frond 2).retMode = false ∧ (t.frond 2).mode = true ∧
        (t.frond 2).ie = false ∧ (t.frond 2).inh = true ∧ (t.frond 2).code = 0x80 ∧ (t.frond 2).line = 63 ∧ (t.frond 2).evtPend = 2 ^ 63 + 8)),
      runsB (.interruptEntry 2) s ((s.setFrond 2 { s.frond 2 with
        retpc := (s.frond 2).pc, retMode := (s.frond 2).mode, retIe := true, t7saved := true, t7save := (s.frond 2).t[7],
        t := (s.frond 2).t.set 7 (BitVec.ofNat 96 (packTime (s.frond 2).lineStamp[63])), code := 0x80, line := 63, trap := 0,
        faultAddr := 0, mode := true, ie := false, inh := true, wait := .none, pc := BitVec.ofNat 64 (0x10000000 + 2 * 2048 + (0x400 + 16 * 63)) }).wf
          FRD_STATUSn_state 0 2)]) = true := by decide +kernel

theorem test_counters : (let s := fun (v : BitVec 22) => withF (up 2 [] []) 2 (fun x => { x with psel := x.psel.set 7 v, pcnt := x.pcnt.set 7 0x1FE })
    let p := setFs State.reset [(PRF_SELk_en, 15, 1), (PRF_SELk_span, 15, 8), (PRF_CNTk_count, 15, 0x3FF)]
    allB [cycleEvent 3, (s 0x080D03).frdState 2 == 0, ends (.perfCounterOverflow 2 7) (s 0x080D03) (fun t => decide ((t.frond 2).pcnt[7] = 0x200 ∧ (t.frond 2).povf = 0x80 ∧ (t.frond 2).evtPend = 0)),
      ends (.perfCounterOverflow 2 7) (s 0x080F03) (fun t => decide ((t.frond 2).povf = 0x80 ∧ (t.frond 2).evtPend = 2 ^ 63)),
      ends (.sharedCounterOverflow 15) p (fun t => decide (t.rf PRF_CNTk_count 15 % 256 = 0 ∧ (t.rf PRF_OVF_ovf).testBit 15 = true) && alike p t),
      decide (targetOf 0xF0000 4 = .unmapped), ends (.badAccess .host 0xF0000 4 true) State.reset (fun t =>
        alike t (State.reset.inc SYS_BAD_ACCESS_count)), decide (targetOf 0xFFFFFC 8 = .bad),
      ends (.badAccess .host 0x10C8000 4 false) State.reset (fun t => alike t ((State.reset.inc MEM_ALIAS_ERR_count).setRead .host 0)), decide (aliasOk 0x20000 = false),
      ends (.badAccess .host 0x2020000 4 true) State.reset (fun t => alike t (State.reset.inc MEM_ALIAS_ERR_count)),
      entersB (.badAccess (.frond 2) 0xFFFFFC 8 false) (up 2 [] []) 2 8 0xFFFFFC, entersB (.badAccess (.frond 2) 0x1800000 8 false) (up 2 [] []) 2 8 0x1800000]) = true := by decide +kernel

/-! ## Spine time, the Tally, the strobe, the journal -/

theorem test_spine_tick : (let s := runs 100
    let w := { s with tm := { s.tm with slew := some ⟨100, 5, 1, 1000000, 0, 2000000, 2000000, 1, 3⟩ } }
    allB [stays (.spineTick 7) State.reset, ends (.spineTick 0) s (fun t => decide (t.now = 131172 ∧ t.raw = 131172)),
      ends (.spineTick 5) s (fun t => decide (t.now - s.now = (t.raw - s.raw) + (t.tm.freqAmt - s.tm.freqAmt) + (t.tm.slewAmt - s.tm.slewAmt))),
      ends (.spineTick (-3)) w (fun t => decide (t.now - w.now = (t.raw - w.raw) + (t.tm.freqAmt - w.tm.freqAmt) + (t.tm.slewAmt - w.tm.slewAmt))
        && alike t ({ w with tm := t.tm, outs := t.outs, regs := t.regs })),
      decide (s.now = s.raw + s.tm.total), ends (.spineTick 5) s (fun t => decide (t.now = t.raw + t.tm.total)),
      ends (.spineTick 5) { s with memx := { s.memx with timeEcc := true } } (fun t => t.rb SYS_FATAL_ecc_time && decide (t.now = t.raw + t.tm.total))]) = true := by decide +kernel

theorem test_snapshot : (let s := (runs 1000).wf SPN_SNAP_CTL_snap 1
    allB [ends (.snapshotRequest .host) State.reset (fun t => alike t (State.reset.wf SPN_SNAP_CTL_snap 1)), s.isReady 2,
      ends .snapshotLatch s (fun t => decide (t.rf SPN_SNAP_TIME_time = 1000 ∧ t.rf SPN_SNAP_RAW_raw = 1000 ∧ t.rf SPN_SNAP_TALLY_tally = 0 ∧ t.rf SPN_SNAP_CTL_snap = 0)),
      ends .snapshotLatch s (fun t => alike t (((((s.wf SPN_SNAP_TIME_time (packTime s.now)).ws SPN_SNAP_RAW_raw s.raw).ws SPN_SNAP_TALLY_tally
      s.tm.total).wf SPN_SNAP_INFO_active s.active).wf SPN_SNAP_CTL_snap 0)), stays .snapshotLatch (runs 5)]) = true := by decide +kernel

theorem test_tally_drain : (let e : TEntry := ⟨5, 6, 7, 1, 0, 0, 3⟩
    let s := let u := setFs (runs 1000) [(TLY_CTL_drain_en, 0, 1), (TLY_DRAIN_SIZE_log2n, 0, 16), (TLY_DRAIN_HEAD_head, 0, 65535), (TLY_DRAIN_TAIL_tail, 0, 65535), (TLY_DRAIN_BASE_base, 0, 2 ^ 16)]
      u.setTm { u.tm with ring := [e] }
    allB [decide (0 < (s.queue 392).c), Memory.wf s.mem, decide (s.bank (bankOf (0x800000 + (2 ^ 22 + 32 * 65535))) = 0),
      ends .tallyDrainCopy s (fun t => decide (t.tm.ring = [] ∧ t.rf TLY_DRAIN_HEAD_head = 0 ∧ t.bytesAt (0x800000 + (2 ^ 22 + 32 * 65535)) 32 = e.bytes ∧
        (t.queue 392).c = (s.queue 392).c - 1 ∧ t.now = s.now)),
      decide (e.bytes.length = 32)]) = true := by decide +kernel

theorem test_tally_writes : (let s := setFs State.reset [(TLY_DRAIN_SIZE_log2n, 0, 8), (TLY_DRAIN_HEAD_head, 0, 9), (TLY_DRAIN_TAIL_tail, 0, 255)]
    allB [runsB (.tlyDrainTailWrite .host 9) s (s.wf TLY_DRAIN_TAIL_tail 9), runsB (.tlyDrainTailWrite .host 256) s s,
      runsB (.tlyDrainTailWrite .host 10) s s,
      ends (.tlyDrainRingWrite .host true 16) s (fun t => alike t (s.wf TLY_DRAIN_SIZE_log2n 16)),
      ends (.tlyDrainRingWrite .host true 8) s (fun t => alike t (s.wf TLY_DRAIN_SIZE_log2n 8)),
      ends (.tlyDrainRingWrite .host false (0x800000 - 8192)) s (fun t => alike t (s.wf TLY_DRAIN_BASE_base (2 ^ 17 - 128))),
      runsB (.tlyDrainRingWrite .host false (0x800000 - 8128)) s s]) = true := by decide +kernel

theorem test_strobe : (let s := let u := runs 65536000000; u.setTm { u.tm with strobeFrom := 65535999999 }
    let bad := s.setTm { s.tm with time := 65536000001 }
    allB [ends (.millisecondStrobe []) s (fun t => decide (t.now = s.now ∧ t.tm.lastStrobe = s.now ∧ t.tm.strobeFrom = s.now ∧ t.rb SYS_FATAL_tally = false)),
      decide (bad.now - bad.raw ≠ bad.tm.total), ends (.millisecondStrobe [(23, 5)]) bad (fun t => t.rb SYS_FATAL_tally && decide (t.tm.lastStrobe = bad.now)),
      stays (.millisecondStrobe []) (runs 65536000000), stays (.millisecondStrobe []) State.reset]) = true := by decide +kernel

theorem test_spine_second : (let s := let u := runs 65536000000000; u.setTm { u.tm with lastStrobe := 65536000000000 }
    allB [ends .spineSecond s (fun t => decide (t.pwr.rtc = 32768 ∧ t.pwr.rtcValid = true ∧ t.tm.time = s.tm.time) && t.rb PWR_RESET_CAUSE_rtc_valid),
      (let a := s.setPwr { s.pwr with aon := false }; ends .spineSecond a (fun t => decide (t.pwr = a.pwr ∧ t.tm.time = a.tm.time))),
      decide (rtcOf s.now = 32768), stays .spineSecond (runs 65536000000000)]) = true := by decide +kernel

/-- Entries in slots 0 and 15 of the leap table; the next may leave 86400·20001 + 27. -/
def leapS : State := setFs (runs (86400 * 20000 * 65536000000000)) [(SPN_LEAPn_valid, 0, 1), (SPN_LEAPn_e, 0, 86400 * 10000 + 26), (SPN_LEAPn_offset, 0, 26),
  (SPN_LEAPn_applied, 0, 1), (SPN_LEAPn_valid, 15, 1), (SPN_LEAPn_e, 15, 86400 * 20001 + 27), (SPN_LEAPn_offset, 15, 27), (SPN_LEAP_STAGE_e, 0, 86400 * 20003 + 28),
  (SPN_LEAP_STAGE_offset, 0, 28)]

theorem test_leaps : (let s := leapS
    let due := atTime s ((86400 * 20001 + 27) * 65536000000000)
    let flag := atTime s ((86400 * 20001 + 26) * 65536000000000)
    allB [decide (s.leaps = [0, 15] ∧ s.lastLeap = some 15 ∧ (List.range 16).find? (fun k => !s.leapValid k) = some 1),
      ends (.leapAdd .host) s (fun t => decide (t.rf SPN_LEAP_RESULT_result = 0 ∧ t.rf SPN_LEAP_RESULT_slot = 1 ∧ t.leapValid 1 = true ∧
        t.rf SPN_LEAPn_e 1 = 86400 * 20003 + 28 ∧ t.rf SPN_LEAPn_offset 1 = 28 ∧ t.rf SPN_LEAPn_applied 1 = 0)),
      ends (.leapCancel .host 15) s (fun t => decide (t.leapValid 15 = false ∧ t.rf SPN_LEAP_RESULT_result = 0 ∧ t.leapValid 0 = true)),
      runsB (.leapCancel .host 7) s (s.wf SPN_LEAP_RESULT_result 6), decide (due.nextLeap = some 15),
      ends .leapApply due (fun t => decide (t.rb SPN_LEAPn_applied 15 = true ∧ t.rb SPN_UTC_STATUS_valid = true ∧ t.rf SPN_UTC_STATUS_offset = 27)),
      decide (flag.nextLeap = some 15), ends .leapSecondStart flag (fun t => decide (t.rb SPN_UTC_STATUS_leap59 = false ∧ t.rb SPN_UTC_STATUS_leap61 = true ∧
        t.rb SPN_UTC_STATUS_in_leap = true)), ends .leapWarningStart (atTime s ((86400 * 20000 + 26) * 65536000000000)) (fun t => decide (t.rb SPN_UTC_STATUS_leap61 = true ∧
        t.rb SPN_UTC_STATUS_in_leap = false)), ends .leapWarningStart (atTime s ((86400 * 20000 + 25) * 65536000000000)) (fun t => decide (t.rb SPN_UTC_STATUS_leap61 = false))]) =
    true := by decide +kernel

theorem test_ready_bits : (let s := (runs 5).wf (readyFld 2) 0
    allB [s.canRise 2, ends (.readyBitChange 2 true) s (fun t => decide (t.isReady 2 = true ∧ t.rf (readyEvtFld 2) 0 = 1 ∧ t.bit32 SYS_IRQ_CAUSEw_cause 3 = true)),
      (let u := (runs 5).wf (readyFld 8) 1
       u.canFall 8 && ends (.readyBitChange 8 false) u (fun t => decide (t.isReady 8 = false ∧ t.rf (readyEvtFld 8) 0 = 1 ∧ t.isReady 0 = true))),
      stays (.readyBitChange 2 true) (runs 5), stays (.readyBitChange 15 false) (runs 5)]) = true := by decide +kernel

theorem test_journal : (let s := runs 131080
    let empty := s.setQueue 390 { s.queue 390 with c := 0 }
    let full := s.setQueue 390 { s.queue 390 with c := 0, out := some ⟨7, .word 8⟩ }
    allB [s.domValid 42, decide (0 < (s.queue 390).c ∧ s.jnl.strOvf = []),
      ends (.journalStreamPush 42 0x1234 0xFFFF (2 ^ 64 - 1) none) s (fun t => decide (t.queue 390 = (s.queue 390).push ⟨131072, .entry ⟨131072, 0xFFFF, 0x1234, 42, 0, 2 ^ 64 - 1, 0⟩⟩ ∧
        tabGet 0 0x1234 t.jnl.seqs = 1 ∧ t.regs = s.regs)),
      ends (.journalStreamPush 42 1 2 3 (some 70)) (withQ s 390 [⟨71, .word 1⟩]) (fun t => decide ((t.queue 390).items = [⟨70, .entry ⟨70, 2, 1, 42, 4, 3, 0⟩⟩, ⟨71, .word 1⟩])),
      ends (.journalStreamPush 42 0x1234 0xFFFF 0 none) empty (fun t => decide (t.regs = empty.regs ∧ t.queue 390 =
        { empty.queue 390 with out := some ⟨131072, .entry ⟨131072, 0xFFFF, 0x1234, 42, 0, 0, 0⟩⟩ })),
      ends (.journalStreamPush 42 0x1234 0xFFFF 0 none) full (fun t => decide (t.queues = full.queues ∧ t.regs = (full.inc JNL_OVFn_count 42).regs ∧ 42 ∈ t.jnl.strOvf ∧
        tabGet 0 0x1234 t.jnl.seqs = 1)),
      s.domValid 40, ends (.jnlHostPush .host) (setFs s [(JNL_HOST_CODE_code, 0, 0xFF), (JNL_HOST_PAYLOAD_payload, 0, 9)]) (fun t => decide (t.queue 388 =
        (s.queue 388).push ⟨131072, .entry ⟨131072, 0xFFFF, 0xFF00, 40, 8, 9, 0⟩⟩)),
      ends (.jnlHostPush (.frond 0)) s (fun t => alike t (s.inc SYS_FW_WRITE_IGNORED_count))]) = true := by decide +kernel

theorem test_gradebook : (let e : JEntry := ⟨5, 1, 2, 0, 0, 9, 0⟩
    let s := withQ (withQ (runs 65536000000) 348 [⟨5, .entry e⟩]) 391 [⟨5, .entry { e with domain := 43 }⟩]
    let late := withQ (runs 5) 348 [⟨5, .entry e⟩]
    let b := setFs { s with jnl := { s.jnl with book := [⟨e, 0⟩] }, pcie := { s.pcie with bme := true } } [(JNL_CTL_dma_en, 0, 1), (JNL_DMA_SIZE_log2n, 0, 20), (JNL_DMA_BASE_base, 0, 64),
      (JNL_DMA_HEAD_head, 0, 2 ^ 20 - 1), (JNL_DMA_TAIL_tail, 0, 2 ^ 20 - 1)]
    allB [decide (s.mergeNext = some (0, e)), (match s.lowWatermark with | some w => decide (e.stamp ≤ w) | none => false), s.concurrent 0 5,
      ends .gradebookMergeWrite s (fun t => decide (t.jnl.book = [⟨{ e with flags := 1 }, 65536000000⟩] ∧ t.rf JNL_FILL_fill = 1 ∧ t.jnl.dropped = 0)),
      decide (late.mergeNext = some (0, e)), (match late.lowWatermark with | some w => decide (w < e.stamp) | none => false), stays .gradebookMergeWrite late,
      b.pdOn 19, ends .gradebookDmaCopy b (fun t => decide (t.jnl.book = [] ∧ t.pcie.posted = some (64 + 32 * (2 ^ 20 - 1), e.bytes) ∧ t.rf JNL_DMA_HEAD_head = 0)),
      ends (.jnlDmaTailWrite .host (2 ^ 20 - 1)) b (fun t => alike t (b.wf JNL_DMA_TAIL_tail (2 ^ 20 - 1))),
      ends .jnlDrainWaitExpire (b.wf JNL_THRESH_wait 999) (fun t => t.bit32 SYS_IRQ_CAUSEw_cause 18 && alike (b.wf JNL_THRESH_wait 999) t),
      decide (e.bytes.length = 32)]) = true := by decide +kernel

theorem test_queues : (let s := State.reset.setQueue 1791 { State.reset.queue 1791 with items := [⟨0, .word 1⟩], vis := 0, c := 14, q := 0, a := 2 ^ 32 - 1 }
    let u := s.setQueue 1791 { s.queue 1791 with vis := 1 }
    allB [decide ((s.queue 1791).c + 1 + 1 = qDepth 1791), ends (.queueEntryVisible 1791) s (fun t => alike t u), stays (.queueEntryVisible 1791) u,
      ends (.creditReturn 1791) s (fun t => decide ((t.queue 1791).c = 15 ∧ (t.queue 1791).a = 0 ∧ (t.queue 1791).items = (s.queue 1791).items))]) = true := by decide +kernel

theorem test_sources : (let s := setFs State.reset [(SYS_IRQ_ROUTEn_en, 351, 1), (FRD_EVT_ROUTEn_mask, 351, 0x8001), (FRD_EVT_ROUTEn_line, 351, 62)]
    allB [srcListed 351, !srcListed 352, ends (.interruptSourceAssert 351 5) s (fun t => decide (t.bit32 SYS_IRQ_CAUSEw_cause 351 = true ∧ t.bit32 SYS_IRQ_PENDw_pend 351 = true ∧
        (t.frond 15).evtPend = 2 ^ 62 ∧ (t.frond 0).evtPend = 2 ^ 62) && alike s t),
      ends (.interruptSourceAssert 350 5) s (fun t => decide (t.bit32 SYS_IRQ_CAUSEw_cause 350 = true ∧ t.bit32 SYS_IRQ_PENDw_pend 350 = false)),
      stays (.interruptSourceAssert 352 5) s]) = true := by decide +kernel

theorem test_messages : (let s := let u := setFs State.reset [(SYS_IRQ_PENDw_pend, 0, 3), (SYS_IRQ_ROUTEn_en, 1, 1), (SYS_IRQ_ROUTEn_vector, 1, 63), (MSIX_ENTRY_addr, 63, 0x123456789C), (MSIX_ENTRY_data, 63, 7), (MSIX_ENTRY_mask, 63, 0)]
      { u with pcie := { u.pcie with msixEn := true, bme := true } }
    allB [s.vecPending 63, !s.rb MSIX_ENTRY_mask 63, ends (.msixMessageSend 63) s (fun t => decide (t.pcie.posted = some (0x123456789C, [7, 0, 0, 0]))),
      stays (.msixMessageSend 63) { s with pcie := { s.pcie with bme := false } }, stays (.msixMessageSend 63) (s.wf MSIX_ENTRY_mask 1 63)]) = true := by decide +kernel

theorem test_routes : (let s := State.reset.wf SYS_IRQ_PENDw_pend 2 0
    allB [ends (.irqRouteWrite .host 351 0x7F) s (fun t => alike t ((s.wf SYS_IRQ_ROUTEn_vector 63 351).wf SYS_IRQ_ROUTEn_en 1 351)),
      ends (.irqRouteWrite .host 1 0x3F) s (fun t => decide (t.rf SYS_IRQ_ROUTEn_vector 1 = 63 ∧ t.rf SYS_IRQ_ROUTEn_en 1 = 0 ∧ t.bit32 SYS_IRQ_PENDw_pend 1 = false)),
      stays (.irqRouteWrite .host 0 0x7F) s, ends (.irqRouteWrite (.frond 1) 5 0x7F) s (fun t => alike t (s.inc SYS_FW_WRITE_IGNORED_count))]) = true := by decide +kernel

/-! ## Chains, outputs and ports -/

/-- Every domain ON, the chip in RUN, spine time at `z`, both chains locked, chain 1 ahead by 40 units. -/
def both (z : Int) : State :=
  let s := setFs (runs z) [(SYN_STATUS_lock_b, 0, 1), (readyFld 1, 0, 1), (readyFld 3, 0, 1), (PWR_STATEk_state, 0, 0), (PWR_STATEk_state, 1, 0), (PWR_STATEk_state, 2, 0),
    (PWR_STATEk_state, 3, 0)]
  let c := { s.tm.chains[1] with raw := z + 40, rawOn := true }
  { s with tm := { s.tm with chains := s.tm.chains.set 1 c }, pwr := { s.pwr with chip := .run } }

theorem test_osc_detect : (let s := setFs State.reset [(SYN_OSC_CFG_en, 0, 1), (SYN_OSC_CFG_freq, 0, 1), (SYN_OSC_CFG_en, 1, 1), (SYN_OSC_CFG_freq, 1, 5)]
    allB [ends (.oscFreqDetect 0 10010000) s (fun t => alike t ((s.wf (detFld 0) 1).wf (searchFld 0) 1)),
      ends (.oscFreqDetect 0 10010001) s (fun t => alike t ((s.wf (detFld 0) 7).wf (searchFld 0) 0)),
      ends (.oscFreqDetect 1 99900000) s (fun t => alike t ((s.wf (detFld 1) 5).wf (searchFld 1) 1)),
      ends (.oscFreqDetect 1 99899999) s (fun t => alike t ((s.wf (detFld 1) 7).wf (searchFld 1) 0)),
      stays (.oscFreqDetect 0 10000000) (runs 5)]) = true := by decide +kernel

theorem test_chain_lock : (let u := setFs { State.reset with pwr := { State.reset.pwr with chip := .run } } [(SYN_OSC_CFG_en, 1, 1), (SYN_OSC_CFG_freq, 1, 2), (SYN_STATUS_det_b, 0, 2)]
    let v := setFs (runs 1000) [(SYN_OSC_CFG_en, 1, 1), (SYN_OSC_CFG_freq, 1, 2), (SYN_STATUS_det_b, 0, 2)]
    allB [u.live, decide (u.locked 1 = false), ends (.chainLock 1 9 0) u (fun t => t.locked 1 && t.isReady 1 && decide (t.active = 1 ∧ t.now = u.now)),
      ends (.chainLock 1 (-900) 0) v (fun t => t.locked 1 && decide (t.active = 0 ∧ t.tm.rawOf 1 = 1000 - 327 ∧ t.now = v.now)),
      (let o := v.wf SYN_STATUS_lock_a 0; ends (.chainLock 1 900 8) o (fun t => decide (t.active = 0 ∧ t.tm.relock = some (1, 327, 8)))),
      (let o := (both 1000).setTm { (both 1000).tm with relock := some (1, 327, 8) }
       ends (.spineTick 0) o (fun t => decide (t.active = 1 ∧ t.tm.relock = none ∧ t.rf SYN_FAILOVERS_count = 1)))]) = true := by decide +kernel

theorem test_chain_lost : (let s := both 1000
    allB [s.locked 0, decide (s.active = 0), s.locked 1, decide (s.now = s.raw + s.tm.total),
      ends (.chainLost 0 false 5) s (fun t => decide (t.locked 0 = false ∧ t.isReady 0 = false ∧ t.active = 1 ∧ t.now = s.now ∧ t.rf SYN_FAILOVERS_count = 1 ∧
        t.now = t.raw + t.tm.total ∧ t.raw = s.raw + 40)),
      ends (.chainLost 0 true 5) (runs 1000) (fun t => decide (t.locked 0 = false ∧ t.now = (runs 1000).now) && t.rb SYS_FATAL_clock)]) = true := by decide +kernel

theorem test_switch : (let s := setFs (both 131072000000) [(SYN_CTL_revert, 0, 1), (SYN_CTL_prefer, 0, 1), (SYN_RESTORE_WAIT_secs, 0, 0)]
    let w := s.setTm { s.tm with lastSwitch := some 65536000000 }
    allB [decide (s.active ≤ 1), ends (.synSwitch .host 0) (runs 5) (fun t => alike t ((runs 5).wf SYN_RESULT_result 1)),
      ends (.synSwitch .host 0) (s.wf TLY_RING_FILL_reserve 1) (fun t => alike t ((s.wf TLY_RING_FILL_reserve 1).wf SYN_RESULT_result 2)),
      decide (65536000000 + uMs ≤ s.now), ends (.synSwitch .host 7) w (fun t => decide (t.active = 1 ∧ t.now = w.now ∧ t.rf SYN_RESULT_result = 0 ∧ t.now = t.raw + t.tm.total)),
      ends (.timebaseRevert 0) w (fun t => decide (t.active = 1 ∧ t.now = w.now)), stays (.timebaseRevert 0) (both 5),
      decide ((s.chain 1).lockedAt + (s.rf SYN_RESTORE_WAIT_secs : Int) * uSec ≤ s.now)]) = true := by decide +kernel

theorem test_cross_monitor : (let s := (both 65536000000001).wf SYN_STATUS_xdispute 1
    let b := both 1000
    allB [decide (b.xmonWin * 8192 < 400000 * 8000), runsB (.crossMonitorTrip 400000) b ((b.setTm { b.tm with xOutAt := b.now }).wf SYN_STATUS_xdispute 1),
      stays (.crossMonitorTrip 5) b, ends .xdisputeClear s (fun t => alike t (s.wf SYN_STATUS_xdispute 0)), stays .xdisputeClear (b.wf SYN_STATUS_xdispute 1)]) = true := by
  decide +kernel

theorem test_chain_writes : (let s := setFs (both 1000) [(SYN_OSC_CFG_freq, 1, 2), (SYN_OSC_CFG_en, 1, 1), (SYN_TUNE_CTL_mode, 0, 1), (SYN_TUNE_NOW_code, 0, 100),
      (SYN_TUNE_CODE_target, 0, 16777215), (SYN_TUNE_SLEW_rate, 0, 7)]
    allB [ends (.synOscConfigWrite .host 1 10 0) s (fun t => alike t s), ends (.synOscConfigWrite .host 1 11 0) s (fun t => decide (t.locked 1 = false ∧ t.rf SYN_OSC_CFG_freq 1 = 3)),
      ends (.synOscConfigWrite .host 1 11 0) (runs 5) (fun t => alike t (((((runs 5).wf SYN_OSC_CFG_freq 3 1).wf SYN_OSC_CFG_en 1 1).wf (detFld 1) 7).wf (searchFld 1) 0)),
      ends (.synAgeingCommit .host 1) s (fun t => (t.chain 1).age.commit && decide (t = { s with tm := { s.tm with chains := s.tm.chains.set 1 (t.chain 1) } } ∧
        (t.chain 1).raw = (s.chain 1).raw)), decide ¬ (s.mode = 3 ∧ s.active = 0),
      ends .tuneCodeStep s (fun t => decide (t.now = s.now ∧ t.tm.tuneAt = some s.raw ∧ t.rf SYN_TUNE_NOW_code = 107)),
      stays .tuneCodeStep (s.setTm { s.tm with tuneAt := some (s.raw + 1 - uSec) }),
      ends .tuneCodeStep (s.setTm { s.tm with tuneAt := some (s.raw - uSec) }) (fun t => decide (t.rf SYN_TUNE_NOW_code = 107)),
      ends .tuneCodeStep (s.wf SYN_TUNE_CODE_target 98) (fun t => decide (t.rf SYN_TUNE_NOW_code = 98)),
      ends .tuneCodeStep (s.wf SYN_TUNE_CTL_mode 0) (fun t => alike t ((s.wf SYN_TUNE_CTL_mode 0).wf SYN_TUNE_NOW_code 0x800000))]) = true := by decide +kernel

theorem test_output_writes : (let s := both 1000
    let r := s.wf OUTn_STATUS_state 2 33
    allB [decide (s.outState 31 = 0), decide (0 = s.rf OUTn_CTL_mult 31), s.locked s.active, s.pdOn (15 + 31 / 8),
      ends (.outEnableWrite .host 31 3) s (fun t => decide (t.outState 31 = 1 ∧ t.rf OUTn_CTL_track 31 = 1 ∧ t.queues = s.queues ∧ t.tm = s.tm) && t.rb OUTn_CTL_en 31),
      ends (.outEnableWrite .host 0 6) (s.wf OUTn_STATUS_state 2 0) (fun t => decide (t.outState 0 = 0 ∧ t.rb OUTn_CTL_en 0 = false ∧ t.outHigh 0 7 = decide (t.now + 7 < (t.out 0).lastFall))),
      s.planBad 31 == false, (s.wf OUTn_INC_inc (2 ^ 62 + 1) 31).planBad 31,
      ends (.outEnableWrite .host 31 3) (s.wf OUTn_INC_inc (2 ^ 62 + 1) 31) (fun t => decide (t.outState 31 = 4 ∧ t.rf OUTn_SQUELCH_count 31 = 1) && t.rb OUTn_STATUS_plan_err 31),
      ends (.outFreqChange .host 31 (.inc (BitVec.ofNat 64 (2 ^ 62)))) s (fun t => decide (t.rf OUTn_INC_inc 31 = 2 ^ 62 ∧ t.outs = s.outs ∧ t.rb OUTn_STATUS_plan_err 31 = false)),
      ends (.outFreqChange .host 0 (.inc (BitVec.ofNat 64 (2 ^ 62 + 1)))) s (fun t => decide (t.outs = s.outs ∧ t.rb OUTn_STATUS_plan_err 0 = true)),
      ends (.outFreqChange .host 33 (.freq 77)) r (fun t => decide (t.rf OUTn_FREQ_w 33 = 77 ∧ (t.outState 33 = 2 ↔ t.outTarget 33 = (r.out 33).cur) ∧
        (t.outState 33 = 3 ↔ t.outTarget 33 ≠ (r.out 33).cur)))]) = true := by decide +kernel

theorem test_output_runs : (let s := both 65536000000000
    let g := (s.wf OUTn_STATUS_state 3 35).setOut 35 { s.out 35 with cur := s.outTarget 35 }
    let w := setFs s [(OUTn_STATUS_state, 7, 1), (OUTn_INC_inc, 7, 2 ^ 50)]
    allB [ends (.glideTargetReached 35) g (fun t => alike t (g.wf OUTn_STATUS_state 2 35)), stays (.glideTargetReached 35) (g.setOut 35 { g.out 35 with cur := 5 }),
      ends (.outMdllSearchDone 35) (s.wf OUTn_STATUS_state 5 35) (fun t => decide (t.outState 35 = 1)),
      ends (.outMdllSearchDone 30) (setFs s [(OUTn_STATUS_state, 30, 5), (OUTn_CTL_mult, 30, 7)]) (fun t => decide (t.outState 30 = 1 ∧ (t.out 30).mdll = 8 * s.outTarget 30)),
      decide (w.outState 7 = 1 ∧ w.outNextB 7 ≤ w.now ∧ (w.out 7).lastFall + w.outPeriod 7 / 2 ≤ w.outNextB 7),
      ends (.outSyncBoundary 7) w (fun t => decide (t.outState 7 = 2 ∧ (t.out 7).cur = w.outTarget 7 ∧ t.rb OUTn_STATUS_aligned 7 = false)),
      ends (.outSyncBoundary 7) (w.wf OUTn_CYC_cyc 1 7) (fun t => decide (t.outState 7 = 2 ∧ t.rb OUTn_STATUS_aligned 7 = true))]) = true := by decide +kernel

theorem test_sync_edge : (let s := setFs (both 1000) [(TIOn_CFG_func, 31, 6), (TIO_VDDO_level, 0, 255), (OUTn_CTL_sync_en, 5, 1), (OUTn_CTL_sync_port, 5, 31), (OUTn_SYNC_DELAY_delay, 5, 1000)]
    let q := s.setTio 31 { s.tio 31 with syncEdges := [900, 901] }
    allB [decide ((s.out 5).lastSync = none), stays (.syncEdge 31) s,
      ends (.syncEdge 31) q (fun t => decide ((t.out 5).lastSync = some 900 ∧ (t.out 5).origin = 900 + psToUnits 1000 ∧ (t.tio 31).syncEdges = [901])),
      ends (.syncEdge 31) (q.wf OUTn_STATUS_state 2 5) (fun t => decide ((t.out 5).lastSync = some 900 ∧ (t.out 5).origin = 900 + psToUnits 1000))]) = true := by decide +kernel

theorem test_bell : (let s := (both 65536000000000).wf TIOn_CFG_func 2 31
    let x := s.setTio 31 { s.tio 31 with bellRaw := some (65536000000000 - 1) }
    let e := let u := (both (65536000000000 - 1)).wf TIOn_CFG_func 2 31; u.setTio 31 { u.tio 31 with bellFrom := 1 }
    let l := e.setTio 31 { e.tio 31 with calNow := 1 }
    allB [decide (s.tioFunc 31 = 2), decide (e.bellDue 31 = some 65536000000000 ∧ e.tioLead 31 = 0 ∧ l.tioLead 31 = 1),
      ends (.bellPulse 31) e (fun t => decide (t.regs = e.regs ∧ (t.tio 31).bellAt = none)),
      ends (.bellPulse 31) l (fun t => decide ((t.tio 31).bellAt = some 65536000000000 ∧ (t.tio 31).cmdAt = some l.now)), s.pdOn (tioDom 31), s.isReady 3, decide ((s.tio 31).alignAt = none ∧ s.bellDue 31 = some 65536000000000),
      ends (.bellPulse 31) s (fun t => decide ((t.tio 31).bellAt = some 65536000000000 ∧ (t.tio 31).bellHigh = some (65536000000000 + s.bellWidth 31) ∧
        (t.tio 31).bellRaw = some s.raw ∧ t.regs = s.regs)),
      ends (.bellPulse 31) x (fun t => decide (t.rf TIOn_BELL_SKIP_count 31 = 1 ∧ (t.tio 31).bellAt = (x.tio 31).bellAt))]) = true := by decide +kernel

theorem test_bell_writes : (let s := both 1000
    let a := setFs s [(TIOn_CFG_func, 31, 2), (TIO_VDDO_level, 0, 255), (TIOn_BELL_ALIGN_src, 31, 1), (TIOn_BELL_ALIGN_window, 31, 1000)]
    let p := a.bellPeriod 31
    let q := fun (e : Int) => a.setTio 31 { a.tio 31 with alignEdges := [e, e + 9] }
    let w := fun (e : Int) => a.setTio 31 { a.tio 31 with alignAt := some 0, alignEdges := [e] }
    allB [ends (.bellConfigWrite .host 31 .width (BitVec.ofNat 32 (2 ^ 32 - 1))) s (fun t => alike t (s.wf TIOn_BELL_WIDTH_ns (2 ^ 30 - 1) 31)),
      ends (.bellConfigWrite .host 0 .period 70000) s (fun t => decide (t.regs = (s.wf TIOn_BELL_PERIOD_ms 4464 0).regs ∧ (t.tio 0).bellFrom = s.now)),
      ends (.bellConfigWrite .host 0 .ofs 7) s (fun t => decide (t.regs = (s.wf TIOn_BELL_OFS_ofs 7 0).regs)),
      ends (.bellConfigWrite .host 31 .align 63) s (fun t => decide (t.rf TIOn_BELL_ALIGN_src 31 = 1 ∧ t.rf TIOn_BELL_ALIGN_port 31 = 31 ∧
        t.rb TIOn_STATUS_bell_aligned 31 = false ∧ (t.tio 31).alignAt = none)),
      stays (.bellAlignInputEdge 31) a, ends (.bellAlignInputEdge 31) (q 0) (fun t => decide ((t.tio 31).alignAt = some 0 ∧ (t.tio 31).alignEdges = [9] ∧
        t.rb TIOn_STATUS_bell_aligned 31 = true)),
      ends (.bellAlignInputEdge 31) (w (p + 655360)) (fun t => decide ((t.tio 31).alignAt = some (p + 655360) ∧ t.rb TIOn_STATUS_bell_aligned 31 = true)),
      ends (.bellAlignInputEdge 31) (w (p - 655361)) (fun t => decide ((t.tio 31).alignAt = some 0 ∧ t.rf TIOn_ALIGN_IGNORED_count 31 = 1))]) = true := by
  decide +kernel

theorem test_port_writes : (let s := (both 1000).wf TIOn_CFG_func 3 31
    let q := (withQ s 343 [⟨0, .edge 5 true⟩, ⟨0, .edge 6 true⟩]).setTio 31 { s.tio 31 with taken := some (4, false) }
    allB [ends (.tioCfgWrite .host 31 (BitVec.ofNat 32 (2 + 16 * 31 + 2 ^ 9 * 5))) q (fun t => decide (t.rf TIOn_CFG_func 31 = 2 ∧ t.rf TIOn_CFG_chan 31 = 31 ∧
        t.rf TIOn_CFG_std 31 = 5 ∧ (t.queue 343).items = [] ∧ (t.tio 31).taken = none ∧ t.rf TIOn_EDGE_LATE_count 31 = 3)),
      ends (.tioCfgWrite .host 31 8) q (fun t => decide (t.rf TIOn_CFG_func 31 = 8 ∧ (t.queue 343).items = [])),
      decide (s.rf TIO_VDDO_level < 256), ends (.tioVddoChange 3 2) s (fun t => decide ((∀ n : Fin 32, n.val / 8 = 3 → t.tioVddo n.val = 2) ∧
        ∀ n : Fin 32, n.val / 8 ≠ 3 → t.tioVddo n.val = s.tioVddo n.val))]) = true := by decide +kernel

theorem test_edges : (let s := (both 1000).wf TIOn_CFG_func 3 31
    let q := withQ s 343 [⟨0, .edge (1000 + 20 * 65536) true⟩]
    let l := withQ s 343 [⟨0, .edge (1000 + 20 * 65536 - 1) true⟩]
    let p := s.setTio 31 { s.tio 31 with taken := some (1000, true) }
    allB [ends (.edgeTake 31) q (fun t => decide ((t.tio 31).taken = some (1000 + 20 * 65536, true) ∧ (t.queue 343).items = [] ∧ t.regs = s.regs)),
      ends (.edgeTake 31) l (fun t => decide ((t.tio 31).taken = none ∧ (t.queue 343).items = [] ∧ t.rf TIOn_EDGE_LATE_count 31 = 1)),
      ends (.edgePlace 31) p (fun t => decide ((t.tio 31).drive = true ∧ (t.tio 31).taken = none ∧ t.tioLevel 31 = true)),
      stays (.edgePlace 31) (s.setTio 31 { s.tio 31 with taken := some (1001, true) }),
      ends (.edgePlace 31) (s.setTio 31 { s.tio 31 with taken := some (1001, true), calNow := 1 }) (fun t => decide ((t.tio 31).drive = true ∧ (t.tio 31).cmdAt = some 1000)),
      stays (.edgeTake 31) (q.wf (readyFld 3) 0), stays (.edgePlace 31) (p.wf (readyFld 3) 0)]) = true := by decide +kernel

theorem test_tod : (let s := setFs (both 65536000000) [(TIOn_CFG_func, 31, 4), (TIOn_CFG_func, 3, 2), (TIOn_TOD_CFG_pps_port, 31, 3), (TIOn_TOD_CFG_start_ms, 31, 1), (TIOn_CFG_func, 4, 7), (TIO_VDDO_level, 0, 255)]
    let w := 2 ^ 63 + 7 * 2 ^ 56 + 0x01020304050607
    let q := (withQ s 1055 [⟨0, .word w⟩]).setTio 3 { s.tio 3 with bells := [5, 0] }
    allB [decide (s.rf TIOn_TOD_CFG_pps_port 31 < 32), decide ((q.tio 31).todUsed ≠ some 0),
      ends (.todOutStart 31) q (fun t => decide ((t.tio 31).tod = [7, 6, 5, 4, 3, 2, 1] ∧ (t.queue 1055).items = [] ∧ (t.tio 31).todAt = some 65536000000)), s.tioHears 4,
      decide ((q.tio 3).bells.getLast? = some 0), (Instr.todInCharacter 4 0x41 false 131072).wf, decide (0 < (s.queue 1060).c),
      ends (.todInCharacter 4 0x41 false 131072) s (fun t => alike t (s.qPush 1060 ⟨coarse 131072, .word (0x41 + (coarse 131072 / uNs % 281474976710656).toNat * 2 ^ 16)⟩))]) =
    true := by decide +kernel

theorem test_loopback : (let s := setFs (both 1000) [(TIOn_CFG_func, 31, 1), (TIOn_CFG_lb_cal, 31, 1), (TIO_VDDO_level, 0, 255), (TWN_STATUS_gate, 0, 1)]
    let b := fun (n : Nat) (sum : Int) => let u := (s.setTio 31 { s.tio 31 with calBusy := true }).wf TDCn_STATUS_claim 1 31
      u.setUnit 31 { u.unit 31 with burst := (n, sum) }
    let free := fun (n : Nat) (sum : Int) => (b n sum).setTio 31 { (b n sum).tio 31 with calBusy := false }
    allB [s.tioDrives 31, ends (.loopbackCalBurst 31) s (fun t => alike t (s.setTio 31 { s.tio 31 with calBusy := true, calAt := some s.now })),
      decide (((b 1024 209715).claim 31 = 1)),
      ends (.loopbackCalComplete 31) (b 1024 209715) (fun t => alike t (((free 1024 209715).ws TIOn_CAL_DELAY_delay 200 31).wf TIOn_STATUS_cal_valid 1 31)),
      ends (.loopbackCalComplete 31) (b 1024 (3000 * 1048576 / 1000)) (fun t => t.rb TIOn_STATUS_cal_valid 31),
      runsB (.loopbackCalComplete 31) (b 1024 208000) ((free 1024 208000).wf TIOn_STATUS_cal_valid 0 31), runsB (.loopbackCalComplete 31) (b 1024 3147000) ((free 1024 3147000).wf TIOn_STATUS_cal_valid 0 31),
      stays (.loopbackCalComplete 31) (b 1023 209715)]) = true := by decide +kernel

/-! ## Measurement units -/

/-- `both`, with measurement calibrated. -/
def meas (z : Int) : State := (both z).wf (readyFld 4) 1

theorem test_unit_arms : (let s := both 1000
    let r := meas 1000
    let c := r.wf TDCn_STATUS_claim 2 39
    let b := (r.wf TDCn_STATUS_state 2 39).setUnit 39 { r.unit 39 with start := some 3 }
    let w := (r.wf TDCn_STATUS_state 1 39).setUnit 39 { r.unit 39 with sched := some 936, armAt := 1000 }
    let a := r.wf TDCn_STATUS_state 1 39
    allB [s.pdServed 1, decide (s.claim 39 = 0 ∧ s.rf TDCn_CTL_mode 39 ≠ 3 ∧ s.tdcState 39 = 0),
      ends (.tdcArm .host 39) r (fun t => decide ((t.unit 39).results = 0 ∧ t.queues = r.queues ∧ t.tm = r.tm ∧ t.tdcState 39 = 2 ∧ (t.unit 39).armAt = r.raw)),
      ends (.tdcArm .host 0) s (fun t => decide (t.tdcState 0 = 1 ∧ (t.unit 0).held = true)), runsB (.tdcArm .host 39) c c, runsB (.tdcDisarm .host 39) c c,
      ends (.tdcDisarm .host 39) b (fun t => decide (t.tdcState 39 = 0 ∧ (t.unit 39).start = none ∧ (t.unit 39).stop = none ∧ (∀ m : Fin 40, m ≠ 39 → t.unit m.val = b.unit m.val ∧
        t.tdcState m.val = b.tdcState m.val))),
      w.tdcRuns 39, decide (936 ≤ w.refine (binOf w.raw)),
      ends (.tdcScheduledArm 39) w (fun t => decide (t.tdcState 39 = 2 ∧ (t.unit 39).sched = none ∧ (t.unit 39).armAt = binOf (w.raw - (w.now - 936)) * 64)),
      stays (.tdcScheduledArm 39) b, ends (.tdcRearm 39) (a.setUnit 39 { a.unit 39 with armAt := 1000 }) (fun t => decide (t.tdcState 39 = 2 ∧ (t.unit 39).armAt = 1000)),
      stays (.tdcRearm 39) (a.setUnit 39 { a.unit 39 with armAt := 1001 })]) = true := by decide +kernel

theorem test_unit_settings : (let s := both 1000
    let b := s.wf TDCn_STATUS_state 2 39
    allB [ends (.tdcConfigWrite .host 39 .skip (BitVec.ofNat 32 (2 ^ 24 + 5))) s (fun t => alike t (s.wf TDCn_SKIP_skip 5 39)),
      ends (.tdcConfigWrite .host 39 .limit (BitVec.ofNat 32 (2 ^ 32 - 1))) s (fun t => alike t (s.wf TDCn_LIMIT_us (2 ^ 32 - 1) 39)),
      runsB (.tdcConfigWrite .host 39 .skip 7) b b, runsB (.tdcConfigWrite .host 39 .limit 7) b b, runsB (.tdcConfigWrite .host 39 .src 7) b b,
      srcAllowed 39 0x77 true, srcAllowed 39 0x50 false,
      ends (.tdcConfigWrite .host 39 .src 0x5077) s (fun t => decide (t.rf TDCn_SRC_start 39 = 0x77 ∧ t.rf TDCn_SRC_stop 39 = 0x50 ∧ t.tdc = s.tdc)),
      ends (.tdcConfigWrite .host 39 .ctl 0x7F) s (fun t => decide (t.rf TDCn_CTL_mode 39 = 3 ∧ t.tdcState 39 = 3 ∧ t.rf MOSSn_STATUS_state 39 = 1 ∧ t.rf TDCn_CTL_route_en 39 = 1 ∧
        t.rf TDCn_CTL_frond 39 = 15)),
      stays (.tdcConfigWrite .host 32 .ctl 3) s, stays (.tdcConfigWrite .host 0 .ctl 3) (s.wf PWR_STATEk_state 48), decide ((s.wf PWR_STATEk_state 48).pdServed 1 = false)]) = true := by decide +kernel

theorem test_unit_measures : (let s := (let u := setFs (meas 1000) [(TDCn_SRC_start, 39, 1), (TDCn_SRC_stop, 39, 2), (TDCn_STATUS_state, 39, 2), (TDCn_DONE_count, 39, 2 ^ 64 - 1),
        (TIO_VDDO_level, 0, 255), (TDCn_SRC_stop_edge, 39, 1)];
      u.setUnit 39 { u.unit 39 with armAt := 900, tab := (List.range 256).map (fun k => 64 * k + 3) })
    let a := s.setUnit 39 { s.unit 39 with start := some 900 }
    let m := s.wf TDCn_CTL_mode 2 39
    let l := (let u := (both 131072000).wf TDCn_LIMIT_us 1 39;
      (u.wf TDCn_STATUS_state 2 39).setUnit 39 { u.unit 39 with armAt := u.ringMark - 65536000 })
    let i := fun (src : Nat) => (s.wf TDCn_SRC_start src 39)
    let x := s.raw + 131011
    allB [s.tdcRuns 39, decide (s.claim 39 = 0 ∧ s.rf TDCn_CTL_mode 39 = 0 ∧ (s.unit 39).stop = none ∧ s.rf TDCn_LIMIT_us 39 = 0), isPad 1, s.tioHears 0, s.tioHears 1,
      ends (.tdcEdgeCapture 39 1 false 7 255) s (fun t => alike t (s.setUnit 39 { s.unit 39 with start := some x }) && decide ((t.unit 39).start = some x)),
      ends (.tdcEdgeCapture 39 1 true 7 255) s (fun t => decide ((t.unit 39).start = none)),
      decide (64 ≤ x - 900), ends (.tdcEdgeCapture 39 2 true 7 255) a (fun t => decide (t.rf TDCn_RESULT_item 39 % 2 ^ 57 = ((x - 900 + 31) / 64).toNat ∧
        t.tdcState 39 = 0 ∧ t.rf TDCn_DONE_count 39 = (a.rf TDCn_DONE_count 39 + 1) % 2 ^ TDCn_DONE_count.width)), stays (.tdcEdgeCapture 39 3 false 0 0) s,
      ends (.tdcEdgeCapture 39 2 true 0 5) m (fun t => decide (t.rf TDCn_STOP_TIME_time 39 = packTime (m.refine (binOf (m.raw + 323))))), stays (.tdcEdgeCapture 39 1 true 0 5) (both 5),
      ends (.tdcEdgeCapture 39 0x48 false 0 0) (i 0x48) (fun t => decide ((t.unit 39).start = some s.raw)), stays (.tdcEdgeCapture 39 0x49 false 0 0) (i 0x49),
      (let w := ((i 0x26).wf OUTn_STATUS_state 2 5).wf OUTn_INC_inc (2 ^ 50) 5
       let o := w.setOut 5 { s.out 5 with acc := -8192, cur := w.outTarget 5 }
       match o.outRise 5 with
       | some z => ends (.tdcEdgeCapture 39 0x26 false 0 0) o (fun t => decide ((t.unit 39).start = some z))
       | none => false),
      decide ((l.unit 39).armAt + (l.rf TDCn_LIMIT_us 39 : Int) * uUs ≤ l.ringMark),
      ends (.tdcLimitExpire 39) l (fun t => (t.rf TDCn_RESULT_item 39).testBit 59 && decide (t.tdcState 39 = 0)),
      stays (.tdcLimitExpire 39) (l.setUnit 39 { l.unit 39 with armAt := l.ringMark - 65535999 })]) = true := by decide +kernel

theorem test_unit_claims : (let s := (both 1000).setTio 31 { (both 1000).tio 31 with calBusy := true }
    allB [decide (s.tdcBusy 31 = false ∧ s.claim 31 ≠ s.claimFor 31), ends (.tdcClaimChange 31) s (fun t => decide (t.claim 31 = s.claimFor 31 ∧ t.now = s.now)),
      stays (.tdcClaimChange 31) (both 5), stays (.tdcClaimChange 32) s]) = true := by decide +kernel

/-- R195, R196: 256 codes of 500,000 hits in all, one bin each; a first code of `w` hits, with the others 2^20 in all. -/
theorem test_unit_tables : (let s := both 131072000000
    let flat := List.replicate 32 1954 ++ List.replicate 224 1953
    let h := fun (w : Nat) => w :: List.replicate 255 ((2 ^ 20 - w) / 255)
    let all := List.replicate 40 flat
    let b := setFs s [(TDC_CAL_CTL_bg_en, 0, 1), (TDC_CAL_CTL_hist, 0, 20)]
    let f := (b.wf TDC_CAL_FAIL_count 5).setUnit 39 { b.unit 39 with fails := 15 }
    allB [s.locked s.active, decide ((s.chain s.active).lockedAt + 2 * uMs ≤ s.now ∧ s.tm.run = true), hitsOk flat, decide (flat.sum = 500000 ∧ flat.length = 256),
      ends (.tdcStartupCalDone 77 all) s (fun t => t.isReady 4 && decide (t.rf TDC_TEMP_now = 77 ∧ ((t.unit 39).tab[1]?) = some 64) &&
        decide (∀ n : Fin 40, s.pdOn (if n.val = 32 then 0 else 1) = true → t.rb TDCn_STATUS_cal_valid n.val = true)),
      stays (.tdcStartupCalDone 77 all) State.reset, stays (.tdcStartupCalDone 77 all) (both 131071999999), stays (.tdcStartupCalDone 77 [[1]]) s,
      hitsOk (h 1036), decide ((h 1036).sum = 2 ^ 20 ∧ (h 781).sum = 2 ^ 20 ∧ (h 10471).sum = 2 ^ 20),
      ends (.tdcBgTableReady 39 7 (h 1036)) f (fun t => decide (t.rb TDCn_STATUS_cal_valid 39 = true ∧ (t.unit 39).fails = 0 ∧ t.rf TDC_TEMP_now = 7 ∧ ((t.unit 39).tab[1]?) = some 16)),
      ends (.tdcBgTableReady 39 7 (h 1036)) (f.wf TDCn_STATUS_state 2 39) (fun t => decide ((t.unit 39).fails = 0 ∧ (t.unit 39).tab = (f.unit 39).tab) && (t.unit 39).newTab.isSome),
      hitsOk (h 781) == false, ends (.tdcBgTableReady 39 7 (h 781)) f (fun t => decide ((t.unit 39).fails = 16 ∧ t.rf TDC_CAL_FAIL_count = 6 ∧ (t.unit 39).tabAt = (f.unit 39).tabAt)),
      hitsOk (h 10471) == false, ends (.tdcBgTableReady 39 7 (h 10471)) f (fun t => decide ((t.unit 39).fails = 16 ∧ t.rf TDC_CAL_FAIL_count = 6 ∧ (t.unit 39).tab = (f.unit 39).tab))]) = true := by decide +kernel

theorem test_moss : (let s := (let u := setFs (meas (131072000000000 - 15 * 65536000)) [(TDCn_CTL_mode, 39, 3), (MOSSn_STATUS_state, 39, 1), (TDCn_STATUS_state, 39, 3), (MOSSn_PERIOD_lead, 39, 5),
        (MOSSn_CTL_samples, 39, 2), (MOSSn_WIN_bins, 39, 10), (MOSSn_SPREAD_bins, 39, 0xFFFFFFFF)];
      u.setUnit 39 { u.unit 39 with mossFrom := 65536000000001 })
    let r := (let u := s.wf MOSSn_STATUS_state 2 39;
      u.setUnit 39 { u.unit 39 with mossFrom := 65536000000000, roundAt := u.ringMark, samples := [-3, -4] })
    let d := r.setUnit 39 { r.unit 39 with samples := [-30, -40] }
    allB [s.mossOn 39, decide (s.mossAhead 39 = 131072000000000 ∧ s.mossAhead 39 - (s.rf MOSSn_PERIOD_lead 39 : Int) * uUs - 20 * uUs ≤ s.now),
      ends (.mossRoundWake 39) s (fun t => decide (t.rf MOSSn_STATUS_state 39 = 2 ∧ t.tdcState 39 = 1 ∧ (t.unit 39).samples = [] ∧
        (t.unit 39).sched = some (s.mossAhead 39 - (s.rf MOSSn_PERIOD_lead 39 : Int) * uUs))),
      decide (r.mossNext 39 ≤ r.now), ends (.mossRoundWake 39) r (fun t => decide (t.rf MOSSn_SKIP_count 39 = 1 ∧ t.rf MOSSn_STATUS_state 39 = 2)),
      decide (r.mossN 39 ≤ (r.unit 39).samples.length ∧ r.mossCause 39 = 0),
      ends (.mossRoundEnd 39) r (fun t => decide (t.rf MOSSn_MEAN_mean 39 = ofSigned 57 (mossMean (r.unit 39).samples) ∧ t.rf MOSSn_STATUS_state 39 = 1 ∧ t.tdcState 39 = 3 ∧
        t.rf MOSSn_ROUNDS_count 39 = 1)),
      decide (d.mossCause 39 ≠ 0), ends (.mossRoundEnd 39) d (fun t => decide (t.rf MOSSn_STATUS_cause 39 = d.mossCause 39 ∧ t.rf MOSSn_STATUS_state 39 = 3 ∧
        t.rf TDCn_CTL_mode 39 = 0 ∧ t.rf MOSSn_DEV_count 39 = 1)),
      (let p := r.setUnit 39 { r.unit 39 with samples := [-3] }; decide ((p.unit 39).samples.length < p.mossN 39 ∧ p.ringMark < p.mossEnd 39) && stays (.mossRoundEnd 39) p),
      stays (.mossRoundWake 39) (both 5), stays (.mossRoundEnd 39) (both 5)]) = true := by decide +kernel

/-! ## Roll call and the servo -/

theorem test_slot_config : (let s := setFs (both 1000) [(RCLn_CFG_kind, 22, 5), (RCLn_CFG_src, 22, 1)]
    let e := setFs (both 1000) [(RCLn_CFG_en, 22, 1), (RCLn_CFG_kind, 22, 5), (RCLn_STATUS_state, 22, 3)]
    allB [decide (s.enableBad 22 7 0 = false), ends (.rclSlotConfigWrite .host 22 0x050017) s (fun t => decide (t.rb RCLn_CFG_en 22 = true ∧ t.slotState 22 = 1 ∧ t.rf RCLn_CFG_kind 22 = 7 ∧
        t.rf RCLn_CFG_src 22 = 0 ∧ t.rf RCLn_CFG_prio 22 = 5 ∧ t.now = s.now)),
      ends (.rclSlotConfigWrite .host 22 0) e (fun t => decide (t.rb RCLn_CFG_en 22 = false ∧ t.slotState 22 = 0)), stays (.rclSlotConfigWrite .host 23 0xFFFF) s]) = true := by
  decide +kernel

theorem test_slot_qualifies : (let s := setFs (both 65536000000000) [(RCLn_CFG_en, 22, 1), (RCLn_CFG_kind, 22, 5), (RCLn_STATUS_state, 22, 1)]
    let m := s.setSlot 22 { s.slot 22 with due := [(900, 5), (901, 6)] }
    let q := (let u := s.wf RCLn_STATUS_state 2 22; u.setSlot 22 { u.slot 22 with timer := (u.slotMark 22), gapFrom := (u.slotMark 22) })
    let l := q.setSlot 22 { q.slot 22 with timer := (q.slotMark 22) + 1 }
    let g := (let u := setFs s [(RCLn_STATUS_state, 22, 3), (RCLn_MISS_count, 22, 1)]; u.setSlot 22 { u.slot 22 with gapFrom := u.slotMark 22 - u.missWindow 22 })
    let x := (let u := g.wf RCLn_CFG_kind 3 22; u.setSlot 22 { u.slot 22 with missed := [900, 901] })
    allB [ends (.rclMeasurement 22) m (fun t => decide (t.slotState 22 = 2 ∧ (t.slot 22).due = [(901, 6)] ∧ (t.slot 22).timer = 900 - m.totalAt 900 + m.qualSpan 22)),
      stays (.rclMeasurement 0) s, decide ((q.slot 22).beaten = none ∧ q.nextDue 22 = some ((q.slot 22).timer, 2) ∧ q.comingOf 22 = []), ends (.rclQualTimerExpire 22) q (fun t => decide (t.slotState 22 = 3 ∧ t.now = q.now)), stays (.rclQualTimerExpire 22) l,
      decide (x.comingOf 22 = [] ∧ g.comingOf 22 = []), ends (.rclMiss 22) x (fun t => decide (t.slotState 22 = 1 ∧ (t.slot 22).missed = [901] ∧ t.rf RCLn_DISQ_count 22 = 1)),
      ends (.rclMiss 22) g (fun t => decide (t.slotState 22 = 1 ∧ t.rf RCLn_DISQ_count 22 = 1)),
      stays (.rclMiss 22) (g.setSlot 22 { g.slot 22 with gapFrom := (g.slot 22).gapFrom + 1 })]) = true := by decide +kernel

theorem test_slot_commands : (let s := setFs (both 1000) [(RCLn_STATUS_state, 23, 3), (RCLn_STATUS_state, 22, 4), (RCLn_CFG_en, 22, 1), (RCL_STATUS_selected, 0, 23), (RCL_STATUS_target, 0, 63)]
    let f := setFs s [(RCL_STATUS_forced, 0, 1), (RCL_STATUS_fslot, 0, 23)]
    let w := s.wf RCLn_STATUS_wtr 1 22
    allB [ends (.rclForce .host 23) s (fun t => decide (t.rf RCL_RESULT_result = 0 ∧ t.rb RCL_STATUS_forced = true ∧ t.rf RCL_STATUS_fslot = 23)),
      ends (.rclUnforce .host 31) f (fun t => decide (t.rf RCL_RESULT_result = 0 ∧ t.rb RCL_STATUS_forced = false ∧ t.rf RCL_STATUS_fslot = 31)),
      runsB (.rclUnforce .host 0) s (s.wf RCL_RESULT_result 3),
      ends (.rclReadmit .host 22) s (fun t => decide (t.rf RCL_RESULT_result = 0 ∧ t.slotState 22 = 3 ∧ t.rb RCLn_STATUS_readmit 22 = true)),
      ends (.rclSkipWtr .host 22) w (fun t => decide (t.rf RCL_RESULT_result = 0 ∧ t.rf RCL_STATUS_target = 22)), decide (s.bestSlot = some s.selected),
      ends (.rclReeval .host 0) s (fun t => decide (t.rf RCL_RESULT_result = 0 ∧ t.rf RCL_STATUS_target = 63 ∧ t.selected = s.selected)),
      runsB (.rclForce .host 24) s (s.wf RCL_RESULT_result 1), runsB (.rclReadmit .host 31) s (s.wf RCL_RESULT_result 1), runsB (.rclSkipWtr .host 24) s (s.wf RCL_RESULT_result 1)]) = true := by
  decide +kernel

/-- Slot 22 is the best target, re-admitted, with a track; slot 23 is selected. -/
def aim : State :=
  let u := setFs (both 65536000000) [(RCLn_CFG_en, 22, 1), (RCLn_CFG_kind, 22, 3), (RCLn_STATUS_state, 22, 3), (RCLn_STATUS_readmit, 22, 1), (RCL_STATUS_selected, 0, 23),
    (RCL_STATUS_target, 0, 22), (RCLn_STATUS_state, 23, 3), (SRV_STATUS_mode, 0, 3), (RCLn_QFIX_q, 22, 5)]
  { u.setSlot 22 { u.slot 22 with track := [(900, 7000), (800, 3)] } with tm := { u.tm with freqAmt := 77 } }

theorem test_commit : (let s := aim
    let r := s.wf TLY_RING_FILL_reserve 1
    let n := setFs s [(RCL_STATUS_target, 0, 63), (RCL_STATUS_selected, 0, 22)]
    allB [decide (s.bestSlot = some 22 ∧ s.selected ≠ 22 ∧ unpackTime (s.rf RCL_COMMIT_time) ≤ s.now),
      decide (s.rclEvents.rf RCL_STATUS_target = 22 ∧ s.rclEvents.rf RCL_COMMIT_time = s.rf RCL_COMMIT_time ∧ s.rclEvents.bestSlot = some 22 ∧ s.rclEvents.selected = 23),
      ends .rclCommit r (fun t => decide (t.rb RCL_STATUS_deferred = true ∧ t.selected = 23 ∧ t.rf RCL_STATUS_target = 22 ∧ t.tm = r.tm ∧ t.rclB = r.rclB)),
      decide (s.fatalSet = false ∧ s.freqSlot 22 = false ∧ s.tm.slew = none ∧ s.rcl.held = [] ∧ -2 ^ 63 ≤ unitsOfFp (s.slotOfs 22 - s.commitPhase) ∧
        unitsOfFp (s.slotOfs 22 - s.commitPhase) < 2 ^ 63 ∧ unitsOfFp (s.slotOfs 22 - s.commitPhase) ≠ 0),
      ends .rclCommit s (fun t => decide (t.selected = 22 ∧ t.rf RCL_STATUS_target = 63 ∧ t.rf RCL_SWITCHES_count = 1 ∧ t.rclB = unitsOfFp (s.slotOfs 22 - s.commitPhase) ∧ t.now = s.now)),
      decide (n.bestSlot = some n.selected), ends .rclCommit n (fun t => decide (t.selected = n.selected ∧ t.tm = n.tm ∧ t.rf RCL_STATUS_target = 63))]) = true := by decide +kernel

/-- B is within the limit of the last commit. -/
def inLimit (s : State) : Bool := decide ((s.rclB.natAbs : Int) ≤ s.rcl.needLimit)

theorem test_slews : (let s := (let u := setFs (both 1000) [(RCL_STATUS_selected, 0, 3), (RCL_CTL_slew, 0, 1)]
      let v := u.ws RCL_BUILDOUT_b (-65535999999999)
      { v with rcl := { v.rcl with slewDue := some 999, needLimit := 65535999999999 }, tm := { v.tm with lastStrobe := 1000 } })
    let b := s.ws RCL_BUILDOUT_b (-65536000000000)
    let e := (let u := (both 1000).wf SRV_STATUS_slewing 1; u.setTm { u.tm with slew := some ⟨100, 5, 1, 0, 0, 7, 7, 0, 0⟩ })
    allB [decide (s.tm.slew = none ∧ s.tm.slewWait = none ∧ s.rclB ≠ 0), inLimit s, !inLimit b, s.slewCalled, b.slewCalled,
      ends .rclSlewStart s (fun t => decide (t.now = s.now ∧ t.rb SRV_STATUS_paused = true) && t.tm.slew.any (fun x => decide (x.remaining = -s.rclB ∧ x.source = 2 ∧ x.rate = slewWord s.slewMax))),
      ends .rclSlewStart b (fun t => t.rb RCL_STATUS_need_step && decide (t.rcl.slewDue = none)), stays .rclSlewStart (s.wf SYS_FATAL_clock 1),
      stays .rclSlewStart (s.setTm { s.tm with lastStrobe := 999 }),
      stays .rclSlewStart (both 5), ends .slewEnd e (fun t => decide (t.tm.slew = none ∧ t.tm.total = e.tm.total ∧ t.now = e.now ∧ t.rb SRV_STATUS_slewing = false)),
      stays .slewEnd (e.setTm { e.tm with slew := some ⟨100, 5, 1, 1, 0, 7, 7, 0, 0⟩ })]) = true := by decide +kernel

theorem test_roll_call_timers : (let s := (let u := setFs aim [(RCL_STATUS_target, 0, 63), (RCLn_STATUS_wtr, 22, 1)]; u.setSlot 22 { u.slot 22 with wtrEnd := (u.slotMark 22), gapFrom := (u.slotMark 22) })
    let j := (let u := setFs aim [(RCLn_STATUS_state, 22, 4), (RCL_JUMP_SETTLE_secs, 0, 0)]; u.setSlot 22 { u.slot 22 with settle := some ⟨(u.slotMark 22), 1, 2, 3⟩, gapFrom := (u.slotMark 22) })
    allB [decide (s.bestSlot = some 22 ∧ s.comingOf 22 = [] ∧ j.comingOf 22 = [] ∧ j.nextDue 22 = some (j.slotMark 22, 3)), decide (s.nextDue 22 = none),
      ends (.rclWtrExpire 22) s (fun t => decide (t.rf RCL_STATUS_target = 22 ∧ t.rb RCLn_STATUS_wtr 22 = false ∧ t.selected = s.selected ∧
        t.rf RCL_COMMIT_time = packTime (s.now + ((max 1 (min 10000 (s.rf RCL_ALIGN_TIME_ms)) : Nat) : Int) * uMs))),
      stays (.rclWtrExpire 22) (s.setSlot 22 { s.slot 22 with wtrEnd := (s.slotMark 22) + 1 }),
      ends (.rclSettleComplete 22) j (fun t => decide (t.slotState 22 = 3 ∧ t.rb RCLn_STATUS_readmit 22 = true ∧ (t.slot 22).settle = none)),
      stays (.rclSettleComplete 22) (j.setSlot 22 { j.slot 22 with settle := some ⟨(j.slotMark 22) + 1, 1, 2, 3⟩ })]) = true := by decide +kernel

theorem test_feeds : (let x : Feed := ⟨255, 65536, 900, 5⟩
    let s := withQ (setFs (both 1000) [(SRV_CTL_direct, 0, 1), (RCL_STATUS_selected, 0, 63)]) 395 [⟨0, .feed x⟩]
    let n := s.wf SRV_CTL_direct 0
    let o := withQ (both 1000) 393 [⟨0, .feed ⟨22, 1, 2, 3⟩⟩]
    allB [decide (s.mode ≠ 3 ∧ s.srv.inited = false ∧ s.srv.lastFeed = none),
      ends (.servoFeedTake 2) s (fun t => decide ((t.queue 395).items = [] ∧ t.srv.inited = true ∧ t.srv.r = psOfUnits x.ofs ∧ t.srv.sk = x.stamp ∧ t.srv.a = 0 ∧
        t.rf SRV_ACCEPTED_count = 1)),
      ends (.servoFeedTake 2) n (fun t => alike t ((n.qPop 395).inc SRV_UNUSED_count)), decide (o.slotState 22 = 0),
      ends (.servoFeedTake 2) (s.setSrv { s.srv with lastFeed := some 901 }) (fun t => decide ((t.queue 395).items = [] ∧ t.rf SRV_STALE_count = 1 ∧ t.srv.inited = false)),
      stays (.servoFeedTake 2) (s.setTm { s.tm with run := false }),
      ends (.servoFeedTake 0) o (fun t => alike t ((o.qPop 393).inc RCL_FEED_DROP_count)), stays (.servoFeedTake 1) o]) = true := by decide +kernel

theorem test_servo_commands : (let s := (both 1000).wf SRV_STATUS_candidate 1
    let c := s.ws SRV_CANDIDATE_j (-70000)
    let f := s.wf SYS_FATAL_tally 1
    let m := (both 1000).wf SRV_STATUS_mode 1
    let r : State := (let u := both 1000; { u with srv := { u.srv with restore := some (⟨5, 6, u.srv.cov, 7, 8, none, 4000000000⟩, 1000000) }, tm := { u.tm with lastStrobe := 1000 } })
    allB [decide (f.fatalSet = true ∧ s.fatalSet = false), ends (.servoAccept .host) f (fun t => alike t (f.wf SRV_RESULT_result 2)),
      ends (.servoDismiss .host) f (fun t => alike t (f.wf SRV_RESULT_result 2)), ends (.servoAccept .host) m (fun t => alike t (m.wf SRV_RESULT_result 1)),
      ends (.servoDismiss .host) m (fun t => alike t (m.wf SRV_RESULT_result 1)),
      ends (.servoAccept .host) c (fun t => decide (t.rclB = c.rclB + c.rs 64 SRV_CANDIDATE_j ∧ t.rb SRV_STATUS_candidate = false ∧ t.rf SRV_RESULT_result = 0 ∧ t.now = c.now)),
      runsB (.servoDismiss .host) s ((((s.setSrv { s.srv with run := none }).wf SRV_STATUS_candidate 0).wf SRV_STATUS_run 0).wf SRV_RESULT_result 0),
      decide (m.mode ≠ 0), ends (.servoReset .host) m (fun t => decide (t.srv.resetPend = true ∧ t.srv.a = 0 ∧ t.srv.sk = m.now ∧ t.rf SRV_RESULT_result = 0 ∧ t.tm = m.tm)),
      decide (r.isReady 2 = true ∧ restoreBound 4000000000 1000000 ≤ 4294967294),
      ends .servoRestore r (fun t => decide (t.srv.restore = none ∧ t.rf SRV_BOUND_ps = restoreBound 4000000000 1000000 ∧ t.mode = 3 ∧ t.selected = 23)), stays .servoRestore m, stays .servoRestore (r.setTm { r.tm with lastStrobe := 0 })]) = true := by
  decide +kernel

/-! ## GNSS -/

/-- Port 3 runs and has had three epochs. -/
def port3 : State :=
  let s := setFs (both 65536000000000) [(GNS_Pp_STATUS_clk, 3, 1), (GNS_Pp_STATUS_running, 3, 1), (GNS_Pp_CTL_en, 3, 1), (MEM_BANK_STATE_state, 0, 0)]
  (s.setDom 39 { s.dom 39 with running := true, loaded := true }).setGport 3 { s.gport 3 with epochs := 3, stamp := 65535999000000 }

theorem test_ports : (let s := setFs port3 [(GNS_Pp_STATUS_running, 3, 0)]
    let b := setFs port3 [(GNS_CH_status_state, 511, 2), (GNS_SOLa_BOUND_ps, 3, 7)]
    let c := b.setChan 511 ⟨1, 2, 3, 4, 5, none⟩
    let n := both 1000
    let u := n.setDom 39 { n.dom 39 with running := false }
    allB [s.pdOn 14, s.domValid 39, ends (.gnssPortStart 3) s (fun t => decide (t.rb GNS_Pp_STATUS_clk 3 = true ∧ t.portRuns 3 = true ∧ (t.gport 3).epochs = 0)),
      ends (.gnssPortStart 3) u (fun t => decide (t.rb GNS_Pp_STATUS_clk 3 = true ∧ (t.dom 39).running = true ∧ (t.dom 39).loaded = false)),
      ends (.gnssPortStop 3) c (fun t => decide (t.portRuns 3 = false ∧ (t.dom 39).running = false ∧ t.rf GNS_SOLa_BOUND_ps 3 = 0xFFFFFFFF ∧ t.rf GNS_CH_status_state 511 = 0)),
      ends (.gnssPortConfigWrite .host 3 (BitVec.ofNat 32 (63 * 8 + 0xFFFFF600))) c (fun t => decide (t.rf GNS_Pp_CTL_en 3 = 0 ∧ t.rf GNS_Pp_CTL_tdc 3 = 63 ∧ t.portRuns 3 = false)),
      ends (.gnssPortConfigWrite .host 3 0x1FF) c (fun t => decide (t.rf GNS_Pp_CTL_en 3 = 1 ∧ t.rf GNS_Pp_CTL_tdc 3 = 63))]) = true := by decide +kernel

theorem test_epochs : (let f := (let u := setFs port3 [(GNS_Pp_CTL_tdc, 3, 39), (GNS_Pp_CTL_l1, 3, 1), (TDCn_STATUS_claim, 39, 6), (TDCn_STATUS_state, 39, 2), (TDCn_DONE_count, 39, 8), (readyFld 4, 0, 1)]
      u.setUnit 39 { u.unit 39 with armAt := u.raw + 131071 })
    let d1 : List Byte := [0x21, 0x43, 0x65, 0x87]
    let g := port3.wf GNS_Pp_CTL_tdc 0 3
    let d := port3.setGport 3 { port3.gport 3 with dumpDue := true }
    allB [f.portStamped 3, decide (g.portStamped 3 = false),
      ends (.gnssEpoch 3 131071 d1 []) f (fun t => decide (t.rf TDCn_STOP_TIME_time 39 = packTime (f.refine (binOf (f.raw + 131071))) ∧ t.rf TDCn_DONE_count 39 = 9) && t.rb GNS_Pp_STATUS_stamped 3),
      ends (.gnssEpoch 3 131071 d1 []) f (fun t => decide ((t.gport 3).epochs = 4 ∧ t.rf GNS_Pp_EPOCH_k 3 = 3 ∧ t.rf GNS_Pp_PWR_l1 3 = (bandMean (bandStat 1 0 d1)).1 ∧ (t.gport 3).dumpDue = true ∧
        t.rf GNS_Pp_EPOCH_TIME_time 3 = packTime (f.refine (binOf (f.raw + 131071))))),
      ends (.gnssEpoch 3 0 [9] []) (g.wf GNS_Pp_CTL_l1 0 3) (fun t => decide (t.rf GNS_Pp_EPOCH_TIME_time 3 = packTime (g.domNow 39) ∧ t.rf GNS_Pp_PWR_l1 3 = 0)), stays (.gnssEpoch 0 0 [9] []) port3,
      decide (d.dumpOwed 3 = false),
      ends (.gnssDumpReady 3) d (fun t => decide ((t.gport 3).dumpDue = false ∧ t.bit32 SYS_IRQ_CAUSEw_cause 83 = true))]) = true := by decide +kernel

theorem test_channels : (let s := setFs port3 [(GNS_CH_ctl_sig, 511, 13), (GNS_CH_ctl_prn, 511, 202), (GNS_CH_taps_el, 511, 1), (GNS_CH_taps_vel, 511, 63), (GNS_CH_20_start_sample, 511, 300000)]
    let l := s.wf GNS_CH_20_start_sample 163685 511
    let r := setFs s [(GNS_CH_status_state, 511, 2), (GNS_CH_38_for_seq, 511, 8), (GNS_CH_08_car_rate, 511, 2 ^ 32 - 5), (GNS_Pp_CTL_lag, 3, 1)]
    let w := (s.wf GNS_CH_status_state 1 511).setChan 511 ⟨245519, 0, 0, 0, 0, none⟩
    allB [decide (s.sampleNow 3 5 = 163685), s.recordOk 511 300000 163685, ends (.gnssChannelStart .host 511 5) s (fun t => decide (t.rf GNS_CH_status_state 511 = 1 ∧ (t.chan 511).at_ = 300000 ∧
        t.queues = s.queues)), ends (.gnssChannelStart .host 511 5) l (fun t => decide (t.rf GNS_CH_status_state 511 = 2 ∧ t.rf GNS_CH_44_seq 511 = 0 ∧
        t.rb GNS_CH_status_late_start 511 = true ∧ (t.chan 511).at_ = 163686)),
      decide (port3.recordOk 511 0 163685 = false), ends (.gnssChannelStart .host 511 5) port3 (fun t => decide (t.rf GNS_CH_status_state 511 = 0 ∧ t.rf GNS_CH_status_cause 511 = 5)),
      ends (.gnssChannelStop .host 511) r (fun t => decide (t.rf GNS_CH_status_state 511 = 0 ∧ t.rf GNS_CH_status_cause 511 = 1)),
      ends (.gnssChannelCommit .host 511) r (fun t => (t.chan 511).commit.any (fun m => decide (m.boundary = 10 ∧ m.carRate = -5 ∧ m.codeRate = 0)) && decide (t.regs = r.regs)),
      ends (.gnssChannelCommit .host 511) s (fun t => (t.chan 511).commit.isSome && decide (t.regs = s.regs)),
      ends (.gnssPendingStart 511) w (fun t => decide (t.rf GNS_CH_status_state 511 = 2 ∧ (t.chan 511).at_ = 245519 ∧ t.rb GNS_CH_status_late_start 511 = false)),
      stays (.gnssPendingStart 511) (w.setChan 511 ⟨245520, 0, 0, 0, 0, none⟩)]) = true := by decide +kernel

theorem test_dumps : (let s := (setFs port3 [(GNS_CH_ctl_sig, 511, 0), (GNS_CH_ctl_prn, 511, 1), (GNS_CH_status_state, 511, 2), (GNS_CH_48_code_rate_now, 511, 2 ^ 47)]).setChan 511 ⟨243474, 0, 7, 0, 0, none⟩
    let w := withQ (setFs port3 [(GNS_Pp_RING_SIZE_log2n, 3, 16), (GNS_Pp_RING_HEAD_head, 3, 65535), (GNS_Pp_RING_TAIL_tail, 3, 65535), (GNS_Pp_RING_BASE_base, 3, 5)]) 347
      [⟨0, .bytes (List.replicate 64 9)⟩]
    allB [decide (nextBound (s.chSig 511) (s.chan 511).code (s.codeNow 511) = some 2046), decide ((s.chan 511).at_ + 2046 ≤ 81840 * (s.gport 3).epochs ∧ 0 < (s.queue 347).c),
      ends (.gnssDumpBoundary 511 [1, 0x11, 0xFF]) s (fun t => decide ((t.chan 511).bounds = 8 ∧ (t.chan 511).at_ = 245520 ∧ t.rf GNS_CH_44_seq 511 = 7) &&
        match (t.queue 347).items with
        | [⟨z, .bytes b⟩] => decide (b.take 8 = [7, 0, 0, 0, 255, 1, 0, 0] ∧ b.length = 64 ∧ z = s.domNow 39)
        | _ => false),
      Memory.wf w.mem, decide (w.bank (bankOf (0x800000 + (320 + 64 * 65535))) = 0),
      ends (.gnssDumpRingWrite 3) w (fun t => decide ((t.queue 347).items = [] ∧ t.rf GNS_Pp_RING_HEAD_head 3 = 0 ∧ t.bytesAt (0x800000 + (320 + 64 * 65535)) 64 = List.replicate 64 9))]) =
    true := by decide +kernel

theorem test_latches : (let s := setFs port3 [(GNS_XLATCH_TIME_time, 0, packTime (port3.domNow 0 + 20 * uUs)), (GNS_XLATCH_CTL_ports, 0, 8)]
    let l := s.wf GNS_XLATCH_TIME_time (packTime (port3.domNow 0 + 20 * uUs - 65536))
    let p := (setFs port3 [(GNS_XLATCH_STATUS_pending, 0, 1)]).setGns { port3.gns with xPorts := 8, xTime := port3.now }
    allB [decide (s.domNow 0 + 20 * uUs ≤ unpackTime (s.rf GNS_XLATCH_TIME_time)), ends (.gnssXlatchArm .host) s (fun t => decide (t.rb GNS_XLATCH_STATUS_pending = true ∧
        t.rf GNS_XLATCH_STATUS_result = 0 ∧ t.gns.xPorts = 8 ∧ t.gns.xTime = s.domNow 0 + 20 * uUs ∧ t.gns.xId = 0)), ends (.gnssXlatchArm .host) l (fun t => alike t (l.wf GNS_XLATCH_STATUS_result 1)),
      decide (p.gns.xTime ≤ p.now ∧ (p.gport 3).epochs ≠ 0),
      ends (.gnssXlatchCapture 3) p (fun t => decide (t.rb GNS_XLATCH_STATUS_pending = false ∧ t.gns.xPorts = 0 ∧ t.bit32 SYS_IRQ_CAUSEw_cause 24 = true)),
      stays (.gnssXlatchCapture 3) (p.setGns { p.gns with xTime := p.now + 1 })]) = true := by decide +kernel

theorem test_bounds : (let s := (port3.wf GNS_SOLa_BOUND_ps 5 4).wf GNS_SOL_TIMEOUT_secs 0
    let e := s.setGns { s.gns with solAt := #v[0, 0, 0, 0, s.watermark 0 - s.tm.total - uSec - 1] }
    allB [ends (.gnssSolBoundWrite .host 3 77) s (fun t => decide (t.rf GNS_SOLa_BOUND_ps 3 = 77 ∧ t.gns.solAt[3]? = some s.raw ∧ t.isReady 15 = true)),
      ends (.gnssSolBoundWrite .host 4 (BitVec.ofNat 32 (2 ^ 32 - 1))) s (fun t => decide (t.rf GNS_SOLa_BOUND_ps 4 = 0xFFFFFFFF ∧ t.gns.solAt[4]? = some s.raw)),
      ends (.gnssSolBoundWrite .host 0 77) s (fun t => decide (t.isReady 12 = false)),
      decide ((e.gns.solAt[4]?).getD 0 + ((max 1 (e.rf GNS_SOL_TIMEOUT_secs) : Nat) : Int) * uSec < e.watermark 0 - e.tm.total),
      ends (.gnssSolBoundExpire 4) e (fun t => decide (t.rf GNS_SOLa_BOUND_ps 4 = 0xFFFFFFFF))]) = true := by decide +kernel

theorem test_acquisition : (let q := port3.setGns { port3.gns with acqQ := List.replicate 64 3 }
    let w := withMem port3 (acqBase 63) (leBytes 4 (2 ^ 14 + 1 * 2 ^ 6 + 10 * 2 ^ 15 + 255 * 2 ^ 19))
    let v := withMem port3 (acqBase 63) (leBytes 4 (1 * 2 ^ 6 + 10 * 2 ^ 15 + 255 * 2 ^ 19))
    let r := w.setGns { w.gns with acqQ := [63, 5] }
    let b := port3.setGns { port3.gns with acqQ := [63, 5] }
    let f := setFs v [(GNS_ACQ_STATUS_busy, 0, 1), (GNS_ACQ_STATUS_slot, 0, 63), (GNS_ACQ_CTL_thresh, 0, 50)]
    allB [ends (.gnssAcqSubmit .host 63) r (fun t => alike t ((r.setGns { r.gns with acqQ := [63, 5, 63] }).wf GNS_ACQ_STATUS_waiting 3)),
      ends (.gnssAcqSubmit .host 0) q (fun t => alike t (q.inc GNS_ACQ_REFUSED_count)), decide (r.acqCheck 63 = 0 ∧ b.acqCheck 63 = 2), Memory.wf b.mem, Memory.wf f.mem,
      ends .gnssAcqRequestStart r (fun t => decide (t.rb GNS_ACQ_STATUS_busy = true ∧ t.rf GNS_ACQ_STATUS_slot = 63 ∧ t.rf GNS_ACQ_STATUS_waiting = 1 ∧ t.gns.acqQ = [5] ∧ t.gns.acqLeft = 0)),
      ends .gnssAcqRequestStart b (fun t => decide (t.rb GNS_ACQ_STATUS_busy = false ∧ t.acqWord 63 0x20 = 2 ∧ t.gns.acqQ = [5])),
      decide (f.gns.acqLeft = 0 ∧ bitOf (f.acqWord 63 0) 14 = false), stays .gnssAcqRequestComplete (f.setGns { f.gns with acqLeft := 1 }),
      ends .gnssAcqRequestComplete f (fun t => decide (t.rb GNS_ACQ_STATUS_busy = false ∧ t.rf GNS_ACQ_DONE_count = 1 ∧ t.bit32 SYS_IRQ_CAUSEw_cause 22 = true))]) = true := by decide +kernel

theorem test_gnss_snapshots : (let s := setFs port3 [(GNS_SNAP_CTL_ports, 0, 8), (GNS_SNAP_CTL_l5, 0, 0), (GNS_SNAP_CTL_len_ms, 0, 20), (GNS_SNAP_BASEp_base, 3, 0x20000 - 25575)]
    let b := (s.wf GNS_SNAP_STATUS_state 2).setGns { s.gns with snapLeft := 8, snapLen := 20 }
    let d := b.setGns { b.gns with snapLeft := 0 }
    let a := b.setGns { b.gns with snapAt := (b.gport 3).stamp + 1 }
    allB [decide (s.rf GNS_SNAP_BASEp_base 3 * 64 + captureBytes true false (lenMs 20) ≤ 0x800000), decide (s.snapBusy = false),
      ends (.gnssSnapGo .host) s (fun t => decide (t.rf GNS_SNAP_STATUS_state = 1 ∧ t.rf GNS_SNAP_STATUS_result = 0 ∧ t.gns.snapLeft = 8)),
      runsB (.gnssSnapAbort .host) b ((b.wf GNS_SNAP_STATUS_state 3).wf GNS_SNAP_STATUS_result 4), ends (.gnssSnapAbort .host) b (fun t => decide (t.gns.snapLeft = 0)), stays (.gnssSnapAbort .host) s,
      decide (b.gns.snapAt ≤ (b.gport 3).stamp ∧ (b.gns.snapFrom[3]?).getD 0 < 3), stays (.gnssSnapCaptureStart 3) a, ends (.gnssSnapCaptureStart 3) b (fun t => decide (t.rf GNS_SNAP_STATUS_state = 2 ∧
        bitOf t.gns.snapLeft 3 = false ∧ t.rf GNS_SNAP_Tp_time 3 = packTime (b.gport 3).stamp ∧ t.gns.snapMs[3]? = some 20)),
      decide (∀ p : Fin 4, d.gns.snapMs[p.val]? = some 0),
      ends .gnssSnapComplete d (fun t => decide (t.rf GNS_SNAP_STATUS_state = 3 ∧ t.bit32 SYS_IRQ_CAUSEw_cause 23 = true))]) = true := by decide +kernel

theorem test_moss_port : (let s := setFs (both 65536000000000) [(PWR_STATEk_state, 1, 0x02000000), (MOSS_Gp_CTL_en, 3, 1), (MOSS_Gp_STATUS_state, 3, 1), (MOSS_Gp_FWIN_ppb, 3, 10), (MOSS_Gp_CTL_l1, 3, 0), (MOSS_Gp_CTL_l5, 3, 0)]
    let r := (let u := s.wf MOSS_Gp_STATUS_state 2 3
      u.setGport 3 { u.gport 3 with mossFreq := some (-10) })
    let d := r.setGport 3 { r.gport 3 with mossFreq := some (-11) }
    let h := s.wf MOSS_Gp_STATUS_state 3 3
    allB [decide (s.pd 14 = 2 ∧ gridFrom 0 (s.mossGPeriod 3) (s.gport 3).mossFrom ≤ s.now), ends (.mossGRound 3 [] (some (BitVec.ofInt 32 (-5)))) s (fun t =>
        decide (t.rf MOSS_Gp_STATUS_state 3 = 2 ∧ t.rf MOSS_Gp_LAST_FREQ_ppb 3 = 2 ^ 32 - 5 ∧ (t.gport 3).mossFreq = some (-5))),
      decide (r.mossGCause 3 = 0 ∧ r.rf MOSS_Gp_CTL_wake_every 3 = 0), ends (.mossGRoundEnd 3) r (fun t => decide (t.rf MOSS_Gp_STATUS_state 3 = 1 ∧ t.rf MOSS_Gp_ROUNDS_count 3 = 1)),
      decide (d.mossGCause 3 = 1), ends (.mossGRoundEnd 3) d (fun t => decide (t.rf MOSS_Gp_STATUS_state 3 = 3 ∧ t.rf MOSS_Gp_STATUS_cause 3 = 1 ∧ t.bit32 SYS_IRQ_CAUSEw_cause 87 = true)),
      stays (.mossGRoundEnd 3) s, ends (.mossGRelease .host 3) h (fun t => alike t ((h.wf MOSS_Gp_STATUS_state 1 3).setGport 3 { h.gport 3 with mossFrom := h.now })),
      ends (.mossGRelease .host 3) (h.wf PWR_STATEk_state 0 1) (fun t => decide (t.rf MOSS_Gp_STATUS_state 3 = 0)), stays (.mossGRelease .host 3) s]) = true := by decide +kernel

/-! ## Lanes -/

/-- Lane 31 is up at 25G, ready for traffic. -/
def lane31 : State :=
  let s := setFs (both 65536000000000) [(MACn_CTL_mode, 31, 3), (MACn_STATUS_link, 31, 1), (TWN_STATUS_gate, 0, 1), (MEM_BANK_STATE_state, 0, 0)]
  s.setDom 35 ⟨true, true, 0⟩

/-- A plain timed frame. -/
def tf (sigma : Int) (misses : Nat) (held : Option (Bytes × Int)) (started : Bool) : TFrame :=
  ⟨sigma, 7, misses, ⟨⟨0, [], [], none, [], [], 0, 0, false⟩, .raw (List.replicate 60 1) false 0 0 false⟩, .plain, held, started⟩

def withSched (s : State) (l : List TFrame) : State := s.setLane 31 { s.lane 31 with sched := l }

theorem test_lane_modes : (allB [decide (lane31.member 31 = false), lane31.linkUp 31,
      ends (.macModeWrite .host 31 0x11A) lane31 (fun t => decide (t.rf MACn_CTL_mode 31 = 2 ∧ t.rf MACn_CTL_fec 31 = 3 ∧ t.rf MACn_CTL_preempt_en 31 = 1 ∧ t.linkUp 31 = false)),
      ends (.macModeWrite .host 31 4) lane31 (fun t => decide (t.rf MACn_CTL_mode 31 = 3 ∧ t.lanes = lane31.lanes))]) = true := by decide +kernel

theorem test_links : (let s := setFs lane31 [(MACn_STATUS_link, 31, 0), (SYS_READY_LANE_lanes, 0, 1)]
    let d := (withSched lane31 [tf 5 0 none false]).setDom 35 ⟨true, true, 0⟩
    allB [s.live, s.pdOn (laneDom 31), decide (s.listening 31 = false), ends (.linkUp 31 77 88) s (fun t => decide (t.linkUp 31 = true ∧ t.rf MACn_RX_LAT_ps 31 = 77 ∧ t.rf MACn_TX_LAT_ps 31 = 88 ∧
        bitOf (t.rf SYS_READY_LANE_lanes) 31 = true ∧ (t.dom 35).running = true ∧ t.rb MACn_CAL_CTL_busy 31 = true ∧ t.bit32 SYS_IRQ_CAUSEw_cause 287 = true)),
      ends (.linkDown 31) d (fun t => decide (t.linkUp 31 = false ∧ (t.lane 31).reqs = [] ∧ (t.lane 31).sched = [] ∧ (t.dom 35).running = false)), stays (.linkDown 31) s]) = true := by
  decide +kernel

theorem test_self_calibration : (let b := lane31.wf MACn_CAL_CTL_busy 1 31
    allB [ends (.macSelfCal .host 31) lane31 (fun t => alike t b),
      ends (.macSelfCalComplete 31 (-51)) b (fun t => decide (t.rb MACn_CAL_CTL_busy 31 = false ∧ t.rs 32 MACn_CAL_RESULT_ps 31 = -51 ∧ t.rb MACn_STATUS_cal_valid 31 = false)),
      stays (.macSelfCalComplete 31 5) lane31]) = true := by decide +kernel


theorem test_frames_received : (let x : Rx := ⟨List.replicate 6 255 ++ [2, 0, 0, 0, 0, 1, 0x88, 0xF7] ++ List.replicate 46 0, some 5, 3, true, true, true, true⟩
    let s := setFs lane31 [(MACn_UCk_en, 248, 1), (MACn_UCk_cls, 248, 1), (MACn_UCk_addr, 248, 0xFFFFFFFFFFFF)]
    let f := s.setQueue 427 { s.queue 427 with c := 0 }
    allB [decide (s.rb MACn_CAL_CTL_busy 31 = false ∧ (s.lane 31).wakeAt ≤ s.now ∧ x.data.length = 60 ∧ 64 ≤ s.maxLen 31 ∧ s.rxPlace 31 x.data = 0), s.domValid 35, s.pdOn 10,
      decide (0 < (s.queue 427).c), ends (.frameReceive 31 { x with fcsOk := false }) s (fun t => alike t ((s.inc MACn_CNTi_count 806).inc MACn_CNTi_count 810)),
      ends (.frameReceive 31 x) s (fun t => alike t (((s.inc MACn_CNTi_count 806).inc MACn_CNTi_count 807).qPush 427 ⟨(s.rxStamp 31 x).1, .frame x.data x.express (s.rxStamp 31 x).2⟩)),
      ends (.frameReceive 31 x) f (fun t => alike t ((f.inc MACn_CNTi_count 806).inc MACn_CNTi_count 819)), stays (.frameReceive 0 x) s]) = true := by decide +kernel

theorem test_timed_frames : (let q : TReq := ⟨(tf 0 0 none false).build, .plain⟩
    let s := lane31.setLane 31 { lane31.lane 31 with reqs := [q, q] }
    let late := withSched (lane31.wf MACn_RESLOT_MAX_n 2 31) [tf (lane31.now * 25 + 300 * uNs * 25) 2 none false]
    let again := withSched (lane31.wf MACn_RESLOT_MAX_n 2 31) [tf (lane31.now * 25) 1 none false]
    allB [ends (.timedRequest 31) s (fun t => match (t.lane 31).sched with
        | [f] => decide ((t.lane 31).reqs = [q] ∧ f.sigma = s.slotFrom 31 (s.now * 25) ∧ f.d = s.departure 31 f.sigma ∧ f.owner = .plain ∧ f.misses = 0 ∧ f.build = q.build)
        | _ => false), stays (.timedRequest 31) lane31,
      decide ((s.lane 31).gens = []) && s.linkUp 31 && s.maySubmit q.owner,
      ends (.timedRequest 31) (s.wf MACn_STATUS_link 0 31) (fun t => decide ((t.lane 31).reqs = [q] ∧ (t.lane 31).sched = [] ∧ t.macCnt 31 23 = 1)),
      ends (.launchReadyLine 31) late (fun t => decide ((t.lane 31).sched = [] ∧ t.macCnt 31 22 = 1)),
      ends (.launchReadyLine 31) again (fun t => match (t.lane 31).sched with
        | [g] => decide (g.misses = 2 ∧ g.build = q.build ∧ t.macCnt 31 21 = 1)
        | _ => false)]) = true := by decide +kernel

theorem test_launches : (let h : Option (Bytes × Int) := some (List.replicate 60 1, 0)
    let n := lane31.now * 25
    let s := withSched lane31 [tf n 0 h false]
    let e := withSched lane31 [tf (n - 10 ^ 9) 0 h true]
    let c := withSched (lane31.wf TWN_STATUS_gate 0) [tf n 0 h false]
    allB [s.frameReady 31 (tf n 0 h false), decide (s.now * 25 + 12 * s.byteT 31 < n + s.frameTime 31 (tf n 0 h false)),
      ends (.frameLaunch 31) s (fun t => alike t (withSched lane31 [tf n 0 h true])), stays (.frameLaunch 31) (withSched lane31 [tf (n + 1) 0 h false]),
      ends (.frameLaunch 31) e (fun t => decide ((t.lane 31).sched = [] ∧ (t.lane 31).sent = some (7, List.replicate 60 1) ∧ t.macCnt 31 19 = 1 ∧ t.macCnt 31 20 = 1)),
      ends (.frameLaunch 31) c (fun t => decide ((t.lane 31).sched = [] ∧ (t.lane 31).sent = (c.lane 31).sent ∧ t.macCnt 31 23 = 1))]) = true := by decide +kernel

theorem test_descriptors : (let w := 60 * 2 ^ 23 + 0x1FFFF * 64
    let s := withQ (withMem lane31 (0x800000 + 0x1FFFF * 64) [7]) 1183 [⟨0, .word w⟩]
    let b := withQ lane31 1183 [⟨0, .word (w + 1)⟩]
    allB [s.descOk 31 w, decide (s.bank (bankOf (0x800000 + 0x1FFFF * 64)) = 0), ends (.txDescriptorSubmit 31) s (fun t => decide ((t.queue 1183).items = [] ∧
        (t.lane 31).sent.map (·.2) = some (s.bytesAt (0x800000 + w / 64 % 2 ^ 17 * 64) 60) ∧ t.macCnt 31 18 = 1 ∧ t.macCnt 31 19 = 1)),
      decide (b.descOk 31 (w + 1) = false), ends (.txDescriptorSubmit 31) b (fun t => decide ((t.queue 1183).items = [] ∧ t.macCnt 31 18 = 1 ∧ t.macCnt 31 23 = 1 ∧ t.lanes = b.lanes))]) = true := by
  decide +kernel

/-- A lane of a bond, and a lane that calibrates itself (R296, R300, R318). -/
theorem test_members : (let s := setFs lane31 [(MACn_STATUS_bonded_member, 25, 1), (MACn_CNTi_count, 25 * 26 + 18, 5)]
    let w := 60 * 2 ^ 23
    let q := withQ s 1177 [⟨0, .word w⟩]
    let c := (withQ lane31 1183 [⟨0, .word w⟩]).wf MACn_CAL_CTL_busy 1 31
    allB [s.member 25, ends (.txDescriptorSubmit 25) q (fun t => decide ((t.queue 1177).items = [] ∧ t.lanes = q.lanes ∧ t.macCnt 25 18 = 5 ∧ t.macCnt 25 23 = 0)),
      stays (.txDescriptorSubmit 31) c, stays (.macCntSnap .host 25 true) s, stays (.frameReceive 25 ⟨[], none, 0, true, true, true, true⟩) s]) = true := by decide +kernel

theorem test_esmc : (let s := setFs lane31 [(MACn_CTL_preempt_en, 31, 1), (MACn_ESMC_TX_en, 31, 1), (MACn_ESMC_TX_ssm, 31, 9), (MACn_ESMC_TX_auto, 31, 0)]
    let l := s.setLane 31 { s.lane 31 with esmcAt := s.laneMark 31 - 5 * uSec }
    allB [runsB (.preemptStateChange 31 3) s (s.wf MACn_STATUS_preempt 3 31), stays (.preemptStateChange 31 0) s,
      ends (.esmcTimeout 31) l (fun t => decide (t.rb MACn_ESMC_RX_timeout 31 = true ∧ t.rf MACn_ESMC_RX_ssm 31 = 15 ∧ t.bit32 SYS_IRQ_CAUSEw_cause 351 = true)),
      stays (.esmcTimeout 31) (s.setLane 31 { s.lane 31 with esmcAt := s.laneMark 31 - 5 * uSec + 1 }), decide (s.esmcCode 31 ≠ (s.lane 31).esmcSent),
      ends (.esmcInfoTx 31) s (fun t => decide ((t.lane 31).esmcSent = s.esmcCode 31 ∧ (t.lane 31).sent.map (·.2) = some (s.esmcFrame 31 (s.esmcCode 31) true) ∧ t.macCnt 31 18 = 1))]) =
    true := by decide +kernel

theorem test_lane_counters : (let s := (withSched lane31 [tf 1 0 none false]).wf MACn_CNTi_count 5 831
    allB [ends (.macCntSnap .host 31 true) s (fun t => decide (t.rb MACn_CNT_SNAP_snap 31 = true ∧ (t.lane 31).snap = some ((List.range 26).map (s.macCnt 31)) ∧
        t.rf MACn_INFLIGHT_tx 31 = 1)), decide (s.macCnt 31 25 = 5),
      ends (.macCntSnap .host 31 false) s (fun t => alike t ((s.wf MACn_CNT_SNAP_snap 0 31).setLane 31 { s.lane 31 with snap := none }))]) = true := by decide +kernel

/-! ## Time service -/

/-- A PTP message: type, two-step or other flags, sequenceId, and what follows the header. -/
def ptpMsgOf (t flags seq : Nat) (body : Bytes) : Bytes :=
  [BitVec.ofNat 8 t, 2] ++ beBytes 2 (34 + body.length) ++ [0, 0] ++ beBytes 2 flags ++ beBytes 8 (3 * 65536) ++ zeros 4 ++ [1, 2, 3, 4, 5, 6, 7, 8, 0, 9] ++ beBytes 2 seq ++
    [0, 0] ++ body

/-- It as an Ethernet frame. -/
def ethPtp (m : Bytes) : Bytes := [0x01, 0x1B, 0x19, 0, 0, 0, 2, 0, 0, 0, 0, 1, 0x88, 0xF7] ++ m

/-- An NTP client packet in UDP over IPv4. -/
def ntpFrame (b0 : Nat) (n : Nat) : Bytes :=
  [2, 0, 0, 0, 0, 1, 2, 0, 0, 0, 0, 2, 8, 0, 0x45, 0] ++ beBytes 2 (28 + n) ++ [0, 0, 0, 0, 64, 17, 0, 0, 10, 0, 0, 1, 10, 0, 0, 2, 0x30, 0x39, 0, 123] ++ beBytes 2 (8 + n) ++
    [0, 0, BitVec.ofNat 8 b0] ++ zeros (n - 1)

/-- Lane 31 serves profile 2; the time service is ready. -/
def serve : State :=
  setFs lane31 [(readyFld 8, 0, 1), (TWN_STATUS_state, 0, 0), (TSV_LANEn_ptp, 31, 1), (TSV_LANEn_ntp, 31, 1), (TSV_LANEn_plain, 31, 1), (TSV_LANEn_prof, 31, 2), (TSV_PROFp_CFG_multicast, 2, 1),
    (TSV_PROFp_CFG_unicast, 2, 1), (TSV_PROFp_CFG_family, 2, 0), (TSV_PROFp_CFG_p2p, 2, 0), (TSV_PROFp_CFG_l2, 2, 1), (TSV_PROFp_CFG_ipv4, 2, 0), (TSV_PROFp_CFG_ipv6, 2, 0),
    (TSV_PROFp_CFG_auth, 2, 0)]

def withWork (s : State) (r : Route) (l : Bytes) : State := s.setTsv { s.tsv with work := [⟨r, 31, 900, false, false, l⟩] }

def reqsOf (s : State) : List TReq := (s.lane 31).reqs

theorem test_tsv_take : (let f := fun l => withQ serve 427 [⟨900, .frame l true false⟩]
    let nr := (f (ntpFrame 0x23 48)).wf (readyFld 8) 0
    let noTok := (f (ntpFrame 0x23 48)).wf TWN_STATUS_state 2
    allB [ends (.tsvPacketTake 31) nr (fun t => decide ((t.queue 427).items = [] ∧ t.rf TSV_CNTi_count 0 = 1 ∧ t.rf TSV_CNTi_count 3 = 1 ∧ t.tsv = nr.tsv)),
      (ipView (ntpFrame 0x23 48)).any (fun v => udpOk (ntpFrame 0x23 48) v && decide (v.dport = 123 ∧ (udpPayload (ntpFrame 0x23 48) v).length = 48)),
      (ipView (ntpFrame 0x23 47)).any (fun v => udpOk (ntpFrame 0x23 47) v && decide (v.dport = 123 ∧ (udpPayload (ntpFrame 0x23 47) v).length = 47)),
      ends (.tsvPacketTake 31) (f (ntpFrame 0x23 47)) (fun t => decide (t.rf TSV_CNTi_count 4 = 1 ∧ t.tsv = serve.tsv)),
      ends (.tsvPacketTake 31) (f (ntpFrame 0x24 48)) (fun t => decide (t.rf TSV_CNTi_count 8 = 1 ∧ t.tsv = serve.tsv)),
      ends (.tsvPacketTake 31) noTok (fun t => decide (t.rf TSV_CNTi_count 18 = 1 ∧ t.tsv = serve.tsv)),
      stays (.tsvPacketTake 31) serve, stays (.tsvPacketTake 31) (nr.wf PWR_STATEk_state 0x00000300 1)]) = true := by decide +kernel

/-- R347: what the pipeline popped at a reset of the lane's queue was counted then, and goes first. -/
theorem test_tsv_inbox : (let f := withQ serve 427 [⟨901, .frame (ntpFrame 0x23 48) true false⟩]
    let s := (f.setTsv { f.tsv with inbox := [(3, ⟨5, .word 1⟩), (31, ⟨900, .frame (ntpFrame 0x23 47) true false⟩)] }).wf (readyFld 8) 0
    allB [ends (.tsvPacketTake 31) s (fun t => decide (t.tsv.inbox = [(3, ⟨5, .word 1⟩)] ∧ t.rf TSV_CNTi_count 0 = 0 ∧ t.rf TSV_CNTi_count 3 = 1 ∧
        (t.queue 427).items.length = 1))]) = true := by decide +kernel

theorem test_forward : (let l := ethPtp (ptpMsgOf 11 0 5 (zeros 30))
    let s := setFs (withWork serve .foreign l) [(TSV_FWD_SIZE_log2n, 0, 17), (TSV_FWD_HEAD_head, 0, 131069), (TSV_FWD_TAIL_tail, 0, 131069), (TSV_FWD_BASE_base, 0, 1)]
    let d := setFs (withWork serve .forward l) [(TSV_FWD_SIZE_log2n, 0, 2), (TSV_FWD_HEAD_head, 0, 1), (TSV_FWD_TAIL_tail, 0, 3)]
    allB [decide (l.length = 78 ∧ s.rf TSV_FWD_HEAD_head = 131069 ∧ 131069 + 3 ≤ 2 ^ 17), decide (s.rf TSV_FWD_TAIL_tail = 131069), Memory.wf s.mem, decide (s.bank (bankOf (commonsBase + (64 + 64 * 131069))) = 0),
      ends .ptpForeignMessage s (fun t => decide (t.tsv.work = [] ∧ t.rf TSV_CNTi_count 2 = 1 ∧ t.rf TSV_FWD_HEAD_head = 0 ∧ t.bit32 SYS_IRQ_CAUSEw_cause 27 = true ∧
        t.rf TSV_CNTi_count 22 = 1 ∧ t.bytesAt (commonsBase + 64 + 64 * 131069 + 64) 78 = l)),
      ends .ptpForwardMessage d (fun t => decide (t.tsv.work = [] ∧ t.rf TSV_CNTi_count 17 = 1 ∧ t.mem = d.mem))]) = true := by decide +kernel

theorem test_ntp : (let s := withWork serve .ntp (ntpFrame 0x23 48)
    let n := withWork serve .nts (ntpFrame 0x23 48)
    let lost := n.wf TWN_STATUS_state 2
    allB [ends .ntsRequest lost (fun t => decide (t.tsv.work = [] ∧ t.rf TSV_CNTi_count 18 = 1 ∧ t.lanes = lost.lanes)),
      ends .ntpRequest (s.wf TSV_LANEn_plain 0 31) (fun t => decide (t.tsv.work = [] ∧ t.rf TSV_CNTi_count 13 = 1 ∧ t.lanes = s.lanes)),
      ends .ntpRequest (s.wf MACn_STATUS_listening 1 31) (fun t => decide (t.tsv.work = [] ∧ t.rf TSV_CNTi_count 16 = 1 ∧ t.lanes = s.lanes)),
      ends .ntpRequest s (fun t => decide (t.tsv.work = [] ∧ t.rf TSV_CNTi_count 1 = 1 ∧ t.rf MACn_CNTi_count (26 * 31 + 18) = 1 ∧
        reqsOf t = [⟨⟨s.ntpAddr 31 (ntpFrame 0x23 48), .ntp 4 0 0 900 false⟩, .plain⟩])),
      stays .ntpRequest serve, stays .ntsRequest serve, decide (ntsReq (ptpOf (ntpFrame 0x23 48)) = none),
      ends .ntsRequest n (fun t => decide (t.tsv.work = [] ∧ t.rf TSV_CNTi_count 12 = 1 ∧ t.lanes = n.lanes))]) = true := by decide +kernel

/-- An NTS request: unique identifier, cookie of 104 bytes, authenticator. -/
def ntsMsg : Bytes :=
  [0x23] ++ zeros 47 ++ beBytes 2 0x0104 ++ beBytes 2 36 ++ List.replicate 32 5 ++ beBytes 2 0x0204 ++ beBytes 2 108 ++ zeros 104 ++ beBytes 2 0x0404 ++ beBytes 2 40 ++ beBytes 2 16 ++ beBytes 2 16 ++
    zeros 32

def ntsFrame : Bytes := (ntpFrame 0x23 48).take 16 ++ beBytes 2 (28 + ntsMsg.length) ++ slice (ntpFrame 0x23 48) 18 20 ++ beBytes 2 (8 + ntsMsg.length) ++ [0, 0] ++ ntsMsg

theorem test_nts : (let n := withWork serve .nts ntsFrame
    allB [decide (ptpOf ntsFrame = ntsMsg), (ntsReq ntsMsg).any (fun x => decide (n.openCookie x.cookie = none ∧ x.holders = 0 ∧ x.uid = List.replicate 32 5)),
      ends .ntsRequest n (fun t => decide (t.rf TSV_CNTi_count 1 = 1 ∧ t.rf TSV_CNTi_count 20 = 1 ∧
        reqsOf t = [⟨⟨n.ntpAddr 31 ntsFrame, .kiss 4 0 0 (ascii "NTSN") (extField 0x0104 (List.replicate 32 5))⟩, .plain⟩]))]) = true := by decide +kernel

theorem test_delay_requests : (let m := ptpMsgOf 1 0 77 (zeros 10)
    let s := withWork serve .delayReq (ethPtp m)
    let p := withWork (serve.wf TSV_PROFp_CFG_multicast 0 2) .delayReq (ethPtp m)
    let q := withWork (serve.wf TSV_PROFp_CFG_p2p 1 2) .pdelayReq (ethPtp (ptpMsgOf 2 0 78 (zeros 20)))
    let g := withWork (serve.wf TSV_PROFp_CFG_family 5 2) .pdelayReq (ethPtp (ptpMsgOf 2 0 78 (zeros 20)))
    allB [ends .ptpDelayReq p (fun t => decide (t.rf TSV_CNTi_count 15 = 1 ∧ t.lanes = p.lanes)), decide (p.profMulticast 2 = false ∧ p.client 31 (ptpSrc m) = none ∧ s.profMulticast 2 = true ∧ s.client 31 (ptpSrc m) = none),
      ends .ptpDelayReq s (fun t => decide (t.rf TSV_CNTi_count 1 = 1) && match reqsOf t with
        | [⟨⟨_, .ptp b 2 .none true false _⟩, .plain⟩] => decide (b = s.ptpHdr 2 ptpDelayResp 0 (3 * 65536 / 65536 * 65536 - fracOf 900) (s.portId 31) 77 (s.profLog 2 2) ++ tsBytes 900 ++ ptpSrc m ∨
            b = s.ptpHdr 2 ptpDelayResp 0 (ptpCorr m - fracOf 900) (s.portId 31) 77 (s.profLog 2 2) ++ tsBytes 900 ++ ptpSrc m)
        | _ => false),
      ends .ptpPdelayReq q (fun t => decide (t.rf TSV_CNTi_count 1 = 1) && match reqsOf t with
        | [⟨⟨_, .ptp b 2 (.turnaround 900) true false _⟩, .plain⟩] => decide (b = q.ptpHdr 2 ptpPdelayResp 0 (ptpCorr m) (q.portId 31) 78 0x7F ++ zeros 10 ++ ptpSrc m)
        | _ => false),
      ends .ptpPdelayReq g (fun t => decide (t.rf TSV_CNTi_count 1 = 1) && match reqsOf t with
        | [⟨⟨_, .ptp b 2 .none true false _⟩, .twoStep ⟨_, .ptp c 2 .none false false _⟩⟩] =>
          decide (b = g.ptpHdr 2 ptpPdelayResp flagTwoStep (ptpCorr m - fracOf 900) (g.portId 31) 78 0x7F ++ tsBytes 900 ++ ptpSrc m ∧
            c = g.ptpHdr 2 ptpPdelayRespFU 0 0 (g.portId 31) 78 0x7F ++ zeros 10 ++ ptpSrc m)
        | _ => false)]) = true := by decide +kernel

theorem test_peer_delay : (let s := (serve.wf TSV_PROFp_CFG_family 5 2).setPeer 31 { serve.peer 31 with seq := 77, t1 := some 100 }
    let r := withWork s .pdelayResp (ethPtp (ptpMsgOf 3 flagTwoStep 77 (zeros 20)))
    let e : Sess := { Sess.empty with kind := 3, lane := 31, data := peerData 0 0 2 }
    let v := s.setPeer 31 { s.peer 31 with t2 := some 200, t4 := some 700, corr := 5 }
    let u := v.setTsv { v.tsv with sess := [(4, e)] }
    let f := withWork u .pdelayResp (ethPtp (ptpMsgOf 10 0 77 (zeros 20)))
    let m := ptpMsgOf 10 0 77 (zeros 20)
    let d : Int := (700 - 100 - (ptpTs m - 200 + 5 + ptpCorr m)) / 2
    allB [ends .ptpPdelayResp r (fun t => decide (t.rf TSV_CNTi_count 2 = 1 ∧ (t.peer 31).t2 = some (ptpTs m) ∧ (t.peer 31).t4 = some 900 ∧ (t.peer 31).corr = ptpCorr m ∧ (t.peer 31).t1 = some 100)),
      tabWf f.tsv.sess, (f.peerCtx 31).isSome, decide (d ≤ 800 * uNs), ends .ptpPdelayResp f (fun t => decide (t.rf TSV_CNTi_count 2 = 1 ∧ (t.peer 31).t1 = none) &&
        (t.sess 4).any (fun e => decide (e.data = peerData d 0 3))),
      ends (.ptpPdelayReqTx 31) (u.setPeer 31 { u.peer 31 with seq := 65535 }) (fun t => decide ((t.peer 31).seq = 0 ∧ (t.peer 31).t1 = none ∧ (t.peer 31).due = u.now ∧ t.rf TSV_CNTi_count 19 = 1) &&
        match reqsOf t with
        | [⟨_, .peer 0⟩] => true
        | _ => false),
      u.serving 31, u.due (logUnits (u.profLog 2 2)) (u.peer 31).due, stays (.ptpPdelayReqTx 0) u, stays (.ptpMulticastTx 0) u]) = true := by decide +kernel

theorem test_multicast : (let s := serve.setTsv { serve.tsv with mcAt := serve.tsv.mcAt.set 31 (0, serve.now) }
    allB [s.serving 31, s.profMulticast 2, decide (s.profTransports 2 = [0]), s.dueNow (logUnits (s.profLog 2 0)) 0, decide (s.dueNow (logUnits (s.profLog 2 1)) s.now = false),
      ends (.ptpMulticastTx 31) s (fun t => decide ((reqsOf t).length = 1 ∧ t.tsv.mcAt[31]? = some (s.now, s.now) ∧ t.rf TSV_CNTi_count 19 = 1))]) = true := by decide +kernel

/-- A Signaling message that requests a grant of Sync at a log interval. -/
def grantReq (log : Nat) : Bytes := ethPtp (ptpMsgOf 12 flagUnicast 6 (zeros 10 ++ beBytes 2 4 ++ beBytes 2 6 ++ [0, BitVec.ofNat 8 log] ++ beBytes 4 300))

theorem test_grants : (let s := withWork (setFs serve [(TSV_UNI_BUDGET_rate, 0, 1000), (TSV_PROFp_DUR_max, 2, 1000), (readyFld 11, 0, 0), (TSV_PROFp_UNI_min_sync, 2, 252), (TSV_PROFp_INTV_sync, 2, 252)]) .signaling (grantReq 0)
    let no := withWork serve .signaling (grantReq 128)
    allB [decide (ptpTlvs (ptpOf (grantReq 0)) = some [(4, [0, 0, 0, 0, 1, 44])]), decide (no.grantSlot 2 0 = some 0 ∧ toSigned 8 128 < no.grantMin 2 0),
      ends .ptpUnicastSignaling no (fun t => decide (t.tsv.sess = no.tsv.sess ∧ (reqsOf t).length = 1 ∧ t.rf TSV_CNTi_count 1 = 1)),
      decide (s.grantMin 2 0 ≤ 0 ∧ s.tableRate + rate256 0 ≤ s.rf TSV_UNI_BUDGET_rate * 256 ∧ lowFree 0 s.tsv.sess = 0 ∧ s.isReady 11 = false ∧ tabWf s.tsv.sess = true),
      ends .ptpUnicastSignaling s (fun t => decide ((reqsOf t).length = 1 ∧ t.rf TSV_CNTi_count 1 = 1) && (t.sess 0).any (fun e => decide (e.kind = 1 ∧ e.state = 1 ∧ e.lane = 31 ∧ e.prof = 2 ∧
        e.pid = [1, 2, 3, 4, 5, 6, 7, 8, 0, 9] ∧ e.logs[0] = 0 ∧ e.expiry[0] = (sec32 900 + s.grantDur 2 300) % 2 ^ 32)))]) = true := by decide +kernel

theorem test_grant_entries : (let x : Sess := { Sess.empty with kind := 1, lane := 31, prof := 2, flags := 2, expiry := #v[5, 0, 0], seqs := #v[65535, 0, 0] }
    let s := serve.setTsv { serve.tsv with sess := [(16383, x)] }
    let e := serve.setTsv { serve.tsv with sess := [(16383, { x with expiry := #v[0, 0, 0] })] }
    allB [decide (s.grantLive x 0 = true), ends (.unicastGrantExpire 16383) s (fun t => (t.sess 16383).any (fun y => decide (y.expiry = #v[5, 0, 0] ∧ y.logs = x.logs))),
      ends (.unicastGrantExpire 16383) e (fun t => decide (t.sess 16383 = none)), stays (.unicastGrantExpire 0) s, stays (.ptpUnicastSyncTx 0) s, s.serving 31, decide (x.next ≤ s.now),
      ends (.ptpUnicastSyncTx 16383) s (fun t => decide ((reqsOf t).length = 1 ∧ t.rf TSV_CNTi_count 19 = 1) &&
        (t.sess 16383).any (fun y => decide (y.next = syncSlot 16383 x.logs[0] (s.now + 1) ∧ y.seqs[0] = 0)))]) = true := by decide +kernel

theorem test_upstream_sessions : (let s := serve
    let d := setFs (serve.setTsv { serve.tsv with sess := [(7, { Sess.empty with kind := 2 })] }) [(TSV_UPu_CTL_en, 7, 1), (TSV_UPu_STATUS_state, 7, 5), (TSV_UPu_ENTRY_i, 7, 7), (TSV_UPu_CTL_lane, 7, 31),
      (TSV_UPu_CTL_prof, 7, 2), (TSV_UPu_STATUS_jump, 7, 1), (TSV_UPu_SETTLE_secs, 7, 1)]
    let who := fun (s : State) => s.setUp 7 { s.up 7 with srcPid := [1, 2, 3, 4, 5, 6, 7, 8, 0, 9] }
    let st := fun n => d.wf TSV_UPu_STATUS_state n 7
    let syn := withWork (st 4) (.upstream 7) (ethPtp (ptpMsgOf 0 flagTwoStep 99 (zeros 10)))
    let ann := ptpMsgOf 11 0 5 (zeros 19 ++ List.replicate 8 255 ++ zeros 3)
    let hold := d.setUp 7 { d.up 7 with holdFrom := some (d.now - uSec) }
    let nego := (let u := (st 1).wf TSV_UPu_CTL_nego 1 7; u.setUp 7 { u.up 7 with negoAt := #v[u.now + 1, u.now + 1, u.now] })
    let run := ((st 4).wf TSV_UPu_CTL_nego 1 7)
    allB [ends (.upstreamSessionEnable .host 7 (BitVec.ofNat 32 (1 + 31 * 2 + 7 * 64 + 512))) s (fun t => decide (t.upState 7 = 1 ∧ t.rf TSV_UPu_ENTRY_i 7 = 0) &&
        (t.sess 0).any (fun e => decide (e.kind = 2 ∧ e.lane = 31 ∧ e.prof = 7))),
      ends (.upstreamSessionEnable .host 7 0) d (fun t => decide (t.upState 7 = 0 ∧ t.sess 7 = none ∧ t.rb TSV_UPu_STATUS_jump 7 = false)),
      ends .upstreamMessage (withWork (st 2) (.upstream 7) (ethPtp ann)) (fun t => decide (t.upState 7 = 3 ∧ t.rf TSV_UPu_GM_id 7 = 2 ^ 64 - 1 ∧ (t.up 7).annAt = 900 ∧ t.rf TSV_CNTi_count 2 = 1)),
      ends .upstreamMessage ((withWork (st 2) (.upstream 7) (ethPtp ann)).wf TSV_FWD_TAIL_tail 1) (fun t => decide (t.upState 7 = 3 ∧ t.rf TSV_CNTi_count 17 = 1 ∧ t.rf TSV_CNTi_count 2 = 0)),
      ends .upstreamMessage syn (fun t => decide (t.tsv.work = [] ∧ t.rf TSV_CNTi_count 15 = 1 ∧ t.tsv.ups = syn.tsv.ups ∧ t.upState 7 = 4)),
      ends .upstreamMessage (who syn) (fun t => decide ((t.up 7).pend = some (99, 900, 196608) ∧ t.rf TSV_CNTi_count 2 = 1)),
      (let f := setFs ((who (st 4)).setUp 7 { (who d).up 7 with delays := [7, 8] }) [(RCLn_CFG_en, 22, 1), (RCLn_CFG_kind, 22, 4), (RCLn_CFG_src, 22, 7), (TSV_UPu_UNC_ps, 7, 0xFFFFFFFF)]
       let m := withWork f (.upstream 7) (ethPtp (ptpMsgOf 0 0 99 (zeros 10)))
       decide (m.upSlot 7 = some 22 ∧ ptpCorr (ptpMsgOf 0 0 99 (zeros 10)) = 196608 ∧ ptpTs (ptpMsgOf 0 0 99 (zeros 10)) = 0 ∧ (m.up 7).mean = 3) &&
       ends .upstreamMessage m (fun t => decide ((t.queue 393).items = [⟨m.domNow 0, .feed ⟨22, 900 - 196608 - 3, 900, 0xFFFFFFFF⟩⟩])) &&
       ends .upstreamMessage (m.wf SYS_FATAL_stamp 1) (fun t => decide ((t.queue 393).items = [] ∧ t.rf SYS_FATAL_REFUSED_count = 1))),
      ends (.upstreamDelayReqTx 7) (st 3) (fun t => decide ((t.up 7).seq = 1 ∧ (t.up 7).reqAt = s.now + logUnits (s.profLog 2 2)) && match reqsOf t with
        | [⟨_, .upDelay 7 0⟩] => true
        | _ => false),
      ends (.upstreamGrantRenew 7) nego (fun t => decide ((t.up 7).negoAt = #v[s.now + 1, s.now + 1, s.now + uSec] ∧ (reqsOf t).length = 1)), decide ((run.up 7).grants[0] ≤ run.now),
      ends (.upstreamGrantRenew 7) run (fun t => decide (t.upState 7 = 1)), stays (.upstreamDelayReqTx 0) s, stays (.upstreamGrantRenew 0) s, stays (.upstreamAnnounceTimeout 0) s,
      stays (.upstreamSettleComplete 0) s, ends (.upstreamAnnounceTimeout 7) ((st 4).setUp 7 { d.up 7 with annAt := d.now - 100 * uSec }) (fun t => decide (t.upState 7 = 2 ∧ t.bit32 SYS_IRQ_CAUSEw_cause 28 = true)),
      stays (.upstreamAnnounceTimeout 7) ((st 4).setUp 7 { d.up 7 with annAt := d.now + 1 }),
      (let v := (st 4).setUp 7 { d.up 7 with annAt := 1000 - 3 * uSec }
       let q := withWork v (.upstream 7) (ethPtp ann)
       decide (v.upDeadline 7 ≤ v.laneMark 31) && q.upWaits 7 (q.upDeadline 7) && stays (.upstreamAnnounceTimeout 7) q), ends (.upstreamResume .host 7) d (fun t => decide (t.upState 7 = 4 ∧ t.rb TSV_UPu_STATUS_jump 7 = false)),
      ends (.upstreamSettleComplete 7) hold (fun t => decide (t.upState 7 = 4 ∧ t.rb TSV_UPu_STATUS_jump 7 = false)), stays (.upstreamResume .host 7) (st 4)]) = true := by decide +kernel

theorem test_sealed : (let m := ethPtp (ptpMsgOf 0 0 99 (zeros 12))
    let s := withQ (withMem serve (commonsBase + 0x1FFFF * 64) m) 1281 [⟨0, .word (60 * 2 ^ 23 + 0x1FFFF * 64)⟩, ⟨0, .word (31 + 2048)⟩]
    let b := withQ serve 1281 [⟨0, .word 1⟩, ⟨0, .word 31⟩]
    allB [s.descOk 31 (60 * 2 ^ 23 + 0x1FFFF * 64), decide (m.length = 60), decide (s.bank (bankOf (commonsBase + 0x1FFFF * 64)) = 0), decide (0 < (b.queue 1282).c ∧ b.descOk 31 1 = false),
      ends .sealedMessageSubmit s (fun t => decide ((t.queue 1281).items = [] ∧ t.rf TSV_CNTi_count 19 = 1) && match reqsOf t with
        | [⟨⟨_, .wrapped h x .none true _⟩, .sealed⟩] => decide (h = m.take 14 ∧ x = m.drop 14)
        | _ => false),
      ends .sealedMessageSubmit b (fun t => decide ((t.queue 1281).items = [] ∧ (t.queue 1282).items = [⟨b.domNow 0, .word (completion 0 3)⟩] ∧ t.lanes = b.lanes)),
      stays .sealedMessageSubmit serve]) = true := by decide +kernel

/-- The KEY block is open, with lockers for one cookie generation and a master. -/
def keyed : State :=
  let s := setFs serve [(KEY_STATUS_state, 0, 1), (TSV_COOKIE_CTL_master, 0, 200), (TSV_COOKIE_LOCKg_enc, 1, 5), (TSV_COOKIE_LOCKg_dec, 1, 6), (TSV_KE_SIZE_log2n, 0, 10), (TSV_KE_CONS_index, 0, 1023), (TSV_KE_CTL_locker, 0, 9)]
  let l : Locker := ⟨1, false, false, 1, 0, none, [], [1, 2]⟩
  { s with key := { s.key with lockers := [(5, l), (6, { l with attr := 2 }), (9, { l with attr := 5, p384 := true }), (200, { l with attr := 4 })] } }

/-- A descriptor at CONS of the NTS-KE ring: op, count, AEAD and output offset. -/
def keDesc (op n aead out : Nat) : Bytes := [BitVec.ofNat 8 op, BitVec.ofNat 8 n] ++ leBytes 2 aead ++ leBytes 4 out ++ zeros 120

def keRing (d : Bytes) : State := withMem keyed (commonsBase + 128 * 1023) d

theorem test_cookies : (let s := keyed
    let no := keyed.wf KEY_STATUS_state 0
    allB [s.keyOpen, decide (s.tsv.cookieAt ≤ s.now ∧ s.key.commit = none ∧ s.token = true ∧ s.rf TSV_COOKIE_ID_id = 0 ∧ s.lockerKey 200 4 = some [1, 2]),
      ends .cookieRotation s (fun t => decide (t.rf TSV_COOKIE_ID_id = 1 ∧ t.tsv.cookies[1]? = some (some 1)) && (t.locker 5).isSome && (t.locker 6).isSome),
      ends .cookieRotation no (fun t => decide (t.tsv.cookieAt = no.now + 60 * uSec ∧ t.key = no.key ∧ t.rf TSV_COOKIE_ID_id = 0)),
      stays .cookieRotation (s.setTsv { s.tsv with cookieAt := s.now + 1 })]) = true := by decide +kernel

theorem test_key_ring : (let s := keRing (keDesc 1 0 0 (0x800000 - 128))
    let m := (keRing (keDesc 2 8 15 (0x800000 - 832))).setTsv { keyed.tsv with cookies := #v[some 0, none, none] }
    let k := { m.setTsv m.tsv with key := { m.key with lockers := (0, { (m.locker 5).getD ⟨1, false, false, 1, 0, none, [], []⟩ with attr := 1 }) :: m.key.lockers } }
    let b := keRing (keDesc 3 0 0 0)
    allB [decide (s.rf TSV_KE_CONS_index ≠ s.rf TSV_KE_PROD_index % 1024 ∧ s.fctl.swapping = none ∧ s.pdOn 10 = true), Memory.wf s.mem, inRange (0x800000 - 128) 96,
      (k.lockerKey (k.rf TSV_COOKIE_LOCKg_enc 0) 1).isSome, inRange (0x800000 - 832) 832,
      ends .keSign b (fun t => decide (t.rf TSV_KE_CONS_index = 0 ∧ ofLeBytes (t.bytesAt (commonsBase + 128 * 1023 + 124) 4) = 1)),
      ends .keMint b (fun t => decide (t.rf TSV_KE_CONS_index = 0 ∧ ofLeBytes (t.bytesAt (commonsBase + 128 * 1023 + 124) 4) = 1)),
      stays .keSign (b.wf TSV_KE_CONS_index 0), stays .keMint (b.wf TSV_KE_CONS_index 0)]) = true := by decide +kernel

theorem test_tsv_counters : (let s := (withWork serve .ntp []).wf TSV_CNTi_count 5 24
    allB [ends (.tsvCntSnap .host true) s (fun t => decide (t.rb TSV_CNT_SNAP_snap = true ∧ t.tsv.snap = some ((List.range 25).map (fun i => s.rf TSV_CNTi_count i)) ∧ t.rf TSV_INFLIGHT_n = 1)),
      ends (.tsvCntSnap .host false) s (fun t => decide (t.rb TSV_CNT_SNAP_snap = false ∧ t.tsv.snap = none))]) = true := by decide +kernel

/-! ## Keys -/

/-- A KEY command can start: its input of `n` bytes at commons offset 64, its output at offset 64 × 1000. -/
def keyState (inp : Bytes) : State :=
  let s := setFs lane31 [(KEY_RESULT_done, 0, 1), (KEY_IN_BASE_base, 0, 1), (KEY_IN_LEN_bytes, 0, inp.length), (KEY_OUT_BASE_base, 0, 1000), (KEY_STATUS_state, 0, 1)]
  let u := withMem s (commonsBase + 64) inp
  { u with key := { u.key with wrapOk := true, lockers := [(7, ⟨5, true, true, 1, 3, none, [], [1, 2, 3]⟩)] } }

def slotOf (s : State) (seq : Nat) (m : Bytes) : KeySlot := ⟨seq, s.key.ctrs.toList, m, m, [9], [(0, [8])], [], none, [], [], 0, true⟩

theorem test_unseal : (let s := keyState []
    let m := s.manifestBytes
    let good := { s with key := { s.key with slot0 := some (slotOf s 4 m), slot1 := some (slotOf s 5 m) } }
    let other := { s with key := { s.key with slot1 := some (slotOf s 5 [1]) } }
    let again := { s with key := { s.key with unsealed := true } }
    let busy := s.wf KEY_RESULT_done 0
    allB [decide (s.keyInput = [] ∧ s.rb KEY_RESULT_done = true ∧ s.bank (bankOf (commonsBase + 64)) = 0 ∧ s.key.unsealed = false ∧ s.keyAlive = true ∧ s.jtag.unlocked = false),
      decide ((good.bestKeySlot (fun x => decide (x.mrun = m) || decide (x.mnext = m))).map (·.1) = some 1),
      ends (.keyUnseal .host) good (fun t => decide (t.rf KEY_RESULT_result = 0 ∧ t.key.unsealed = true ∧ t.bit32 SYS_IRQ_CAUSEw_cause 30 = true ∧ t.rf KEY_STATUS_state = 1 ∧
        t.rf KEY_STATUS_slot = 1 ∧ t.isReady 7 = true ∧ t.key.owners = [(0, [8])] ∧ t.key.pin = [9])),
      ends (.keyUnseal (.frond 0)) other (fun t => decide (t.rf KEY_RESULT_result = 0 ∧ t.rf KEY_STATUS_state = 2 ∧ t.key.lockers = s.key.lockers)),
      ends (.keyUnseal .host) s (fun t => decide (t.rf KEY_RESULT_result = 0 ∧ t.rf KEY_STATUS_state = 3)),
      ends (.keyUnseal .host) again (fun t => decide (t.rf KEY_RESULT_result = 14 ∧ t.key = again.key)),
      ends (.keyPin (.frond 3)) s (fun t => alike t (s.ignoreWrite (.frond 3))), ends (.keyCsr .host) busy (fun t => alike t (busy.wf KEY_RESULT_result 1))]) = true := by decide +kernel

theorem test_updates_refused : (let s := keyState (zeros 6 ++ [4] ++ zeros 217)
    allB [decide ((updMsg s.keyInput).kind = 4 ∧ s.fctl.swapping = none ∧ s.updCheck (updMsg s.keyInput) = 3),
      ends (.keyUpdateErase .host) s (fun t => decide (t.rf KEY_RESULT_result = 3 ∧ t.rf KEY_REFUSED_count = 1 ∧ t.key = s.key)), stays (.keyUpdateImport .host) s]) = true := by decide +kernel

theorem test_commits : (let s := keyState []
    let l : Locker := ⟨1, false, false, 1, 15, none, [], [4]⟩
    let w := fun x => { s with key := { s.key with commit := some ⟨2, 15, 1023, 1, slotOf s (2 ^ 32 + 5) [], x, none, false, false⟩, commitBit := some 0 } }
    allB [ends (.keyCommitComplete true) (w (some (some l))) (fun t => decide (t.key.commit = none ∧ t.keySlot 1 = some (slotOf s (2 ^ 32 + 5) []) ∧ t.keyCtr 15 = s.keyCtr 15 + 1 ∧
        t.key.commitBit = some 1 ∧ t.rf KEY_SLOT_SEQ_seq = 5 ∧ t.rf KEY_APPLIED_count = 1 ∧ t.rf KEY_RESULT_result = 0 ∧ t.locker 1023 = some l)),
      ends (.keyCommitComplete true) { (w (some none)) with key := { (w (some none)).key with lockers := [(1023, l)] } } (fun t => decide (t.locker 1023 = none)),
      ends (.keyCommitComplete false) (w (some (some l))) (fun t => decide (t.key.commit = none ∧ t.key.ctrs = s.key.ctrs ∧ t.key.lockers = s.key.lockers ∧ t.rf KEY_RESULT_result = 12)),
      stays (.keyCommitComplete true) s]) = true := by decide +kernel

theorem test_key_answers : (let n := keyState (zeros 32)
    let e := keyState [1]
    let c := n.wf KEY_STATUS_state 0
    allB [ends (.keyQuote .host) e (fun t => decide (t.rf KEY_RESULT_result = 3)), ends (.keyAttest .host 7) c (fun t => decide (t.rf KEY_RESULT_result = 2 ∧ t.key = c.key)),
      (n.locker 7).isSome, ends (.keyAuthorise .host 3) n (fun t => decide (t.rf KEY_RESULT_result = 15 ∧ t.key = n.key))]) = true := by decide +kernel

theorem test_statements_given : (let n := keyState (zeros 32)
    decide (n.keyOpen = true ∧ n.keyInput.length = 32 ∧ n.bank (bankOf (commonsBase + n.rf KEY_OUT_BASE_base * 64)) = 0)) = true := by decide +kernel

theorem test_authorise : (let s := keyState (List.replicate 48 6)
    let a := { s with key := { s.key with auth := [(3, ([1], s.domNow 0)), (4, ([1], s.domNow 0))] } }
    allB [ends (.keyAuthorise (.frond 0) 15) s (fun t => decide (t.rf KEY_RESULT_result = 0 ∧ t.authorised 15 s.keyInput = true ∧ t.key.lockers = s.key.lockers)),
      ends (.keyAuthoriseExpire 3) a (fun t => decide (t.regs = a.regs ∧ t.key.auth = [(4, ([1], s.domNow 0))])),
      ends (.keyAuthoriseExpire 3) { a with key := { a.key with auth := [(3, ([1], s.domNow 0 + 1))] } } (fun t => decide (t.key.auth = [(3, ([1], s.domNow 0 + 1))]))]) = true := by decide +kernel

def preparing : State := keyState (List.replicate 768 6)

theorem test_prepare_and_pin : (let s := preparing
    let p := { s with key := { s.key with pend := List.replicate 48 7 } }
    let w := { s with key := { s.key with write := some ⟨false, slotOf s 9 [5]⟩ } }
    allB [ends (.keyPrepare .host) s (fun t => t.key.write.any (fun x => decide (x.pin = false ∧ x.slot.seq = s.rf KEY_SLOT_SEQ_seq + 1)) &&
        decide (t.rb KEY_RESULT_done = false)), ends (.keyPin .host) p (fun t => t.key.write.any (fun x => decide (x.pin = true ∧ x.slot.pin = p.key.pend)) && decide (t.rb KEY_RESULT_done = false)),
      ends (.keySlotWriteComplete true) w (fun t => decide (t.key.write = none ∧ t.keySlot w.inactiveSlot = some (slotOf s 9 [5]) ∧ t.key.mnext = some [5] ∧ t.rb KEY_STATUS_prepared = true ∧
        t.rf KEY_RESULT_result = 0)), ends (.keySlotWriteComplete false) w (fun t => decide (t.key.write = none ∧ t.key.mnext = s.key.mnext ∧ t.rf KEY_RESULT_result = 12)),
      stays (.keySlotWriteComplete true) (keyState [])]) = true := by decide +kernel

/-- A use descriptor: op, algorithm, locker, input, length, output. -/
def useDesc (op alg k inp len out : Nat) : Bytes := [BitVec.ofNat 8 op, BitVec.ofNat 8 alg] ++ leBytes 2 k ++ leBytes 4 inp ++ leBytes 4 len ++ leBytes 4 out ++ zeros 112

def useRing (d : Bytes) : State := withMem (setFs (keyState []) [(KEY_USE_SIZE_log2n, 0, 10), (KEY_USE_CONS_index, 0, 1023)]) (commonsBase + 128 * 1023) d

theorem test_uses : (let s := useRing (useDesc 7 0 7 0 0 (0x800000 - 97))
    let g := useRing (useDesc 6 0 7 (0x800000 - 48) 48 (128 * 1023 + 124 - 96))
    let b := useRing (useDesc 8 0 7 0 0 0)
    allB [(s.useSpec (useDesc 7 0 7 0 0 (0x800000 - 97))).isSome,
      (g.useSpec (useDesc 6 0 7 (0x800000 - 48) 48 (128 * 1023 + 124 - 96))).isSome,
      ends .keyUseSeal b (fun t => decide (t.rf KEY_USE_CONS_index = 0 ∧ ofLeBytes (t.bytesAt (commonsBase + 128 * 1023 + 124) 4) = 1 ∧ t.key = b.key)), stays .keyUseSeal s,
      stays .keyUseSeal (s.wf KEY_USE_CONS_index 0)]) = true := by decide +kernel

theorem test_randomness : (let s := keyState []
    let l := { s with key := { s.key with seedAt := s.now - uSec + 1, maskAt := s.now - 10 * uSec + 1, reqs := 2 ^ 20 - 1, uses := [(3, 2 ^ 20 - 1)] } }
    let d := { s with key := { s.key with seedAt := s.now - uSec, maskAt := s.now - 10 * uSec } }
    let u := { s with key := { s.key with maskAt := s.now, uses := [(3, 2 ^ 20)] } }
    allB [ends .trngReseed d (fun t => decide (t.key.seeds = d.key.seeds + 1 ∧ t.key.draws = 0 ∧ t.key.reqs = 0 ∧ t.key.seedAt = d.now ∧ t.regs = d.regs)), stays .trngReseed l,
      stays .trngReseed (d.wf KEY_STATUS_trng_fail 1), runsB (.trngHealthFail true) s (s.wf KEY_STATUS_trng_fail 1), stays (.trngHealthFail true) (s.wf KEY_STATUS_trng_fail 1),
      ends .keyRemask d (fun t => decide (t.key.uses = [] ∧ t.key.maskAt = d.now ∧ t.key.lockers = d.key.lockers ∧ t.rf KEY_REMASKS_count = 1)), stays .keyRemask l,
      ends .keyRemask u (fun t => decide (t.key.uses = [] ∧ t.key.lockers = u.key.lockers ∧ t.rf KEY_REMASKS_count = 1))]) = true := by decide +kernel

/-! ## Twin operation -/

/-- A unit of a pair in a state, with the twin's own data set. -/
def twin (st : Nat) (l : List (Fld × Nat × Nat)) (k : TwnState → TwnState) : State :=
  let s := setFs (both 65536000000000) ([(TWN_STATUS_state, 0, st), (TWN_CTL_en, 0, 1), (readyFld 5, 0, 1)] ++ l)
  s.setTwn (k s.twn)

theorem test_twin_config : (let s := setFs (both 1000) [(TWN_CTL_en, 0, 0), (TWN_STATUS_gate, 0, 1)]
    let l := s.setTwn { s.twn with partnerLow := true }
    let u := twin 3 [(TWN_STATUS_link, 0, 1), (TWN_STATUS_swap_pending, 0, 1), (readyFld 11, 0, 1)] id
    allB [decide (s.twnSt = 0), ends (.twinConfigWrite .host 0x1F1) s (fun t => decide (t.rb TWN_CTL_en = true ∧ t.rb TWN_STATUS_gate = false ∧ t.twnSt = 1 ∧ t.rf TWN_CTL_ref_slot = 31 ∧
        t.twn.enAt = s.now)), ends (.twinConfigWrite .host 1) l (fun t => decide (t.twnSt = 2)),
      ends (.twinConfigWrite .host 0x101) u (fun t => decide (t.twnSt = 3 ∧ t.twn = u.twn ∧ t.rf TWN_CTL_ref_slot = 16)),
      ends (.twinConfigWrite .host 0) u (fun t => decide (t.twnSt = 0 ∧ t.rb TWN_STATUS_link = false ∧ t.rb TWN_STATUS_swap_pending = false ∧ t.isReady 11 = false))]) = true := by
  decide +kernel

theorem test_twin_link : (let p : PairMsg := ⟨[1], [2]⟩
    let s := setFs (both 1000) [(TWN_CTL_en, 0, 0)]
    let u := (let v := twin 2 [(TWN_STATUS_link, 0, 1), (TWN_STATUS_current, 0, 1), (readyFld 11, 0, 1)] id; v.setKey { v.key with partner := some p, sent := some p })
    allB [ends (.twinLinkUp p) s (fun t => alike t (s.setKey { s.key with partner := some p }) && decide (t.dom 41 = ⟨true, false, 0⟩)),
      ends .twinLinkDown u (fun t => decide (t.rb TWN_STATUS_link = false ∧ t.rb TWN_STATUS_current = false ∧ t.isReady 11 = false ∧ t.key.partner = none ∧ t.key.sent = none ∧ t.twnSt = 2 ∧ (t.dom 41).running = false))]) = true := by decide +kernel

theorem test_twin_claim : (let w := fun x => twin 1 [] (fun t => { t with since := 65536000000000 - x, activeBeat := some (65536000000000 - x) })
    let s := w (200 * uMs)
    allB [decide (s.pinLow = false ∧ s.isReady 3 = true ∧ s.fatalSet = false ∧ s.rb TWN_STATUS_link = false ∧ s.actsPrimary = false),
      decide (max s.twn.since (max s.twn.highSince (s.twn.activeBeat.getD s.twn.since)) + 200 * uMs ≤ s.now),
      ends .twinClaim s (fun t => decide (t.twnSt = 3 ∧ t.rb TWN_STATUS_gate = true ∧ t.twn.changed = [] ∧ t.bit32 SYS_IRQ_CAUSEw_cause 32 = true)),
      stays .twinClaim (w (200 * uMs - 1)), ends .twinClaim ((w (20 * uMs)).wf TWN_CTL_primary 1) (fun t => decide (t.twnSt = 3)), stays .twinClaim (s.setTwn { s.twn with partnerLow := true }),
      stays .twinClaim (s.wf TWN_STATUS_state 2)]) = true := by decide +kernel

theorem test_partner_lost : (let s := twin 2 [(TWN_STATUS_link, 0, 1)] (fun t => { t with lastLink := some (65536000000000 - 3 * uMs - 8 * uNs), lastPin := some (65536000000000 - 3 * uMs - 8 * uNs) })
    let l := s.setTwn { s.twn with partnerLow := true }
    allB [s.linkSilent, s.pinSilent, decide (s.twn.lost = false ∧ s.twn.partnerLow = false),
      ends .twinPartnerLost s (fun t => decide (t.twn.lost = true ∧ t.rb TWN_ALARM_partner_lost = true ∧ t.twnSt = 3 ∧ t.rf TWN_TAKEOVERS_count = 1)),
      ends .twinFaultReceive s (fun t => decide (t.twn.lost = true ∧ t.rb TWN_ALARM_partner_lost = true ∧ t.twnSt = 3)),
      ends .twinPartnerLost l (fun t => decide (t.twn.lost = true ∧ t.twnSt = 2 ∧ t.rb TWN_ALARM_stuck = true)), stays .twinPartnerLost (s.setTwn { s.twn with lastPin := some s.now }), stays .twinPartnerLost (s.setTwn { s.twn with lastPin := some (s.now - 3 * uMs) }),
      stays .twinFaultReceive (s.wf TWN_STATUS_state 0)]) = true := by decide +kernel

theorem test_active_line : (let s := twin 1 [] id
    let l := twin 2 [] (fun t => { t with partnerLow := true, lost := true })
    let k := l.setTwn { l.twn with lost := false }
    allB [ends (.twnActiveNChange true) s (fun t => decide (t.twn.partnerLow = true ∧ t.twnSt = 2)), ends (.twnActiveNChange false) l (fun t => decide (t.twn.partnerLow = false ∧ t.twnSt = 3)),
      ends (.twnActiveNChange false) k (fun t => decide (t.twn.partnerLow = false ∧ t.twnSt = 2 ∧ t.twn.highSince = k.now))]) = true := by decide +kernel

theorem test_heartbeats_out : (let s := twin 3 [(TWN_STATUS_link, 0, 1), (SRV_BOUND_ps, 0, 77), (SRV_STATUS_class, 0, 2)] (fun t => { t with beating := true, beatAt := 65536000000000 - uMs / 4, kickAt := 65536000000000 - 10 * uMs - 16 * uNs })
    let n := s.wf TWN_STATUS_link 0
    let k := s.wf TWN_KICK_MS_ms 10
    let z := s.wf TWN_KICK_MS_ms 0
    allB [ends .twinHeartbeatSend s (fun t => decide (t.twn.beatAt = s.now ∧ t.regs = s.regs) && (match t.twn.sent with
        | some (.beat b) => decide (b.state = 3 ∧ b.bound = 77 ∧ b.cls = 2)
        | _ => false)), ends .twinHeartbeatSend n (fun t => decide (t.twn.beatAt = s.now ∧ t.twn.sent = n.twn.sent)),
      stays .twinHeartbeatSend (s.setTwn { s.twn with beatAt := s.twn.beatAt + 1 }), stays .twinHeartbeatSend (s.setTwn { s.twn with beating := false }),
      ends .twinKickLapse k (fun t => decide (t.twn.beating = false ∧ t.twnSt = 1 ∧ t.rb TWN_STATUS_gate = false)),
      ends .twinKickLapse (k.setTwn { k.twn with partnerLow := true }) (fun t => decide (t.twnSt = 2)), stays .twinKickLapse z, stays .twinKickLapse (k.setTwn { k.twn with kickAt := k.twn.kickAt + 1 }),
      (let o := z.setPwr { z.pwr with chip := .frozen }; stays .twinHeartbeatSend o && stays (.twinKick .host) o), runsB (.twinKick .host) z (z.setTwn { z.twn with kickAt := z.now, beating := true }), ends (.twinKick .host) k (fun t => decide (t.twn.kickAt = k.now ∧ t.twn.beating = true ∧ t.twnSt = 1)), runsB (.twinKick (.frond 5)) k (k.ignoreWrite (.frond 5))]) = true := by decide +kernel

theorem test_heartbeats_in : (let b : Beat := ⟨3, 9, 1, 0, 4, true⟩
    let c : Beat := { b with state := 2 }
    let s := twin 1 [(TWN_STATUS_link, 0, 1)] (fun t => { t with lost := true })
    let a := twin 3 [] id
    allB [ends (.twinHeartbeatReceive (.link b)) s (fun t => decide (t.twn.lastLink = some s.now ∧ t.twn.partner = b ∧ t.twn.lost = false ∧ t.rf TWN_PARTNER_CLASS_state = 3 ∧ t.twnSt = 2)),
      ends (.twinHeartbeatReceive (.link c)) s (fun t => decide (t.rf TWN_PARTNER_CLASS_state = 2 ∧ t.twnSt = 1)),
      ends (.twinHeartbeatReceive (.pin false)) s (fun t => decide (t.twn.lastPin = some s.now ∧ t.twn.lost = false ∧ t.twnSt = 1)),
      (let q := twin 2 [(TWN_STATUS_link, 0, 1)] (fun t => { t with lastLink := some (65536000000000 - 3 * uMs - 1), lastPin := some (65536000000000 - 3 * uMs - 1) })
       q.silentAt q.twn.lastLink (q.now - 1) && ends (.twinHeartbeatReceive (.link c)) q (fun t => decide (t.twnSt = 3 ∧ t.twn.lost = false)) &&
       ends (.twinHeartbeatReceive (.link c)) (q.setTwn { q.twn with lastPin := some (q.now - 3 * uMs) }) (fun t => decide (t.twnSt = 2))),
      ends (.twinHeartbeatReceive (.pin true)) a (fun t => decide (t.rb TWN_ALARM_dual = true ∧ t.twnSt = 2)),
      ends (.twinHeartbeatReceive (.pin true)) (a.wf TWN_CTL_primary 1) (fun t => decide (t.rb TWN_ALARM_dual = true ∧ t.twnSt = 3)),
      stays (.twinHeartbeatReceive (.pin true)) (s.wf TWN_STATUS_state 0)]) = true := by decide +kernel

/-- A satchel with a sequence number and a delta: class 1, bound 7; and its bytes with a CRC field. -/
def sat (n : Nat) (d : List (Nat × Option Sess)) : Satchel :=
  ⟨n, 0, false, false, [0, 1, 0, 0, 7] ++ zeros 123, zeros 32, 5, List.replicate 24 ⟨0, 0, 3, false, 0, 0⟩, 0, none, d⟩
def satBytes (n : Nat) (d : List (Nat × Option Sess)) (crc : Nat) : Bytes := (sat n d).header crc ++ (sat n d).parts

def sess1 : Sess := ⟨1, 2, 3, 0, 0, zeros 6, 0, zeros 4, zeros 10, 0, 0, ⟨#[0, 0, 0], rfl⟩, ⟨#[0, 0, 0], rfl⟩, ⟨#[0, 0, 0], rfl⟩, 0, 0, zeros 32, 0⟩

/-- A long CRC in three parts, with the values between them. -/
theorem crc_parts (l : Bytes) (x y z : Nat) (hx : crcForced (l.take 200) 0xFFFFFFFF = x) (hy : crcForced ((l.take 400).drop 200) x = y)
    (hz : crcForced (l.drop 400) y = z) : crc32c l = z ^^^ 0xFFFFFFFF := by
  rw [crcForced_eq] at hx hy hz
  have h : l = l.take 200 ++ (l.take 400).drop 200 ++ l.drop 400 := by
    rw [show l.take 200 = (l.take 400).take 200 by rw [List.take_take]; rfl, List.take_append_drop, List.take_append_drop]
  unfold crc32c
  rw [h, List.foldl_append, List.foldl_append, hx, hy, hz]

def sat0 : Bytes := satBytes 0 [] 1961007702
def satS : Bytes := satBytes 0 [(16383, some sess1)] 2037362725

theorem crc_sat0 : crc32c (overwrite sat0 32 (zeros 4)) = 1961007702 :=
  crc_parts _ 2600269951 3241592865 2333959593 (by decide +kernel) (by decide +kernel) (by decide +kernel)
theorem crc_satS : crc32c (overwrite satS 32 (zeros 4)) = 2037362725 :=
  crc_parts _ 1798049057 323369347 2257604570 (by decide +kernel) (by decide +kernel) (by decide +kernel)

/-- Bytes with their CRC-32C spell the satchel; a wrong magic, a short satchel, and a wrong CRC spell none. -/
theorem test_satchel_first : Satchel.read sat0 = some (sat 0 []) := by unfold Satchel.read; rw [crc_sat0]; decide +kernel
theorem test_satchel_change : Satchel.read satS = some (sat 0 [(16383, some sess1)]) := by unfold Satchel.read; rw [crc_satS]; decide +kernel
theorem test_satchel_bad : Satchel.read (sat0.set 0 0) = none ∧ Satchel.read sat0.dropLast = none ∧ Satchel.read (satBytes 0 [] 5) = none := by
  refine ⟨by decide +kernel, by decide +kernel, ?_⟩
  have h : overwrite (satBytes 0 [] 5) 32 (zeros 4) = overwrite sat0 32 (zeros 4) := by decide +kernel
  unfold Satchel.read; rw [h, crc_sat0]; decide +kernel

/-- What a standby does with bytes that spell `r`. -/
def takes (r : Option Satchel) (s : State) (p : State → Bool) : Bool := p (s.whenUp (s.satchelTake r))

theorem ends_satchel (l : Bytes) (r : Option Satchel) (h : Satchel.read l = r) (s : State) (p : State → Bool) :
    ends (.satchelApply l) s p = takes r s p := by subst h; rfl

theorem test_satchels : (let s := twin 2 [(TWN_STATUS_link, 0, 1), (KEY_STATUS_pair_ok, 0, 1), (readyFld 11, 0, 1)] (fun t => { t with rxSeq := some (2 ^ 32 - 1) })
    let f := s.setTwn { s.twn with rxSeq := none }
    let bad := fun (t : State) => decide (t.tsv = s.tsv ∧ t.rf TWN_SATCHEL_BAD_count = 1 ∧ t.rb TWN_STATUS_current = false ∧ t.twn.sent = some .resyncReq)
    let c := some (sat 0 [(16383, some sess1)])
    let z := some (sat 0 [])
    allB [decide (∀ e ∈ (sat 0 []).slots, e.state ≠ 4), takes z s (fun t => decide (t.twn.rxSeq = some 0 ∧ t.rf TWN_PARTNER_BOUND_ps = 7 ∧ t.rf TWN_PARTNER_CLASS_class = 1 ∧
        t.rf TWN_SATCHEL_SEQ_seq = 0 ∧ t.rf TWN_SATCHEL_RX_count = 1 ∧ t.rb TWN_STATUS_current = true ∧ t.tsv.sess = s.tsv.sess)),
      takes z f (fun t => decide (t.twn.rxSeq = some 0)),
      decide (s.sess 16383 = none ∧ tabGet none 16383 (s.twn.map.map (fun e => (e.1, some e.2))) = none),
      takes c s (fun t => decide (t.sess 16383 = some sess1 ∧ t.rf TWN_SATCHEL_RX_count = 1)),
      (let o := s.setTsv { s.tsv with sess := [(16383, { sess1 with lane := 9 })] }
       decide (o.twn.map = [] ∧ tabWf o.tsv.sess = true) && takes c o (fun t => decide (t.sess 16383 = some sess1 ∧ t.tsv.sess.length = 1))),
      takes z (s.setTwn { s.twn with rxSeq := some 0 }) bad, takes none s bad, takes z (s.wf TWN_STATUS_state 3) (alike (s.wf TWN_STATUS_state 3)),
      takes z (s.wf KEY_STATUS_pair_ok 0) (fun t => decide (t.tsv = s.tsv ∧ t.rf TWN_SATCHEL_BAD_count = 1))]) = true := by
  decide +kernel

theorem test_resync : (let s := (let u := twin 3 [(readyFld 11, 0, 1), (TWN_STATUS_current, 0, 1)] id; u.setTsv { u.tsv with sess := [(2, sess1), (3, { sess1 with kind := 2 })] })
    allB [ends (.twinResync (.own .host)) s (fun t => decide (t.twn.resyncing = true ∧ t.twn.resyncLeft = [2] ∧ t.rb TWN_STATUS_current = false)),
      stays (.twinResync (.own .host)) (s.wf (readyFld 11) 0), stays (.twinResync (.own .host)) (s.wf TWN_STATUS_state 2)]) = true := by decide +kernel

theorem test_compare : (let s := twin 2 [(TWN_CMP_CFG_unit_pps, 0, 0), (TWN_CMP_CFG_unit_clk, 0, 1), (TWN_CMP_WIN_ps, 0, 125), (TWN_CMP_CFG_count, 0, 3)] (fun t => { t with devRun := 2, missRun := 2, goodRun := 4 })
    let w := fun d => s.setUnit s.cmpPps { s.unit s.cmpPps with due := [(7 * uSec + d, 7)] }
    allB [decide (s.cmpFreq = none ∧ (s.unit s.cmpPps).due = [] ∧ (w (-8192)).cmpDelta (7 * uSec - 8192) = -8192 ∧ s.cmpCount = 3),
      ends .twinCompareSecond (w (-8192)) (fun t => decide (t.twn.goodRun = 5 ∧ t.twn.devRun = 0 ∧ t.rf TWN_DELTA_d = 2 ^ 64 - 8192)),
      (let f := (w (-8192)).wf TWN_CTL_bound_feed 1
       ends .twinCompareSecond f (fun t => decide ((t.queue 393).items.map (·.data) = [.feed ⟨f.rf TWN_CTL_ref_slot, -8192, 7 * uSec - 8192, f.rf TWN_CMP_UNC_ps⟩])) &&
       ends .twinCompareSecond (f.wf SYS_FATAL_clock 1) (fun t => decide ((t.queue 393).items = [] ∧ t.rf SYS_FATAL_REFUSED_count = 1))),
      ends .twinCompareSecond (w 8193) (fun t => decide (t.twn.goodRun = 0 ∧ t.twn.devRun = 3 ∧ t.twn.missRun = 2)),
      ends .twinCompareSecond s (fun t => decide (t.twn.goodRun = 0 ∧ t.twn.devRun = 3 ∧ t.twn.missRun = 3 ∧ t.rb TWN_ALARM_cmp_missing = true ∧ t.rf TWN_DEVIATIONS_count = 1)),
      stays .twinCompareSecond (s.wf TWN_STATUS_state 3)]) = true := by decide +kernel

theorem test_yields : (let a := twin 3 [(TWN_STATUS_gate, 0, 1)] id
    let s := twin 2 [] (fun t => { t with yieldAt := some (65536000000000 - 10 * uMs - 8 * uNs) })
    let p := (s.setTwn { s.twn with swapAt := some s.now }).wf TWN_STATUS_swap_pending 1
    let c := s.setTwn { s.twn with checkEnd := some s.now, checkNew := false }
    allB [decide (a.fatalSet = false), ends .twinYieldRequestReceive a (fun t => decide (t.twnSt = 2 ∧ t.twn.sent = some .yield_ ∧ t.rb TWN_STATUS_gate = false)), stays .twinYieldRequestReceive s,
      ends .twinYieldReceive s (fun t => decide (t.twnSt = 3 ∧ t.rf TWN_TAKEOVERS_count = 1 ∧ t.rb TWN_STATUS_gate = true ∧ t.twn.yieldAt = none)),
      ends .twinYieldReceive p (fun t => decide (t.twnSt = 3 ∧ t.twn.swapAt = none ∧ t.rb TWN_STATUS_swap_pending = false ∧ t.twn.checkNew = true)),
      ends .twinYieldReceive c (fun t => decide (t.twnSt = 3 ∧ t.rb TWN_ALARM_swap_back = true ∧ t.twn.checkEnd = none)), stays .twinYieldReceive a,
      ends .twinYieldReceive (s.setTwn { s.twn with swapAt := some (s.now + uMs + 1) }) (fun t => decide (t.twnSt = 3 ∧ t.twn.swapAt = some (s.now + uMs + 1))),
      ends .twinYieldTimeout s (fun t => decide (t.twn.yieldAt = none ∧ t.rb TWN_ALARM_yield_timeout = true ∧ t.twnSt = 2)),
      stays .twinYieldTimeout (s.setTwn { s.twn with yieldAt := some (s.now - 10 * uMs) })]) = true := by decide +kernel

/-- A standby of a current pair that nothing keeps from a swap. -/
def swapper (st : Nat) : State := twin st [(readyFld 11, 0, 1), (TWN_STATUS_current, 0, 1), (TWN_CMP_CFG_count, 0, 3), (TWN_RESULT_result, 0, 7)] (fun t => { t with goodRun := 3 })

theorem test_swaps : (let s := swapper 2
    let q := fun (z : Int) => (s.setTwn { s.twn with swapAt := some z, swapCause := 3 }).wf TWN_STATUS_swap_pending 1
    let f := s.wf TWN_STATUS_current 0
    let a := (let u := (swapper 3).wf TWN_STATUS_gate 1; u.setTwn { u.twn with swapAt := some u.now, swapCause := 3, checkNew := true })
    allB [decide (s.swapRefusal true = 0 ∧ f.swapRefusal true = 2 ∧ a.swapRefusal true = 0 ∧ a.swapRefusal false = 3), runsB (.twinSwap (.own .host) true) f (f.wf TWN_RESULT_result 2),
      ends (.twinSwap (.own .host) true) s (fun t => decide (t.twn.swapAt = some s.swapTime ∧ t.twn.swapCause = 3 ∧ t.rb TWN_STATUS_swap_pending = true ∧ t.rf TWN_RESULT_result = 0 ∧
        t.twn.sent = some (.swapReq s.swapTime false))), runsB (.twinSwap (.own .host) true) (q 5) ((q 5).wf TWN_RESULT_result 4),
      ends (.twinSwap (.partner true 9) true) s (fun t => decide (t.twn.swapAt = some 9 ∧ t.twn.swapCause = 4 ∧ t.rb TWN_STATUS_swap_pending = true)),
      stays (.twinSwap (.partner true 9) true) (s.wf TWN_STATUS_state 0),
      ends (.twinSwapAbort (.own .host)) (q (s.now + uMs + 1)) (fun t => decide (t.twn.swapAt = none ∧ t.rb TWN_STATUS_swap_pending = false ∧ t.rf TWN_RESULT_result = 0)),
      runsB (.twinSwapAbort (.own .host)) (q (s.now + uMs)) ((q (s.now + uMs)).wf TWN_RESULT_result 1), stays (.twinSwapHandover true) (q (s.now + 1)),
      ends (.twinSwapAbort (.partner false 5)) (q (s.now + 1)) (fun t => decide (t.twn.swapAt = none ∧ t.rb TWN_STATUS_swap_pending = false ∧ t.twn.sent = s.twn.sent)),
      ends (.twinSwapHandover false) a (fun t => decide (t.twn.swapAt = none ∧ t.rb TWN_STATUS_swap_pending = false ∧ t.twnSt = 3 ∧ t.twn.sent = some .swapAbort)),
      ends (.twinSwapHandover true) a (fun t => decide (t.twnSt = 2 ∧ t.twn.swapAt = none ∧ t.twn.sent = some .yield_ ∧ t.rb TWN_STATUS_gate = false ∧ t.twn.checkNew = false))]) = true := by
  decide +kernel

theorem test_swap_back_and_revert : (let s := (let u := swapper 3; u.setTwn { u.twn with checkEnd := some u.now, checkNew := true, checkPorts := [31], checkLanes := [30] })
    let ok := s.wf TIOn_STATUS_cal_valid 1 31
    let r := (let u := setFs (swapper 2) [(TWN_CTL_revert, 0, 1), (TWN_CTL_primary, 0, 1), (TWN_WTR_secs, 0, 5)]; u.setTwn { u.twn with revertFrom := some (u.now - 5 * uSec) })
    allB [decide (s.rb TIOn_STATUS_cal_valid 31 = false ∧ ok.linkUp 30 = false), ends .twinSwapBack s (fun t => decide (t.twnSt = 2 ∧ t.twn.sent = some .yield_ ∧ t.rb TWN_ALARM_swap_back = true)),
      ends .twinSwapBack ok (fun t => decide (t.twnSt = 2 ∧ t.rb TWN_ALARM_swap_back = true)), stays .twinSwapBack (s.setTwn { s.twn with checkEnd := some (s.now - 1) }),
      decide (r.revertOk = true ∧ r.swapRefusal true = 0), ends .twinRevertWtrExpire r (fun t => decide (t.twn.swapAt = some r.swapTime ∧ t.twn.swapCause = 4)),
      stays .twinRevertWtrExpire (r.wf TWN_WTR_secs 6)]) = true := by decide +kernel

/-! ## Memories and images -/

theorem test_alias : (let s := withMem (both 1000) 0xFFFFF8 (List.replicate 8 0xF0)
    let b := fun (t : State) a => t.byteAt a
    allB [decide (s.bank (bankOf 0xFFFFFF) = 0 ∧ s.memx.ecc1 = [] ∧ s.memx.ecc2 = []), Memory.wf s.mem,
      ends (.aliasWrite .host false 0xFFFFFD [1, 2, 0xFF]) s (fun t => decide (b t 0xFFFFFC = 0xF0 ∧ b t 0xFFFFFD = 0xF1 ∧ b t 0xFFFFFE = 0xF2 ∧ b t 0xFFFFFF = 0xFF)),
      ends (.aliasWrite (.frond 3) true 0xFFFFFD [0x30, 0, 0xFF]) s (fun t => decide (b t 0xFFFFFC = 0xF0 ∧ b t 0xFFFFFD = 0xC0 ∧ b t 0xFFFFFE = 0xF0 ∧ b t 0xFFFFFF = 0)),
      ends (.aliasWrite .host false 0xCFFFF [7]) s (fun t => decide (b t 0xCFFFF = 7)), ends (.aliasWrite .host false 0x800007 [1, 2]) s (fun t => decide (b t 0x800007 = 1 ∧ b t 0x800008 = 2)),
      runsB (.aliasWrite .host false 0x7FFFFF [1]) s (s.inc MEM_ALIAS_ERR_count), runsB (.aliasWrite .host false 0xD0000 [1]) s (s.inc MEM_ALIAS_ERR_count),
      (let o := s.setPwrOf 5 4 false; runsB (.aliasWrite .host false 0xCFFFF [7]) o (o.inc PWR_OFF_ACCESS_count)),
      foreignMailbox (.frond 11) 0xCFFFF, stays (.aliasWrite (.frond 11) false 0xCFFFF [7]) s, foreignMailbox (.frond 12) 0xCFFFF == false]) = true := by decide +kernel

theorem test_doorbells : (let s := both 1000
    let p := setFs s [(MEM_MBc_H2F_pending, 3, 1), (MEM_MBc_F2H_pending, 3, 1)]
    allB [runsB (.doorbellSet .host 3 false) s ((s.wf MEM_MBc_H2F_pending 1 3).assertSrc 95 (s.domNow 0)),
      ends (.doorbellSet .host 3 true) s (fun t => decide (t.rb MEM_MBc_F2H_pending 3 = true ∧ t.bit32 SYS_IRQ_CAUSEw_cause 99 = true)),
      runsB (.doorbellClear .host 3 false) p (p.wf MEM_MBc_H2F_pending 0 3), runsB (.doorbellClear .host 3 true) p (p.wf MEM_MBc_F2H_pending 0 3)]) = true := by decide +kernel

theorem test_memory_test : (let w := fun r => (let u := setFs (both 65536000000000) [(MEM_TEST_CTL_en, 0, 1), (MEM_TEST_CTL_ms, 0, 0), (MEM_TEST_CURSOR_region, 0, r)]; { u with memx := { u.memx with testAt := u.now - uMs } })
    let s := w 131583
    let e := { s with memx := { s.memx with testAt := s.now - uMs + 1 } }
    allB [decide (s.testable 131583 = true ∧ (w 0).testable 0 = true), ends (.memTestRegion true) s (fun t => decide (t.mem = s.mem ∧ t.memx.testAt = s.now ∧ t.rf MEM_TEST_CURSOR_region = 0 ∧
        t.rf MEM_TEST_FAIL_count = 1 ∧ t.rf MEM_TEST_PASSES_count = 1)),
      ends (.memTestRegion true) (w 0) (fun t => decide (t.rf MEM_TEST_CURSOR_region = 1 ∧ t.rf MEM_TEST_FAIL_count = 1 ∧ t.rf MEM_SPARE_USED_count = 1)), stays (.memTestRegion true) e,
      stays (.memTestRegion true) (s.wf MEM_TEST_CTL_en 0)]) = true := by decide +kernel

/-- No flash command runs; the next has an address, a buffer and a length. -/
def flashAt (addr buf len : Nat) : State :=
  setFs (both 1000) [(CFG_FLASH_RESULT_done, 0, 1), (CFG_FLASH_ADDR_addr, 0, addr), (CFG_FLASH_BUF_base, 0, buf), (CFG_FLASH_LEN_bytes, 0, len)]

theorem test_flash_commands : (let s := flashAt 0x87FFFF 0x1FFFF 64
    let c : FlashCmd := ⟨1, 0x87FFFF, 0x7FFFC0, 64⟩
    let no := fun (s : State) (n : Nat) (t : State) => decide (t.cfg = s.cfg ∧ t.rf CFG_FLASH_RESULT_result = n ∧ t.rb CFG_FLASH_RESULT_done = true ∧ t.bit32 SYS_IRQ_CAUSEw_cause 36 = true)
    let l := flashAt 0 0x1FFFF 65
    let b := s.wf CFG_FLASH_RESULT_done 0
    allB [runsB (.flashRead (.frond 1)) s (s.ignoreWrite (.frond 1)), runsB (.flashErase .host) b (b.wf CFG_FLASH_RESULT_result 1), decide (flashRefusal c = 0),
      ends (.flashRead .host) s (fun t => decide (t.cfg.cmd = some c ∧ t.cfg.flash = s.cfg.flash ∧ t.rb CFG_FLASH_RESULT_done = false ∧ t.mem = s.mem)),
      ends (.flashProgram .host) s (no s 2), ends (.flashErase (.frond 0)) s (no s 2), ends (.flashRead .host) l (no l 3), decide (flashRefusal ⟨2, 0x7FFFFF, 0, 2⟩ = 2),
      decide (flashRefusal ⟨2, 0x7FFFFF, 0, 1⟩ = 0), decide (flashRefusal ⟨3, 0x880000, 0, 0⟩ = 0)]) = true := by decide +kernel

theorem test_flash_ends : (let z := withMem (both 1000) 0xFFFFF0 [1, 2, 3]
    let w := fun (c : FlashCmd) => { z with cfg := { z.cfg with cmd := some c, flash := [(5, 0), (0x10000, 7), (0x1FFFF, 8), (0x20000, 9)] } }
    let rd := w ⟨1, 4, 0x7FFFF0, 3⟩
    let pg := w ⟨2, 5, 0x7FFFF0, 3⟩
    let er := w ⟨3, 0x10000, 0, 0⟩
    allB [decide (z.bank (bankOf (commonsBase + 0x7FFFF0)) = 0), Memory.wf rd.mem,
      ends (.flashComplete true) rd (fun t => decide (t.cfg.cmd = none ∧ t.bytesAt 0xFFFFF0 3 = [0xFF, 0, 0xFF] ∧ t.rf CFG_FLASH_RESULT_result = 0 ∧ t.rb CFG_FLASH_RESULT_done = true)),
      ends (.flashComplete true) pg (fun t => decide (t.cfg.cmd = none ∧ t.flashBytes 4 5 = [0xFF, 1, 2, 3, 0xFF] ∧ t.rf CFG_FLASH_RESULT_result = 0)),
      ends (.flashComplete true) er (fun t => decide (t.cfg.cmd = none ∧ t.cfg.flash = [(5, 0), (0x20000, 9)] ∧ t.rf CFG_FLASH_RESULT_result = 0)),
      ends (.flashComplete false) rd (fun t => decide (t.cfg.cmd = none ∧ t.cfg.flash = rd.cfg.flash ∧ t.rf CFG_FLASH_RESULT_result = 4)),
      ends (.flashComplete false) pg (fun t => decide (t.cfg.cmd = none ∧ t.rf CFG_FLASH_RESULT_result = 4)), stays (.flashComplete true) z]) = true := by decide +kernel

def gaveB (n : Nat) (t : State) : Bool := decide (t.rf FRD_RESULT_result = n ∧ t.rb FRD_RESULT_done = true ∧ t.bit32 SYS_IRQ_CAUSEw_cause 37 = true)

/-- Frond 15 in a run state, with an image loaded. -/
def frondAt (st : Nat) : State := withF (setFs (both 1000) [(FRD_RESULT_done, 0, 1), (FRD_STATUSn_state, 15, st), (FRD_STATUSn_loaded, 15, 1)]) 15 (fun x => { x with entry := 0x40, mode := false, ie := true, wait := .qpop 9 0 0 0 })

theorem test_halt_and_restart : (let r := frondAt 0
    let s := frondAt 3
    let b := r.wf FRD_RESULT_done 0
    let u := s.wf FRD_STATUSn_loaded 0 15
    let o := setFs r [(FRD_STATUSn_state, 0, 0)]
    allB [runsB (.frdHalt (.frond 1) 15) r (r.ignoreWrite (.frond 1)), ends (.frdHalt .host 15) b (fun t => decide (t.rf FRD_RESULT_result = 1 ∧ t.rf SYS_FW_WRITE_IGNORED_count = 1 ∧ t.fctl = b.fctl ∧ t.mem = b.mem)),
      ends (.frdHalt (.frond 0) 15) r (fun t => decide (t.frdState 15 = 2 ∧ (t.frond 15).wait = .none) && gaveB 0 t), ends (.frdHalt .host 15) s (fun t => decide (t.frdState 15 = 3) && gaveB 7 t),
      ends (.frdRestart .host 15) s (fun t => decide (t.frdState 15 = 0 ∧ (t.frond 15).pc = BitVec.ofNat 64 (frdBase + 0x40) ∧ (t.frond 15).mode = true ∧ (t.frond 15).ie = false ∧
        ∀ k : Fin 32, (t.frond 15).g[k] = 0) && gaveB 0 t), ends (.frdRestart .host 15) r (fun t => decide (t.frdState 15 = 0) && gaveB 7 t),
      ends (.frdRestart .host 15) u (fun t => decide (t.frdState 15 = 3) && gaveB 7 t), ends (.frdHalt (.frond 0) 0) o (fun t => decide (t.frdState 0 = 0) && gaveB 8 t),
      ends (.frdRestart (.frond 0) 0) o (gaveB 8), ends (.frdSwap (.frond 0) 0) o (gaveB 8)]) = true := by decide +kernel

theorem test_stage : (let off := 0x1FFFF
    let s := (frondAt 2).wf FRD_CMD_SRC_base off
    let n := min (0x800000 - off * 64) (imageLen (s.bytesAt (commonsBase + off * 64) (min 256 (0x800000 - off * 64))))
    let g := s.setFctl { s.fctl with staging := some (15, zeros 64) }
    allB [decide (s.fctl.staged = none ∧ s.bank (bankOf (commonsBase + off * 64)) = 0 ∧ n = 64),
      ends (.frdStage .host 15) s (fun t => decide (t.fctl.staging = some (15, zeros 64) ∧ t.rb FRD_RESULT_done = false ∧ t.mem = s.mem)), decide (checkImage g.ownerKey 15 (zeros 64) = 3),
      ends .stageComplete g (fun t => decide (t.fctl.staged = none ∧ t.fctl.staging = none) && gaveB 3 t), stays .stageComplete s]) = true := by decide +kernel

theorem test_swap : (let x : Staged := { frond := 15, code := [1, 2, 3, 4], dataSec := [5, 6], entry := 0x40, release := 2 ^ 32 + 9, owner := 0, measure := [7] }
    let s := (let u := withMem (frondAt 3) (dmemOf 15) [8, 8, 8, 8]; u.setFctl { u.fctl with staged := some x })
    let e := { s with key := { s.key with unsealed := true, readied := true } }
    let a := { e with key := { e.key with auth := [(15, ([7], e.domNow 0 + 10))] } }
    let w := s.setFctl { s.fctl with swapping := some 15 }
    allB [ends (.frdSwap .host 14) s (fun t => decide (t.fctl = s.fctl) && gaveB 6 t), decide (e.authorised 15 [7] = false),
      ends (.frdSwap .host 15) e (fun t => decide (t.fctl = e.fctl ∧ t.key = e.key) && gaveB 5 t),
      ends (.frdSwap .host 15) s (fun t => decide (t.fctl.swapping = some 15 ∧ t.fctl.staged = some x ∧ t.key.manifest[15] = [7] ∧ t.rb FRD_RESULT_done = false)), a.authorised 15 [7], Memory.wf w.mem,
      ends .swapComplete w (fun t => decide (t.frdState 15 = 0 ∧ t.rb FRD_STATUSn_loaded 15 = true ∧ t.rb FRD_STATUSn_staged 15 = false ∧ t.rf FRD_IMGn_release 15 = 9 ∧
        (t.frond 15).pc = BitVec.ofNat 64 (frdBase + 0x40) ∧ t.fctl.staged = none ∧ t.fctl.swapping = none ∧ t.bytesAt (imemOf 15) 4 = [1, 2, 3, 4] ∧ t.bytesAt (dmemOf 15) 4 = [5, 6, 0, 0]) && gaveB 0 t),
      stays .swapComplete s, ends (.frdUnstage .host 15) w (fun t => decide (t.fctl.staged = none ∧ t.rb FRD_STATUSn_staged 15 = false) && gaveB 0 t),
      ends (.frdUnstage .host 3) (frondAt 2) (fun t => decide (t.fctl = (frondAt 2).fctl) && gaveB 6 t)]) = true := by decide +kernel

/-! ## Power -/

/-- A domain, or a bank from index 20 on, in a state; a transition. -/
def inPwr (d st : Nat) (x : Option PwrTrans) : State :=
  let s := (both 65536000000000).setPwrOf d st false
  s.setPwr { s.pwr with trans := x }

theorem test_power_commands : (let s := inPwr 51 0 none
    let no := fun (s : State) (n : Nat) (t : State) => decide (t.rf PWR_RESULT_result = n ∧ t.pwr = s.pwr ∧ t.bit32 SYS_IRQ_CAUSEw_cause 35 = true ∧ ∀ k : Fin 20, t.pd k.val = s.pd k.val)
    let u := (setFs s [(TLY_CTL_drain_en, 0, 1), (TLY_DRAIN_BASE_base, 0, 0x1FFFF)])
    let b := inPwr 51 0 (some ⟨1, 0, 4, false, false⟩)
    allB [ends (.pwrOff (.frond 1) 51) s (fun t => alike t (s.ignoreWrite (.frond 1))), decide (pwrDenied 0 0 4 = true), ends (.pwrOff .host 0) s (no s 2), decide (pwrDenied 51 0 0 = false),
      ends (.pwrOn .host 51 false) s (no s 4), decide (u.pwrInUse 51 0 3 = true), ends (.pwrRetain .host 51) u (no u 3), ends (.pwrIdle .host 51) s (no s 2), ends (.pwrMoss .host 10) s (no s 2),
      ends (.pwrOff .host 52) s (no s 2), ends (.pwrOff .host 51) (inPwr 51 4 none) (no (inPwr 51 4 none) 4), ends (.pwrOff .host 51) (s.setPwr { s.pwr with chip := .frozen }) (alike (s.setPwr { s.pwr with chip := .frozen })),
      decide (pwrDenied 51 (s.pwrOf 51) 4 = false ∧ s.pwrOf 51 ≠ 4 ∧ s.pwrInUse 51 (s.pwrOf 51) 4 = false),
      ends (.pwrOff .host 51) s (fun t => decide (t.pwr.trans = some ⟨51, 0, 4, false, false⟩ ∧ t.rb PWR_RESULT_done = false ∧ t.rf PWR_RESULT_domain = 51 ∧ t.rf PWR_CMDS_count = 1 ∧ t.mem = s.mem)),
      ends (.pwrOff .host 51) b (fun t => decide (t.rf PWR_RESULT_result = 1 ∧ t.rf PWR_BUSY_count = 1 ∧ t.pwr = b.pwr)),
      ends (.pwrOn .host 1 true) b (fun t => decide (t.pwr.trans = some ⟨1, 0, 4, true, true⟩ ∧ t.rb PWR_RESULT_held = true)),
      ends (.pwrOn .host 1 false) (inPwr 51 0 (some ⟨1, 0, 4, true, false⟩)) (fun t => decide (t.pwr.trans = some ⟨1, 0, 4, true, true⟩)),
      ends (.pwrOn .host 1 false) b (fun t => decide (t.pwr.trans = none ∧ t.rf PWR_RESULT_result = 5 ∧ t.rb PWR_RESULT_done = true))]) = true := by decide +kernel

theorem test_domain_commands : (let s := inPwr 14 0 none
    let go := fun (n : Nat) (t : State) => decide (t.pwr.trans = some ⟨14, 0, n, false, false⟩)
    allB [decide (pwrDenied 14 0 1 = false ∧ pwrDenied 14 0 2 = false ∧ pwrDenied 14 0 3 = false ∧ s.pwrOf 14 = 0 ∧ s.pwrInUse 14 0 1 = false ∧ s.pwrInUse 14 0 2 = false ∧ s.pwrInUse 14 0 3 = false),
      ends (.pwrIdle .host 14) s (go 1), ends (.pwrMoss .host 14) s (go 2), ends (.pwrRetain .host 14) s (go 3),
      ends (.pwrOn .host 14 false) (inPwr 14 3 none) (fun t => decide (t.pwr.trans = some ⟨14, 3, 0, false, false⟩ ∧ t.rb PWR_RESULT_done = false))]) = true := by decide +kernel

theorem crc32cByte_lt (b : Byte) (c : Nat) (h : c < 2 ^ 32) : crc32cByte c b < 2 ^ 32 := by
  have bit : ∀ c : Nat, c < 2 ^ 32 → crc32cBit c < 2 ^ 32 := by
    intro c h
    unfold crc32cBit
    split
    · exact Nat.xor_lt_two_pow (by omega) (by decide)
    · omega
  have x : c ^^^ b.toNat < 2 ^ 32 := Nat.xor_lt_two_pow h (by have := b.isLt; omega)
  have e : crc32cByte c b = crc32cBit (crc32cBit (crc32cBit (crc32cBit (crc32cBit (crc32cBit (crc32cBit (crc32cBit (c ^^^ b.toNat)))))))) := rfl
  rw [e]
  exact bit _ (bit _ (bit _ (bit _ (bit _ (bit _ (bit _ (bit _ x)))))))

theorem crc32c_lt (l : Bytes) : crc32c l < 2 ^ 32 := by
  have h : ∀ (l : Bytes) (c : Nat), c < 2 ^ 32 → l.foldl crc32cByte c < 2 ^ 32 := by
    intro l
    induction l with
    | nil => exact fun c h => h
    | cons b t ih => exact fun c h => ih _ (crc32cByte_lt b c h)
  exact Nat.xor_lt_two_pow (h l _ (by decide)) (by decide)

theorem retFails_of (s : State) (d : Nat) (x : Nat × Nat) (e : Nat × Byte) (hx : retArea d = some x) (hs : tabGet 0 d s.pwr.sigs = 2 ^ 32) :
    s.retFails d [e] = true := by
  simp only [State.retFails, hx, hs, State.signature, List.isEmpty_cons, Bool.not_false, Bool.true_and, decide_eq_true_eq]
  exact Nat.ne_of_lt (crc32c_lt _)

/-- A cluster wakes from RETAIN, and its memory's CRC-32C is not the one kept: none is as large as that. -/
theorem test_cluster_signature : (let s := (let u := inPwr 5 3 (some ⟨5, 3, 0, false, false⟩); u.setPwr { u.pwr with sigs := [(5, 2 ^ 32)] })
    s.live = true ∧ s.pwr.trans = some ⟨5, 3, 0, false, false⟩ ∧ s.retFails 5 [(7, 1)] = true) :=
  ⟨by decide +kernel, by decide +kernel, retFails_of _ 5 (0x400000 + 0x80000 * 3, 0x80000) _ (by decide) (by decide +kernel)⟩

/-- A copy of the present image with sequence number 9 that holds a save area of domain 5. -/
def saved5 (s : State) : Ckpt := { s.image false with seq := 9, saves := [(5, [])] }

theorem test_transition_ends : (let w := fun (x : PwrTrans) => inPwr x.domain x.old (some x)
    let done := Instr.pwrTransitionComplete []
    let bank := withMem (w ⟨51, 0, 4, false, false⟩) 0xFBFFFE [1, 2, 3, 4]
    let off := w ⟨5, 0, 4, false, false⟩
    let twice := off.setPwr { off.pwr with copy0 := some (saved5 off), copy1 := some (saved5 off), offSeq := [(5, 9)] }
    let held : State := (let s := w ⟨51, 4, 0, false, false⟩; { s with memx := { s.memx with held := [.store 0 0xFFFFF0 [1, 2, 3]] } })
    let bad := w ⟨5, 4, 0, false, false⟩
    let copy := bad.setPwr { bad.pwr with copy1 := some (saved5 off), badSave := [5] }
    allB [ends done (w ⟨51, 4, 0, false, false⟩) (fun t => decide (t.pwr.trans = none ∧ t.rf PWR_RESULT_result = 0 ∧ t.rb PWR_RESULT_done = true ∧ t.rb PWR_RESULT_held = false ∧
        t.bank 31 = 0 ∧ t.bit32 SYS_IRQ_CAUSEw_cause 35 = true)), ends done (w ⟨14, 2, 0, false, false⟩) (fun t => decide (t.pwr.trans = none ∧ t.pd 14 = 0)),
      ends done (w ⟨5, 3, 0, false, false⟩) (fun t => decide (t.pwr.trans = none ∧ t.mem = (w ⟨5, 3, 0, false, false⟩).mem)),
      decide (held.memx.ecc1 = [] ∧ held.memx.ecc2 = []) && Memory.wf held.mem, ends done held (fun t => decide (t.memx.held = [] ∧ t.bytesAt 0xFFFFF0 3 = [1, 2, 3])),
      decide (bad.pwr.savedCopy 5 = none), ends (.pwrTransitionComplete [(0, 1)]) bad (fun t => decide (t.pwr.trans = none ∧ t.pd 5 = 4 ∧ t.rf PWR_RESULT_result = 6 ∧ t.rb PWR_RESULT_done = true)),
      decide (copy.pwr.savedCopy 5 = some []), ends done copy (fun t => decide (t.pwr.trans = none ∧ t.rf PWR_RESULT_result = 0 ∧ t.rb PWR_RESTART_save_fail = true)),
      ends done (w ⟨14, 0, 3, false, false⟩) (fun t => decide (t.pwr.trans = none ∧ t.rf PWR_RESULT_result = 0 ∧ t.pd 14 = 3)), Memory.wf bank.mem,
      ends done bank (fun t => decide (t.pwr.trans = none ∧ t.bank 31 = 2 ∧ t.bytesAt 0xFBFFFE 4 = [1, 2, 0, 0])), decide (off.pwr.savedTwice 5 = false ∧ twice.pwr.savedTwice 5 = true),
      ends done twice (fun t => decide (t.pwr.trans = none ∧ t.pd 5 = 4 ∧ t.rf PWR_RESULT_result = 0)),
      stays done off, stays done (both 5), stays done (bank.setPwr { bank.pwr with chip := .frozen })]) = true := by decide +kernel

/-- The state as a checkpoint, complete. -/
def ckpt (s : State) (fin : Bool) : State := s.setPwr { s.pwr with writing := some (s.image fin) }

theorem test_checkpoints : (let s := (let u := both (10 * uMs); u.setTm { u.tm with lastStrobe := 10 * uMs })
    let l := (let u := both (11 * uMs); u.setTm { u.tm with lastStrobe := 10 * uMs })
    let v := s.setPwr { s.pwr with saves := [(5, [])] }
    let p := ckpt s false
    let f := (let u := ckpt s true; u.setPwr { u.pwr with chip := .frozen, newest := 1 })
    allB [ends (.periodicCheckpoint []) s (fun t => decide (t.pwr.writing = some (s.image false) ∧ t.pwr.nextSeq = s.pwr.nextSeq + 1 ∧ t.regs = s.regs)), stays (.periodicCheckpoint []) l,
      ends (.periodicCheckpoint [5]) v (fun t => decide (5 ∈ t.pwr.badSave)), stays (.periodicCheckpoint []) (s.setPwr { s.pwr with aon := false }),
      stays (.periodicCheckpoint []) p, ends .checkpointWriteComplete p (fun t => decide (t.pwr.writing = none ∧ t.pwr.newest = 1 ∧ t.pwr.copy1 = some (s.image false) ∧ t.rf PWR_CKPTS_count = 1)),
      ends .finalCheckpointComplete f (fun t => decide (t.pwr.writing = none ∧ t.pwr.newest = 0 ∧ t.pwr.copy0 = some (s.image true) ∧ t.regs = f.regs)),
      ends .finalCheckpointComplete (f.setPwr { f.pwr with resetCause := 3 }) (fun t => decide (t.pwr.chip = .lichen ∧ t.pwr.resetCause = 3)),
      ends .finalCheckpointComplete (f.wf SYS_FATAL_clock 1) (fun t => decide (t.pwr.copy0 = some { s.image true with fatal := (s.wf SYS_FATAL_clock 1).fatalBits })),
      decide ((s.wf SYS_FATAL_clock 1).fatalBits ≠ s.fatalBits), stays .finalCheckpointComplete (f.setPwr { f.pwr with chip := .run }), stays .checkpointWriteComplete f,
      stays .finalCheckpointComplete p, stays .checkpointWriteComplete s, stays .finalCheckpointComplete s]) = true := by decide +kernel

theorem test_freezes : (let s := both 65536000000000
    let f := s.setPwr { s.pwr with pfail := true, chip := .frozen }
    let fin := fun (t : State) => t.pwr.writing.any (fun c => c.final && decide (c.time = s.now))
    allB [ends (.pfailWarning false) s (fun t => decide (t.pwr.pfail = true ∧ t.pwr.chip = .frozen ∧ t.live = false ∧ t.key.commit = none) && fin t), stays (.pfailWarning true) f,
      ends .pfailRelease f (fun t => decide (t.pwr.pfail = false ∧ t.pwr.resetCause = 4 ∧ t.pwr.chip = .lichen)), stays .pfailRelease s,
      ends .pfailRelease (f.setPwr { f.pwr with writing := some (s.image true) }) (fun t => decide (t.pwr.pfail = false ∧ t.pwr.resetCause = 4 ∧ t.pwr.chip = .frozen ∧ t.regs = f.regs)),
      ends (.resetNAssert false) s (fun t => decide (t.pwr.chip = .frozen ∧ t.pwr.resetCause = 3 ∧ t.jtag.resetLow = true) && fin t),
      ends (.resetNAssert false) (s.setTm { s.tm with run := false }) (fun t => decide (t.pwr.chip = .lichen ∧ t.pwr.resetCause = 3)),
      ends (.resetNAssert false) (s.setPwr { s.pwr with aon := false }) (fun t => decide (t.pwr.chip = .dark))]) = true := by decide +kernel

theorem test_supplies : (let s := withMem (both 65536000000000) 0x800000 [1]
    let st := fun (c : ChipState) (a v : Bool) => s.setPwr { s.pwr with chip := c, resetCause := 0, aon := a, core := v }
    let k := { (st .lichen true false) with key := { s.key with commitBit := some 1 } }
    let d := { (st .dark false true) with pending := [.twinClaim] }
    allB [ends .vddAonPowerOn (st .dark false true) (fun t => decide (t.pwr.chip = .lichen ∧ t.pwr.resetCause = 1 ∧ t.pwr.aon = true)), stays .vddAonPowerOn s,
      ends .vddAonLoss k (fun t => decide (t.pwr.copy0 = none ∧ t.pwr.copy1 = none ∧ t.pwr.rtcValid = false ∧ t.key.commitBit = none ∧ t.pwr.chip = .dark)),
      ends .vddAonLoss (st .run true true) (fun t => decide (t.pwr.rtcValid = false ∧ t.pwr.chip = .run ∧ t.pwr.aon = false ∧ t.regs = s.regs)), stays .vddAonLoss d,
      ends (.vddCoreLoss false) { (st .run true true) with pending := [.twinClaim] } (fun t => decide (t.pwr.chip = .lichen ∧ t.mem = [] ∧ t.key.lockers = [] ∧ t.pending = [.twinClaim] ∧ t.cfg.flash = s.cfg.flash)),
      ends (.vddCoreLoss true) (st .run false true) (fun t => decide (t.pwr.chip = .dark ∧ t.pwr.core = false)),
      stays (.vddCoreLoss false) k, ends .vddCoreReturn k (fun t => decide (t.pwr.resetCause = 2 ∧ t.pwr.core = true)), stays .vddCoreReturn s,
      ends .vddCoreReturn (st .dark false false) (fun t => decide (t.pwr.resetCause = 0)),
      decide (d.supplied = false ∧ unpowered .twinClaim = false ∧ unpowered (.add 5 3 1 2) = false), stays .twinClaim d, stays (.add 5 3 1 2) d, stays (.spineTick 5) k]) = true := by decide +kernel

theorem test_chip_reset : (let s := (let u := withMem (both 65536000000000) 0x800000 [1]; u.setPwr { u.pwr with resetCause := 3, chip := .lichen, copy1 := some (u.image true) })
    let no := fun (f : PwrState → PwrState) => stays (.chipReset true 0) (s.setPwr (f s.pwr))
    allB [ends (.chipReset true 5) { s with pending := [.twinClaim] } (fun t => decide (t.pwr.chip = .run ∧ t.pwr.resetCause = 0 ∧ t.rf PWR_RESET_CAUSE_cause = 3 ∧ t.mem = [] ∧ t.pending = [.twinClaim] ∧
        t.keyAlive = true ∧ (∀ k : Fin 20, t.pd k.val = 0) ∧ (∀ f : Fin 16, t.frdState f = 2) ∧ t.pwr.copy0 = none ∧ t.isReady 5 = false) && decide (t.pwr.copy1 = s.pwr.copy1)),
      ends (.chipReset false 5) s (fun t => decide (t.keyAlive = false ∧ t.rf KEY_STATUS_state = 3)),
      no (fun p => { p with resetCause := 0 }), no (fun p => { p with chip := .frozen }), no (fun p => { p with core := false }), no (fun p => { p with aon := false, chip := .dark }),
      no (fun p => { p with pfail := true })]) = true := by decide +kernel

theorem test_restart : (let s : State := (let u := both 5; { u with tm := { u.tm with run := false }, pwr := { u.pwr with rtcValid := true, rtc := 2 } })
    let c : Ckpt := { s.image true with time := 7 * uSec, rtc := 32768 }
    let r : State := s.setPwr { s.pwr with newest := 1, copy1 := some c, rtc := 32768 }
    allB [decide (s.live = true ∧ s.locked s.active = true ∧ s.pwr.copies = [] ∧ r.pwr.copies = [c]),
      ends (.restartRestore 1) s (fun t => decide (t.tm.run = true ∧ t.tm.time = 6000000000 ∧ t.rf PWR_RESTART_kind = 0 ∧ t.isReady 2 = true)),
      ends (.restartRestore 1) r (fun t => decide (t.tm.run = true ∧ t.tm.time = 7 * uSec + 2000000000 ∧ t.rf PWR_RESTART_kind = 1 ∧ t.rf PWR_OUTAGE_ticks = 1 ∧ t.isReady 2 = true)),
      ends (.restartRestore 3) (s.setPwr { s.pwr with rtcValid := false }) (fun t => decide (t.tm.time = 0)), stays (.restartRestore 3) (both 5)]) = true := by decide +kernel

theorem test_function_reset : (let s := (let u := setFs (both 5) [(SYS_IRQ_PENDw_pend, 15, 7), (readyFld 10, 0, 1)]; { u with pcie := { u.pcie with msixEn := true } })
    allB [ends (.pcieFunctionReset false) s (fun t => decide ((∀ w : Fin 16, t.rf SYS_IRQ_PENDw_pend w.val = 0) ∧ t.pcie.msixEn = false ∧ t.mem = s.mem ∧ t.isReady 10 = true)),
      ends (.pcieFunctionReset true) s (fun t => decide (t.isReady 10 = false ∧ t.pcie.msixEn = false)), ends .perstNAssert s (fun t => decide (t.isReady 10 = false ∧ t.pcie.msixEn = false))]) = true := by
  decide +kernel

/-! ## Boot and access -/

/-- A configuration slot with a sequence number, a check word, a directory entry 15 and records. -/
def cfgSlot (q crc : Nat) (recs : List (Nat × Nat × Nat)) : Bytes :=
  let l := 288 + 12 * recs.length
  leBytes 4 0x5A434647 ++ leBytes 2 1 ++ leBytes 2 recs.length ++ leBytes 4 q ++ leBytes 4 crc ++ leBytes 4 l ++ zeros 12 ++ zeros 240 ++ leBytes 4 0x123400 ++ zeros 12 ++
    recs.flatMap (fun e => leBytes 4 e.1 ++ leBytes 4 e.2.1 ++ leBytes 4 e.2.2)

/-- Bytes listed from an address on. -/
def listed : Nat → Bytes → List Host.Cell
  | _, [] => []
  | a, b :: t => (a, b) :: listed (a + 1) t

theorem flashGet_listed (l : Bytes) (a i : Nat) : flashGet (a + i) (listed a l) = (l[i]?).getD flashErased := by
  induction l generalizing a i with
  | nil => rfl
  | cons b t ih =>
    cases i with
    | zero => simp [listed, flashGet]
    | succ k =>
      have h := ih (a + 1) k
      rw [show a + 1 + k = a + (k + 1) by omega] at h
      simp only [listed, flashGet, List.getElem?_cons_succ, h]
      rw [if_neg (by omega), if_neg (by omega)]

/-- A live chip before its configuration, with a slot in flash at an offset. -/
def booting (at_ : Nat) (b : Bytes) : State :=
  let s := both 5
  { s with cfg := { s.cfg with flash := listed at_ b } }

theorem listed_bytes (s : State) (a : Nat) (b : Bytes) (hf : s.cfg.flash = listed a b) (h : a + b.length ≤ 0x800000) : s.flashBytes a b.length = b := by
  apply List.ext_getElem
  · simp [State.flashBytes]
  · intro i h1 h2
    have e : inSlots (a + i) = false := by simp only [inSlots, Bool.and_eq_false_iff, decide_eq_false_iff_not]; omega
    simp only [State.flashBytes, List.getElem_map, List.getElem_range, State.flashByte, e]
    have g := flashGet_listed b a i
    simp only [List.getElem?_eq_getElem h2, Option.getD_some] at g
    rw [hf]
    exact g

theorem booting_bytes (a : Nat) (b : Bytes) (h : a + b.length ≤ 0x800000) : (booting a b).flashBytes a b.length = b := listed_bytes _ a b rfl h

theorem test_slots_default : (let s := booting 0 [1, 2]
    allB [decide (s.isReady 5 = false ∧ s.live = true ∧ slotFail (s.flashBytes 0 64) = 1), ends (.configSlotApply false true) s (fun t => decide (t.rb CFG_STATUS_defaulted = true ∧
        t.rb CFG_STATUS_a_valid = false ∧ t.rb CFG_STATUS_b_valid = false ∧ t.rf CFG_STATUS_a_fail = 1 ∧ t.rf CFG_STATUS_b_fail = 4 ∧ t.isReady 5 = true)),
      stays (.configSlotApply false false) (s.wf (readyFld 5) 1)]) = true := by decide +kernel

theorem slice_take (b : Bytes) (m o k : Nat) (h : o + k ≤ m) : slice (b.take m) o k = slice b o k := by
  simp only [slice, List.drop_take, fitBytes]
  rcases Nat.le_total (b.drop o).length (m - o) with c | c
  · rw [List.take_of_length_le c]
  · rw [List.take_append_of_le_length (by rw [List.length_take]; omega), List.take_append_of_le_length (by omega), List.take_take, Nat.min_eq_left (by omega)]

theorem sliceNat_take (b : Bytes) (m o k : Nat) (h : o + k ≤ m) : sliceNat (b.take m) o k = sliceNat b o k := by
  simp only [sliceNat, slice_take b m o k h]

/-- A slot with its magic, format, length and check word passes. -/
theorem slotFail_zero (b : Bytes) (n : Nat) (hm : sliceNat b 0 4 = 0x5A434647) (hf : sliceNat b 4 2 = 1) (hn : sliceNat b 6 2 = n) (hl : sliceNat b 16 4 = 288 + 12 * n)
    (hb : 288 + 12 * n ≤ 65536) (hc : crcForced (slice b 0 12 ++ zeros 4 ++ slice b 16 (272 + 12 * n)) 0xFFFFFFFF ^^^ 0xFFFFFFFF = sliceNat b 12 4) : slotFail b = 0 := by
  have e : 288 + 12 * n - 16 = 272 + 12 * n := by omega
  rw [crcForced_eq] at hc
  simp only [slotFail, hm, hf, hn, hl, e, crc32c, hc]
  simp
  omega

/-- The check of a slot looks at no byte past the slot's length. -/
theorem slotFail_take (b : Bytes) (m : Nat) (hm : 20 ≤ m) (hl : sliceNat (b.take m) 16 4 ≤ m) : slotFail (b.take m) = slotFail b := by
  have h := sliceNat_take b m 16 4 (by omega)
  rw [h] at hl
  have e : slice (b.take m) 16 (sliceNat b 16 4 - 16) = slice b 16 (sliceNat b 16 4 - 16) := by
    by_cases c : 16 ≤ sliceNat b 16 4
    · exact slice_take b m 16 _ (by omega)
    · exact slice_take b m 16 _ (by omega)
  simp only [slotFail, h, e, sliceNat_take b m 0 4 (by omega), sliceNat_take b m 4 2 (by omega), sliceNat_take b m 6 2 (by omega), sliceNat_take b m 12 4 (by omega),
    slice_take b m 0 12 (by omega)]

theorem flashBytes_take (s : State) (a n m : Nat) (h : m ≤ n) : (s.flashBytes a n).take m = s.flashBytes a m := by
  simp only [State.flashBytes, ← List.map_take, List.take_range, Nat.min_eq_left h]

def slotEmpty : Bytes := cfgSlot 0xFFFFFFFF 0xA7417571 []
def slotKick : Bytes := cfgSlot 7 0xD10694C2 [(0xB0018, 0x1234, 0x0FF0)]
def slotBad : Bytes := cfgSlot 7 0x3068F820 [(0x20000, 1, 1)]

theorem test_slots_pass : slotFail slotEmpty = 0 ∧ slotFail slotKick = 0 ∧ slotFail slotBad = 0 := by
  refine ⟨slotFail_zero _ 0 ?_ ?_ ?_ ?_ ?_ ?_, slotFail_zero _ 1 ?_ ?_ ?_ ?_ ?_ ?_, slotFail_zero _ 1 ?_ ?_ ?_ ?_ ?_ ?_⟩ <;> decide +kernel

theorem test_slot_bytes : slotEmpty.length = 288 ∧ slotKick.length = 300 ∧ slotBad.length = 300 ∧ sliceNat slotBad 16 4 = 300 ∧ sliceNat slotBad 6 2 = 1 ∧ sliceNat slotBad 288 4 = 0x20000 ∧ sliceNat slotEmpty 16 4 = 288 ∧ sliceNat slotEmpty 6 2 = 0 ∧ sliceNat slotEmpty 8 4 = 0xFFFFFFFF ∧
    sliceNat slotEmpty (32 + 16 * 15) 4 = 0x123400 ∧ sliceNat slotKick 16 4 = 300 ∧ sliceNat slotKick 6 2 = 1 ∧ sliceNat slotKick 288 4 = 0xB0018 ∧ recordAllowed 0x20000 = false ∧
    recordAllowed 0xB0018 = true := by decide +kernel

/-- A slot that passes does so where it is read whole, in slot B and in slot A. -/
theorem slotFail_booting (a n : Nat) (b : Bytes) (hn : b.length = n) (ha : a + n ≤ 0x800000) (h20 : 20 ≤ n) (hn2 : n ≤ 0x10000) (hl : sliceNat b 16 4 ≤ n) :
    slotFail ((booting a b).flashBytes a 0x10000) = slotFail b := by
  subst hn
  have e : ((booting a b).flashBytes a 0x10000).take b.length = b := by rw [flashBytes_take _ _ _ _ hn2, booting_bytes a b ha]
  rw [← slotFail_take _ b.length h20 (by rw [e]; exact hl), e]

theorem test_slot_whole : slotFail ((booting 0x10000 slotEmpty).flashBytes 0x10000 0x10000) = 0 ∧ slotFail ((booting 0 slotKick).flashBytes 0 0x10000) = 0 ∧
    slotFail ((booting 0 slotBad).flashBytes 0 0x10000) = 0 := by
  obtain ⟨h1, h2, h5, h6, -, -, h3, -, -, -, h4, -⟩ := test_slot_bytes
  rw [slotFail_booting 0x10000 288 slotEmpty h1 (by omega) (by omega) (by omega) (by omega), slotFail_booting 0 300 slotKick h2 (by omega) (by omega) (by omega) (by omega),
    slotFail_booting 0 300 slotBad h5 (by omega) (by omega) (by omega) (by omega)]
  exact test_slots_pass

theorem test_prefect_missing : (let s := (booting 0 []).wf (readyFld 5) 1
    allB [decide (s.dirImage = none ∧ s.prefectCheck s.recoveryImage = 2), ends .prefectBootLoad s (fun t => decide (t.rf CFG_BOOT_prefect = 2 ∧ t.frdState 0 = s.frdState 0 ∧ t.key = s.key ∧ t.mem = s.mem)),
      stays .prefectBootLoad (s.wf CFG_BOOT_prefect 2), stays .prefectBootLoad (booting 0 [])]) = true := by decide +kernel

theorem test_register_write : (let s := setFs (both 5) [(TWN_ALARM_stuck, 0, 1), (TWN_ALARM_dual, 0, 1)]
    allB [ends (.registerWrite .host false 0xB0018 0x89ABCDEF) s (fun t => alike t (s.wf TWN_KICK_MS_ms 0xCDEF)), stays (.registerWrite (.frond 7) false 0xB0054 7) s,
      ends (.registerWrite .host false 0xB0010 2) s (fun t => decide (t.twn = s.twn ∧ t.rb TWN_ALARM_stuck = false ∧ t.rb TWN_ALARM_dual = true)),
      ends (.registerWrite .host false 0xB0010 0xFFFFFFFD) s (fun t => decide (t.rb TWN_ALARM_stuck = true)),
      ends (.registerWrite (.frond 15) false 0xE0008 7) s (fun t => alike t (s.inc SYS_FW_WRITE_IGNORED_count)),
      decide (s.pdServed 19 = true ∧ tabGet 0 0 s.pcie.cfg = 0), ends (.multiwordLoRead .host true 0) s (fun t => decide (t.lastRead .host = s.pciWord 0)),
      ends (.registerWrite .host true 0x04 4) s (fun t => t.pcie.bme && decide (t.regs = s.regs)), ends (.registerWrite .host true 0x10 0x12345678) s (fun t => decide (t.pciWord 0x10 = 0x12000004)),
      ends (.registerWrite .host true 0x44 7) s (fun t => t.pcie.d3), ends (.registerWrite .host true 0x44 0) { s with pcie := { s.pcie with d3 := true } } (fun t => !t.pcie.d3),
      ends (.registerWrite .host true 0x50 0xC0000000) s (fun t => t.pcie.msixEn && t.pcie.fmask),
      ends (.registerWrite .host true 0x78 0x8000) (s.wf SYS_IRQ_PENDw_pend 7 15) (fun t => decide (t.rf SYS_IRQ_PENDw_pend 15 = 0)),
      (let o := s.setPwrOf 19 4 false; stays (.registerWrite .host true 0x04 4) o && stays (.multiwordLoRead .host true 0) o)]) = true := by decide +kernel

theorem test_multiword : (let s := (both 5).wf SPN_SNAP_TIME_time (3 + 4 * 2 ^ 32 + 5 * 2 ^ 64)
    let lo := { s with acc := { s.acc with latch := s.acc.latch.set 16 (some ⟨0x30010, [8, 9]⟩) } }
    let w := s.setStage .host (some ⟨0x41004, [(0, 77)]⟩)
    let x : RegWord := ⟨SPN_SNAP_TIME, 0, 0⟩
    let y : RegWord := ⟨OUTn_INC, 0, 1⟩
    allB [decide (regAt 0x30010 = some x ∧ targetOf 0x30010 4 = .reg ∧ s.unserved 0x30010 = false ∧ x.reg.multi = true ∧ regAt 0x41008 = some y ∧ y.reg.multi = true ∧ y.reg.writable = true ∧
        y.reg.words = 2 ∧ s.unserved 0x41008 = false ∧ s.getReg y.reg 0 < 2 ^ 64),
      ends (.multiwordLoRead .host false 0x30010) s (fun t => decide (t.lastRead .host = 3 ∧ t.acc.latch[16] = some ⟨0x30010, [4, 5]⟩ ∧ t.regs = s.regs)),
      ends (.multiwordLoRead .host false 0x30018) lo (fun t => decide (t.lastRead .host = 9 ∧ t.regs = s.regs)),
      ends (.multiwordLowerWrite .host 0x41004 77) s (fun t => alike t w),
      ends (.multiwordHighWrite .host 0x41008 3) w (fun t => alike t ((w.setStage .host none).writeReg .host y.reg 0 (77 + 3 * 2 ^ 32)))]) = true := by decide +kernel

/-- Register accesses that meet a domain that is OFF, no register, or no aligned word; the commons, ON and WAKING; the management slave as requester. -/
theorem test_targets : (let s := both 5
    let off := s.setPwrOf 15 4 false
    let wake := s.setPwrOf 51 5 false
    let c := fun (t : State) (b r : Nat) => decide (t.rf SYS_BAD_ACCESS_count = b ∧ t.lastRead .host = r)
    allB [decide (off.unserved 0x41008 = true ∧ targetOf 0x41008 4 = .reg ∧ targetOf 0x20FF0 4 = .unmapped ∧ targetOf 0x20002 4 = .bad ∧ targetOf 0xFFFFFC 4 = .mem),
      ends (.registerWrite .host false 0x41008 7) off (fun t => decide (t.rf PWR_OFF_ACCESS_count = 1) && alike t ((off.reqCross .host).inc PWR_OFF_ACCESS_count)),
      ends (.multiwordLowerWrite (.frond 3) 0x41004 7) off (fun t => alike t (off.inc PWR_OFF_ACCESS_count)),
      ends (.multiwordHighWrite (.frond 3) 0x41008 7) off (fun t => alike t (off.inc PWR_OFF_ACCESS_count)),
      ends (.multiwordLoRead .host false 0x41004) { off with acc := { off.acc with read := off.acc.read.set 16 9 } } (fun t => c t 0 0 && decide (t.rf PWR_OFF_ACCESS_count = 1)),
      ends (.registerWrite .host false 0x20FF0 7) s (fun t => decide (t.rf SYS_BAD_ACCESS_count = 1)), ends (.registerWrite .spi false 0x20002 7) s (fun t => decide (t.rf SYS_BAD_ACCESS_count = 1)),
      ends (.multiwordLoRead .host false 0x20FF0) { s with acc := { s.acc with read := s.acc.read.set 16 9 } } (fun t => c t 1 0),
      ends (.multiwordLoRead .host false 0x20002) s (fun t => c t 1 (2 ^ 32 - 1)), decide (s.allOn 0xFFFFFC 4 = true ∧ wake.waits 0xFFFFFC 4 = true),
      ends (.registerWrite .host false 0xFFFFFC 0x89ABCDEF) s (fun t => decide (t.bytesAt 0xFFFFFC 4 = [0xEF, 0xCD, 0xAB, 0x89] ∧ t.byteAt 0xFFFFFB = s.byteAt 0xFFFFFB)),
      stays (.registerWrite .host false 0x8 7) { s with pcie := { s.pcie with d3 := true } }, stays (.multiwordLoRead .host false 0x30010) (s.setPwrOf 19 4 false), decide (s.onBus .host = true),
      wake.bankWakes 0xFFFFFC,
      ends (.registerWrite .spi false 0xFFFFFC 7) wake (fun t => alike t (wake.reqCross .spi) && decide (t.memx.held = [.store (portOf .spi) 0xFFFFFC [7, 0, 0, 0]])),
      ends (.multiwordLoRead .host false 0xFFFFFC) wake (fun t => decide (t.memx.held = [.load .host (portOf .host) 0xFFFFFC 4])),
      ends (.registerWrite .spi false 0xB0018 0x12345) s (fun t => alike t ((s.reqCross .spi).wf TWN_KICK_MS_ms 0x2345))]) = true := by decide +kernel

/-- Words of registers that are not multi-word, not writable, or reserved to the host; a stage of another register, and of the same word. -/
theorem test_stages : (let s := both 5
    let u := s.reqCross .host
    let w := fun (l : List (Nat × Nat)) => some (⟨0x41004, l⟩ : Stage)
    let o := s.setStage .host (some ⟨0x32024, [(0, 9)]⟩)
    let y : RegWord := ⟨OUTn_INC, 0, 1⟩
    allB [decide (highWord 0x8 = false ∧ lowerWord 0x8 = false ∧ lowerWord 0x41004 = true ∧ highWord 0x41008 = true), stays (.multiwordLowerWrite .host 0x8 7) s, stays (.multiwordHighWrite .spi 0x8 7) s,
      ends (.multiwordLoRead .host false 0x8) (s.wf SYS_SCRATCH_data 0x89ABCDEF) (fun t => decide (t.lastRead .host = 0x89ABCDEF)),
      ends (.multiwordLoRead (.frond 2) false 0x30014) (s.wf SPN_SNAP_TIME_time (6 * 2 ^ 32)) (fun t => decide (t.lastRead (.frond 2) = 6)),
      ends (.multiwordLowerWrite .host 0x30010 7) s (fun t => alike t u), ends (.multiwordHighWrite .host 0x30018 7) s (fun t => alike t u),
      ends (.multiwordLowerWrite (.frond 2) 0x32024 7) s (fun t => alike t (s.ignoreWrite (.frond 2)) && decide (t.rf SYS_FW_WRITE_IGNORED_count = 1)),
      ends (.multiwordHighWrite (.frond 2) 0x32028 7) s (fun t => alike t (s.ignoreWrite (.frond 2))),
      ends (.multiwordLowerWrite .host 0x41004 7) (s.setStage .host (w [(0, 9)])) (fun t => decide (t.acc.stage[16] = w [(0, 7)] ∧ t.rf SYS_BAD_ACCESS_count = 0)),
      ends (.multiwordLowerWrite .host 0x41004 7) o (fun t => decide (t.acc.stage[16] = w [(0, 7)] ∧ t.rf SYS_BAD_ACCESS_count = 1)),
      ends (.multiwordHighWrite .host 0x41008 3) o (fun t => alike t ((o.reqCross .host).writeReg .host y.reg 0 (setWord (s.getReg y.reg 0) 1 3)) && decide (t.acc.stage[16] = o.acc.stage[16])),
      ends (.registerWrite .host false 0x41008 3) s (fun t => alike t (u.writeReg .host y.reg 0 (setWord (s.getReg y.reg 0) 1 3)))]) = true := by decide +kernel

theorem test_management_slave : (let s := (both 5).wf SYS_SCRATCH_data 0x89ABCDEF
    allB [decide (spiReaches 0xB0018 false = false ∧ spiReaches 0xB0018 true = false ∧ spiReaches 0x8 true = true ∧ regAt 0x8 = some ⟨SYS_SCRATCH, 0, 0⟩),
      ends (.mgmtSpiRead false 0xB0018 1 true) s (fun t => decide (t.rf SYS_BAD_ACCESS_count = 1 ∧ t.acc.spiRange = true ∧ t.acc.spiProtocol = true ∧ t.lastRead .spi = s.spiStatus false)),
      ends (.mgmtSpiWrite false 0xB0018 [1] true) s (fun t => decide (t.rf SYS_BAD_ACCESS_count = 1 ∧ t.acc.spiRange = true ∧ t.acc.spiProtocol = true)),
      ends (.mgmtSpiRead false 0x8 1 false) s (fun t => decide (t.regs = s.regs ∧ t.acc.spiRange = false ∧ t.lastRead .spi = s.spiStatus false + 0x89ABCDEF * 256)),
      ends (.mgmtSpiWrite false 0x8 [5] false) s (fun t => decide (t.rf SYS_SCRATCH_data = 5 ∧ t.acc.spiRange = false)),
      ends (.mgmtSpiRead false 0x4 2 true) s (fun t => decide (t.acc.spiRange = false ∧ t.acc.spiProtocol = true ∧ t.lastRead .spi / 2 ^ 8 % 2 ^ 32 = s.rf SYS_PCI_ID_vendor + 65536 * s.rf SYS_PCI_ID_device ∧
        t.lastRead .spi / 2 ^ 40 % 2 ^ 32 = 0x89ABCDEF)), ends (.mgmtSpiRead false 0x8 2 false) s (fun t => decide (t.acc.spiRange = true ∧ t.rf SYS_BAD_ACCESS_count = 1)),
      ends (.mgmtSpiWrite false 0x8 [5, 6] false) s (fun t => decide (t.rf SYS_SCRATCH_data = 5 ∧ t.acc.spiRange = true)),
      ends (.mgmtSpiRead true 0x8 1 false) s (fun t => decide (t.regs = s.regs ∧ t.lastRead .spi = s.spiStatus true)),
      ends (.mgmtSpiWrite true 0x8 [5] false) s (fun t => decide (t.regs = s.regs ∧ t.lastRead .spi = s.spiStatus true))]) = true := by decide +kernel

theorem test_port : (let s := (both 5).setJtag { (both 5).jtag with boundary := [true, false], resetLow := true }
    let h := s.setJtag { s.jtag with resetLow := false }
    let l := { s with key := { s.key with owners := [] } }
    allB [ends (.jtagBypass [true, false, true]) s (fun t => decide (t.jtag.ir = .bypass ∧ t.jtag.tdo = [false, true, false] ∧ t.jtag.pins = .none ∧ t.jtag.boundary = [true, false] ∧ t.regs = s.regs)),
      ends .jtagIdcode s (fun t => decide (t.jtag.ir = .idcode ∧ t.jtag.tdo.length = 32 ∧ t.jtag.tdo.take 12 = [true, true, false, true, true, false, true, false, false, false, true, true])),
      ends (.jtagSamplePreload [true] [false]) s (fun t => decide (t.jtag.ir = .sample ∧ t.jtag.tdo = [true] ∧ t.jtag.boundary = [false] ∧ t.jtag.pins = .none)),
      ends (.jtagExtest [true] []) s (fun t => decide (t.jtag.ir = .extest ∧ t.jtag.tdo = [true] ∧ t.jtag.pins = .driven [true, false])),
      ends (.jtagClamp [true]) s (fun t => decide (t.jtag.ir = .clamp ∧ t.jtag.pins = .driven [true, false])), ends (.jtagHighz []) s (fun t => decide (t.jtag.ir = .highz ∧ t.jtag.pins = .released)),
      ends (.jtagExtest [true] [false]) h (fun t => alike t (h.tapBypass [false])), ends (.jtagHighz [false]) h (fun t => alike t (h.tapBypass [false])),
      (let c := s.setPwr { s.pwr with core := false, chip := .lichen }; allB ([.jtagBypass [true], .jtagIdcode, .jtagSamplePreload [] [], .jtagExtest [] [], .jtagClamp [], .jtagHighz [], .jtagDebugUnlock []].map (fun i => stays i c))),
      decide (l.ownerKey 0 = none), stays (.jtagDebugUnlock []) l]) = true := by decide +kernel

/-! ## Where the keys and hashes of a part decide

The functions of cryptography are opaque: these theorems meet the hypotheses of the statements for every part whose functions answer as assumed. -/

/-- A reader sees zeros where no bank is seen, whatever the address. -/
theorem read_unseen (s : State) (h : ∀ a, s.bankSees a = false) (port a n : Nat) (hn : n ≠ 0) :
    (s.commonsRead port a n).2.1 = List.replicate n 0 := by
  simp [State.commonsRead, State.allSeen, h, hn, List.map_const']

theorem police_unseen (s : State) (l : Bytes) (h : ∀ a, s.bankSees a = false) :
    (s.police l).2 = decide (65536 ≤ min (s.rf TSV_POL_RATE_burst * 65536) (s.rf TSV_POL_RATE_rate * (s.domNow 0 - unpackTime 0).toNat / 1000000000)) := by
  have e : ∀ o, (s.engLoad 0 o 16).2.1 = List.replicate 16 0 := fun o => read_unseen s h 0 _ 16 (by decide)
  simp only [State.police, e]
  rw [show sliceNat (List.replicate 16 (0 : Byte)) 0 12 = 0 by decide, show sliceNat (List.replicate 16 (0 : Byte)) 12 4 = 0 by decide, Nat.zero_add]

theorem unseen_of (s : State) (h : ∀ b : Fin 32, s.bank b.val = 2) (a : Nat) : s.bankSees a = false := by
  by_cases hc : inCommons a = true
  · have b : bankOf a < 32 := by simp [inCommons, bankOf] at *; omega
    have := h ⟨bankOf a, b⟩
    simp_all [State.bankSees, State.bankOn, State.bankWakes]
  · simp_all [State.bankSees, State.bankOn, State.bankWakes]

/-- The buckets lie in banks that are OFF: one fills from time 0 on, up to its burst, and takes from it or not. -/
theorem test_police : (let s := setFs serve [(TSV_POL_RATE_burst, 0, 1), (TSV_POL_RATE_rate, 0, 60000), (MEM_BANK_STATE_state, 0, 0xAAAAAAAAAAAAAAAA)]
    (s.police (ntpFrame 0x23 48)).2 = true ∧ ((s.wf TSV_POL_RATE_burst 0).police (ntpFrame 0x23 48)).2 = false ∧
      isNts (ptpOf (ntpFrame 0x23 48)) = false ∧ s.token = true) := by
  refine ⟨?_, ?_, by decide +kernel, by decide +kernel⟩
  · rw [police_unseen _ _ (unseen_of _ (by decide +kernel))]; decide +kernel
  · rw [police_unseen _ _ (unseen_of _ (by decide +kernel))]; decide +kernel

/-- An update message: kind, target, attributes, master and body, of owner 0 at counter 1 for a part whose identity is zero. -/
def updBytes (kind tg at_ mst : Nat) (body : Bytes) : Bytes :=
  leBytes 4 0x4B4C4D55 ++ leBytes 2 1 ++ leBytes 1 kind ++ leBytes 1 0 ++ leBytes 4 1 ++ leBytes 2 tg ++ leBytes 2 at_ ++ zeros 48 ++ leBytes 4 body.length ++ leBytes 2 mst ++ zeros 58 ++ body ++ zeros 96

/-- A part whose lockers are OPEN, with a key of owner 0; its input area holds a message. -/
def updState (m : Bytes) : State :=
  let s := keyState m
  { s with key := { s.key with owners := [(0, [9])] } }

/-- Every kind of update passes its checks. -/
theorem test_updates_pass (hv : Config.ecdsaVerify = fun _ _ _ => true) (hi : idHash = zeros 48) (hk : ∀ m, importKey m ≠ none) :
    [(1, updBytes 1 1023 5 0 (zeros 137)), (2, updBytes 2 9 1 0 []), (3, updBytes 3 9 2 0 [7]), (4, updBytes 4 9 0 0 []), (5, updBytes 5 0 0 0 (zeros 97)), (6, updBytes 6 0 0 0 (zeros 768)),
      (7, updBytes 7 1023 11 0 [])].all (fun e => decide ((updMsg (updState e.2).keyInput).kind = e.1 ∧ (updState e.2).updCheck (updMsg (updState e.2).keyInput) = 0)) = true := by
  simp only [State.updCheck, hv, hi, hk, and_false, if_false]
  decide +kernel

theorem test_updates_idle : (let s := updState (updBytes 2 9 1 0 [])
    decide (s.rb KEY_RESULT_done = true ∧ s.memx.ecc1 = [] ∧ s.memx.ecc2 = [] ∧ s.bank (bankOf (commonsBase + s.rf KEY_IN_BASE_base * 64)) = 0 ∧ s.fctl.swapping = none ∧
      s.jtag.unlocked = false)) = true := by decide +kernel

theorem test_requests (h : Config.csrKey = fun _ => some idPub) : Config.csrKey (keyState []).keyInput = some idPub := by rw [h]
theorem test_requests_refused (h : Config.csrKey = fun _ => none) : Config.csrKey (keyState []).keyInput ≠ some idPub := by rw [h]; exact fun c => nomatch c

/-- Lockers of each attribute. -/
def useKeys (d : Bytes) : State :=
  let s := useRing d
  let l : Locker := ⟨1, false, false, 1, 0, none, [], [1, 2]⟩
  { s with key := { s.key with lockers := [(1, l), (2, { l with attr := 2 }), (3, { l with attr := 3 }), (4, { l with attr := 5 }), (5, { l with attr := 5, p384 := true })] } }

theorem test_use_operations : [useDesc 1 0 1 0 4 64, useDesc 4 1 4 0 65536 0x7FFFF0, useDesc 6 0 5 0 48 64, useDesc 7 0 5 0 0 64, useDesc 3 0 3 0 0 64 |>.take 16 |>.append (leBytes 2 1 ++ zeros 110)].all
    (fun d => ((useKeys d).useSpec d).isSome) = true := by decide +kernel

theorem test_use_open (h : Config.sivOpen = fun _ _ _ => some [7]) : ((useKeys []).useSpec (useDesc 2 0 2 0 17 64)).isSome = true := by
  simp only [State.useSpec, h]
  decide +kernel

theorem test_use_verify (h : Config.hmacSha256 = fun _ _ => zeros 32) : (useKeys []).useSpec (useDesc 5 0 4 64 1 0) = some [] := by
  simp only [State.useSpec, authCode, h]
  decide +kernel

/-- An NTS request whose cookie is of generation 0. -/
def ntsKeyed : State :=
  let s := withWork keyed .nts ntsFrame
  (s.setTsv { s.tsv with cookies := #v[some 0, none, none] }).setKey
    { s.key with lockers := [(0, ⟨1, false, false, 1, 0, none, [], [1]⟩), (1, ⟨2, false, false, 1, 0, none, [], [1]⟩)] }

theorem test_nts_opens (h : Config.sivOpen = fun _ a _ => if a.length = 1 then some ([0, 0x0F] ++ zeros 66) else none) :
    (let s := (ntsKeyed.wf TSV_COOKIE_LOCKg_dec 1 0).wf TSV_COOKIE_LOCKg_enc 0 0
     (ntsReq ntsMsg).any (fun x => decide (s.openCookie x.cookie = some (zeros 32, zeros 32) ∧ Config.sivOpen (zeros 32) [x.head, x.nonce] x.ct = none))) = true := by
  simp only [State.openCookie, h]
  decide +kernel

theorem test_nts_mints (h : Config.sivOpen = fun _ _ _ => some ([0, 0x0F] ++ zeros 66)) :
    (let s := (ntsKeyed.wf TSV_COOKIE_LOCKg_dec 1 0).wf TSV_COOKIE_LOCKg_enc 0 0
     (ntsReq ntsMsg).any (fun x => decide (s.openCookie x.cookie = some (zeros 32, zeros 32) ∧ Config.sivOpen (zeros 32) [x.head, x.nonce] x.ct ≠ none) &&
       ((s.setTsv { s.tsv with work := [] }).mintCookies (zeros 32) (zeros 32) (1 + x.holders)).isSome)) = true := by
  simp only [State.openCookie, h]
  decide +kernel

/-- The partner's message, for a part whose hash gives sevens. -/
def pairMsg : PairMsg := ⟨[1], ascii "NYXSTMT" ++ [0, 3] ++ zeros 7 ++ List.replicate 48 7 ++ zeros 257⟩

theorem test_pairing (hv : Config.ecdsaVerify = fun _ _ _ => true) (hs : Config.sha384 = fun _ => List.replicate 48 7) :
    (let s := (twin 3 [(KEY_STATUS_state, 0, 1)] id).setKey { (twin 3 [] id).key with lockers := [(9, ⟨3, true, false, 3, 0, none, [], []⟩)], pin := List.replicate 48 7 }
     allB [pairStmtOk pairMsg, decide (fitBytes 48 (Config.sha384 pairMsg.pub) = s.key.pin ∧ s.key.pin ≠ zeros 48), s.keyOpen, s.pairLocker.isSome, s.rb TWN_CTL_en]) = true := by
  simp only [pairStmtOk, hv, hs]
  decide +kernel

/-- An image of one instruction and two bytes of data, for Frond 0 alone, whose hash is zero. -/
def imageOf (mask pri : Nat) : Bytes :=
  leBytes 4 0x5A464E59 ++ leBytes 2 1 ++ leBytes 2 mask ++ leBytes 4 4 ++ leBytes 4 2 ++ leBytes 4 0 ++ leBytes 4 77 ++ leBytes 4 0 ++ leBytes 4 pri ++ zeros 48 ++ zeros 176 ++ [1, 2, 3, 4, 5, 6] ++
    zeros 96

theorem test_image_passes (hv : Config.ecdsaVerify = fun _ _ _ => true) (hs : Config.sha384 = fun _ => zeros 48) :
    checkImage (fun _ => some [9]) 15 (imageOf 0x8000 0) = 0 ∧ checkImage (fun _ => some [9]) 0 (imageOf 1 1) = 0 ∧ checkImage (fun _ => none) 0 (imageOf 1 1) = 9 ∧
    checkImage (fun _ => some [9]) 14 (imageOf 0x8000 0) = 4 := by
  simp only [checkImage, hv, hs]
  decide +kernel

/-- After the configuration, with a locker slot that holds a key of owner 0 and the Prefect's image at an offset. -/
def prefectAt (a : Nat) : State :=
  let s := setFs (booting a (imageOf 1 1)) [(readyFld 5, 0, 1), (CFG_DIRf_ofs, 0, 0x200000), (CFG_DIRf_len, 0, 358), (CFG_DIRf_present, 0, if a = 0x200000 then 1 else 0)]
  { s with key := { s.key with slot0 := some ⟨1, s.key.ctrs.toList, [], [], [], [(0, [9])], [], none, [], [], 0, true⟩ } }

theorem test_prefect_passes (hv : Config.ecdsaVerify = fun _ _ _ => true) (hs : Config.sha384 = fun _ => zeros 48) : (prefectAt 0x200000).prefectCheck (imageOf 1 1) = 1 := by
  simp only [State.prefectCheck, checkImage, hv, hs]
  decide +kernel

theorem test_directory : (prefectAt 0x200000).dirImage = some (imageOf 1 1) := by
  have e : (prefectAt 0x200000).rf CFG_DIRf_ofs 0 = 0x200000 ∧ (prefectAt 0x200000).rf CFG_DIRf_len 0 = (imageOf 1 1).length ∧ (prefectAt 0x200000).rb CFG_DIRf_present 0 = true ∧
    (imageOf 1 1).length = 358 := by decide +kernel
  simp only [State.dirImage, e.1, e.2.1, e.2.2.1, listed_bytes (prefectAt 0x200000) 0x200000 (imageOf 1 1) rfl (by omega)]
  rw [if_pos ⟨trivial, by omega, by omega⟩]

theorem test_recovery : (prefectAt 0x100000).dirImage = none ∧ (prefectAt 0x100000).recoveryImage = imageOf 1 1 := by
  have n : (imageOf 1 1).length = 358 ∧ imageLen ((imageOf 1 1).take 256) = 358 := by decide +kernel
  refine ⟨?_, ?_⟩
  · have e : (prefectAt 0x100000).rb CFG_DIRf_present 0 = false := by decide +kernel
    simp only [State.dirImage, e, Bool.false_eq_true, false_and, if_false]
  · have g := listed_bytes (prefectAt 0x100000) 0x100000 (imageOf 1 1) rfl (by omega)
    have h : (prefectAt 0x100000).flashBytes 0x100000 256 = (imageOf 1 1).take 256 := by rw [← flashBytes_take _ _ _ _ (show 256 ≤ (imageOf 1 1).length by omega), g]
    simp only [State.recoveryImage, h, n.2]
    rw [← n.1]
    exact g

theorem test_unlock (b : Bool) (hv : Config.ecdsaVerify = fun _ _ _ => b) :
    (updState []).ownerKey 0 = some [9] ∧ ((updState []).wf KEY_STATUS_state 2).rf KEY_STATUS_state ≠ 1 ∧ (updState []).rf KEY_STATUS_state = 1 ∧ ∀ h, Config.ecdsaVerify [9] h (zeros 96) = b := by
  refine ⟨by decide +kernel, by decide +kernel, by decide +kernel, fun h => by rw [hv]⟩

/-- R441: the save areas end where the first checkpoint copy begins, and the regions follow one another. -/
theorem test_lichen_layout : saveOfs 20 = 0x8000 ∧ lichenRegions.map (fun r => r.1 + r.2) = [0x100, 0x8000, 0x14000, 0x20000] := by decide

end Sys2Proof.Tests
end

section
/-! PROOFS. Rules about Fronds that several instructions share, the time register fields (R91), and the branches and jumps (R107). -/

namespace Sys2Proof.Machine
open Sys2Proof Reg

/-! ## Writes to a Frond, and telling events -/

@[simp] theorem State.setFrond_setFrond (s : State) (f : Fin 16) (x y : Frond) : (s.setFrond f x).setFrond f y = s.setFrond f y := by
  simp only [State.setFrond, Vector.set_set]

@[simp] theorem State.setPc_setFrond (s : State) (f : Fin 16) (x : Frond) (a : Word) :
    (s.setFrond f x).setPc f a = s.setFrond f { x with pc := a } := by
  simp only [State.setPc, State.frond_setFrond_self, State.setFrond_setFrond]

/-- The program counter set on both sides of a telling. -/
theorem State.ToldFrom.setPc {s t : State} (h : s.ToldFrom t) (f : Fin 16) (a : Word) : (s.setPc f a).ToldFrom (t.setPc f a) :=
  h.setFrond_both f ((congrArg (fun z : Frond => { z with pc := a }) (h.frond f)).trans rfl)

/-- A general register set on both sides of a telling. -/
theorem State.ToldFrom.setG {s t : State} (h : s.ToldFrom t) (f : Fin 16) (d : BitVec 5) (v : Word) :
    (s.setG f d v).ToldFrom (t.setG f d v) := by
  refine h.setFrond_both f ?_
  unfold Frond.wg
  split
  · exact h.frond f
  · exact (congrArg (fun z : Frond => { z with g := z.g.set d.toFin v }) (h.frond f)).trans rfl

/-- The branch predictor trained on both sides of a telling. -/
theorem State.ToldFrom.train {s t : State} (h : s.ToldFrom t) (f : Fin 16) (p : Predict) (taken link : Bool) :
    (s.setFrond f ((s.frond f).train p taken link)).ToldFrom (t.setFrond f ((t.frond f).train p taken link)) :=
  h.setFrond_both f ((congrArg (fun z : Frond => z.train p taken link) (h.frond f)).trans rfl)

/-- Entry to the handler from a state that telling events led to (R125). -/
theorem State.ToldFrom.raiseExc {s t : State} (h : s.ToldFrom t) (f : Fin 16) (code fault trap : Nat) (resume : Word)
    (hinh : (s.frond f).inh = false) :
    (s.setFrond f ((s.frond f).enter code 0 trap fault (0x20 * code) resume)).ToldFrom (t.raiseExc f code fault trap resume) := by
  have hinh' : (t.frond f).inh = false := by rw [h.frond f]; exact hinh
  refine State.ToldFrom.trans ?_ (t.raiseExc_told f code fault trap resume hinh')
  exact h.setFrond_both f ((congrArg (fun z : Frond => z.enter code 0 trap fault (0x20 * code) resume) (h.frond f)).trans rfl)

/-! ## Fields that name a time register (R91) -/

/-- A list of fields in which one has bits [4:3] nonzero fails the check of R91 somewhere. -/
theorem all_tOk_eq_false {l : List (BitVec 5)} (h : ∃ a ∈ l, a.toNat / 8 ≠ 0) : l.all tOk = false := by
  obtain ⟨a, ha, h8⟩ := h
  refine List.all_eq_false.mpr ⟨a, ha, ?_⟩
  simp only [tOk, decide_eq_true_eq]
  omega

@[simp] theorem tOk_zero : tOk 0#5 = true := rfl

/-- In the mode that has a deadline, its field is checked as one that names a time register (R91, R110). -/
theorem modeOk_eq_false {m : BitVec 2} {b : BitVec 5} (h : (if m = 0 then [b] else []).all tOk = false) : modeOk m b = false := by
  split at h
  · next hm => simpa [modeOk, hm] using h
  · exact Bool.noConfusion h

/-- The instruction of Frond `f` raises ILLEGAL whatever the state in which it issues. -/
def AlwaysIllegal (i : Instr) (f : Fin 16) : Prop :=
  ∃ uses body, (∀ s, exec i s = .next (s.frdIssue f uses body)) ∧ ∀ u, body u = .exc u 1 0

/-- A Frond that issues such an instruction enters its handler with code 0x01 (R123, R125). -/
theorem AlwaysIllegal.enters {i : Instr} {f : Fin 16} (h : AlwaysIllegal i f) {s u : State} (hi : s.issues f u) :
    s.enters i f u 0x01 0 := by
  obtain ⟨uses, body, hexec, hbody⟩ := h
  exact fun hinh => ⟨_, hexec s, State.frdIssue_exc hi (hbody u) hinh⟩

/-- R91: every instruction with a time register field checks it before all else. -/
theorem alwaysIllegal_of_timeFields {i : Instr} {f : Fin 16} (hf : frondOf i = some f) (h : (timeFields i).all tOk = false) :
    AlwaysIllegal i f := by
  cases i with
  | tadd g d a b | tsub g d a b | taddd g d a b | tsubd g d a b | tcmp g d a b | tcmpd g d a b | tscl g d a b | tjoin g d a b
  | edge g d a b | tarm g d a b | tslew g d a b =>
    obtain rfl : g = f := Option.some.inj hf
    exact ⟨_, _, fun _ => rfl, fun _ => if_pos (by simpa [timeFields] using h)⟩
  | tneg g d a | tmov g d a | tsecs g d a | tfrac g d a | tfrg g d a | ttog g d a | ati g d a | tstep g d a =>
    obtain rfl : g = f := Option.some.inj hf
    exact ⟨_, _, fun _ => rfl, fun _ => if_pos (by simpa [timeFields] using h)⟩
  | ldt g d a o | stt g d a o =>
    obtain rfl : g = f := Option.some.inj hf
    exact ⟨_, _, fun _ => rfl, fun _ => if_pos (by simpa [timeFields] using h)⟩
  | wtu g d a b m | wfe g d a b m =>
    obtain rfl : g = f := Option.some.inj hf
    exact ⟨_, _, fun _ => rfl, fun _ => if_pos (by simp only [modeOk_eq_false h, Bool.false_eq_true, not_false_eq_true])⟩
  | qpush g d a m q | qpop g d a m q =>
    obtain rfl : g = f := Option.some.inj hf
    exact ⟨_, _, fun _ => rfl, fun _ => if_pos (by simp only [modeOk_eq_false h, Bool.false_eq_true, not_false_eq_true])⟩
  | stamp g d o =>
    obtain rfl : g = f := Option.some.inj hf
    exact ⟨_, _, fun _ => rfl, fun _ => if_pos (.inl (by simpa [timeFields] using h))⟩
  | sfeed g d a b =>
    obtain rfl : g = f := Option.some.inj hf
    exact ⟨_, _, fun _ => rfl, fun _ => if_pos (.inl (by simpa [timeFields] using h))⟩
  | _ => exact Bool.noConfusion h

/-- Settles O6: the check of the time register fields stands first in every instruction that has one. -/
theorem timeRegisterFieldsOfEightOrMoreAreIllegal : Obligations.TimeRegisterFieldsOfEightOrMoreAreIllegal :=
  fun _ _ _ _ hf hi h => (alwaysIllegal_of_timeFields hf (all_tOk_eq_false h)).enters hi

/-! ## Branches and jumps (R107) -/

theorem fetchOk_iff (a : Word) : fetchOk a = true ↔ 0x10000000 ≤ a.toNat ∧ a.toNat < 0x10010000 ∧ a.toNat % 4 = 0 := by
  simp only [fetchOk, Bool.and_eq_true, decide_eq_true_eq, and_assoc]
  exact Iff.rfl

/-- The target of a branch, in integers. -/
theorem branchTo_eq_ofInt (pc : Word) (o : BitVec 21) : branchTo pc o = BitVec.ofInt 64 (pc.toNat + 4 * o.toInt) := by
  simp only [branchTo, BitVec.signExtend, BitVec.ofNat_eq_ofNat, BitVec.ofInt_add, BitVec.ofInt_mul, BitVec.ofInt_natCast,
    BitVec.ofInt_ofNat, BitVec.ofNat_toNat, BitVec.setWidth_eq, BitVec.mul_comm]

/-- The sign test of BLTZ and BGEZ, in integers. -/
theorem slt_zero_eq (v : Word) : v.slt 0 = decide (v.toInt < 0) := rfl

/-- A branch or jump is a `frdJump` whose test and target have the values that R107 gives them. -/
theorem exec_branch_eq {i : Instr} {f : Fin 16} {x : Frond} {taken : Bool} {target : Word} {link : Option (BitVec 5)}
    (hf : frondOf i = some f) (hb : branchSpec x i = some (taken, target, link)) :
    ∃ uses test tgt, (∀ s, exec i s = .next (s.frdJump f (branchPred i) uses test tgt link)) ∧ test x = taken ∧ tgt x = target := by
  cases i with
  | br g o | bl g o | bto g o | bnto g o =>
    obtain rfl : g = f := Option.some.inj hf
    cases hb
    exact ⟨_, _, _, fun _ => rfl, rfl, branchTo_eq_ofInt _ _⟩
  | beqz g c o | bnez g c o =>
    obtain rfl : g = f := Option.some.inj hf
    cases hb
    exact ⟨_, _, _, fun _ => rfl, by simp [BitVec.toNat_eq], branchTo_eq_ofInt _ _⟩
  | bltz g c o | bgez g c o =>
    obtain rfl : g = f := Option.some.inj hf
    cases hb
    exact ⟨_, _, _, fun _ => rfl, by simp only [slt_zero_eq, ← decide_not, Int.not_lt], branchTo_eq_ofInt _ _⟩
  | jr g a | jlr g d a =>
    obtain rfl : g = f := Option.some.inj hf
    cases hb
    exact ⟨_, _, _, fun _ => rfl, rfl, rfl⟩
  | _ => cases hb

/-- The Frond that a branch or jump leaves, the program counter aside: trained, and the return address written (R107, R129). -/
def Frond.branched (x : Frond) (p : Predict) (taken : Bool) (link : Option (BitVec 5)) : Frond :=
  match link with
  | some d => (x.train p taken link.isSome).wg d (x.pc + 4)
  | none => x.train p taken link.isSome

@[simp] theorem Frond.wg_pc (x : Frond) (d : BitVec 5) (v : Word) : (x.wg d v).pc = x.pc := by unfold Frond.wg; split <;> rfl
@[simp] theorem Frond.wg_inh (x : Frond) (d : BitVec 5) (v : Word) : (x.wg d v).inh = x.inh := by unfold Frond.wg; split <;> rfl

@[simp] theorem Frond.branched_pc (x : Frond) (p : Predict) (taken : Bool) (link : Option (BitVec 5)) :
    (x.branched p taken link).pc = x.pc := by
  cases link with
  | none => rfl
  | some d => exact Frond.wg_pc _ _ _

@[simp] theorem Frond.branched_inh (x : Frond) (p : Predict) (taken : Bool) (link : Option (BitVec 5)) :
    (x.branched p taken link).inh = x.inh := by
  cases link with
  | none => rfl
  | some d => exact Frond.wg_inh _ _ _

/-- A branch or jump comes to a jump where it is taken and is done else, in the state that it leaves but for what its counts tell. -/
theorem State.frdJump_eq (s u : State) (f : Fin 16) (p : Predict) (uses : List (BitVec 5)) (test : Frond → Bool) (tgt : Frond → Word)
    (link : Option (BitVec 5)) :
    ∃ body v, s.frdJump f p uses test tgt link = s.frdIssue f uses body ∧
      (u.setFrond f ((u.frond f).branched p (test (u.frond f)) link)).ToldFrom v ∧
      body u = if test (u.frond f) then .jump v (tgt (u.frond f)) else .done v := by
  refine ⟨_, _, rfl, ?_, rfl⟩
  have counted (b : Bool) : u.ToldFrom (if b then (u.perf f 0x06 1).perf f 0x07 1 else u.perf f 0x06 1) := by
    split
    · exact (u.perf_told f 0x06 1).trans (State.perf_told _ f 0x07 1)
    · exact u.perf_told f 0x06 1
  have trained := (counted ((u.frond f).mispredicts p (test (u.frond f)) (tgt (u.frond f)))).train f p (test (u.frond f)) link.isSome
  cases link with
  | none => exact trained
  | some d =>
    have linked := trained.setG f d ((u.frond f).pc + 4)
    rw [State.setG, State.setFrond_setFrond, State.frond_setFrond_self] at linked
    exact linked

section
variable {s u : State} {f : Fin 16} {p : Predict} {uses : List (BitVec 5)} {test : Frond → Bool} {tgt : Frond → Word}
  {link : Option (BitVec 5)}

/-- A branch that is not taken goes on at the next instruction. -/
theorem State.frdJump_of_not_taken (hi : s.issues f u) (h : test (u.frond f) = false) :
    (u.setFrond f ((u.frond f).branched p false link).pass).ToldFrom (s.frdJump f p uses test tgt link) := by
  obtain ⟨body, v, hjump, hv, hbody⟩ := s.frdJump_eq u f p uses test tgt link
  rw [h] at hv hbody
  have moved := hv.setPc f ((u.frond f).pc + 4)
  rw [State.setPc_setFrond] at moved
  rw [hjump, Frond.pass, Frond.branched_pc]
  exact moved.trans (State.frdIssue_done hi hbody)

/-- A branch or jump that is taken to a word of instruction memory goes on there. -/
theorem State.frdJump_of_taken (hi : s.issues f u) (h : test (u.frond f) = true) (ha : fetchOk (tgt (u.frond f)) = true) :
    (u.setFrond f { (u.frond f).branched p true link with pc := tgt (u.frond f) }).ToldFrom (s.frdJump f p uses test tgt link) := by
  obtain ⟨body, v, hjump, hv, hbody⟩ := s.frdJump_eq u f p uses test tgt link
  rw [h] at hv hbody
  have moved := hv.setPc f (tgt (u.frond f))
  rw [State.setPc_setFrond] at moved
  rw [hjump]
  exact moved.trans (State.frdIssue_jump hi hbody ha)

/-- A branch or jump that is taken to any other place enters the handler with FETCH there, after it retired (R95, R123). -/
theorem State.frdJump_fetch_of_taken (hi : s.issues f u) (h : test (u.frond f) = true) (ha : fetchOk (tgt (u.frond f)) = false)
    (hinh : (u.frond f).inh = false) :
    (u.setFrond f (({ (u.frond f).branched p true link with pc := tgt (u.frond f) } : Frond).enter 0x03 0 0
      (tgt (u.frond f)).toNat 0x60 (tgt (u.frond f)))).ToldFrom (s.frdJump f p uses test tgt link) := by
  obtain ⟨body, v, hjump, hv, hbody⟩ := s.frdJump_eq u f p uses test tgt link
  rw [h] at hv hbody
  have retired := (hv.setPc f (tgt (u.frond f))).trans (State.retire_told _ f (u.frond f).mode)
  have entered := retired.raiseExc f 3 (tgt (u.frond f)).toNat 0 (tgt (u.frond f)) (by simp only [State.setPc_setFrond, State.frond_setFrond_self, Frond.branched_inh, hinh])
  rw [State.setPc_setFrond, State.setFrond_setFrond, State.frond_setFrond_self] at entered
  rw [hjump, State.frdIssue_eq uses body hi, hbody]
  simpa only [if_true, State.frdFinish, ha, Bool.false_eq_true, if_false] using entered

end

/-- Settles O11: all ten are a `frdJump`, which passes, jumps, or jumps and raises FETCH. -/
theorem branchesMoveTheProgramCounter : Obligations.BranchesMoveTheProgramCounter := by
  intro i s u f taken target link hf hi hb x y
  obtain ⟨uses, test, tgt, hexec, rfl, rfl⟩ := exec_branch_eq hf hb
  have hy : y = (u.frond f).branched (branchPred i) (test (u.frond f)) link := by cases link <;> rfl
  rw [hy]
  refine ⟨fun hnot => ⟨_, hexec s, ?_⟩, fun htaken hlo hhi hal => ⟨_, hexec s, ?_⟩, fun htaken hbad hinh => ⟨_, hexec s, ?_⟩⟩
  · rw [hnot]
    exact State.frdJump_of_not_taken hi hnot
  · rw [htaken]
    exact State.frdJump_of_taken hi htaken ((fetchOk_iff _).mpr ⟨hlo, hhi, hal⟩)
  · rw [htaken]
    exact State.frdJump_fetch_of_taken hi htaken (Bool.eq_false_iff.mpr fun h => hbad ((fetchOk_iff _).mp h)) hinh

end Sys2Proof.Machine
end
